-- ==== Sys2Proof/Word.lean ====
section
/-!
DEFINITION. The words of the ZGP-7420: bytes, 32-bit register words and the byte strings of frames, keys and digests
(R8, R10). Values that software sees as a field of a register, and all counts and times, are natural numbers or
integers; a wrapped nanosecond stamp is a `Word` (R127).
-/
namespace Sys2Proof

/-- One byte of memory, of a message or of a frame (R8). -/
abbrev Byte := BitVec 8

/-- One register word (R10), and a wrapped nanosecond stamp (R127). -/
abbrev Word := BitVec 32

/-- A byte string in its own order: a payload, a key, a digest, an address on the wire (R29). -/
abbrev Bytes := List Byte

end Sys2Proof
end

