-- ==== Sys2Proof/Syntax.lean ====
section
/-!
DEFINITION. The commands of the block: one constructor of `Instr` per row of opcode_table.json, with the operands the
manual's rules give the step. An operand `t` is the raw TIME counter (R385) in ns at which the step takes place, on the
steps whose effect depends on the instant. Frames and messages are typed: each field the manual's rules speak of is a
field here; the byte coding that a named standard owns is not repeated.
-/
namespace Sys2Proof

/-- The clock islands of R19. -/
inductive Island where
  | aon | media | stream | tile | memory | time | vault | host
  deriving DecidableEq, Repr

/-- What a received Yevas message carries in its header beside class, OP and LEN (R29). -/
structure Hdr where
  seq  : Word
  src  : Nat
  tgt  : Nat
  last : Bool
  tag  : Word
  deriving DecidableEq, Repr

/-- One ASDU of an SV frame (R166). `seqData` pairs a value with its quality; `seqLen` is the length of seqData in
octets; `smpRate` is the smpRate field when present, with smpMod. -/
structure Asdu where
  svId     : Bytes
  confRev  : Word
  smpCnt   : Nat
  smpSynch : Nat
  smpRate  : Option (Nat × Nat)
  seqLen   : Nat
  seqData  : List (Word × Word)
  deriving DecidableEq, Repr

/-- The SV part of a frame (R165). `apduLen` is the true length of the APDU; `berOk` that the savPdu decodes. -/
structure SvBody where
  appid   : Nat
  length  : Nat
  apduLen : Nat
  sim     : Bool
  berOk   : Bool
  noAsdu  : Nat
  asdus   : List Asdu
  deriving DecidableEq, Repr

/-- A PTP message as the time-stamp unit sees it (R119, R121, R131). -/
structure PtpMsg where
  msgType  : Nat
  domain   : Nat
  seqId    : Nat
  portId   : Nat
  corr     : Int
  twoStep  : Bool
  content  : Bytes
  deriving DecidableEq, Repr

/-- What a frame carries after its tags. -/
inductive Body where
  /-- An SV frame, EtherType 0x88BA. -/
  | sv (b : SvBody)
  /-- A PTP message, EtherType 0x88F7. -/
  | ptp (m : PtpMsg)
  /-- A MAC control frame other than PAUSE, or PAUSE with its quanta (R95). -/
  | macControl (pause : Option Nat)
  /-- Any other payload. -/
  | raw (b : Bytes)
  deriving DecidableEq, Repr

/-- A PRP trailer with the right suffix, or an HSR tag (R164). `ok` says that its LSDUsize fits; `lan` is its LanId. -/
structure RedTag where
  seq : Nat
  lan : Nat
  ok  : Bool
  deriving DecidableEq, Repr

/-- A received frame (R87, R89, R90). `len` counts from the destination address to the FCS; `vlan` is (VID, PCP) of an 802.1Q
tag. -/
structure RxFrame where
  dst       : Bytes
  src       : Bytes
  vlan      : Option (Nat × Nat)
  prp       : Option RedTag
  hsr       : Option RedTag
  etherType : Nat
  len       : Nat
  fcsOk     : Bool
  body      : Body
  deriving DecidableEq, Repr

/-- The header of a pair-link frame with its check (R383). -/
structure PlHdr where
  ver    : Nat
  from_  : Nat
  flags  : Nat
  seq    : Word
  serial : Nat
  crcOk  : Bool
  deriving DecidableEq, Repr

/-- How a start-up stage ended (R49, R50): whether its last attempt succeeded, and what the stages that measure found:
the first failing vault test (0 none) and the damaged key-store records of test 10 (R378), the raw entropy of a root
generation (R363), the drift failures of stage 0x07 for time stamps and the Yevas link, and the internal zero and
reference readings (z, f) of the AFE for each channel and range, in 1/256 code (R299), and the DRAM temperature in °C at
which stage 0x04 trained the DRAM (R149). -/
structure StageEnd where
  ok       : Bool
  vaultTest : Nat
  badSlots : List Nat
  entropy  : Bytes
  stampsOk : Bool
  linkOk   : Bool
  readings : List (Int × Int)
  temp     : Int
  deriving DecidableEq, Repr

/-- Who holds or tries a semaphore (R342): an instance by number, the manager being 0, the stationmaster 0x40, the
logic engine 0x41, coded as SRC of R29. -/
abbrev Holder := Nat

/-- What the hardware does to a register field in one clock (R25): sets bits of a w1c field, updates a field to a value, or
counts in a counter. -/
inductive HwKind where
  | sets | updates | counts
  deriving DecidableEq, Repr

/-- An update of a register field by hardware in the destination clock of an access (R25): the register's address, the field's lowest
bit, what the hardware does, and the bits, the value or the count. -/
structure HwUpd where
  addr  : Word
  lo    : Nat
  kind  : HwKind
  value : Nat
  deriving DecidableEq, Repr

/-- An access of a task's core, at a task address (R207, R208). -/
inductive TaskAcc where
  | fetch (a : Nat)
  | load (a : Nat)
  | store (a : Nat) (b : Byte)
  deriving DecidableEq, Repr

/-- The commands. One constructor per row of the opcode table, in its order. An operand with `:=` may be left out where a command is
written; the value shown then stands for it. -/
inductive Instr where
  /-- R20: a write issued by an island to a register. -/
  | registerWrite (src : Island) (addr val : Word)
  /-- R20, R21, R25: the head accesses of the named sources take effect in one destination clock, in which the hardware makes the
  updates `hw`. -/
  | junctionAccessEffect (dst : Island) (srcs : List Island) (hw : List HwUpd := [])
  /-- R22 -/
  | junctionFifoDrain (src dst : Island)
  /-- R24 -/
  | junctionHung (src dst : Island)
  /-- R29, R33: a message arrives whose octets have a bad CRC or framing. -/
  | messageBadFraming (octets : Bytes)
  /-- R35: entries (class, SEQ). -/
  | acknowledgement (entries : List (Nat × Word))
  /-- R35 -/
  | negativeAcknowledgement (cls : Nat) (seq : Word)
  /-- R33 -/
  | ackTimeout (cls : Nat)
  /-- R34: the lanes locked, bit n for lane n. -/
  | retrainEnd (lanes : Nat)
  /-- R34 -/
  | retrainRetry (lanes : Nat)
  /-- R32 -/
  | linkMessageSent
  /-- R35 OP 0x0010 -/
  | moduleResetRequest (h : Hdr)
  /-- R35 OP 0x0011 -/
  | managerKeepAlive (h : Hdr) (t : Nat)
  /-- R132 -/
  | timeBaseMirrorAlignment (t : Nat)
  /-- R36 -/
  | statusMessage
  /-- R36 -/
  | hostStatusMessage (h : Hdr) (hostState fw : Word)
  /-- R37 -/
  | configurationWrite (h : Hdr) (entries : List (Word × Word))
  /-- R37 -/
  | configurationRead (h : Hdr) (addrs : List Word)
  /-- R37 -/
  | configurationReadServed (t : Nat)
  /-- R45: VIN in mV. -/
  | powerFailWarning (vin t : Nat)
  /-- R46 -/
  | finalFlushComplete
  /-- R48: VIN in mV. -/
  | holdUpLeft (vin t : Nat)
  /-- R48 -/
  | orderlyStop (t : Nat)
  /-- R48 -/
  | hostDieResumed
  /-- R43 -/
  | storeCharged (t : Nat := 0)
  /-- R53: VIN in mV. -/
  | powerUp (vin : Nat)
  /-- R49 -/
  | startUpStageEnd (e : StageEnd) (t : Nat)
  /-- R405: `hrst` says that HRST_N is low as well. -/
  | rstNLow (hrst : Bool) (t : Nat)
  /-- R55 -/
  | mreset (key : Nat) (t : Nat)
  /-- R57 -/
  | park (key : Nat) (t : Nat)
  /-- R57 -/
  | wake (key : Nat) (t : Nat)
  /-- R54 -/
  | void (key : Nat)
  /-- R58 -/
  | wakeComplete (t : Nat)
  /-- R57 -/
  | dozeEntry (pf : Nat)
  /-- R57 -/
  | dozeUngate (pf : Nat)
  /-- R61 -/
  | watchdog1Expiry (t : Nat)
  /-- R61 -/
  | watchdog2Expiry (t : Nat)
  /-- R61 -/
  | watchdog3Expiry (t : Nat)
  /-- R61 -/
  | pwrWdtWrite (mgr : Nat) (t : Nat)
  /-- R72 -/
  | openLoad (h : Hdr) (totlen : Nat)
  /-- R72 -/
  | dataChunk (h : Hdr) (offset : Nat) (bytes : Bytes)
  /-- R72 -/
  | closeLoad (h : Hdr)
  /-- R74 -/
  | activate (h : Hdr) (slot : Nat) (digest : Bytes) (t : Nat)
  /-- R72 -/
  | rulebookAbort (h : Hdr)
  /-- R73 -/
  | verificationComplete
  /-- R75 -/
  | activationFlushComplete (t : Nat)
  /-- R81, R82: one amendment-record message; the record is complete at the message with LAST. -/
  | amendmentRecord (h : Hdr) (payload : Bytes) (t : Nat)
  /-- R89 -/
  | frameReceived (port : Nat) (f : RxFrame) (t : Nat)
  /-- R96: the ports are numbered as in R106. -/
  | pauseFrame (port quanta : Nat) (t : Nat)
  /-- R96 -/
  | pauseExpired (port : Nat) (t : Nat := 0)
  /-- R94: `buffered` bytes of the frame are in the transmit buffer. On a host-die port the frame may be the manager's own, flagged for
  stamping with the tag `ftag` (R129). -/
  | transmitStart (port buffered t : Nat) (ftag : Option Word := none)
  /-- R94 -/
  | transmitUnderrun (port : Nat)
  /-- R98: received and transmitted bits of the window. -/
  | utilisationWindow (sb rxBits txBits : Nat)
  /-- R98 -/
  | renegotiationComplete (sb : Nat)
  /-- R99, R100: `bits` bit times into the frame. -/
  | collision (bits : Nat) (t : Nat := 0)
  /-- R99 -/
  | rollExpired (t : Nat := 0)
  /-- R101: `data` is the data set. -/
  | ft3Frame (ft : Nat) (ok : Bool) (data : Bytes) (t : Nat)
  /-- R102 -/
  | ft3FrameMissing (ft : Nat)
  /-- R103 -/
  | minonExpired (drive : Nat) (t : Nat)
  /-- R104 -/
  | tripOverload (drive : Nat)
  /-- R104: `over` says that the load is still above 150 mA. -/
  | overloadRetry (drive : Nat) (overloaded : Bool) (t : Nat)
  /-- R104 -/
  | openLoadFound (drive : Nat)
  /-- R110 -/
  | openLoadCleared (drive : Nat)
  /-- R106: `rate` as PRT_STATUS.RATE codes it. -/
  | portLinkUp (port rate : Nat)
  /-- R106 -/
  | linkStable (port : Nat)
  /-- R106 -/
  | portLinkDown (port : Nat)
  /-- R106: the address of the LO register. -/
  | statCounterLoRead (addr : Word)
  /-- R116 -/
  | syncTimeout (tb : Nat)
  /-- R116 -/
  | announceReceiptTimeout (tb : Nat)
  /-- R118 -/
  | holdoverExpired (tb : Nat)
  /-- R122: `toy` is the UTC time of year in s at the on-time point, `yearStart` the seconds since the PTP epoch at
  which the frame's year began on UTC as its control functions give it, `leap` and `qual` its control functions. -/
  | irigFrame (good : Bool) (toy yearStart : Nat) (leap : Bool) (qual : Nat) (t : Nat)
  /-- R122 -/
  | irigFrameMissing
  /-- R122: `ins` inserts a second, otherwise one is deleted. -/
  | leapSecond (ins : Bool)
  /-- R123 -/
  | ppsEdge (t : Nat)
  /-- R123 -/
  | ppsEdgeMissing
  /-- R123 -/
  | setsecGo (tb : Nat)
  /-- R124 -/
  | toutOutput (t : Nat)
  /-- R129 -/
  | ptpQueuePop (port : Nat)
  /-- R129 -/
  | generalQueuePop (port : Nat)
  /-- R114 -/
  | tbNsRead (tb : Nat) (t : Nat)
  /-- R132 -/
  | timeStatusMessage
  /-- R132 OP 0x0003 -/
  | sbPtpFrame (h : Hdr) (sb : Nat) (stamp : Word) (m : PtpMsg)
  /-- R132 OP 0x0004 -/
  | sbEgressStamp (h : Hdr) (ftag : Word) (stamp : Option Word)
  /-- R141 -/
  | cycleBoundary (t : Nat)
  /-- R144 action 0x01: departure `k` of slot `slot`. -/
  | launchTask (slot k : Nat) (t : Nat)
  /-- R220 -/
  | launchQueueServed (pf : Nat) (t : Nat)
  /-- R144 action 0x02 -/
  | startAfeConversion (slot k : Nat) (t : Nat)
  /-- R144 action 0x03 -/
  | frameMark (slot k : Nat) (t : Nat)
  /-- R144 action 0x04 -/
  | armRecorder (slot k : Nat) (t : Nat)
  /-- R144 action 0x05 -/
  | disarmRecorder (slot k : Nat) (t : Nat)
  /-- R144 action 0x06 -/
  | triggerRecorder (slot k : Nat) (t : Nat)
  /-- R144 action 0x07 -/
  | logicCycleStart (slot k : Nat) (t : Nat)
  /-- R144 action 0x08 -/
  | haltExchangeStart (slot k : Nat) (t : Nat)
  /-- R144 action 0x09 -/
  | svRelease (slot k : Nat) (t : Nat)
  /-- R144 action 0x0A: `temp` is the DRAM temperature in °C. -/
  | maintenanceWindow (slot k : Nat) (temp : Int) (t : Nat)
  /-- R144 action 0x0B -/
  | tokenRenewal (slot k : Nat) (t : Nat)
  /-- R152 -/
  | bankSwitchRequest (t : Nat)
  /-- R152 -/
  | bankCheckComplete (t : Nat)
  /-- R153: `switch` says that SWITCH is 1 in the same write. -/
  | bankSwitchCancel (switch : Bool) (t : Nat)
  /-- R151: word `w` of slot `slot` of bank `bank`. -/
  | slotWrite (bank slot w : Nat) (val : Word)
  /-- R156 -/
  | cycnumLoRead
  /-- R165 -/
  | frameParse (t : Nat)
  /-- R172, R177: `parsing` says that the parser completes its next frame in the same STREAM clock. -/
  | sampleDeadline (stream t : Nat) (parsing : Bool := false)
  /-- R163 -/
  | loadWindow (t : Nat)
  /-- R174 -/
  | smpsynchReport (stream : Nat) (t : Nat)
  /-- R181 -/
  | laneOutput (lane : Nat) (t : Nat)
  /-- R190, R201: `atPoint` says that the group's next reference point falls in the same instant. -/
  | coastingHoldExpired (fg : Nat) (atPoint : Bool := false)
  /-- R187 -/
  | coeffBankSwitchRequest
  /-- R182 -/
  | phaseDelayWrite (lane int frac : Nat)
  /-- R183 -/
  | dcrst (lane : Nat)
  /-- R204 -/
  | fgIdxLoRead (fg : Nat)
  /-- R214: `ofs` is the data-window offset of the descriptor, `accs` the accesses the task made before the push, in order. -/
  | phasorPush (pf : Nat) (ofs : Word) (accs : List TaskAcc)
  /-- R215 -/
  | phasorDescriptorDone (pf : Nat)
  /-- R222 -/
  | budgetOverrun (pf : Nat)
  /-- R222: the clocks used, the CL of the run (R238), and the accesses the task made since its last command, in order. -/
  | deadline (pf clocks cl : Nat) (accs : List TaskAcc) (t : Nat)
  /-- R223: `clocks` is the cycle CSR at the ECALL. -/
  | ecall (pf a7 clocks cl : Nat) (accs : List TaskAcc) (t : Nat)
  /-- R223: `cause` is the RISC-V exception cause; an access that R207 or R208 does not allow comes before it with its own. -/
  | trap (pf cause clocks cl : Nat) (accs : List TaskAcc) (t : Nat)
  /-- R224 -/
  | commit (pf : Nat) (t : Nat)
  /-- R227 -/
  | lockstepMismatch (pf : Nat) (t : Nat)
  /-- R355: the memory code, the platform or 0xFF, the address. -/
  | uncorrectableEccError (memory pf addr : Nat) (t : Nat)
  /-- R355 -/
  | correctableEccError (memory pf : Nat)
  /-- R245 -/
  | spareRestartComplete (t : Nat)
  /-- R248: `cl` is the current contention level of R238. -/
  | decisionPeriod (cl : Nat) (t : Nat)
  /-- R239: the task and instance named in the write. -/
  | measurementClear (task inst : Nat)
  /-- R250: register 0 MAR_IBOUND, 1 MAR_IGUARD, 2 MAR_IPFMASK of an instance. -/
  | boundWrite (inst reg : Nat) (val : Word)
  /-- R262, R275: `atCommit` says that a commit of the owner takes effect in the same clock. -/
  | retransmissionPoint (tpl t : Nat) (atCommit : Bool := false)
  /-- R272 -/
  | digestSend (cycle : Nat) (t : Nat)
  /-- R383 TYPE 0x14 on pair link `tw`. -/
  | digestFrame (tw : Nat) (h : PlHdr) (cycle : Nat) (digest : BitVec 64) (t : Nat)
  /-- R272 -/
  | digestTimeout (cycle : Nat)
  /-- R274 -/
  | subscriptionMirror (h : Hdr) (queue kind sbport : Nat) (stamp : Word) (body : Bytes)
  /-- R282 -/
  | acqArm (rec : Nat)
  /-- R282 -/
  | acqDisarm (rec : Nat)
  /-- R283 -/
  | acqTrig (rec : Nat) (t : Nat)
  /-- R284 -/
  | acqRelease (rec : Nat)
  /-- R283: a task on platform `pf` writes the mask. -/
  | lclRectrig (pf mask : Nat) (t : Nat)
  /-- R282 -/
  | prefillComplete (rec : Nat)
  /-- R284 -/
  | captureWindowEnd (rec : Nat) (t : Nat)
  /-- R284 -/
  | holdOffEnd (rec : Nat) (t : Nat)
  /-- R288 -/
  | exportComplete (rec : Nat)
  /-- R294 -/
  | historyRequest
  /-- R294 -/
  | historyRequestComplete
  /-- R295: the converter's code. -/
  | conversionComplete (ch : Nat) (code : Int)
  /-- R304 -/
  | afeResRead (ch : Nat)
  /-- R298 OP 0x0001 -/
  | calibrationPageRead (h : Hdr)
  /-- R298 OP 0x0003 -/
  | calibrationPageWrite (h : Hdr) (image : Bytes)
  /-- R298 -/
  | calibrationPageWriteComplete (t : Nat)
  /-- R307: `clocks` TILE clocks were executed. -/
  | logicCommit (clocks : Nat) (t : Nat)
  /-- R311 -/
  | logicCycleAbort (t : Nat)
  /-- R316 -/
  | logicRun
  /-- R316 -/
  | logicStop
  /-- R316 -/
  | logicHold
  /-- R316 -/
  | logicContinue
  /-- R316 -/
  | logicStep
  /-- R317 -/
  | logicCold
  /-- R317 -/
  | logicWarm
  /-- R316: the code offset of the block boundary. -/
  | cyclePause (pc : Nat)
  /-- R316: breakpoint `n`. -/
  | breakpointHit (n : Nat)
  /-- R324: the payload after the EtherType. -/
  | haltReply (port : Nat) (payload : Bytes) (t : Nat)
  /-- R322 -/
  | replyWindowClose (t : Nat)
  /-- R336 -/
  | instanceStart (inst : Nat)
  /-- R339 -/
  | instanceReset (inst : Nat) (t : Nat)
  /-- R339 -/
  | instanceRestart (inst : Nat) (t : Nat)
  /-- R339 -/
  | instanceResetComplete (inst : Nat)
  /-- R338: register 0 INS_QUOTA, 1 INS_QUOTA2. -/
  | quotaWrite (inst reg : Nat) (val : Word)
  /-- R334 -/
  | heapSizeWrite (inst size : Nat)
  /-- R345 -/
  | queueOwnerWrite (q owner : Nat)
  /-- R340 -/
  | mailboxToInstance (h : Hdr) (op : Nat) (payload : Bytes)
  /-- R340 -/
  | mailboxDoorbell (h : Hdr)
  /-- R341 -/
  | mailboxPop (pf : Nat)
  /-- R341: the push with its OP and LEN, and the staging area as the task has written it. -/
  | mailboxPush (pf op len : Nat) (staging : Bytes) (t : Nat)
  /-- R343 -/
  | semaphoreTry (who : Holder) (n : Nat)
  /-- R343 -/
  | semaphoreRelease (who : Holder) (n : Nat) (clearBroken : Bool)
  /-- R349 -/
  | channelStart (c : Nat)
  /-- R349: the descriptor address divided by 32. -/
  | queuePush (q : Nat) (desc : Word)
  /-- R350 -/
  | channelDoorbell (c : Nat)
  /-- R351 -/
  | channelResume (c : Nat)
  /-- R351 -/
  | channelAbort (c : Nat)
  /-- R351 -/
  | errclr (c : Nat)
  /-- R349 -/
  | descriptorComplete (c : Nat)
  /-- R351: the failing address, the direction (write), and the bytes moved before the failing point. -/
  | busError (c addr : Nat) (write : Bool) (moved : Nat)
  /-- R352: arbiter 0 and 1 are the movers, 2 is DRAM; `reqs` are its requesters. -/
  | grantDecision (arb : Nat) (reqs : List Nat)
  /-- R370 -/
  | keyinfo (h : Hdr) (slot : Nat)
  /-- R370 -/
  | importKey (h : Hdr) (slot wslot use alg : Nat) (attest : Bool) (kcv wrapped : Bytes)
  /-- R373 -/
  | vaultCommit (h : Hdr) (slot : Nat)
  /-- R373 -/
  | vaultCancel (h : Hdr) (slot : Nat)
  /-- R373 -/
  | erase (h : Hdr) (slot : Nat)
  /-- R370 -/
  | derive (h : Hdr) (sslot tslot use alg : Nat) (attest : Bool) (salt info : Bytes)
  /-- R370 -/
  | mac (h : Hdr) (slot : Nat) (iv data : Bytes)
  /-- R370: the data followed by the tag. -/
  | verify (h : Hdr) (slot : Nat) (iv dataTag : Bytes)
  /-- R370 -/
  | encrypt (h : Hdr) (slot : Nat) (aad plain : Bytes)
  /-- R370 -/
  | decrypt (h : Hdr) (slot : Nat) (iv aad cipher gtag : Bytes)
  /-- R375: `sig` is empty when the request carries no signature. -/
  | anchor (h : Hdr) (idx : Nat) (key sig : Bytes)
  /-- R375 -/
  | attest (h : Hdr) (slot : Nat) (nonce : Bytes)
  /-- R378 -/
  | selftest (h : Hdr)
  /-- R378: the first failing test or 0, and the key-store records that test 10 found damaged. -/
  | selftestComplete (firstFail : Nat) (badSlots : List Nat)
  /-- R386 -/
  | catchupRenewal (t : Nat)
  /-- R383 TYPE 0x10 on pair link `tw`: POS or 0xFF, RSEQ, TAKESEQ, and for A and B the last RSEQ heard and its age in µs. -/
  | renewFrame (tw : Nat) (h : PlHdr) (pos : Nat) (rseq takeseq : Nat) (relay : List (Nat × Nat)) (t : Nat)
  /-- R383 TYPE 0x11 -/
  | acknowledgeFrame (tw : Nat) (h : PlHdr) (pos rseq : Nat) (t : Nat)
  /-- R383 TYPE 0x12 -/
  | checkpointFrame (tw : Nat) (h : PlHdr) (inst dhash period offset total : Nat) (image : Bytes) (t : Nat)
  /-- R383 TYPE 0x13: logic cycle, first 64-byte line, the lines. -/
  | retainFrame (tw : Nat) (h : PlHdr) (cycle first : Nat) (lines : Bytes) (t : Nat)
  /-- R387 -/
  | leaseExpiry (t : Nat)
  /-- R388: position 0 A, 1 B; whether a renewal of it arrives in the clock of the take (R398). -/
  | tokenTake (pos t : Nat) (renewal : Bool := false)
  /-- R390 -/
  | take (key pos : Nat) (t : Nat)
  /-- R390 -/
  | release (key : Nat) (t : Nat)
  /-- R384 -/
  | pairLinkDown (tw : Nat) (t : Nat)
  /-- R384: the peer on TW0 or TW1. -/
  | peerLost (peer : Nat) (t : Nat)
  /-- R391 -/
  | checkpointStream (t : Nat)
  /-- R392 -/
  | retainMirrorWrite (t : Nat := 0)
  /-- R399 -/
  | redundancyStatus (t : Nat)
  /-- R405 -/
  | hrstNLow
  /-- R405 -/
  | hlPerstN
  /-- R41 -/
  | pllLostLock (isl : Island)
  /-- R119: message kind 0 Sync, 1 Announce, 2 Pdelay_Req, 3 Delay_Req. -/
  | syncTransmission (tb kind : Nat)
  /-- R420: the class, OP, and header of the message. -/
  | malformedMessage (cls op : Nat) (h : Hdr)
  /-- R98 -/
  | transmitBufferHalfFull (sb : Nat)
  /-- R405 -/
  | rstNReleased
  deriving DecidableEq, Repr

end Sys2Proof
end

