-- ==== Sys2Proof/Decode.lean ====
section
/-!
DEFINITION. The command that a word spells. The opcode table gives none of its rows bits (the commands arrive as register
writes, messages, frames and events, not as words), so no word spells one.
-/
namespace Sys2Proof

/-- The command spelled by the `nbits` low bits of `w`: none. -/
def decodeTableWord (_nbits _w : Nat) : Option Instr := none

end Sys2Proof
end

