-- ==== Sys2Proof/Machine/Bytes.lean ====
section
/-!
DEFINITION. Byte order, CRC-32 and the plain integer helpers the chapters share: little-endian and network-order
fields (R8, R29), the IEEE 802.3 CRC of R29 and the ECMA-182 CRC of R272, clamping, signed reading, rounding.
-/
namespace Sys2Proof.Machine

/-- The little-endian number of a byte string (R8). -/
def leNat : Bytes → Nat
  | [] => 0
  | b :: bs => b.toNat + 256 * leNat bs

/-- `n` bytes of `v`, least significant first (R8). -/
def leBytes : Nat → Nat → Bytes
  | 0, _ => []
  | n + 1, v => BitVec.ofNat 8 v :: leBytes n (v / 256)

/-- The number of a byte string in network order (R8). -/
def beNat (bs : Bytes) : Nat := bs.foldl (fun a b => 256 * a + b.toNat) 0

/-- `n` bytes of `v` in network order (R8). -/
def beBytes (n v : Nat) : Bytes := (leBytes n v).reverse

/-- `n` bytes of `bs` from offset `o`. -/
def slice (bs : Bytes) (o n : Nat) : Bytes := (bs.drop o).take n

/-- A little-endian field of `n` bytes at offset `o`. -/
def leAt (bs : Bytes) (o n : Nat) : Nat := leNat (slice bs o n)

/-- A network-order field of `n` bytes at offset `o`. -/
def beAt (bs : Bytes) (o n : Nat) : Nat := beNat (slice bs o n)

/-- `n` zero bytes. -/
def zeros (n : Nat) : Bytes := List.replicate n 0#8

/-- All bytes are zero. -/
def allZero (bs : Bytes) : Bool := bs.all (· == 0#8)

/-- Round up to a multiple of `m`. -/
def roundUp (n m : Nat) : Nat := (n + m - 1) / m * m

/-- Bit `i` of `n`. -/
def bit (n i : Nat) : Bool := (n / 2 ^ i) % 2 == 1

/-- `1` for true, `0` for false. -/
def ofBool (b : Bool) : Nat := if b then 1 else 0

/-- The numbers below `n` whose bit is set in the mask `m`, ascending. -/
def maskBits (n m : Nat) : List Nat := (List.range n).filter (bit m)

/-- The `w`-bit two's-complement reading of `n`. -/
def signedN (w n : Nat) : Int :=
  let m := n % 2 ^ w
  if m < 2 ^ (w - 1) then (m : Int) else (m : Int) - (2 ^ w : Nat)

/-- The `w`-bit two's-complement pattern of `i`. -/
def wrapN (w : Nat) (i : Int) : Nat := (i % ((2 ^ w : Nat) : Int)).toNat

/-- Keep `i` between `lo` and `hi`. -/
def clampI (lo hi i : Int) : Int := if i < lo then lo else if hi < i then hi else i

/-- Keep `n` between `lo` and `hi`. -/
def clampN (lo hi n : Nat) : Nat := if n < lo then lo else if hi < n then hi else n

/-- Saturate to a signed number of `w` bits. -/
def satS (w : Nat) (i : Int) : Int := clampI (-((2 ^ (w - 1) : Nat) : Int)) ((2 ^ (w - 1) : Nat) - 1 : Int) i

/-- Floor division of integers by a positive natural number. -/
def fdiv (i : Int) (n : Nat) : Int := Int.fdiv i n

/-- Round `i / n` to nearest, ties toward plus infinity (R187, R216). -/
def rdiv (i : Int) (n : Nat) : Int := Int.fdiv (2 * i + n) (2 * n)

/-- Round `i / n` to nearest, ties away from zero (R296). -/
def rdivAway (i : Int) (n : Nat) : Int := if 0 ≤ i then rdiv i n else - rdiv (-i) n

/-- Ceiling of `a / b`. -/
def cdiv (a b : Nat) : Nat := (a + b - 1) / b

/-- The least power-of-two exponent `k` with `2 ^ k ≥ n` (R185). -/
def clog2 (n : Nat) : Nat := (List.range 64).find? (fun k => n ≤ 2 ^ k) |>.getD 64

/-- Square root rounded down, bit by bit from `2 ^ n`. -/
def isqrtFrom : Nat → Nat → Nat → Nat
  | 0, _, r => r
  | n + 1, v, r => let c := r + 2 ^ n; if c * c ≤ v then isqrtFrom n v c else isqrtFrom n v r

/-- Square root rounded down, for numbers below 2 to the power 512. -/
def isqrt (v : Nat) : Nat := isqrtFrom 256 v 0

/-- One bit step of the reflected IEEE 802.3 CRC. -/
def crc32Bit (c : BitVec 32) : BitVec 32 :=
  if c &&& 1#32 = 1#32 then (c >>> 1) ^^^ 0xEDB88320#32 else c >>> 1

/-- One byte step of the reflected IEEE 802.3 CRC. -/
def crc32Byte (c : BitVec 32) (b : Byte) : BitVec 32 :=
  crc32Bit (crc32Bit (crc32Bit (crc32Bit (crc32Bit (crc32Bit (crc32Bit (crc32Bit (c ^^^ b.setWidth 32))))))))

/-- CRC-32 with the IEEE 802.3 polynomial (R29). -/
def crc32 (bs : Bytes) : BitVec 32 := (bs.foldl crc32Byte 0xFFFFFFFF#32) ^^^ 0xFFFFFFFF#32

/-- The calibration page that the model starts with (R297): MAGIC, VER and LEN as stated, serial number 0, every GAIN 1, every REFR
80 % of full scale (R299), every other value 0, its CRC right. DESIGN CHOICE (log entry 2): the manual gives no factory values. -/
def factoryPage : Bytes :=
  let p := leBytes 4 0x5A474350 ++ leBytes 2 1 ++ leBytes 2 1024 ++ leBytes 60 0 ++
    (List.range 16).flatMap (fun _ => leBytes 4 (2 ^ 30) ++ leBytes 12 0 ++ leBytes 4 26843546) ++ leBytes 632 0
  p ++ leBytes 4 (crc32 p).toNat

/-- One bit step of CRC-64 with the ECMA-182 polynomial, most significant bit first (R272). -/
def crc64Bit (c : BitVec 64) : BitVec 64 :=
  if c.msb then (c <<< 1) ^^^ 0x42F0E1EBA9EA3693#64 else c <<< 1

/-- CRC-64 with the ECMA-182 polynomial, initial value and final inversion zero (R272).
DESIGN CHOICE (log entry 12): the manual names the polynomial only. -/
def crc64 (bs : Bytes) : BitVec 64 :=
  bs.foldl (fun c b =>
    let c := c ^^^ BitVec.shiftLeft (BitVec.setWidth 64 b) 56
    crc64Bit (crc64Bit (crc64Bit (crc64Bit (crc64Bit (crc64Bit (crc64Bit (crc64Bit c)))))))) 0#64

/-- Sum of a list of naturals. -/
def sumN (l : List Nat) : Nat := l.foldl (· + ·) 0

/-- The largest of a list of naturals, 0 for none. -/
def maxN (l : List Nat) : Nat := l.foldl Nat.max 0

/-- Replace element `i` of a list. -/
def setAt {α : Type} (l : List α) (i : Nat) (x : α) : List α := l.set i x

/-- Insert by a key, keeping the list ordered and stable. -/
def insertBy {α : Type} (key : α → Nat) (x : α) : List α → List α
  | [] => [x]
  | y :: ys => if key x < key y then x :: y :: ys else y :: insertBy key x ys

/-- Insertion sort by a key, stable. -/
def sortBy {α : Type} (key : α → Nat) (l : List α) : List α := l.foldl (fun acc x => insertBy key x acc) []

/-- A byte string cut or filled with zeros to `n` bytes. -/
def fitTo (n : Nat) (b : Bytes) : Bytes := b.take n ++ zeros (n - b.length)

end Sys2Proof.Machine
end

