-- ==== Sys2Proof/Machine/Reg.lean ====
section
/-!
DEFINITION. How a register field is described: its address, its lowest bit, its width, its access code (R11), its
reset value and the reset kinds that clear it (R12).
-/
namespace Sys2Proof.Machine

/-- The access codes of R11. `rwl` is the manual's rw-l. -/
inductive Acc where
  | rw | ro | wo | w1c | w1s | rwl
  deriving DecidableEq, Repr

/-- The reset kinds of R12. -/
inductive Kind where
  | p | w | m | b | i
  deriving DecidableEq, Repr

/-- The bit of a reset kind in a field's cleared-by mask. -/
def Kind.mask : Kind → Nat
  | .p => 1 | .w => 2 | .m => 4 | .b => 8 | .i => 16

/-- One register field (R10, R11, R12). `lo` from 32 upward is not a register bit: it names the part of a wide counter
that its LO register does not show and its HI register shows only when latched (R106, R156, R204, R304). -/
structure Fld where
  addr  : Nat
  lo    : Nat
  width : Nat
  acc   : Acc
  reset : Nat
  clr   : Nat
  deriving DecidableEq, Repr

/-- The key of a field in the register file. -/
def Fld.key (f : Fld) : Nat := f.addr * 64 + f.lo

/-- Does the reset kind return the field to its reset value (R12)? -/
def Fld.clearedBy (f : Fld) (k : Kind) : Bool := (f.clr / k.mask) % 2 == 1

/-- The same field of another page. -/
def Fld.shift (f : Fld) (d : Nat) : Fld := ⟨f.addr + d, f.lo, f.width, f.acc, f.reset, f.clr⟩

/-- The unit of an address in an array of records, if it is `ofs` into one. -/
def unitAt (base size n ofs a : Nat) : Option Nat :=
  if base + ofs ≤ a ∧ a < base + n * size ∧ (a - base) % size = ofs then some ((a - base) / size) else none

/-- A register word, or an array of them: word `(i, j)` lies at `addr + s1 * i + s2 * j`. -/
structure RegDesc where
  addr : Nat
  s1 : Nat
  n1 : Nat
  s2 : Nat
  n2 : Nat
  flds : List Fld
  deriving DecidableEq, Repr

/-- The distance of address `a` from word (0, 0), if `a` is one of the words. -/
def RegDesc.find (r : RegDesc) (a : Nat) : Option Nat :=
  if a < r.addr then none else
  let d := a - r.addr
  let i := if r.s1 = 0 then 0 else if r.n1 ≤ d / r.s1 then r.n1 else d / r.s1
  let q := d - r.s1 * i
  let j := if r.s2 = 0 then 0 else q / r.s2
  if i < r.n1 ∧ j < r.n2 ∧ q = r.s2 * j then some d else none

end Sys2Proof.Machine
end

