-- ==== Sys2Proof/Machine/Sparse.lean ====
section
/-!
DEFINITION. Sparse tables: plain lists of (key, value) pairs with strictly rising keys and no entry equal to what an
unlisted key reads as. Memory, the register file and the per-unit records of State are such tables.
-/
namespace Sys2Proof.Machine

/-- What key `k` reads as; `d` is what an unlisted key reads as. -/
def Sp.get {α : Type} (d : α) : List (Nat × α) → Nat → α
  | [], _ => d
  | (j, v) :: r, k => if k < j then d else if k = j then v else Sp.get d r k

/-- Remove key `k`. -/
def Sp.erase {α : Type} : List (Nat × α) → Nat → List (Nat × α)
  | [], _ => []
  | (j, w) :: r, k => if k < j then (j, w) :: r else if k = j then r else (j, w) :: Sp.erase r k

/-- Insert or replace key `k`. -/
def Sp.insert {α : Type} : List (Nat × α) → Nat → α → List (Nat × α)
  | [], k, v => [(k, v)]
  | (j, w) :: r, k, v =>
    if k < j then (k, v) :: (j, w) :: r else if k = j then (k, v) :: r else (j, w) :: Sp.insert r k v

/-- Write `v` at key `k`; writing what an unlisted key reads as removes the entry. -/
def Sp.put {α : Type} [DecidableEq α] (d : α) (l : List (Nat × α)) (k : Nat) (v : α) : List (Nat × α) :=
  if v = d then Sp.erase l k else Sp.insert l k v

/-- Change every listed value, dropping those that become the default. -/
def Sp.mapv {α : Type} [DecidableEq α] (d : α) (f : α → α) (l : List (Nat × α)) : List (Nat × α) :=
  (l.map (fun e => (e.1, f e.2))).filter (fun e => decide (e.2 ≠ d))

/-- Keys rise strictly and all lie above `lo`. -/
def Sp.rising {α : Type} : Option Nat → List (Nat × α) → Bool
  | _, [] => true
  | none, (j, _) :: r => Sp.rising (some j) r
  | some lo, (j, _) :: r => decide (lo < j) && Sp.rising (some j) r

/-- The canonical form: keys strictly rising, no entry equal to the default. -/
def Sp.wf {α : Type} [DecidableEq α] (d : α) (l : List (Nat × α)) : Bool :=
  Sp.rising none l && l.all (fun p => decide (p.2 ≠ d))

end Sys2Proof.Machine
end

