-- ==== Sys2Proof/Machine/Types.lean ====
section
/-!
DEFINITION. The records of State: what the manual gives each unit beside its register fields. All are plain data.
-/
namespace Sys2Proof.Machine

/-- An event record (R40). `inst` is 0xFF for none; the time is that of time base `tb`. -/
structure Event where
  code : Nat
  inst : Nat
  tb   : Nat
  arg  : Nat
  sec  : Nat
  ns   : Nat
  deriving DecidableEq, Repr

/-- A Yevas message (R29) less its SEQ, LEN and CRC. -/
structure Msg where
  cls     : Nat
  last    : Bool
  reply   : Bool
  err     : Bool
  src     : Nat
  tgt     : Nat
  op      : Nat
  tag     : Word
  payload : Bytes
  deriving DecidableEq, Repr

/-- A message held until it is acknowledged (R33): `sent` since it was last offered, `resends` in a row (R34), `again` when
its next sending is a resend. -/
structure TxEnt where
  seq     : Word
  msg     : Msg
  sent    : Bool
  resends : Nat
  again   : Bool
  deriving DecidableEq, Repr

/-- The sending side of a class: next SEQ (R29), messages in order, and since when it waits (R32). -/
structure ClsTx where
  next  : Word
  q     : List TxEnt
  since : Nat
  deriving DecidableEq, Repr

/-- The receiving side of a class: the SEQ expected and whether one has been taken (R33). -/
structure ClsRx where
  expect : Word
  taken  : Bool
  deriving DecidableEq, Repr

/-- One posted access (R20); `cfg` is the SEQ of the configuration write it came from (R37). -/
structure Access where
  addr : Nat
  val  : Word
  cfg  : Option Word
  deriving DecidableEq, Repr

/-- A junction: its 8-entry FIFO and the accesses of the stalled source (R19, R22). -/
structure Junc where
  fifo    : List Access
  stalled : List Access
  deriving DecidableEq, Repr

/-- A configuration read that waits for its fence (R37). -/
structure CfgRead where
  h     : Hdr
  addrs : List Word
  deriving DecidableEq, Repr

/-- The Yevas link, field end, and the junctions (R19 to R37). -/
structure LinkS where
  /-- R33: messages by class, held until acknowledged. -/
  tx : List (Nat × ClsTx)
  /-- R33: expected SEQ by class, host to field. -/
  rx : List (Nat × ClsRx)
  /-- R34: failed retrains in a row. -/
  fails : Nat
  /-- R34: the link has come up since the last reset. -/
  trained : Bool
  /-- R34, R40: event records waiting for a class 0x2 message, and since when they wait (R32). -/
  evq : List Event
  evSince : Nat
  /-- R32: messages sent since the last free turn. -/
  sends : Nat
  /-- R32: the count by which the longest-waiting class is found. -/
  order : Nat
  /-- R32: the last message put on the line, with its SEQ. -/
  line : Option TxEnt
  /-- R29: the octets of that message, header, payload and CRC. -/
  wire : Bytes
  /-- R31: event 0x0116 has been raised in this start-up. -/
  earlyRaised : Bool
  /-- R35: base times at the serialiser stamp of the last OP 0x0020 message: (seconds, ns) of TB0 to TB3. -/
  mirror : List (Nat × Nat)
  /-- R132: raw time of that stamp. -/
  mirrorAt : Nat
  /-- R37: configuration reads waiting, in order. -/
  reads : List CfgRead
  /-- R37: SEQ of the last configuration write received (L). -/
  cfgLast : Option Word
  /-- R19, R22: the junctions, by 8 × source + destination. -/
  junc : List (Nat × Junc)
  /-- R23: writes to islands powered down in Park, in order. -/
  shadow : List (Nat × Word)
  deriving DecidableEq, Repr

/-- The host die's mirror of a time base (R132): at raw time `at_` the base read `ns`; it runs on at the frequency last reported, in
2⁻¹⁶ ppm. -/
structure MirrorS where
  at_   : Nat
  ns    : Nat
  freq  : Int
  epoch : Nat
  deriving DecidableEq, Repr

/-- The host die as far as the manual makes it visible (R36, R48, R51, R98, R99, R405). -/
structure HostS where
  /-- R405: the READY pin. -/
  ready : Bool
  /-- R45, R57: suspended in Hold-up. -/
  suspended : Bool
  /-- R405: a reset is held until Hold-up ends. -/
  resetHeld : Bool
  /-- R405: resets of the host die, as a count for the observer. -/
  resets : Nat
  /-- R405: resets of HL. -/
  hlResets : Nat
  /-- R36: last state and firmware version of the host die taken as a sign of life; no register keeps them. -/
  alive : Option (Word × Word)
  /-- R98: windows below 2 % in a row, by SB port. -/
  low : List (Nat × Nat)
  /-- R98: rate a renegotiation is for, as SBP_STATUS.RATE plus 1; 0 none. -/
  reneg : List (Nat × Nat)
  /-- R98: a step-up is due after the renegotiation in progress. -/
  upDue : List (Nat × Nat)
  /-- R85, R98: the declared rate of an SB port, as SBP_STATUS.RATE codes it. -/
  declRate : List (Nat × Nat)
  /-- R85, R100: MT runs half duplex by auto-negotiation. -/
  mtHalf : Bool
  /-- R99: collisions of the frame in hand on MT. -/
  attempts : Nat
  /-- R99: slot times of the roll in progress. -/
  roll : Option Nat
  /-- R99: raw time at which the roll ends. -/
  rollEnd : Nat
  /-- R99: raw time at which the carrier last ended on MT. -/
  carrier : Nat
  /-- R132: the mirrors of TB0 to TB3. -/
  mirror : List MirrorS
  /-- R132: raw time of the host end's stamp of the last OP 0x0020 message. -/
  mirrorAt : Option Nat
  /-- R106: the manager's local event queue, where the host die's own ports place their events. -/
  events : List Event
  deriving DecidableEq, Repr

/-- Supply, start-up and resets (R42 to R61). -/
structure PowerS where
  /-- R48: the module has supply. -/
  powered : Bool
  /-- R62: VIN in mV. -/
  vin : Nat
  /-- R43: the store's voltage in mV at raw time `storeAt`, when it last began to charge or to be drawn from. -/
  store : Nat
  storeAt : Nat
  /-- R53: the reset in progress. -/
  kind : Option Kind
  /-- R49: failed attempts of the stage in progress. -/
  retries : Nat
  /-- R56: start-up is paused in its stage. -/
  paused : Bool
  /-- R405: RST_N is held low since power-up. -/
  rstHeld : Bool
  /-- R48: the MRAM stop marker with the digest of the active rulebook. -/
  stopMarker : Option Bytes
  /-- R54: the rulebook digest recorded with the newest checkpoint. -/
  ckptDigest : Option Bytes
  /-- R54, R62: PWR_CMD.VOID has been written: the next power-up is a P reset. -/
  voided : Bool
  /-- R56: a Park command is held until Hold-up ends. -/
  parkHeld : Bool
  /-- R229: Park waits for running tasks. -/
  parkWait : Bool
  /-- R46: the final flush is running. -/
  flushing : Bool
  /-- R61: raw time at which watchdog 3 expires; none while stopped or held. -/
  wdt3 : Option Nat
  /-- R61: watchdogs whose event 0x0104 waits for link-up. -/
  wdEvent : List Nat
  /-- R52, R299: drift corrections of stage 0x07, (ODRIFT, GDRIFT) by 2 × channel + range. -/
  drift : List (Int × Int)
  /-- R52, R125: the draw of the drift corrections of the port latencies; none while stage 0x07 gave none. -/
  stampDraw : Option Nat
  deriving DecidableEq, Repr

/-- A task entry (R211) with its WCET (R240). -/
structure TaskDecl where
  entry    : Nat
  budget   : Nat
  deadline : Nat
  cls      : Nat
  valid    : Bool
  stack    : Nat
  wcet     : Nat
  deriving DecidableEq, Repr

/-- An MPU region of the declaration (R208): base, length, and read, write, execute permission, in task addresses. -/
structure Mpu where
  base : Nat
  len  : Nat
  r    : Bool
  w    : Bool
  x    : Bool
  deriving DecidableEq, Repr

/-- An instance declaration of POOL (R333). -/
structure InstDecl where
  inst  : Nat
  supervisory : Bool
  tasks : List TaskDecl
  code  : Nat
  data  : Nat
  ckpt  : Nat
  /-- ring input and LDEPTH (R212) -/
  rings : List (Nat × Nat)
  autostart : Bool
  qDram : Nat
  qQueues : Nat
  qSems : Nat
  qMb   : Nat
  dhash : Nat
  tb    : Nat
  mpu   : List Mpu
  codeImage : Bytes
  dataImage : Bytes
  /-- arbiter weight of its queues, P only (R248) -/
  prio  : Nat
  deriving DecidableEq, Repr

/-- A coefficient set (R202). -/
structure CoefSet where
  gd : Nat
  h  : List Int
  deriving DecidableEq, Repr

/-- A type-table entry of Othan block code (R313). -/
structure LType where
  hash : Nat
  kind : Nat
  size : Nat
  deriving DecidableEq, Repr

/-- A function-block entry of Othan block code (R313). -/
structure LInst where
  path   : Bytes
  type   : Nat
  ofs    : Nat
  retOfs : Nat
  retLen : Nat
  deriving DecidableEq, Repr

/-- A variable-table entry (R313). -/
structure LVar where
  fb    : Nat
  type  : Nat
  scale : Nat
  ofs   : Nat
  deriving DecidableEq, Repr

/-- An Othan block code program (R312). -/
structure Prog where
  ratio  : Nat
  runOnLoad : Bool
  holdEn : Bool
  wcet   : Nat
  progId : Nat
  code   : Bytes
  types  : List LType
  fbs    : List LInst
  vars   : List LVar
  instLen : Nat
  retLen : Nat
  init   : Bytes
  /-- the semaphores the LOGIC section names (R342) -/
  sems   : List Nat
  deriving DecidableEq, Repr

/-- What a RECORDERS amendment leaves for the end of a capture (R83): the recorder, its settings, the envelopes of its masks. -/
structure RecAmd where
  rcd  : Nat
  sets : List (Nat × Word)
  envs : List (Nat × List Int × List Int)
  deriving DecidableEq, Repr

/-- What a rulebook's sections declare, once parsed (R66): the register fields the loader sets, by address and value,
and the declarations that no register holds. -/
structure Decl where
  sets     : List (Nat × Word)
  insts    : List InstDecl
  active   : List Nat
  spare    : List Nat
  coefBank : Nat
  coefs    : List (List CoefSet)
  ttbBank  : Nat
  prog     : Option Prog
  /-- envelopes of masks: mask number, upper, lower (R286) -/
  masks    : List (Nat × List Int × List Int)
  /-- CROSSING: block base and access (R67) -/
  crossing : List (Nat × Nat)
  deriving DecidableEq, Repr

/-- One record of an amendment journal with its stored CRC (R82, R83). -/
structure JRec where
  body : Bytes
  crc : Word
  deriving DecidableEq, Repr

/-- A rulebook slot in MRAM (R71): its image as received and its journal. -/
structure Slot where
  image   : Bytes
  valid   : Bool
  journal : List JRec
  deriving DecidableEq, Repr

/-- The rulebook loader (R63 to R83). -/
structure RbkS where
  slotA : Slot
  slotB : Slot
  /-- R71: the slot pointer, 0 A, 1 B. -/
  ptr : Nat
  /-- R71: the PENDING marker with the slot it names. -/
  pending : Option Nat
  /-- R72: TOTLEN of OPEN. -/
  openLen : Nat
  /-- R75: an accepted activation waits for its boundary. -/
  actWait : Option Nat
  /-- R75: the activation flush runs. -/
  flushing : Bool
  /-- R66: what the active rulebook declares; none while none is active. -/
  active : Option Decl
  /-- R63: digest of the active rulebook. -/
  digest : Bytes
  /-- R81: trust anchor of the active rulebook. -/
  anchorIdx : Nat
  /-- R81: the amendment record received so far. -/
  amd : Bytes
  /-- R83: an applied RETRANS amendment waits per template:
  those still on the old curve as (template, MININT in µs, T0 in ms). -/
  oldCurve : List (Nat × Nat × Nat)
  /-- R83: RECORDERS settings waiting for the end of a capture. -/
  recWait : List RecAmd
  deriving DecidableEq, Repr

/-- A frame the module sends: what is in it, by the rule that lays it out. -/
inductive TxBody where
  /-- R258: template, stNum, sqNum, timeAllowedToLive in ms, t as (seconds, fraction, quality), test, allData, and the
  IEC 62351-6 tag. -/
  | goose (tpl stNum sqNum tal tsec tfrac tq : Nat) (test : Bool) (allData : Bytes) (auth : Bytes)
  /-- R264: template and ASDUs (smpCnt, smpSynch, (value, quality) of each channel), and the tag. -/
  | sv (tpl : Nat) (asdus : List (Nat × Nat × List (Int × Nat))) (auth : Bytes)
  /-- R323: a halt request. -/
  | halt (h : Nat) (payload : Bytes)
  /-- R383: a pair-link frame, header, body and CRC. -/
  | pair (bytes : Bytes)
  /-- R119, R121: a PTP message of a time base or of a transparent clock. -/
  | ptp (m : PtpMsg)
  /-- R119, R121: a Pdelay_Resp; the request was captured at raw ns `at_`. -/
  | presp (m : PtpMsg) (at_ : Nat)
  /-- R121: a PTP message a transparent clock forwards: ingress port, ingress capture (raw ns). -/
  | tc (m : PtpMsg) (ingress at_ : Nat)
  /-- R88: a frame forwarded on an HSR pair. -/
  | fwd (f : RxFrame)
  /-- R346: a frame submitted by a channel. -/
  | dma (bytes : Bytes)
  deriving DecidableEq, Repr

/-- What a frame sent on a pair carries (R88, R265): an HSR tag or a PRP trailer, the LanId of its port and the pair's sequence number. -/
structure RedS where
  hsr : Bool
  lan : Nat
  seq : Nat
  deriving DecidableEq, Repr

/-- A frame waiting in a transmit queue (R92). `stamp` is the general-queue tag when flagged (R129); `chan` the channel
whose completion record waits for it (R349); `red` its PRP trailer or HSR tag (R265). -/
structure TxFrame where
  queue : Nat
  len   : Nat
  src   : Bytes
  body  : TxBody
  red   : Option RedS
  stamp : Option Word
  chan  : Option Nat
  deriving DecidableEq, Repr

/-- One entry of an egress stamp queue (R131). -/
structure StampEnt where
  stamp : Word
  tag   : Word
  tb    : Nat
  epoch : Nat
  port  : Nat
  deriving DecidableEq, Repr

/-- An Ethernet port of the field die or the host die (R85 to R100, R129). -/
structure PortS where
  /-- R92: waiting frames, oldest first. -/
  txq : List TxFrame
  /-- R94: the frame being sent. -/
  cur : Option TxFrame
  /-- R92, R125: raw time at which the start-of-frame delimiter of `cur` passed. -/
  curAt : Nat
  /-- R96: a pause: raw time from which it runs, and its quanta. -/
  pause : Option (Nat × Nat)
  /-- R99: on MT, the frame that collided and is tried again after its roll. -/
  hand : Option TxFrame
  /-- R94: the frame last put on the wire. -/
  sent : Option TxFrame
  /-- R94: the last frame ended with an inverted CRC. -/
  badCrc : Bool
  /-- R129: the PTP egress stamp queue. -/
  pq : List StampEnt
  /-- R129: the general egress stamp queue. -/
  gq : List StampEnt
  /-- R384: raw time of the last pair-link frame on this port. -/
  heard : Option Nat
  /-- R119: sequenceId of the next PTP message the engine sends here. -/
  ptpSeq : Nat
  /-- R121: two-step Sync messages forwarded: sequenceId, sourcePortIdentity, amount in 2⁻¹⁶ ns, raw time. -/
  tc : List (Nat × Nat × Int × Nat)
  /-- R102: good frames in a row, and bad or missing ones (FT receivers, port 18 + f). -/
  ftGood : Nat
  ftBad : Nat
  deriving DecidableEq, Repr

/-- One entry of a duplicate window (R164). -/
structure DupEnt where
  src : Bytes
  seq : Nat
  at_ : Nat
  /-- the port whose copy was accepted -/
  port : Nat
  deriving DecidableEq, Repr

/-- A trip drive beside its register (R103, R104). -/
structure TripS where
  /-- R103: raw time at which the drive closed. -/
  closedAt : Option Nat
  /-- R104: the owner has been reset and has not committed since. -/
  ownerReset : Bool
  /-- R104: turned off by an overload; retried every 10 ms. -/
  overOff : Bool
  deriving DecidableEq, Repr

/-- A time base (R112 to R118). `acc` is its time in units of 1 / (65,536 × 10⁶) ns. -/
structure TbS where
  /-- R112: it has started after a P or W reset. -/
  running : Bool
  acc   : Nat
  /-- R116: consecutive offsets within ±100 ns. -/
  inLim : Nat
  /-- R116: consecutive offsets above 1 µs in LOCKED. -/
  outLim : Nat
  /-- R117: the integral part, in 2⁻¹⁶ ppm. -/
  integ : Int
  /-- R118: frequencies in LOCKED over the last 64 s, oldest first: (ns, FREQ). -/
  hist  : List (Nat × Int)
  /-- R118: raw time from which the FREQ in force counts in LOCKED. -/
  segAt : Nat
  /-- R154, R377: the base has been LOCKED since the last reset. -/
  wasLocked : Bool
  /-- R116, R120: the port on which the base is slave, numbered as in R106. -/
  slave : Option Nat
  /-- R112: the source, leader, profile, role and ports of the last declaration. -/
  decl  : List Nat
  deriving DecidableEq, Repr

/-- What TOUT sends (R124): the 1PPS pulse that marks second `sec` of the base, or the IRIG-B frame of UTC second `sec`; high from
`rise` to `fall`, both raw ns, for the pulse; for the frame the on-time point is `rise`, with its control functions. -/
structure ToutS where
  irig : Bool
  sec  : Nat
  rise : Nat
  fall : Nat
  leap : Bool
  qual : Nat
  deriving DecidableEq, Repr

/-- TIN and TOUT (R122 to R124). -/
structure TinS where
  /-- R123: base time (ns) of the last edge. -/
  lastEdge : Option Nat
  /-- R122, R123: missing or bad in a row. -/
  bad : Nat
  /-- R122: good frames in a row. -/
  good : Nat
  /-- R124: what TOUT last began to send. -/
  tout : Option ToutS
  /-- R132: PTP event messages sent through SB ports whose stamp has not come back: tag, base, port, message. -/
  sbOut : List (Word × Nat × Nat × PtpMsg)
  /-- R132: the egress stamps of SB ports that the PTP engine has taken, newest last; none where the stamp was lost. -/
  sbStamps : List (Word × Option Word)
  deriving DecidableEq, Repr

/-- The timetable beside its registers (R139 to R155). -/
structure TtbS where
  /-- R152: the check has passed and the switch waits for a boundary. -/
  checked : Bool
  /-- R153: raw time at which the request or the end of the check took effect; a boundary in that clock is too early. -/
  readyAt : Nat
  /-- R148: last launch departure time (raw ns) by platform. -/
  lastDep : List (Nat × Nat)
  /-- R154: base time (ns) of the next boundary that serves departures again; none while not serving. -/
  startAt : Option Nat
  /-- R140: cycle number now served. -/
  cyc : Nat
  /-- R154: departures of this cycle already served: (slot, k). -/
  served : List (Nat × Nat)
  /-- R61, R141: raw time of the last boundary served, or from which the first is awaited. -/
  lastAt : Nat
  /-- R149: end (base ns) of the open maintenance window. -/
  window : Nat
  deriving DecidableEq, Repr

/-- A frame queued for the parser (R162): the frame, its port or FT receiver, the ingress capture on the raw counter and
the entries that match it. -/
structure QFrame where
  port  : Nat
  ft    : Bool
  frame : Option RxFrame
  ds    : Bytes
  stamp : Nat
  subs  : List Nat
  /-- R162: raw time of the end of its reception. -/
  at_   : Nat
  deriving DecidableEq, Repr

/-- A sample released to a lane (R175): value, ingress qualifier, sample time in ns of the base, position (R185), EPOCH, and the
raw time of its release (R181). -/
structure Sample where
  value : Int
  qual  : Nat
  time  : Int
  pos   : Int
  epoch : Nat
  rel   : Nat
  deriving DecidableEq, Repr

/-- Stream state beside SVI_SSTAT (R171 to R174). -/
structure StreamS where
  /-- R171: position of the next sample to release, and its 16-bit counter for ALIGN = 1. -/
  next : Int
  cnt : Nat
  /-- R171: positions among the last 64 released that were real. -/
  recent : List (Int × Bool)
  /-- R170, R172: nominal time (ns) of the last released sample. -/
  lastTnom : Int
  /-- R185: position of the last released sample since the last re-anchor, for ALIGN = 1. -/
  sinceAnchor : Int
  /-- R170, R197: position since the re-anchor and nominal time of the last 4,096 released samples, newest first. -/
  tnoms : List (Int × Int)
  /-- R173: consecutive placeholders. -/
  run : Nat
  /-- R173: consecutive frames released real. -/
  good : Nat
  /-- R174: raw time of the last event 0x0803. -/
  reportAt : Option Nat
  /-- R174: the value last reported. -/
  reported : Nat
  deriving DecidableEq, Repr

/-- Ingress queues and windows (R161 to R164). -/
structure SviS where
  urgent : List QFrame
  normal : List QFrame
  /-- R163: the open 1 ms window, as a count of whole milliseconds of the timetable's base, and the frames in it. -/
  win : Nat
  count : Nat
  /-- R163: raw time of the last event 0x0804. -/
  loadAt : Option Nat
  /-- R164: duplicate windows by the lower port of the pair, newest first. -/
  dup : List (Nat × List DupEnt)
  streams : List (Nat × StreamS)
  deriving DecidableEq, Repr

/-- A decimated or filtered sample inside a lane: label (ns of the base) and value. -/
structure Tap where
  label : Int
  value : Int
  deriving DecidableEq, Repr

/-- A lane (R180 to R198). -/
structure LaneS where
  /-- R175: released samples not yet run through the stages. -/
  inq : List Sample
  /-- R182: inputs held for the phase delay, newest first. -/
  hist : List Sample
  /-- R182: effective delay in 1/256 sample. -/
  dly : Nat
  /-- R182: slew: delay at its start, inputs done. -/
  slew : Option (Nat × Nat)
  /-- R183: the DC estimate in 2⁻¹⁴ counts. -/
  dc : Int
  /-- R183, R201: DCRST has been written since the last input on a thawed lane: REMAIN as it was before. -/
  dcReq : Option Nat
  /-- R183: DCRST on a frozen lane: the thaw is the disturbance. -/
  dcPend : Bool
  /-- R185: integrators, 72-bit. -/
  integ : List (BitVec 72)
  /-- R185: comb memories, 72-bit. -/
  comb : List (BitVec 72)
  /-- R186: FIR inputs, newest first. -/
  fir : List Tap
  /-- R187: bank in use and fade outputs done, with the old bank. -/
  bank : Nat
  fade : Option (Nat × Nat)
  /-- R187: bank switches (FchS.switches) that the lane has made. -/
  switched : Nat
  /-- R191: the newest FIR outputs, newest first, at most four. -/
  outs : List Tap
  /-- R194: quality of the last inputs, newest first, as many as the longest set could need; the last SETTLE of them are merged. -/
  window : List Nat
  /-- R197: highest grid index written. -/
  written : Option Nat
  /-- R198, R285: previous unsuppressed output (grid time, value) and comparator results. -/
  last : Option (Int × Int)
  cmp : Nat
  /-- R200: the owner is in reset. -/
  ownerReset : Bool
  /-- R188: next grid index to write. -/
  nextGrid : Nat
  deriving DecidableEq, Repr

/-- A frequency group (R188 to R190, R197). Phasors are kept in units of 2⁻⁹⁶. -/
structure GroupS where
  /-- R188: time of grid point 0, ns of the base; none until the group has started. -/
  t0 : Option Int
  /-- R188: the newest grid points fixed so far, newest first: (index, time in 2⁻¹⁶ ns). -/
  grid : List (Nat × Int)
  /-- R190: the grid frequency F in force, 2⁻¹⁶ Hz. -/
  f : Nat
  /-- R190: F before the latest updates, newest first. -/
  back : List Nat
  /-- R189: outputs of reference lanes 0 to 2 that wait for the others, oldest first: value, good. -/
  refs : List (List (Int × Bool))
  /-- R189: the last N reference values of each reference lane, oldest first. -/
  win : List (List Int)
  /-- R189: the phasor of the last update. -/
  prev : Option (Int × Int)
  /-- R189: consecutive good cycles, and whether the cycle in progress is good so far. -/
  good : Nat
  cycOk : Bool
  /-- R201: HOLD expires at the next reference point. -/
  holdOver : Bool
  /-- R189: grid index of the next reference point. -/
  nk : Nat
  /-- R204: the highest grid index output so far. -/
  idx : Nat
  /-- R197: F and state from a grid index on, newest first. -/
  marks : List (Nat × Nat × Nat)
  deriving DecidableEq, Repr

/-- The filter chain beside its registers (R184, R187, R202). -/
structure FchS where
  lanes  : List (Nat × LaneS)
  groups : List (Nat × GroupS)
  /-- R184: raw time of the last event 0x0904 by freeze set. -/
  frzAt  : List (Nat × Nat)
  /-- R202: the two coefficient banks. -/
  banks  : List (List CoefSet)
  /-- R187: the switches since the lanes were mapped, newest first: the boundary (base ns) and the bank from there. -/
  switches : List (Int × Nat)
  deriving DecidableEq, Repr

/-- A launch (R219, R220): instance, task, departure time (ns of the base), raw time at which it reaches the platform under the
spacing rule (R148), cycle, train index, epoch, deadline (raw). -/
structure Launch where
  inst  : Nat
  task  : Nat
  dep   : Nat
  raw   : Nat
  cyc   : Nat
  k     : Nat
  epoch : Nat
  dead  : Nat
  deriving DecidableEq, Repr

/-- A commit that waits for the phasor queue (R223, R224): TILE clocks and CL of the run at the ECALL, its raw time, whether it
found descriptors to wait for, the commit block as read, the time from departure to ECALL when it is entered. -/
structure Ending where
  clocks : Nat
  cl     : Nat
  at_    : Nat
  waits  : Bool
  block  : Bytes
  dtc    : Option Nat
  deriving DecidableEq, Repr

/-- The state of a core pair as a launch sets it (R206, R219): the program counter, the integer registers x0 to x31, the floating-point
registers f0 to f31 and the floating-point status. Both cores of the pair hold it. -/
structure CoreS where
  pc   : Word
  x    : List Word
  f    : List Word
  fcsr : Word
  deriving DecidableEq, Repr

/-- The running task of a platform (R219 to R224): its launch, raw times of its start and of its first instruction, the core as the
launch set it, the MPU regions 0 to 15 as set (R208), BUDGET passed, and its ECALL. -/
structure Running where
  l      : Launch
  start  : Nat
  first  : Nat
  core   : CoreS
  mpu    : List Mpu
  overran : Bool
  ending : Option Ending
  deriving DecidableEq, Repr

/-- A platform (R206 to R229). -/
structure PfS where
  cur  : Option Running
  lq   : List Launch
  /-- R214: descriptor offsets queued, oldest first. -/
  phq  : List Nat
  /-- R214: a push that stalls the core. -/
  stalled : Option Nat
  /-- R236: relocation bases of code and data by instance placed here. -/
  code : List (Nat × Nat)
  data : List (Nat × Nat)
  /-- R226: raw time at which the snapshot copy ends. -/
  copyEnd : Nat
  deriving DecidableEq, Repr

/-- Measurements of a task (R239), keyed by 256 × instance + task. -/
structure Meas where
  runs   : Nat
  maxc   : Nat
  hist   : List (Nat × Nat)
  histep : Nat
  himax  : Nat
  dtc    : Nat
  deriving DecidableEq, Repr

/-- A shunt in progress (R249). -/
structure Shunt where
  inst   : Nat
  source : Nat
  target : Nat
  /-- bytes of code and data shares copied so far -/
  copied : Nat
  /-- R249: 1 KiB blocks marked for another copy -/
  marked : List Nat
  /-- R250: time of step 1, ns of the timetable's base. -/
  startNs : Nat
  /-- relocation bases on the target -/
  code   : Nat
  data   : Nat
  deriving DecidableEq, Repr

/-- A place of an instance: its platform and the relocation bases of its code and data shares (R236). -/
structure Place where
  inst : Nat
  pf   : Nat
  code : Nat
  data : Nat
  deriving DecidableEq, Repr

/-- The restart of a quarantined platform's instances (R245, R251). -/
structure Restart where
  /-- Raw time of the quarantine. -/
  since : Nat
  pf    : Nat
  /-- The instances with the relocation bases that they had on the failed platform. -/
  insts : List Place
  /-- The spare that it took, once it has begun. -/
  spare : Option Nat
  deriving DecidableEq, Repr

/-- Marshalling (R236 to R251). -/
structure MarS where
  meas  : List (Nat × Meas)
  /-- R244: raw time of the last event 0x0B04 by task, keyed like the measurements. -/
  alarmAt : List (Nat × Nat)
  shunt : Option Shunt
  /-- R245, R251: restarts to come, in order. -/
  restart : List Restart
  /-- R251: the restart begun last. -/
  begun : Option Restart
  /-- R245: the restart whose images are being copied. -/
  copying : List Place
  /-- R245: places that take effect at the next boundary. -/
  mapWait : List Place
  /-- R248: bytes submitted and moved in the period, by queue; and busy time by mover, ns. -/
  bytes : List (Nat × Nat)
  moved : List (Nat × Nat)
  busy  : List (Nat × Nat)
  /-- R250: raw time before which an instance is not shunted again. -/
  retryAt : List (Nat × Nat)
  /-- R241: shares that take effect at the next boundary: instance, share, CAPPED. -/
  shareWait : List (Nat × Nat × Bool)
  deriving DecidableEq, Repr

/-- A GOOSE template's publication state and progress (R260 to R270). -/
structure GooseS where
  stNum    : Nat
  sqNum    : Nat
  contents : Bytes
  /-- R262: the anchor, ns of the timetable's base. -/
  anchor   : Option Nat
  /-- R262: the next point: its number, nominal time and interval (µs). -/
  point    : Option (Nat × Nat × Nat)
  /-- R260: departure time of the state change. -/
  tchange  : Nat
  /-- R266: raw time of the last event 0x0C03. -/
  notagAt  : Option Nat
  /-- R377: 48-bit frame counter. -/
  frames   : Nat
  /-- R270: cycle and frames sent with nominal times in it. -/
  twCyc    : Nat
  twIdx    : Nat
  /-- R270: points deferred until the owner's task ends. -/
  deferred : Bool
  deriving DecidableEq, Repr

/-- An SV template (R264). `chans` holds the latest element of each channel: (value, qualifier, base ns). -/
structure SvTplS where
  chans  : List (Nat × Int × Nat × Nat)
  asdus  : List (Nat × Nat × List (Int × Nat))
  frames : Nat
  notagAt : Option Nat
  twCyc  : Nat
  twIdx  : Nat
  deriving DecidableEq, Repr

/-- Publication (R256 to R272). -/
structure PubS where
  goose : List (Nat × GooseS)
  sv    : List (Nat × SvTplS)
  /-- R265: frames sent on each pair, by the lower port. -/
  pairSeq : List (Nat × Nat)
  /-- R272: records of the launches of each open cycle: (cycle, departure, instance, bytes). -/
  digRecs : List (Nat × Nat × Nat × Bytes)
  /-- R272: own digests sent and peer digests received, waiting for comparison. -/
  digOwn  : List (Nat × BitVec 64)
  digPeer : List (Nat × BitVec 64)
  /-- R272: raw time of the last event 0x0C02. -/
  divAt   : Option Nat
  deriving DecidableEq, Repr

/-- A recorded sample (R280): sample time in ns of the base, value, qualifier, index (R289 IDX), EPOCH of the base, DCORR of the source when
it was taken. -/
structure RecSample where
  time  : Int
  value : Int
  qual  : Nat
  idx   : Nat
  epoch : Nat
  dcorr : Int
  deriving DecidableEq, Repr

/-- A coded block (R289): recorder channel or 0xFFFF, KIND, SRCID, E, times of its first and last sample and of all of them, DCORR, and its
time stream, quality runs and value stream. `num` is the block number of a history block. -/
structure RBlk where
  chan  : Nat
  kind  : Nat
  src   : Nat
  e     : Nat
  idx   : Nat
  t0    : Int
  tLast : Int
  times : List Int
  dcorr : Int
  tb    : Nat
  epoch : Nat
  n     : Nat
  tstr  : Bytes
  runs  : Bytes
  vals  : Bytes
  num   : Nat
  /-- R355: an uncorrectable error in it: it is sent with TRUNC set -/
  bad   : Bool
  deriving DecidableEq, Repr

/-- A capture in progress or held (R284, R288): cause, detail, T, index and fraction (R285); the end of its window; how it ended;
the number of ACQ_RCAP; when it entered HELD and the triggers counted since; whether its export is queued on the link, complete
or released; whether it ends in IDLE; raw time of its trigger; EPOCH of the base at T; SKEW of the AFE channels, ns, in force when it started
(R298). -/
structure Capture where
  cause    : Nat
  detail   : Nat
  t        : Int
  tidx     : Nat
  frac     : Nat
  endAt    : Int
  trunc    : Bool
  maskStop : Bool
  number   : Nat
  enteredAt : Nat
  heldTrig : Nat
  queued   : Bool
  done     : Bool
  toIdle   : Bool
  startedAt : Nat
  epoch    : Nat
  skew     : List Int
  deriving DecidableEq, Repr

/-- A recorder (R280 to R288). -/
structure RecS where
  /-- the ring: coded blocks, oldest first, and the block in the making of each channel -/
  blocks : List RBlk
  making : List (Nat × List RecSample)
  cap  : Option Capture
  /-- R282: raw time of the last event 0x0F02. -/
  ignAt : Option Nat
  /-- R282: armed when Park was entered. -/
  rearm : Bool
  deriving DecidableEq, Repr

/-- An export that a B reset left to do (R300): its recorder, its messages, whether they are queued on the link. -/
structure OldExp where
  rcd    : Nat
  msgs   : List Msg
  queued : Bool
  deriving DecidableEq, Repr

/-- A conversion of an AFE channel (R295, R298): raw time and departure time, and what converts its code: range, GAIN, OFFSET, ODRIFT and GDRIFT,
and SKEW in ns, as they stood at its start. -/
structure Conv where
  raw    : Nat
  dep    : Int
  range  : Nat
  gain   : Nat
  offset : Int
  odrift : Int
  gdrift : Int
  skew   : Int
  deriving DecidableEq, Repr

/-- Acquisition, history and the AFE (R280 to R299). -/
structure AcqS where
  recs : List (Nat × RecS)
  /-- R286: envelopes by mask. -/
  masks : List (Nat × List Int × List Int)
  /-- R293: history blocks, oldest first; the block in the making of each source; block numbers by source, groups from 4,104. -/
  history : List RBlk
  openHist : List (Nat × List RecSample)
  blockNo : List (Nat × Nat)
  /-- R294: the blocks, by source and number, that the request in progress asks for. -/
  req : Option (List (Nat × Nat))
  /-- R300: exports of captures held when a B reset ran, until they are acknowledged. -/
  oldExp : List OldExp
  /-- R295: by AFE channel, the last conversion. -/
  conv : List (Nat × Conv)
  /-- R295: channels whose result is due. -/
  due  : List Nat
  /-- R296: raw time of the last event 0x1003 by channel, plus 1. -/
  overAt : List (Nat × Nat)
  /-- R289: conversions since activation by channel. -/
  convCnt : List (Nat × Nat)
  /-- R297: the calibration page. -/
  page : Bytes
  /-- R298: a page write in progress, with its request. -/
  pageWr : Option (Bytes × Hdr)
  /-- R300: a page write that waits for stage 0x07 to end. -/
  pageHeld : Option (Bytes × Hdr)
  deriving DecidableEq, Repr

/-- RETAIN image (R319): the RETAIN range of each instance in the order of the instance table, with the PATH and the TYPEHASH of the instance that
it belongs to (R76, R320). -/
structure RetImg where
  parts : List (Bytes × Nat × Bytes)
  deriving DecidableEq, Repr

/-- The logic engine (R305 to R320). -/
structure LgeS where
  prog  : Option Prog
  /-- R305: instance memory. -/
  mem   : Bytes
  /-- R308: the latched input image. -/
  image : Bytes
  /-- R309: the committed output image. -/
  out   : Bytes
  /-- R307: departure (base ns), raw time and cycle number of the cycle in progress. -/
  cyc   : Option (Nat × Nat × Nat)
  /-- R310: logic departures counted since the last executed cycle, and credit of the next in µs when fixed. -/
  since : Nat
  fresh : Bool
  /-- R311: skipped in a row, and SKIPPED, which no register shows. -/
  skips : Nat
  skipped : Nat
  /-- R316: pending mode command: 1 RUN, 2 STOP. -/
  cmd   : Nat
  /-- R316: HOLD asked, STEP asked. -/
  hold  : Bool
  step  : Bool
  /-- R316: execution is paused. -/
  paused : Bool
  /-- R317: restart requested: 1 cold, 2 warm. -/
  restart : Nat
  /-- R308: restart kind reported to the next cycle. -/
  report : Nat
  /-- R320: a prepared exchange. -/
  xchg  : Option Prog
  /-- R319: the newest RETAIN images: last commit, staged in DRAM, written to MRAM. -/
  retCommit : Option RetImg
  retStaged : Option RetImg
  retMram   : Option RetImg
  /-- R355: the RETAIN image staged before `retStaged`. -/
  retPrior  : Option RetImg
  /-- R319: raw time of the last staging. -/
  stagedAt : Option Nat
  /-- R342: images written without their semaphore. -/
  semWait : Nat
  deriving DecidableEq, Repr

/-- A halt (R322 to R326). -/
structure HaltS where
  inp   : Nat
  ai    : List Word
  aq    : Bytes
  miss  : Nat
  good  : Nat
  replied : Bool
  /-- R324: input time, ns of HLX_CTRL.TB. -/
  time  : Int
  deriving DecidableEq, Repr

/-- The halt exchange (R321 to R326). -/
structure HlxS where
  halts : List (Nat × HaltS)
  /-- R322: raw time at which the open window closes, and of the start of the latest exchange. -/
  open_ : Option Nat
  startAt : Option Nat
  /-- R322: the completed image: binary inputs, analogue values and qualities, status, by halt. -/
  done  : Bytes
  /-- R323: a request has been sent since the last restart. -/
  begun : Bool
  deriving DecidableEq, Repr

/-- A mailbox message (R340). -/
structure MbMsg where
  op   : Nat
  data : Bytes
  deriving DecidableEq, Repr

/-- An image of an instance: checkpoint bytes, publication state, TRIP and FAULTDET (R226, R263, R391). -/
structure Snap where
  ckpt  : Bytes
  pub   : List (Nat × GooseS)
  trip  : Word
  fault : Bool
  dhash : Nat
  at_   : Nat
  deriving DecidableEq, Repr

/-- An instance (R333 to R344). -/
structure InstS where
  inbox  : List MbMsg
  outbox : List MbMsg
  door   : Bool
  oful   : Bool
  /-- R341: raw time of the last event 0x1304 by direction. -/
  mbAt   : List (Nat × Nat)
  /-- R224: the last commit: TRIP, FAULTDET. -/
  trip   : Word
  fault  : Bool
  committed : Bool
  /-- R226: raw time of the last snapshot; staged snapshot; the one written to MRAM. -/
  snapAt : Option Nat
  staged : Option Snap
  mram   : Option Snap
  /-- R226, R355: the other staging buffer: the snapshot before `staged`. -/
  prior  : Option Snap
  /-- R339: where a reset leads: 1 DECLARED, 2 RUNNING, 3 FAULTED. -/
  goal   : Nat
  /-- R338: heap size waiting for its channels to end. -/
  heapWait : Option Nat
  /-- R217: by ring input, the first grid index written since the ring was empty. -/
  ringFrom : List (Nat × Nat)
  /-- R355: the master image has an uncorrectable error. -/
  imageBad : Bool
  /-- R246: a restart found no place: it stays stopped until the next P, W, M or B reset. -/
  stranded : Bool
  deriving DecidableEq, Repr

/-- A DMA channel with its queue (R345 to R351). -/
structure ChanS where
  /-- R349: submitted descriptor addresses divided by 32, oldest first. -/
  subs : List Word
  /-- R348: the frame that the receive descriptor at the head got. -/
  rx : Option (Bytes × Nat × Word)
  /-- R350: address of the descriptor in the registers; none when it was written there. -/
  tail : Option Nat
  /-- R339: it runs to the end of its descriptor under a reset. -/
  draining : Bool
  /-- R351: halted by a bus error whose ABORT writes 0x02. -/
  busErr : Bool
  /-- R352: since when it waits for the mover. -/
  since : Option Nat
  /-- R130: the egress stamp of the frame submitted was lost. -/
  stampLost : Bool
  /-- R351: bytes of the descriptor moved before a bus error, and those of a frame to send. -/
  moved : Nat
  head : Bytes
  deriving DecidableEq, Repr

/-- Arbiters (R352 to R354): grants so far, the owner of the grant, since when each client waits, raw time from which the grant
is still to be charged: that of the grant, or of a decision period since. -/
structure ArbS where
  grants : Nat
  owner  : Option Nat
  since  : List (Nat × Nat)
  at_    : Nat
  deriving DecidableEq, Repr

/-- What is written to MRAM inside windows: a checkpoint with its publication state (R226, R263), a RETAIN image (R319). -/
inductive Image where
  | ckpt (inst : Nat) (snap : Snap)
  | retain (image : RetImg)
  deriving DecidableEq, Repr

/-- An image being written to MRAM (R46, R47): the bytes written so far and, when its last byte is written inside the window, the raw
time of that; none when the window ends before. -/
structure MramWrite where
  image : Image
  done : Nat
  finish : Option Nat
  deriving DecidableEq, Repr

/-- Instances, movers and the arbiters (R333 to R354). -/
structure InsS where
  insts : List (Nat × InstS)
  chans : List (Nat × ChanS)
  arbs  : List (Nat × ArbS)
  /-- R352: decisions so far. -/
  order : Nat
  /-- R46, R47: images whose write to MRAM has begun and is not complete. -/
  writes : List MramWrite
  deriving DecidableEq, Repr

/-- A key with its attributes (R366). -/
structure Key where
  key : Bytes
  alg : Nat
  use : Nat
  att : Bool
  kcv : Bytes
  deriving DecidableEq, Repr

/-- A key slot (R366, R373, R377). -/
structure KSlot where
  active  : Option Key
  cand    : Option Key
  commits : Nat
  inv     : Nat
  deriving DecidableEq, Repr

/-- A root record of the antifuse array (R364). -/
structure RootRec where
  bits   : Bytes
  crc    : Word
  touched : Bool
  fuse   : Bool
  deriving DecidableEq, Repr

/-- The vault (R363 to R379). -/
structure VltS where
  roots   : List RootRec
  root    : Option Bytes
  slots   : List (Nat × KSlot)
  anchors : List (Nat × Bytes)
  /-- R365: the provisioning fuse. -/
  provFuse : Bool
  /-- R378: TAG of the SELFTEST request in progress. -/
  testing : Option Word
  deriving DecidableEq, Repr

/-- What a module knows of a position (R386 to R389). -/
structure PosS where
  heardAt : Option Nat
  rseq    : Nat
  /-- renewals sent and not acknowledged: (RSEQ, raw send time) -/
  sent    : List (Nat × Nat)
  mine    : Nat
  deriving DecidableEq, Repr

/-- The redundancy controller (R381 to R397). -/
structure TokS where
  posA  : PosS
  posB  : PosS
  /-- R388: raw time at which HEARD was set. -/
  heardAt : Option Nat
  /-- R389: highest TAKESEQ heard. -/
  maxTake : Nat
  /-- R387: raw time at which the lease expires. -/
  lease : Option Nat
  /-- R391, R392: raw time of the last checkpoint set sent and of the last write of the mirror. -/
  streamAt : Option Nat
  mirrorAt : Option Nat
  /-- R383: SEQ by TYPE. -/
  seqs  : List (Nat × Nat)
  /-- R383: tuples seen: (SERIAL, TYPE, SEQ, raw time). -/
  seen  : List (Nat × Nat × Nat × Nat)
  /-- R384: raw time of the last frame of the peer on TW0 and TW1. -/
  peerAt : List (Nat × Nat)
  /-- R386: raw time of the last renewal departure. -/
  renewAt : Nat
  /-- R391: partial images by instance and accepted images. -/
  partial_ : List (Nat × Nat × Bytes)
  images : List (Nat × Snap)
  period : Nat
  /-- R398: the images accepted before the set in hand, and the instances whose image of that set has been accepted. -/
  prevImages : List (Nat × Snap)
  setGot : List Nat
  /-- R392: the RETAIN mirror, the logic cycle of its last lines plus 1, and the lines received since the last gap, as a mask. -/
  mirror : Bytes
  mirrorCyc : Nat
  mirrorWhole : Nat
  /-- R392: lines of the whole image still to send, and the image last sent. -/
  sendFrom : Option Nat
  lastRet : Bytes
  /-- R394: raw time of the take; its starts are still to be done in the wake; the first departure after it is still to come. -/
  takeAt : Option Nat
  taken : Bool
  resume : Bool
  /-- R387: SOLO ends at the first frame after the take. -/
  solo   : Bool
  deriving DecidableEq, Repr

end Sys2Proof.Machine
end

