-- ==== Sys2Proof/Machine/Init.lean ====
section
/-!
DEFINITION. The records of State as a P reset leaves them: nothing waiting, nothing counted, nothing in progress. A record
that a sparse table does not list reads as the record here.
-/
namespace Sys2Proof.Machine

/-- `ClsTx` at reset. -/
def ClsTx.init : ClsTx :=
  { next := 0, q := [], since := 0 }

/-- `ClsRx` at reset. -/
def ClsRx.init : ClsRx :=
  { expect := 0, taken := false }

/-- `Junc` at reset. -/
def Junc.init : Junc :=
  { fifo := [], stalled := [] }

/-- `LinkS` at reset. -/
def LinkS.init : LinkS :=
  { tx := [], rx := [], fails := 0, trained := false, evq := [], evSince := 0, sends := 0, order := 0,
    line := none, wire := [], earlyRaised := false, mirror := [], mirrorAt := 0, reads := [], cfgLast := none, junc := [], shadow := [] }

/-- `HostS` at reset. -/
def HostS.init : HostS :=
  { ready := false, suspended := false, resetHeld := false, resets := 0, hlResets := 0, alive := none, low := [],
    reneg := [], upDue := [], declRate := [], mtHalf := false, attempts := 0, roll := none, rollEnd := 0, carrier := 0,
    mirror := [], mirrorAt := none, events := [] }

/-- `PowerS` at reset. -/
def PowerS.init : PowerS :=
  { powered := false, vin := 0, store := 0, storeAt := 0, kind := none, retries := 0, paused := false, rstHeld := false, stopMarker := none,
    ckptDigest := none, voided := false, parkHeld := false, parkWait := false, flushing := false, wdt3 := none,
    wdEvent := [], drift := [], stampDraw := none }

/-- `Slot` at reset. -/
def Slot.init : Slot :=
  { image := [], valid := false, journal := [] }

/-- `RbkS` at reset. -/
def RbkS.init : RbkS :=
  { slotA := Slot.init, slotB := Slot.init, ptr := 0, pending := none, openLen := 0, actWait := none,
    flushing := false, active := none, digest := [], anchorIdx := 0, amd := [], oldCurve := [], recWait := [] }

/-- `PortS` at reset. -/
def PortS.init : PortS :=
  { txq := [], cur := none, curAt := 0, pause := none, hand := none, sent := none, badCrc := false, pq := [], gq := [], heard := none, ptpSeq := 0,
    tc := [], ftGood := 0, ftBad := 0 }

/-- `TripS` at reset. -/
def TripS.init : TripS :=
  { closedAt := none, ownerReset := false, overOff := false }

/-- `TbS` at reset. -/
def TbS.init : TbS :=
  { running := false, acc := 0, inLim := 0, outLim := 0, integ := 0, hist := [], segAt := 0, wasLocked := false,
    slave := none, decl := [] }

/-- `TinS` at reset. -/
def TinS.init : TinS :=
  { lastEdge := none, bad := 0, good := 0, tout := none, sbOut := [], sbStamps := [] }

/-- `TtbS` at reset. -/
def TtbS.init : TtbS :=
  { checked := false, readyAt := 0, lastDep := [], startAt := none, cyc := 0, served := [], lastAt := 0, window := 0 }

/-- `StreamS` at reset. -/
def StreamS.init : StreamS :=
  { next := 0, cnt := 0, recent := [], lastTnom := 0, sinceAnchor := 0, tnoms := [], run := 0, good := 0, reportAt := none,
    reported := 0 }

/-- `SviS` at reset. -/
def SviS.init : SviS :=
  { urgent := [], normal := [], win := 0, count := 0, loadAt := none, dup := [], streams := [] }

/-- `LaneS` at reset. -/
def LaneS.init : LaneS :=
  { inq := [], hist := [], dly := 0, slew := none, dc := 0, dcReq := none, dcPend := false, switched := 0,
    integ := [], comb := [], fir := [], bank := 0, fade := none, outs := [], window := [], written := none,
    last := none, cmp := 0, ownerReset := false, nextGrid := 0 }

/-- `GroupS` at reset. -/
def GroupS.init : GroupS :=
  { t0 := none, grid := [], f := 0, back := [], refs := [], win := [], prev := none, good := 0, cycOk := false,
    holdOver := false, nk := 0, idx := 0, marks := [] }

/-- `FchS` at reset. -/
def FchS.init : FchS :=
  { lanes := [], groups := [], frzAt := [], banks := [], switches := [] }

/-- `PfS` at reset. -/
def PfS.init : PfS :=
  { cur := none, lq := [], phq := [], stalled := none, code := [], data := [], copyEnd := 0 }

/-- `Meas` at reset. -/
def Meas.init : Meas :=
  { runs := 0, maxc := 0, hist := [], histep := 0, himax := 0, dtc := 0 }

/-- `MarS` at reset. -/
def MarS.init : MarS :=
  { meas := [], alarmAt := [], shunt := none, restart := [], begun := none, copying := [], mapWait := [], bytes := [], moved := [], busy := [],
    retryAt := [], shareWait := [] }

/-- `GooseS` at reset. -/
def GooseS.init : GooseS :=
  { stNum := 0, sqNum := 0, contents := [], anchor := none, point := none, tchange := 0, notagAt := none,
    frames := 0, twCyc := 0, twIdx := 0, deferred := false }

/-- `SvTplS` at reset. -/
def SvTplS.init : SvTplS :=
  { chans := [], asdus := [], frames := 0, notagAt := none, twCyc := 0, twIdx := 0 }

/-- `PubS` at reset. -/
def PubS.init : PubS :=
  { goose := [], sv := [], pairSeq := [], digRecs := [], digOwn := [], digPeer := [], divAt := none }

/-- `RecS` at reset. -/
def RecS.init : RecS :=
  { blocks := [], making := [], cap := none, ignAt := none, rearm := false }

/-- `AcqS` at reset. -/
def AcqS.init : AcqS :=
  { recs := [], masks := [], history := [], openHist := [], blockNo := [], req := none, oldExp := [], conv := [],
    due := [], overAt := [], convCnt := [], page := [], pageWr := none, pageHeld := none }

/-- `LgeS` at reset. -/
def LgeS.init : LgeS :=
  { prog := none, mem := [], image := [], out := [], cyc := none, since := 0, fresh := false, skips := 0, skipped := 0,
    cmd := 0, hold := false, step := false, paused := false, restart := 0, report := 0, xchg := none,
    retCommit := none, retStaged := none, retMram := none, retPrior := none, stagedAt := none, semWait := 0 }

/-- `HaltS` at reset. -/
def HaltS.init : HaltS :=
  { inp := 0, ai := [], aq := [], miss := 0, good := 0, replied := false, time := 0 }

/-- `HlxS` at reset. -/
def HlxS.init : HlxS :=
  { halts := [], open_ := none, startAt := none, done := [], begun := false }

/-- `InstS` at reset. -/
def InstS.init : InstS :=
  { inbox := [], outbox := [], door := false, oful := false, mbAt := [], trip := 0, fault := false,
    committed := false, snapAt := none, staged := none, mram := none, prior := none, goal := 0, heapWait := none,
    ringFrom := [], imageBad := false, stranded := false }

/-- `ChanS` at reset. -/
def ChanS.init : ChanS :=
  { subs := [], rx := none, tail := none, draining := false, busErr := false, since := none, stampLost := false,
    moved := 0, head := [] }

/-- `ArbS` at reset. -/
def ArbS.init : ArbS :=
  { grants := 0, owner := none, since := [], at_ := 0 }

/-- `InsS` at reset. -/
def InsS.init : InsS :=
  { insts := [], chans := [], arbs := [], order := 0, writes := [] }

/-- `KSlot` at reset. -/
def KSlot.init : KSlot :=
  { active := none, cand := none, commits := 0, inv := 0 }

/-- `VltS` at reset. -/
def VltS.init : VltS :=
  { roots := [], root := none, slots := [], anchors := [], provFuse := false, testing := none }

/-- `PosS` at reset. -/
def PosS.init : PosS :=
  { heardAt := none, rseq := 0, sent := [], mine := 0 }

/-- `TokS` at reset. -/
def TokS.init : TokS :=
  { posA := PosS.init, posB := PosS.init, heardAt := none, maxTake := 0, lease := none, seqs := [], seen := [],
    peerAt := [], renewAt := 0, partial_ := [], images := [], period := 0, prevImages := [], setGot := [],
    mirror := [], mirrorCyc := 0, mirrorWhole := 0, streamAt := none, mirrorAt := none, sendFrom := none, lastRet := [], takeAt := none,
    taken := false, resume := false, solo := false }

end Sys2Proof.Machine
end

