-- ==== Sys2Proof/Machine/Fields.lean ====
section
/-!
DEFINITION. Every register field of the manual, by the name the manual gives it: address, lowest bit, width, access,
reset value and cleared-by mask (1 P, 2 W, 4 M, 8 B, 16 I), copied from the register tables. A field of an array of
registers takes the indexes of its page and register, in the order of the manual. The names ending in LIVE are the parts of
wide counters that a HI register shows only when latched.
Sources: R39 XNG, R62 PWR, R84 RBK, R91 R107 R109 R110 PRT, R111 R133 SBP and MTP, R136 R137 R138 TSU, R156 R157 TTB,
R160 R178 R179 SVI, R203 R204 R205 FCH, R232 R233 R234 PFM, R235 R302 R360 LCL, R252 R253 R254 R255 MAR,
R276 R277 R278 R279 PUB, R301 R302 R303 ACQ, R304 AFE, R329 R330 LGE, R331 R332 HLX, R358 R359 INS, R361 R362 DMX MEM,
R380 VLT, R400 TOK.
-/
namespace Sys2Proof.Machine

def F.XNG_STATUS_UP : Fld := ⟨0x01E00000, 0, 1, .ro, 0, 7⟩
def F.XNG_STATUS_TRAIN : Fld := ⟨0x01E00000, 1, 1, .ro, 0, 7⟩
def F.XNG_STATUS_EARLY : Fld := ⟨0x01E00000, 2, 1, .ro, 1, 7⟩
def F.XNG_STATUS_LANES : Fld := ⟨0x01E00000, 4, 4, .ro, 0, 7⟩
def F.XNG_STATUS_RETRAINS : Fld := ⟨0x01E00000, 8, 8, .ro, 0, 7⟩
def F.XNG_ERRCNT_CRC : Fld := ⟨0x01E00004, 0, 16, .w1c, 0, 7⟩
def F.XNG_ERRCNT_RESENT : Fld := ⟨0x01E00004, 16, 16, .w1c, 0, 7⟩
def F.XNG_REFUSED_LASTCODE : Fld := ⟨0x01E00008, 0, 8, .ro, 0, 7⟩
def F.XNG_REFUSED_EARLY : Fld := ⟨0x01E00008, 8, 8, .w1c, 0, 7⟩
def F.XNG_REFUSED_EVLOST : Fld := ⟨0x01E00008, 16, 16, .w1c, 0, 7⟩
def F.XNG_BADMSG_COUNT : Fld := ⟨0x01E0000C, 0, 16, .w1c, 0, 7⟩
def F.PWR_STAGE : Fld := ⟨0x01000000, 0, 8, .ro, 1, 7⟩
def F.PWR_STAGE_FAILED : Fld := ⟨0x01000000, 8, 1, .ro, 0, 7⟩
def F.PWR_STAGE_CFG : Fld := ⟨0x01000000, 9, 1, .ro, 0, 7⟩
def F.PWR_STAGE_READY : Fld := ⟨0x01000000, 10, 1, .ro, 0, 7⟩
def F.PWR_STAGE_CALFAIL : Fld := ⟨0x01000000, 12, 4, .ro, 0, 7⟩
def F.PWR_STATE : Fld := ⟨0x01000004, 0, 2, .ro, 0, 7⟩
def F.PWR_STATE_HOLDUP : Fld := ⟨0x01000004, 2, 1, .ro, 0, 7⟩
def F.PWR_STATE_HUC_OK : Fld := ⟨0x01000004, 3, 1, .ro, 0, 7⟩
def F.PWR_STATE_VIN : Fld := ⟨0x01000004, 8, 12, .ro, 0, 7⟩
def F.PWR_STATE_STORE : Fld := ⟨0x01000004, 20, 12, .ro, 0, 7⟩
def F.PWR_CAUSE_KIND : Fld := ⟨0x01000008, 0, 3, .ro, 0, 0⟩
def F.PWR_CAUSE_SOURCE : Fld := ⟨0x01000008, 4, 4, .ro, 0, 0⟩
def F.PWR_CAUSE_WDOG : Fld := ⟨0x01000008, 8, 4, .ro, 0, 0⟩
def F.PWR_CMD_PARK : Fld := ⟨0x0100000C, 0, 1, .wo, 0, 0⟩
def F.PWR_CMD_WAKE : Fld := ⟨0x0100000C, 1, 1, .wo, 0, 0⟩
def F.PWR_CMD_MRESET : Fld := ⟨0x0100000C, 2, 1, .wo, 0, 0⟩
def F.PWR_CMD_VOID : Fld := ⟨0x0100000C, 3, 1, .wo, 0, 0⟩
def F.PWR_CMD_KEY : Fld := ⟨0x0100000C, 16, 16, .wo, 0, 0⟩
def F.PWR_WDT_MGR : Fld := ⟨0x01000010, 0, 8, .rw, 0, 7⟩
def F.PWR_WDT_KICKS : Fld := ⟨0x01000010, 8, 8, .ro, 0, 7⟩
def F.RBK_STATUS_ACTIVE : Fld := ⟨0x01020000, 0, 1, .ro, 0, 7⟩
def F.RBK_STATUS_VALID_A : Fld := ⟨0x01020000, 1, 1, .ro, 0, 7⟩
def F.RBK_STATUS_VALID_B : Fld := ⟨0x01020000, 2, 1, .ro, 0, 7⟩
def F.RBK_STATUS_PENDING : Fld := ⟨0x01020000, 3, 1, .ro, 0, 7⟩
def F.RBK_STATUS_ENC : Fld := ⟨0x01020000, 4, 1, .ro, 0, 7⟩
def F.RBK_STATUS_LOADST : Fld := ⟨0x01020000, 8, 4, .ro, 0, 7⟩
def F.RBK_RXLEN : Fld := ⟨0x01020004, 0, 25, .ro, 0, 7⟩
def F.RBK_FAIL_CODE : Fld := ⟨0x01020008, 0, 8, .ro, 0, 7⟩
def F.RBK_FAIL_SLOT : Fld := ⟨0x01020008, 8, 1, .ro, 0, 7⟩
def F.RBK_FAIL_SECT : Fld := ⟨0x01020008, 16, 16, .ro, 0, 7⟩
def F.RBK_SERIAL : Fld := ⟨0x0102000C, 0, 32, .ro, 0, 7⟩
def F.RBK_DIGEST (i : Nat) : Fld := ⟨0x01020020 + 0x4 * i, 0, 32, .ro, 0, 7⟩
def F.RBK_AMD_SEQ_ASEQ : Fld := ⟨0x01020040, 0, 32, .ro, 0, 15⟩
def F.RBK_AMD_STAT_CODE : Fld := ⟨0x01020044, 0, 8, .ro, 0, 15⟩
def F.RBK_AMD_STAT_SECT : Fld := ⟨0x01020044, 8, 8, .ro, 0, 15⟩
def F.RBK_AMD_STAT_JUSE : Fld := ⟨0x01020044, 16, 13, .ro, 0, 15⟩
def F.RBK_CNT_REFUSED : Fld := ⟨0x01020048, 0, 16, .ro, 0, 15⟩
def F.RBK_CNT_AMDOK : Fld := ⟨0x01020048, 16, 16, .ro, 0, 15⟩
def F.PRT_EXM_ADDR_LO (i : Nat) : Fld := ⟨0x01120000 + 0x10 * i, 0, 32, .rwl, 0, 15⟩
def F.PRT_EXM_ADDR_HI (i : Nat) : Fld := ⟨0x01120004 + 0x10 * i, 0, 16, .rwl, 0, 15⟩
def F.PRT_EXM_VALID (i : Nat) : Fld := ⟨0x01120004 + 0x10 * i, 31, 1, .rwl, 0, 15⟩
def F.PRT_EXM_PORTS (i : Nat) : Fld := ⟨0x01120008 + 0x10 * i, 0, 18, .rwl, 0, 15⟩
def F.PRT_EXM_DEST (i : Nat) : Fld := ⟨0x0112000C + 0x10 * i, 0, 2, .rwl, 0, 15⟩
def F.PRT_EXM_QUEUE (i : Nat) : Fld := ⟨0x0112000C + 0x10 * i, 8, 5, .rwl, 0, 15⟩
def F.PRT_HASH_BINS (i : Nat) : Fld := ⟨0x01124000 + 0x4 * i, 0, 32, .rwl, 0, 15⟩
def F.PRT_CTRL_MODE (i : Nat) : Fld := ⟨0x01100000 + 0x1000 * i, 0, 4, .rwl, 0, 15⟩
def F.PRT_CTRL_AN (i : Nat) : Fld := ⟨0x01100000 + 0x1000 * i, 4, 1, .rwl, 0, 15⟩
def F.PRT_CTRL_PAUSE_EN (i : Nat) : Fld := ⟨0x01100000 + 0x1000 * i, 5, 1, .rwl, 0, 15⟩
def F.PRT_CTRL_BCAST (i : Nat) : Fld := ⟨0x01100000 + 0x1000 * i, 6, 1, .rwl, 0, 15⟩
def F.PRT_CTRL_PAIR (i : Nat) : Fld := ⟨0x01100000 + 0x1000 * i, 8, 2, .rwl, 0, 15⟩
def F.PRT_STATUS_LINK (i : Nat) : Fld := ⟨0x01100004 + 0x1000 * i, 0, 1, .ro, 0, 7⟩
def F.PRT_STATUS_PAUSED (i : Nat) : Fld := ⟨0x01100004 + 0x1000 * i, 1, 1, .ro, 0, 7⟩
def F.PRT_STATUS_SNF (i : Nat) : Fld := ⟨0x01100004 + 0x1000 * i, 2, 1, .ro, 0, 15⟩
def F.PRT_STATUS_RATE (i : Nat) : Fld := ⟨0x01100004 + 0x1000 * i, 8, 3, .ro, 0, 7⟩
def F.PRT_TXTHR_START (i : Nat) : Fld := ⟨0x01100008 + 0x1000 * i, 0, 11, .rw, 0x100, 15⟩
def F.PRT_PRIMAP_MAP (i : Nat) : Fld := ⟨0x0110000C + 0x1000 * i, 0, 24, .rwl, 0xFAC688, 15⟩
def F.PRT_PAUSE_QUANTA (i : Nat) : Fld := ⟨0x01100010 + 0x1000 * i, 0, 16, .ro, 0, 7⟩
def F.PRT_MAC_LO_ADDR_LO (i : Nat) : Fld := ⟨0x01100018 + 0x1000 * i, 0, 32, .rwl, 0, 15⟩
def F.PRT_MAC_HI_ADDR_HI (i : Nat) : Fld := ⟨0x0110001C + 0x1000 * i, 0, 16, .rwl, 0, 15⟩
def F.PRT_RXFRM_LO (i : Nat) : Fld := ⟨0x01100040 + 0x1000 * i, 0, 32, .ro, 0, 7⟩
def F.PRT_RXFRM_HI (i : Nat) : Fld := ⟨0x01100044 + 0x1000 * i, 0, 16, .ro, 0, 7⟩
def F.PRT_RXOCT_LO (i : Nat) : Fld := ⟨0x01100048 + 0x1000 * i, 0, 32, .ro, 0, 7⟩
def F.PRT_RXOCT_HI (i : Nat) : Fld := ⟨0x0110004C + 0x1000 * i, 0, 16, .ro, 0, 7⟩
def F.PRT_TXFRM_LO (i : Nat) : Fld := ⟨0x01100050 + 0x1000 * i, 0, 32, .ro, 0, 7⟩
def F.PRT_TXFRM_HI (i : Nat) : Fld := ⟨0x01100054 + 0x1000 * i, 0, 16, .ro, 0, 7⟩
def F.PRT_TXOCT_LO (i : Nat) : Fld := ⟨0x01100058 + 0x1000 * i, 0, 32, .ro, 0, 7⟩
def F.PRT_TXOCT_HI (i : Nat) : Fld := ⟨0x0110005C + 0x1000 * i, 0, 16, .ro, 0, 7⟩
def F.PRT_MCDROP_LO (i : Nat) : Fld := ⟨0x01100060 + 0x1000 * i, 0, 32, .ro, 0, 7⟩
def F.PRT_MCDROP_HI (i : Nat) : Fld := ⟨0x01100064 + 0x1000 * i, 0, 16, .ro, 0, 7⟩
def F.PRT_CRCERR (i : Nat) : Fld := ⟨0x01100080 + 0x1000 * i, 0, 16, .w1c, 0, 7⟩
def F.PRT_LENERR (i : Nat) : Fld := ⟨0x01100084 + 0x1000 * i, 0, 16, .w1c, 0, 7⟩
def F.PRT_RXOVF (i : Nat) : Fld := ⟨0x01100088 + 0x1000 * i, 0, 16, .w1c, 0, 7⟩
def F.PRT_UNDERRUN (i : Nat) : Fld := ⟨0x0110008C + 0x1000 * i, 0, 16, .w1c, 0, 7⟩
def F.PRT_PAUSERX (i : Nat) : Fld := ⟨0x01100090 + 0x1000 * i, 0, 16, .w1c, 0, 7⟩
def F.PRT_LINKDN (i : Nat) : Fld := ⟨0x01100094 + 0x1000 * i, 0, 16, .w1c, 0, 7⟩
def F.PRT_FTCTRL_RATE (i : Nat) : Fld := ⟨0x01112000 + 0x1000 * i, 0, 2, .rwl, 3, 15⟩
def F.PRT_FTCTRL_INV (i : Nat) : Fld := ⟨0x01112000 + 0x1000 * i, 2, 1, .rwl, 0, 15⟩
def F.PRT_FTCTRL_DSLEN (i : Nat) : Fld := ⟨0x01112000 + 0x1000 * i, 8, 8, .rwl, 0, 15⟩
def F.PRT_FTSTATUS_SYNC (i : Nat) : Fld := ⟨0x01112004 + 0x1000 * i, 0, 1, .ro, 0, 7⟩
def F.PRT_FTFRM_LO (i : Nat) : Fld := ⟨0x01112040 + 0x1000 * i, 0, 32, .ro, 0, 7⟩
def F.PRT_FTFRM_HI (i : Nat) : Fld := ⟨0x01112044 + 0x1000 * i, 0, 16, .ro, 0, 7⟩
def F.PRT_FTCRC_CRCERR (i : Nat) : Fld := ⟨0x01112080 + 0x1000 * i, 0, 16, .w1c, 0, 7⟩
def F.PRT_FTSYNC_SYNCLOSS (i : Nat) : Fld := ⟨0x01112084 + 0x1000 * i, 0, 16, .w1c, 0, 7⟩
def F.PRT_TRIP_CMD (i : Nat) : Fld := ⟨0x01118000 + 0x4 * i, 0, 1, .ro, 0, 7⟩
def F.PRT_TRIP_ON (i : Nat) : Fld := ⟨0x01118000 + 0x4 * i, 1, 1, .ro, 0, 7⟩
def F.PRT_TRIP_FORCED (i : Nat) : Fld := ⟨0x01118000 + 0x4 * i, 2, 1, .ro, 1, 7⟩
def F.PRT_TRIP_OPENLOAD (i : Nat) : Fld := ⟨0x01118000 + 0x4 * i, 3, 1, .ro, 0, 7⟩
def F.PRT_TRIP_OVERLOAD (i : Nat) : Fld := ⟨0x01118000 + 0x4 * i, 4, 1, .ro, 0, 7⟩
def F.PRT_TRIP_MINON (i : Nat) : Fld := ⟨0x01118000 + 0x4 * i, 8, 8, .rwl, 0, 15⟩
def F.PRT_TRIP_OWNER (i : Nat) : Fld := ⟨0x01118000 + 0x4 * i, 16, 6, .rwl, 0, 15⟩
def F.PRT_TRIP_OUTBIT (i : Nat) : Fld := ⟨0x01118000 + 0x4 * i, 24, 5, .rwl, 0, 15⟩
def F.TSU_TB_CTRL_SRC (i : Nat) : Fld := ⟨0x01200000 + 0x100 * i, 0, 3, .rwl, 0, 15⟩
def F.TSU_TB_CTRL_LEADER (i : Nat) : Fld := ⟨0x01200000 + 0x100 * i, 4, 2, .rwl, 0, 15⟩
def F.TSU_TB_CTRL_STEPINH (i : Nat) : Fld := ⟨0x01200000 + 0x100 * i, 8, 1, .rwl, 0, 15⟩
def F.TSU_TB_STATUS_STATE (i : Nat) : Fld := ⟨0x01200004 + 0x100 * i, 0, 2, .ro, 0, 3⟩
def F.TSU_TB_STATUS_EPOCH (i : Nat) : Fld := ⟨0x01200004 + 0x100 * i, 8, 8, .ro, 0, 3⟩
def F.TSU_TB_NS (i : Nat) : Fld := ⟨0x01200008 + 0x100 * i, 0, 30, .ro, 0, 3⟩
def F.TSU_TB_SECLO (i : Nat) : Fld := ⟨0x0120000C + 0x100 * i, 0, 32, .ro, 0, 3⟩
def F.TSU_TB_SECHI (i : Nat) : Fld := ⟨0x01200010 + 0x100 * i, 0, 16, .ro, 0, 3⟩
def F.TSU_TB_WRAP (i : Nat) : Fld := ⟨0x01200014 + 0x100 * i, 0, 32, .ro, 0, 3⟩
def F.TSU_TB_OFFSET (i : Nat) : Fld := ⟨0x01200018 + 0x100 * i, 0, 32, .ro, 0, 3⟩
def F.TSU_TB_FREQ (i : Nat) : Fld := ⟨0x0120001C + 0x100 * i, 0, 32, .ro, 0, 3⟩
def F.TSU_TB_STEPTHR (i : Nat) : Fld := ⟨0x01200020 + 0x100 * i, 0, 20, .rwl, 0x3E8, 15⟩
def F.TSU_TB_HOLD (i : Nat) : Fld := ⟨0x01200024 + 0x100 * i, 0, 16, .rwl, 0x12C, 15⟩
def F.TSU_TB_LOFS (i : Nat) : Fld := ⟨0x01200028 + 0x100 * i, 0, 32, .rwl, 0, 15⟩
def F.TSU_TB_SETSEC_LO_SEC (i : Nat) : Fld := ⟨0x0120002C + 0x100 * i, 0, 32, .rw, 0, 7⟩
def F.TSU_TB_SETSEC_HI_SEC (i : Nat) : Fld := ⟨0x01200030 + 0x100 * i, 0, 16, .rw, 0, 7⟩
def F.TSU_TB_SETSEC_HI_GO (i : Nat) : Fld := ⟨0x01200030 + 0x100 * i, 31, 1, .w1s, 0, 7⟩
def F.TSU_TB_CNT_STEPS (i : Nat) : Fld := ⟨0x01200034 + 0x100 * i, 0, 16, .w1c, 0, 7⟩
def F.TSU_TB_CNT_LOSSES (i : Nat) : Fld := ⟨0x01200034 + 0x100 * i, 16, 16, .w1c, 0, 7⟩
def F.TSU_TB_PTP_PROFILE (i : Nat) : Fld := ⟨0x01200040 + 0x100 * i, 0, 2, .rwl, 0, 15⟩
def F.TSU_TB_PTP_ROLE (i : Nat) : Fld := ⟨0x01200040 + 0x100 * i, 2, 2, .rwl, 0, 15⟩
def F.TSU_TB_PTP_P2P (i : Nat) : Fld := ⟨0x01200040 + 0x100 * i, 4, 1, .rwl, 1, 15⟩
def F.TSU_TB_PTP_TWOSTEP (i : Nat) : Fld := ⟨0x01200040 + 0x100 * i, 5, 1, .rwl, 0, 15⟩
def F.TSU_TB_PTP_DOMAIN (i : Nat) : Fld := ⟨0x01200040 + 0x100 * i, 8, 8, .rwl, 0, 15⟩
def F.TSU_TB_PTPPORTS_PORTS (i : Nat) : Fld := ⟨0x01200044 + 0x100 * i, 0, 20, .rwl, 0, 15⟩
def F.TSU_TB_PTPINT_LOGSYNC (i : Nat) : Fld := ⟨0x01200048 + 0x100 * i, 0, 8, .rwl, 0, 15⟩
def F.TSU_TB_PTPINT_LOGANN (i : Nat) : Fld := ⟨0x01200048 + 0x100 * i, 8, 8, .rwl, 0, 15⟩
def F.TSU_TB_PTPINT_LOGPDLY (i : Nat) : Fld := ⟨0x01200048 + 0x100 * i, 16, 8, .rwl, 0, 15⟩
def F.TSU_TB_PTPINT_ANNTMO (i : Nat) : Fld := ⟨0x01200048 + 0x100 * i, 24, 8, .rwl, 3, 15⟩
def F.TSU_TB_GMID_LO (i : Nat) : Fld := ⟨0x01200050 + 0x100 * i, 0, 32, .ro, 0, 3⟩
def F.TSU_TB_GMID_HI (i : Nat) : Fld := ⟨0x01200054 + 0x100 * i, 0, 32, .ro, 0, 3⟩
def F.TSU_TIN_CTRL_MODE : Fld := ⟨0x01200800, 0, 2, .rwl, 0, 15⟩
def F.TSU_TIN_CTRL_CF : Fld := ⟨0x01200800, 2, 1, .rwl, 0, 15⟩
def F.TSU_TIN_CTRL_DELAY : Fld := ⟨0x01200800, 16, 16, .rwl, 0, 15⟩
def F.TSU_TIN_UTC_UTCOFS : Fld := ⟨0x01200804, 0, 8, .rw, 0x25, 15⟩
def F.TSU_TIN_STATUS_SYNC : Fld := ⟨0x01200808, 0, 1, .ro, 0, 7⟩
def F.TSU_TIN_STATUS_LEAP : Fld := ⟨0x01200808, 1, 1, .ro, 0, 7⟩
def F.TSU_TIN_STATUS_QUAL : Fld := ⟨0x01200808, 4, 4, .ro, 0xF, 7⟩
def F.TSU_TOUT_CTRL_MODE : Fld := ⟨0x01200810, 0, 2, .rwl, 0, 15⟩
def F.TSU_TOUT_CTRL_TB : Fld := ⟨0x01200810, 2, 2, .rwl, 0, 15⟩
def F.TSU_TOUT_CTRL_WIDTH : Fld := ⟨0x01200810, 16, 16, .rwl, 1, 15⟩
def F.TSU_TOUT_ADV : Fld := ⟨0x01200814, 0, 16, .rwl, 0, 15⟩
def F.TSU_PORT_CTRL_STAMPTB (i : Nat) : Fld := ⟨0x01201000 + 0x40 * i, 0, 2, .rwl, 0, 15⟩
def F.TSU_PORT_CTRL_TCEN (i : Nat) : Fld := ⟨0x01201000 + 0x40 * i, 8, 1, .rwl, 0, 15⟩
def F.TSU_PORT_CTRL_TCPEER (i : Nat) : Fld := ⟨0x01201000 + 0x40 * i, 9, 5, .rwl, 0, 15⟩
def F.TSU_PORT_CTRL_TCMODE (i : Nat) : Fld := ⟨0x01201000 + 0x40 * i, 14, 1, .rwl, 0, 15⟩
def F.TSU_PORT_LAT_RXLAT (i : Nat) : Fld := ⟨0x01201004 + 0x40 * i, 0, 16, .ro, 0, 7⟩
def F.TSU_PORT_LAT_TXLAT (i : Nat) : Fld := ⟨0x01201004 + 0x40 * i, 16, 16, .ro, 0, 7⟩
def F.TSU_PORT_ASYM (i : Nat) : Fld := ⟨0x01201008 + 0x40 * i, 0, 32, .rwl, 0, 15⟩
def F.TSU_PORT_PDELAY (i : Nat) : Fld := ⟨0x0120100C + 0x40 * i, 0, 32, .ro, 0, 7⟩
def F.TSU_EQP_W (i j : Nat) : Fld := ⟨0x01201010 + 0x40 * i + 0x4 * j, 0, 32, .ro, 0, 7⟩
def F.TSU_EQG_W (i j : Nat) : Fld := ⟨0x01201020 + 0x40 * i + 0x4 * j, 0, 32, .ro, 0, 7⟩
def F.TSU_EQ_POP_PPOP (i : Nat) : Fld := ⟨0x01201030 + 0x40 * i, 0, 1, .w1s, 0, 7⟩
def F.TSU_EQ_POP_GPOP (i : Nat) : Fld := ⟨0x01201030 + 0x40 * i, 1, 1, .w1s, 0, 7⟩
def F.TSU_EQ_STAT_PCOUNT (i : Nat) : Fld := ⟨0x01201034 + 0x40 * i, 0, 6, .ro, 0, 7⟩
def F.TSU_EQ_STAT_POVF (i : Nat) : Fld := ⟨0x01201034 + 0x40 * i, 6, 1, .w1c, 0, 7⟩
def F.TSU_EQ_STAT_GCOUNT (i : Nat) : Fld := ⟨0x01201034 + 0x40 * i, 8, 9, .ro, 0, 7⟩
def F.TSU_EQ_STAT_GOVF (i : Nat) : Fld := ⟨0x01201034 + 0x40 * i, 17, 1, .w1c, 0, 7⟩
def F.TSU_EQ_LOST_PLOST (i : Nat) : Fld := ⟨0x01201038 + 0x40 * i, 0, 16, .w1c, 0, 7⟩
def F.TSU_EQ_LOST_GLOST (i : Nat) : Fld := ⟨0x01201038 + 0x40 * i, 16, 16, .w1c, 0, 7⟩
def F.TTB_CTRL_TB : Fld := ⟨0x01210000, 0, 2, .rwl, 0, 15⟩
def F.TTB_CYCLE : Fld := ⟨0x01210004, 0, 20, .rwl, 0x3E8, 15⟩
def F.TTB_BANK_SEL_ACTIVE : Fld := ⟨0x01210008, 0, 1, .ro, 0, 15⟩
def F.TTB_BANK_SEL_SWITCH : Fld := ⟨0x01210008, 1, 1, .w1s, 0, 15⟩
def F.TTB_BANK_SEL_CANCEL : Fld := ⟨0x01210008, 2, 1, .w1s, 0, 15⟩
def F.TTB_BANK_SEL_PENDING : Fld := ⟨0x01210008, 3, 1, .ro, 0, 15⟩
def F.TTB_BANK_SEL_CHECKING : Fld := ⟨0x01210008, 4, 1, .ro, 0, 15⟩
def F.TTB_BANK_SEL_REFUSED : Fld := ⟨0x01210008, 5, 1, .w1c, 0, 15⟩
def F.TTB_STATUS_RUN : Fld := ⟨0x0121000C, 0, 1, .ro, 0, 15⟩
def F.TTB_STATUS_EPOCH : Fld := ⟨0x0121000C, 8, 8, .ro, 0, 3⟩
def F.TTB_STATUS_LAST : Fld := ⟨0x0121000C, 16, 9, .ro, 0, 15⟩
def F.TTB_CYCNUM_LO_CYCLO : Fld := ⟨0x01210010, 0, 32, .ro, 0, 7⟩
def F.TTB_CYCNUM_HI_CYCHI : Fld := ⟨0x01210014, 0, 32, .ro, 0, 7⟩
def F.TTB_CNT_REFUSED : Fld := ⟨0x01210018, 0, 16, .w1c, 0, 7⟩
def F.TTB_CNT_SPACING : Fld := ⟨0x01210018, 16, 16, .w1c, 0, 7⟩
def F.TTB_CNT2_MISSED : Fld := ⟨0x0121001C, 0, 16, .w1c, 0, 7⟩
def F.TTB_CNT2_DROPPED : Fld := ⟨0x0121001C, 16, 16, .w1c, 0, 7⟩
def F.TTB_SLOT_OFFSET (i j : Nat) : Fld := ⟨0x01214000 + 0x4000 * i + 0x20 * j, 0, 27, .rw, 0, 15⟩
def F.TTB_SLOT_VALID (i j : Nat) : Fld := ⟨0x01214000 + 0x4000 * i + 0x20 * j, 31, 1, .rw, 0, 15⟩
def F.TTB_SLOT_ACTION (i j : Nat) : Fld := ⟨0x01214004 + 0x4000 * i + 0x20 * j, 0, 8, .rw, 0, 15⟩
def F.TTB_SLOT_REPEAT (i j : Nat) : Fld := ⟨0x01214004 + 0x4000 * i + 0x20 * j, 16, 16, .rw, 0, 15⟩
def F.TTB_SLOT_STRIDE (i j : Nat) : Fld := ⟨0x01214008 + 0x4000 * i + 0x20 * j, 0, 32, .rw, 0, 15⟩
def F.TTB_SLOT_TARGET (i j : Nat) : Fld := ⟨0x0121400C + 0x4000 * i + 0x20 * j, 0, 32, .rw, 0, 15⟩
def F.TTB_SLOT_PARAM (i j : Nat) : Fld := ⟨0x01214010 + 0x4000 * i + 0x20 * j, 0, 32, .rw, 0, 15⟩
def F.SVI_SUB_KIND (i : Nat) : Fld := ⟨0x01308000 + 0x40 * i, 0, 2, .rwl, 0, 15⟩
def F.SVI_SUB_ALIGN (i : Nat) : Fld := ⟨0x01308000 + 0x40 * i, 2, 1, .rwl, 0, 15⟩
def F.SVI_SUB_URGENT (i : Nat) : Fld := ⟨0x01308000 + 0x40 * i, 3, 1, .rwl, 0, 15⟩
def F.SVI_SUB_SIM (i : Nat) : Fld := ⟨0x01308000 + 0x40 * i, 4, 1, .rwl, 0, 15⟩
def F.SVI_SUB_TB (i : Nat) : Fld := ⟨0x01308000 + 0x40 * i, 8, 2, .rwl, 0, 15⟩
def F.SVI_SUB_NASDU (i : Nat) : Fld := ⟨0x01308000 + 0x40 * i, 12, 4, .rwl, 1, 15⟩
def F.SVI_SUB_NCH (i : Nat) : Fld := ⟨0x01308000 + 0x40 * i, 16, 6, .rwl, 8, 15⟩
def F.SVI_SUB_VALID (i : Nat) : Fld := ⟨0x01308000 + 0x40 * i, 31, 1, .rwl, 0, 15⟩
def F.SVI_SUB_RATE (i : Nat) : Fld := ⟨0x01308004 + 0x40 * i, 0, 15, .rwl, 0x12C0, 15⟩
def F.SVI_SUB_FTRX (i : Nat) : Fld := ⟨0x01308004 + 0x40 * i, 16, 2, .rwl, 0, 15⟩
def F.SVI_SUB_DA_LO (i : Nat) : Fld := ⟨0x01308008 + 0x40 * i, 0, 32, .rwl, 0, 15⟩
def F.SVI_SUB_DA_HI (i : Nat) : Fld := ⟨0x0130800C + 0x40 * i, 0, 16, .rwl, 0, 15⟩
def F.SVI_SUB_APPID (i : Nat) : Fld := ⟨0x0130800C + 0x40 * i, 16, 16, .rwl, 0x4000, 15⟩
def F.SVI_SUB_VID (i : Nat) : Fld := ⟨0x01308010 + 0x40 * i, 0, 12, .rwl, 0, 15⟩
def F.SVI_SUB_VIDCHK (i : Nat) : Fld := ⟨0x01308010 + 0x40 * i, 15, 1, .rwl, 0, 15⟩
def F.SVI_SUB_SVIDLEN (i : Nat) : Fld := ⟨0x01308010 + 0x40 * i, 16, 8, .rwl, 0, 15⟩
def F.SVI_SUB_SVIDCRC (i : Nat) : Fld := ⟨0x01308014 + 0x40 * i, 0, 32, .rwl, 0, 15⟩
def F.SVI_SUB_CONFREV (i : Nat) : Fld := ⟨0x01308018 + 0x40 * i, 0, 32, .rwl, 1, 15⟩
def F.SVI_SUB_MUDELAY (i : Nat) : Fld := ⟨0x0130801C + 0x40 * i, 0, 24, .rwl, 0, 15⟩
def F.SVI_SUB_DUE (i : Nat) : Fld := ⟨0x01308020 + 0x40 * i, 0, 14, .rwl, 0, 15⟩
def F.SVI_SUB_RESTCNT (i : Nat) : Fld := ⟨0x01308020 + 0x40 * i, 16, 8, .rwl, 4, 15⟩
def F.SVI_SUB_LOSSCNT (i : Nat) : Fld := ⟨0x01308024 + 0x40 * i, 0, 16, .rwl, 0x10, 15⟩
def F.SVI_SUB_PORTS (i : Nat) : Fld := ⟨0x01308028 + 0x40 * i, 0, 16, .rwl, 0, 15⟩
def F.SVI_SUB_FTSC (i : Nat) : Fld := ⟨0x0130802C + 0x40 * i, 0, 8, .rwl, 0, 15⟩
def F.SVI_SUB_FTSW (i : Nat) : Fld := ⟨0x0130802C + 0x40 * i, 8, 8, .rwl, 0, 15⟩
def F.SVI_SUB_FTVAL (i : Nat) : Fld := ⟨0x0130802C + 0x40 * i, 16, 8, .rwl, 0, 15⟩
def F.SVI_SUB_FTINV (i : Nat) : Fld := ⟨0x01308030 + 0x40 * i, 0, 32, .rwl, 0, 15⟩
def F.SVI_SUB_FTTEST (i : Nat) : Fld := ⟨0x01308034 + 0x40 * i, 0, 32, .rwl, 0, 15⟩
def F.SVI_CTRL_DUPAGE : Fld := ⟨0x01300000, 0, 10, .rwl, 0x190, 15⟩
def F.SVI_STATUS_NSUB : Fld := ⟨0x01300004, 0, 10, .ro, 0, 15⟩
def F.SVI_STATUS_UQPEAK : Fld := ⟨0x01300004, 16, 7, .ro, 0, 15⟩
def F.SVI_LOAD_LAST : Fld := ⟨0x01300008, 0, 16, .ro, 0, 7⟩
def F.SVI_LOAD_PEAK : Fld := ⟨0x01300008, 16, 16, .w1c, 0, 7⟩
def F.SVI_NOSUB_LO : Fld := ⟨0x01300010, 0, 32, .ro, 0, 7⟩
def F.SVI_NOSUB_HI : Fld := ⟨0x01300014, 0, 16, .ro, 0, 7⟩
def F.SVI_PRPDUP_LO : Fld := ⟨0x01300018, 0, 32, .ro, 0, 7⟩
def F.SVI_PRPDUP_HI : Fld := ⟨0x0130001C, 0, 16, .ro, 0, 7⟩
def F.SVI_OVFL : Fld := ⟨0x01300020, 0, 16, .w1c, 0, 7⟩
def F.SVI_OVFL_HSRUNTAG : Fld := ⟨0x01300020, 16, 16, .w1c, 0, 7⟩
def F.SVI_PRPERR : Fld := ⟨0x01300024, 0, 16, .w1c, 0, 7⟩
def F.SVI_LASTERR_STREAM : Fld := ⟨0x01300028, 0, 9, .ro, 0, 15⟩
def F.SVI_LASTERR_REASON : Fld := ⟨0x01300028, 16, 8, .ro, 0, 15⟩
def F.SVI_SSTAT_STATE (i : Nat) : Fld := ⟨0x01310000 + 0x20 * i, 0, 2, .ro, 0, 15⟩
def F.SVI_SSTAT_SMPSYNCH (i : Nat) : Fld := ⟨0x01310000 + 0x20 * i, 8, 8, .ro, 0, 15⟩
def F.SVI_SSTAT_LASTCNT (i : Nat) : Fld := ⟨0x01310000 + 0x20 * i, 16, 16, .ro, 0, 15⟩
def F.SVI_SCNT0_MISSING (i : Nat) : Fld := ⟨0x01310004 + 0x20 * i, 0, 16, .w1c, 0, 15⟩
def F.SVI_SCNT0_LATE (i : Nat) : Fld := ⟨0x01310004 + 0x20 * i, 16, 16, .w1c, 0, 15⟩
def F.SVI_SCNT1_DUP (i : Nat) : Fld := ⟨0x01310008 + 0x20 * i, 0, 16, .w1c, 0, 15⟩
def F.SVI_SCNT1_FMTERR (i : Nat) : Fld := ⟨0x01310008 + 0x20 * i, 16, 16, .w1c, 0, 15⟩
def F.SVI_SCNT2_JUMPS (i : Nat) : Fld := ⟨0x0131000C + 0x20 * i, 0, 16, .w1c, 0, 15⟩
def F.SVI_SCNT2_LOSSES (i : Nat) : Fld := ⟨0x0131000C + 0x20 * i, 16, 16, .w1c, 0, 15⟩
def F.SVI_SCNT3_SYNCCHG (i : Nat) : Fld := ⟨0x01310010 + 0x20 * i, 0, 16, .w1c, 0, 15⟩
def F.SVI_SFRM_LO (i : Nat) : Fld := ⟨0x01310014 + 0x20 * i, 0, 32, .ro, 0, 15⟩
def F.SVI_SFRM_HI (i : Nat) : Fld := ⟨0x01310018 + 0x20 * i, 0, 16, .ro, 0, 15⟩
def F.SVI_STRANS_TRANSIT (i : Nat) : Fld := ⟨0x0131001C + 0x20 * i, 0, 24, .ro, 0, 15⟩
def F.FCH_BANK_ACTIVE : Fld := ⟨0x01400000, 0, 1, .ro, 0, 15⟩
def F.FCH_BANK_SWITCH : Fld := ⟨0x01400000, 1, 1, .w1s, 0, 15⟩
def F.FCH_BANK_PENDING : Fld := ⟨0x01400000, 2, 1, .ro, 0, 15⟩
def F.FCH_FRZ_REG : Fld := ⟨0x01400004, 0, 16, .rw, 0, 15⟩
def F.FCH_FZSTAT_FROZEN : Fld := ⟨0x01400008, 0, 16, .ro, 0, 15⟩
def F.FCH_LOAD_COST : Fld := ⟨0x0140000C, 0, 16, .ro, 0, 15⟩
def F.FCH_LOAD_LATPEAK : Fld := ⟨0x0140000C, 16, 16, .w1c, 0, 7⟩
def F.FCH_CNT_SATALL : Fld := ⟨0x01400010, 0, 16, .w1c, 0, 7⟩
def F.FCH_CNT_FRSHORT : Fld := ⟨0x01400010, 16, 16, .w1c, 0, 7⟩
def F.FCH_FZ_INSTLO_INST (i : Nat) : Fld := ⟨0x01400100 + 0x10 * i, 1, 31, .rwl, 0, 15⟩
def F.FCH_FZ_INSTHI_INST (i : Nat) : Fld := ⟨0x01400104 + 0x10 * i, 0, 32, .rwl, 0, 15⟩
def F.FCH_FZ_REC (i : Nat) : Fld := ⟨0x01400108 + 0x10 * i, 0, 16, .rwl, 0, 15⟩
def F.FCH_FG_CTRL_MODE (i : Nat) : Fld := ⟨0x01401000 + 0x40 * i, 0, 2, .rwl, 0, 15⟩
def F.FCH_FG_CTRL_NSEL (i : Nat) : Fld := ⟨0x01401000 + 0x40 * i, 4, 3, .rwl, 2, 15⟩
def F.FCH_FG_CTRL_TB (i : Nat) : Fld := ⟨0x01401000 + 0x40 * i, 8, 2, .rwl, 0, 15⟩
def F.FCH_FG_CTRL_BACK (i : Nat) : Fld := ⟨0x01401000 + 0x40 * i, 12, 2, .rwl, 2, 15⟩
def F.FCH_FG_CTRL_LOCKCYC (i : Nat) : Fld := ⟨0x01401000 + 0x40 * i, 16, 4, .rwl, 4, 15⟩
def F.FCH_FG_REF_REFA (i : Nat) : Fld := ⟨0x01401004 + 0x40 * i, 0, 12, .rwl, 0, 15⟩
def F.FCH_FG_REF_REFB (i : Nat) : Fld := ⟨0x01401004 + 0x40 * i, 12, 12, .rwl, 0, 15⟩
def F.FCH_FG_REFC (i : Nat) : Fld := ⟨0x01401008 + 0x40 * i, 0, 12, .rwl, 0, 15⟩
def F.FCH_FG_NOM (i : Nat) : Fld := ⟨0x0140100C + 0x40 * i, 0, 32, .rwl, 0x320000, 15⟩
def F.FCH_FG_RANGE_FMIN (i : Nat) : Fld := ⟨0x01401010 + 0x40 * i, 0, 16, .rwl, 0x3E8, 15⟩
def F.FCH_FG_RANGE_FMAX (i : Nat) : Fld := ⟨0x01401010 + 0x40 * i, 16, 16, .rwl, 0x1D4C, 15⟩
def F.FCH_FG_MINLVL (i : Nat) : Fld := ⟨0x01401014 + 0x40 * i, 0, 32, .rwl, 0, 15⟩
def F.FCH_FG_HOLD (i : Nat) : Fld := ⟨0x01401018 + 0x40 * i, 0, 16, .rwl, 0x7D0, 15⟩
def F.FCH_FG_HOLD_LAG (i : Nat) : Fld := ⟨0x01401018 + 0x40 * i, 16, 16, .rwl, 0x14, 15⟩
def F.FCH_FG_DCRATE (i : Nat) : Fld := ⟨0x0140101C + 0x40 * i, 0, 15, .rwl, 0x12C0, 15⟩
def F.FCH_FG_STATUS_STATE (i : Nat) : Fld := ⟨0x01401020 + 0x40 * i, 0, 2, .ro, 0, 15⟩
def F.FCH_FG_FREQ (i : Nat) : Fld := ⟨0x01401024 + 0x40 * i, 0, 32, .ro, 0, 15⟩
def F.FCH_FG_MAG (i : Nat) : Fld := ⟨0x01401028 + 0x40 * i, 0, 32, .ro, 0, 15⟩
def F.FCH_FG_FRAME (i : Nat) : Fld := ⟨0x0140102C + 0x40 * i, 0, 32, .ro, 0, 15⟩
def F.FCH_FG_CNT_COASTS (i : Nat) : Fld := ⟨0x01401030 + 0x40 * i, 0, 16, .w1c, 0, 15⟩
def F.FCH_FG_CNT_RLIM (i : Nat) : Fld := ⟨0x01401030 + 0x40 * i, 16, 16, .w1c, 0, 15⟩
def F.FCH_FG_IDX_LO (i : Nat) : Fld := ⟨0x01401034 + 0x40 * i, 0, 32, .ro, 0, 15⟩
def F.FCH_FG_IDX_HI (i : Nat) : Fld := ⟨0x01401038 + 0x40 * i, 0, 32, .ro, 0, 15⟩
def F.FCH_LCFG_STREAM (i : Nat) : Fld := ⟨0x01410000 + 0x40 * i, 0, 9, .rwl, 0, 15⟩
def F.FCH_LCFG_CHAN (i : Nat) : Fld := ⟨0x01410000 + 0x40 * i, 11, 5, .rwl, 0, 15⟩
def F.FCH_LCFG_FG (i : Nat) : Fld := ⟨0x01410000 + 0x40 * i, 16, 6, .rwl, 0, 15⟩
def F.FCH_LCFG_OWNER (i : Nat) : Fld := ⟨0x01410000 + 0x40 * i, 24, 6, .rwl, 0, 15⟩
def F.FCH_LCFG_VALID (i : Nat) : Fld := ⟨0x01410000 + 0x40 * i, 31, 1, .rwl, 0, 15⟩
def F.FCH_LDLY_FRAC (i : Nat) : Fld := ⟨0x01410004 + 0x40 * i, 0, 8, .rw, 0, 15⟩
def F.FCH_LDLY_INT (i : Nat) : Fld := ⟨0x01410004 + 0x40 * i, 8, 12, .rw, 0, 15⟩
def F.FCH_LDC_CORNER (i : Nat) : Fld := ⟨0x01410008 + 0x40 * i, 0, 9, .rwl, 0xA, 15⟩
def F.FCH_LDC_FZSET (i : Nat) : Fld := ⟨0x01410008 + 0x40 * i, 12, 4, .rwl, 0, 15⟩
def F.FCH_LDC_FZEN (i : Nat) : Fld := ⟨0x01410008 + 0x40 * i, 16, 1, .rwl, 0, 15⟩
def F.FCH_LDC_DCEN (i : Nat) : Fld := ⟨0x01410008 + 0x40 * i, 17, 1, .rwl, 1, 15⟩
def F.FCH_LDC_DCRST (i : Nat) : Fld := ⟨0x01410008 + 0x40 * i, 24, 1, .w1s, 0, 15⟩
def F.FCH_LCIC_ORDER (i : Nat) : Fld := ⟨0x0141000C + 0x40 * i, 0, 3, .rwl, 1, 15⟩
def F.FCH_LCIC_RATIO (i : Nat) : Fld := ⟨0x0141000C + 0x40 * i, 8, 7, .rwl, 1, 15⟩
def F.FCH_LFIR_SET (i : Nat) : Fld := ⟨0x01410010 + 0x40 * i, 0, 8, .rwl, 0, 15⟩
def F.FCH_LFIR_FADE (i : Nat) : Fld := ⟨0x01410010 + 0x40 * i, 8, 9, .rwl, 0, 15⟩
def F.FCH_LFIR_OSHIFT (i : Nat) : Fld := ⟨0x01410010 + 0x40 * i, 24, 6, .rwl, 0, 15⟩
def F.FCH_LMODE_MODE0 (i : Nat) : Fld := ⟨0x01410014 + 0x40 * i, 0, 2, .rwl, 0, 15⟩
def F.FCH_LMODE_MODE1 (i : Nat) : Fld := ⟨0x01410014 + 0x40 * i, 2, 2, .rwl, 0, 15⟩
def F.FCH_LMODE_FROZEN (i : Nat) : Fld := ⟨0x01410014 + 0x40 * i, 16, 1, .ro, 0, 15⟩
def F.FCH_LMODE_SUPPR (i : Nat) : Fld := ⟨0x01410014 + 0x40 * i, 17, 1, .ro, 0, 15⟩
def F.FCH_LMODE_FADING (i : Nat) : Fld := ⟨0x01410014 + 0x40 * i, 18, 1, .ro, 0, 15⟩
def F.FCH_LMODE_SLEW (i : Nat) : Fld := ⟨0x01410014 + 0x40 * i, 19, 1, .ro, 0, 15⟩
def F.FCH_LCMPL0_LVL (i : Nat) : Fld := ⟨0x01410018 + 0x40 * i, 0, 32, .rwl, 0, 15⟩
def F.FCH_LCMPL1_LVL (i : Nat) : Fld := ⟨0x0141001C + 0x40 * i, 0, 32, .rwl, 0, 15⟩
def F.FCH_LDEST_LO (i j : Nat) : Fld := ⟨0x01410020 + 0x40 * i + 0x4 * j, 0, 16, .rwl, 0, 15⟩
def F.FCH_LDEST_HI (i j : Nat) : Fld := ⟨0x01410020 + 0x40 * i + 0x4 * j, 16, 16, .rwl, 0, 15⟩
def F.FCH_LSETTLE_SETTLE (i : Nat) : Fld := ⟨0x01410030 + 0x40 * i, 0, 16, .ro, 0, 15⟩
def F.FCH_LSETTLE_REMAIN (i : Nat) : Fld := ⟨0x01410030 + 0x40 * i, 16, 16, .ro, 0, 15⟩
def F.FCH_LGD_GDELAY (i : Nat) : Fld := ⟨0x01410034 + 0x40 * i, 0, 32, .ro, 0, 15⟩
def F.FCH_LPD_PDELAY (i : Nat) : Fld := ⟨0x01410038 + 0x40 * i, 0, 32, .ro, 0, 15⟩
def F.FCH_LCNT_SAT (i : Nat) : Fld := ⟨0x0141003C + 0x40 * i, 0, 16, .w1c, 0, 31⟩
def F.FCH_LCNT_FRSHORT (i : Nat) : Fld := ⟨0x0141003C + 0x40 * i, 16, 16, .w1c, 0, 31⟩
def F.PFM_PCTRL_TB (i : Nat) : Fld := ⟨0x01500000 + 0x100 * i, 0, 2, .rwl, 0, 15⟩
def F.PFM_PCTRL_ROLE (i : Nat) : Fld := ⟨0x01500000 + 0x100 * i, 8, 2, .ro, 3, 7⟩
def F.PFM_PSTAT_STATE (i : Nat) : Fld := ⟨0x01500004 + 0x100 * i, 0, 3, .ro, 0, 15⟩
def F.PFM_PSTAT_INST (i : Nat) : Fld := ⟨0x01500004 + 0x100 * i, 8, 6, .ro, 0, 15⟩
def F.PFM_PSTAT_TASK (i : Nat) : Fld := ⟨0x01500004 + 0x100 * i, 16, 8, .ro, 0, 15⟩
def F.PFM_PSTAT_QCAUSE (i : Nat) : Fld := ⟨0x01500004 + 0x100 * i, 24, 2, .ro, 0, 7⟩
def F.PFM_PSTAT_LQ (i : Nat) : Fld := ⟨0x01500004 + 0x100 * i, 28, 4, .ro, 0, 15⟩
def F.PFM_QADDR_ADDR (i : Nat) : Fld := ⟨0x01500008 + 0x100 * i, 0, 32, .ro, 0, 7⟩
def F.PFM_LAUNCH_LO (i : Nat) : Fld := ⟨0x01500010 + 0x100 * i, 0, 32, .ro, 0, 7⟩
def F.PFM_LAUNCH_HI (i : Nat) : Fld := ⟨0x01500014 + 0x100 * i, 0, 16, .ro, 0, 7⟩
def F.PFM_BUSY_LO (i : Nat) : Fld := ⟨0x01500018 + 0x100 * i, 0, 32, .ro, 0, 7⟩
def F.PFM_BUSY_HI (i : Nat) : Fld := ⟨0x0150001C + 0x100 * i, 0, 16, .ro, 0, 7⟩
def F.PFM_PCNT0_OVERRUN (i : Nat) : Fld := ⟨0x01500020 + 0x100 * i, 0, 16, .w1c, 0, 7⟩
def F.PFM_PCNT0_DLSTOP (i : Nat) : Fld := ⟨0x01500020 + 0x100 * i, 16, 16, .w1c, 0, 7⟩
def F.PFM_PCNT1_TRAPS (i : Nat) : Fld := ⟨0x01500024 + 0x100 * i, 0, 16, .w1c, 0, 7⟩
def F.PFM_PCNT1_CECC (i : Nat) : Fld := ⟨0x01500024 + 0x100 * i, 16, 16, .w1c, 0, 7⟩
def F.PFM_LASTOVR_INST (i : Nat) : Fld := ⟨0x01500028 + 0x100 * i, 0, 6, .ro, 0, 15⟩
def F.PFM_LASTOVR_TASK (i : Nat) : Fld := ⟨0x01500028 + 0x100 * i, 8, 8, .ro, 0, 15⟩
def F.PFM_PHQ_PEAK (i : Nat) : Fld := ⟨0x0150002C + 0x100 * i, 0, 5, .ro, 0, 15⟩
def F.PFM_GSTAT_QMASK : Fld := ⟨0x01502000, 0, 24, .ro, 0, 7⟩
def F.PFM_SPARE : Fld := ⟨0x01502004, 0, 24, .ro, 0, 7⟩
def F.PFM_IFLAG_OVR (i : Nat) : Fld := ⟨0x01503000 + 0x4 * i, 0, 1, .w1c, 0, 31⟩
def F.PFM_IFLAG_DLSTOP (i : Nat) : Fld := ⟨0x01503000 + 0x4 * i, 1, 1, .w1c, 0, 31⟩
def F.PFM_IFLAG_TRAP (i : Nat) : Fld := ⟨0x01503000 + 0x4 * i, 2, 1, .w1c, 0, 31⟩
def F.PFM_IFLAG_QUAR (i : Nat) : Fld := ⟨0x01503000 + 0x4 * i, 3, 1, .ro, 0, 31⟩
def F.PFM_IFLAG_TRAPCAUSE (i : Nat) : Fld := ⟨0x01503000 + 0x4 * i, 4, 4, .ro, 0, 31⟩
def F.PFM_IFLAG_LASTTASK (i : Nat) : Fld := ⟨0x01503000 + 0x4 * i, 8, 8, .ro, 0, 31⟩
def F.LCL_PHQ_PUSH_DESC (i : Nat) : Fld := ⟨0x100000000 + 0x1000 * i, 0, 32, .wo, 0, 31⟩
def F.LCL_PHQ_STAT_PEND (i : Nat) : Fld := ⟨0x100000004 + 0x1000 * i, 0, 5, .ro, 0, 31⟩
def F.LCL_PHQ_STAT_BUSY (i : Nat) : Fld := ⟨0x100000004 + 0x1000 * i, 8, 1, .ro, 0, 31⟩
def F.MAR_CTRL_CAP : Fld := ⟨0x01600000, 0, 7, .rwl, 0x55, 15⟩
def F.MAR_CTRL_ADAPT : Fld := ⟨0x01600000, 8, 1, .rw, 1, 15⟩
def F.MAR_CTRL_PERIOD : Fld := ⟨0x01600000, 16, 8, .rwl, 0x64, 15⟩
def F.MAR_CTRL_BACKOFF : Fld := ⟨0x01600000, 24, 8, .rwl, 0xA, 15⟩
def F.MAR_CTRL2_CUTOFF : Fld := ⟨0x01600004, 0, 8, .rwl, 8, 15⟩
def F.MAR_CTRL2_ABNMAX : Fld := ⟨0x01600004, 8, 4, .rwl, 4, 15⟩
def F.MAR_STATUS_PLACED : Fld := ⟨0x01600008, 0, 1, .ro, 0, 15⟩
def F.MAR_STATUS_SHUNTING : Fld := ⟨0x01600008, 1, 1, .ro, 0, 15⟩
def F.MAR_STATUS_NOSPARE : Fld := ⟨0x01600008, 2, 1, .ro, 0, 15⟩
def F.MAR_STATUS_SINST : Fld := ⟨0x01600008, 16, 6, .ro, 0, 15⟩
def F.MAR_STATUS_STGT : Fld := ⟨0x01600008, 24, 5, .ro, 0, 15⟩
def F.MAR_CL_NOW : Fld := ⟨0x0160000C, 0, 10, .ro, 0, 7⟩
def F.MAR_CL_PEAK : Fld := ⟨0x0160000C, 16, 10, .w1c, 0, 7⟩
def F.MAR_AWAIT_PFMASK : Fld := ⟨0x01600010, 0, 24, .ro, 0, 15⟩
def F.MAR_CNT_SHUNTS : Fld := ⟨0x01600014, 0, 16, .w1c, 0, 7⟩
def F.MAR_CNT_ABANDONS : Fld := ⟨0x01600014, 16, 16, .w1c, 0, 7⟩
def F.MAR_CNT2_RESTARTS : Fld := ⟨0x01600018, 0, 16, .w1c, 0, 7⟩
def F.MAR_CNT2_ALARMS : Fld := ⟨0x01600018, 16, 16, .w1c, 0, 7⟩
def F.MAR_QMOVER_MOVER : Fld := ⟨0x0160001C, 0, 32, .ro, 0xAAAAAAAA, 15⟩
def F.MAR_MSEL_TASK : Fld := ⟨0x01600020, 0, 8, .rw, 0, 15⟩
def F.MAR_MSEL_INST : Fld := ⟨0x01600020, 8, 6, .rw, 0, 15⟩
def F.MAR_MSEL_CLR : Fld := ⟨0x01600020, 31, 1, .w1s, 0, 15⟩
def F.MAR_MEAS0_MAXC : Fld := ⟨0x01600024, 0, 32, .ro, 0, 31⟩
def F.MAR_MEAS1_P999 : Fld := ⟨0x01600028, 0, 32, .ro, 0, 31⟩
def F.MAR_MEAS2_HIMAX : Fld := ⟨0x0160002C, 0, 32, .ro, 0, 31⟩
def F.MAR_MEAS3_FIG : Fld := ⟨0x01600030, 0, 32, .ro, 0, 31⟩
def F.MAR_MEAS4_HISTEP : Fld := ⟨0x01600034, 0, 5, .ro, 0, 31⟩
def F.MAR_MEAS4_WCET : Fld := ⟨0x01600034, 8, 24, .ro, 0, 15⟩
def F.MAR_MEAS5_DTCMAX : Fld := ⟨0x01600038, 0, 32, .ro, 0, 31⟩
def F.MAR_MEAS6_RUNS : Fld := ⟨0x0160003C, 0, 32, .ro, 0, 31⟩
def F.MAR_PLOAD_RES (i : Nat) : Fld := ⟨0x01600400 + 0x4 * i, 0, 9, .ro, 0, 15⟩
def F.MAR_PLOAD_NINST (i : Nat) : Fld := ⟨0x01600400 + 0x4 * i, 16, 6, .ro, 0, 15⟩
def F.MAR_PLOAD_HASA (i : Nat) : Fld := ⟨0x01600400 + 0x4 * i, 24, 1, .ro, 0, 15⟩
def F.MAR_RBUF_BASE (i : Nat) : Fld := ⟨0x01600500 + 0x8 * i, 0, 21, .ro, 0, 15⟩
def F.MAR_RBUF_BANKS (i : Nat) : Fld := ⟨0x01600504 + 0x8 * i, 0, 32, .ro, 0, 15⟩
def F.MAR_IPLACE_PF (i : Nat) : Fld := ⟨0x01601000 + 0x20 * i, 0, 5, .ro, 0, 15⟩
def F.MAR_IPLACE_CLASS (i : Nat) : Fld := ⟨0x01601000 + 0x20 * i, 8, 1, .ro, 0, 15⟩
def F.MAR_IPLACE_SHARE (i : Nat) : Fld := ⟨0x01601000 + 0x20 * i, 16, 9, .ro, 0, 15⟩
def F.MAR_IPLACE_CAPPED (i : Nat) : Fld := ⟨0x01601000 + 0x20 * i, 25, 1, .ro, 0, 15⟩
def F.MAR_IPLACE_MOVING (i : Nat) : Fld := ⟨0x01601000 + 0x20 * i, 26, 1, .ro, 0, 31⟩
def F.MAR_IBOUND_SHMIN (i : Nat) : Fld := ⟨0x01601004 + 0x20 * i, 0, 9, .rw, 0, 31⟩
def F.MAR_IBOUND_SHMAX (i : Nat) : Fld := ⟨0x01601004 + 0x20 * i, 16, 9, .rw, 0x100, 31⟩
def F.MAR_IGUARD_GUARD (i : Nat) : Fld := ⟨0x01601008 + 0x20 * i, 0, 6, .rw, 0x10, 31⟩
def F.MAR_IGUARD_SHUNTEN (i : Nat) : Fld := ⟨0x01601008 + 0x20 * i, 8, 1, .rw, 1, 31⟩
def F.MAR_IGUARD_STUCK (i : Nat) : Fld := ⟨0x01601008 + 0x20 * i, 9, 1, .ro, 0, 31⟩
def F.MAR_IPFMASK_ALLOW (i : Nat) : Fld := ⟨0x0160100C + 0x20 * i, 0, 24, .rw, 0xFFFFFF, 31⟩
def F.MAR_IDMAW_WMIN (i : Nat) : Fld := ⟨0x01601010 + 0x20 * i, 0, 8, .rw, 1, 31⟩
def F.MAR_IDMAW_WMAX (i : Nat) : Fld := ⟨0x01601010 + 0x20 * i, 8, 8, .rw, 8, 31⟩
def F.MAR_IDMAW_WEIGHT (i : Nat) : Fld := ⟨0x01601010 + 0x20 * i, 16, 8, .ro, 1, 31⟩
def F.MAR_ISHUNT_ATTEMPTS (i : Nat) : Fld := ⟨0x01601014 + 0x20 * i, 0, 4, .ro, 0, 31⟩
def F.MAR_ISHUNT_LASTTGT (i : Nat) : Fld := ⟨0x01601014 + 0x20 * i, 8, 5, .ro, 0, 31⟩
def F.MAR_ISHUNT_LASTRES (i : Nat) : Fld := ⟨0x01601014 + 0x20 * i, 16, 2, .ro, 0, 31⟩
def F.PUB_STATUS_TWIN : Fld := ⟨0x01700000, 0, 1, .ro, 0, 15⟩
def F.PUB_CNT_NOTAG : Fld := ⟨0x01700004, 0, 16, .w1c, 0, 7⟩
def F.PUB_CNT_GATED : Fld := ⟨0x01700004, 16, 16, .w1c, 0, 7⟩
def F.PUB_CNT2_BUFERR : Fld := ⟨0x01700008, 0, 16, .w1c, 0, 7⟩
def F.PUB_CNT2_MIRDROP : Fld := ⟨0x01700008, 16, 16, .w1c, 0, 7⟩
def F.PUB_TWCNT_DIVERGE : Fld := ⟨0x0170000C, 0, 16, .w1c, 0, 7⟩
def F.PUB_TWCNT_DIGMISS : Fld := ⟨0x0170000C, 16, 16, .w1c, 0, 7⟩
def F.PUB_LASTDIV_CYCLE : Fld := ⟨0x01700010, 0, 32, .ro, 0, 7⟩
def F.PUB_DIG_LO : Fld := ⟨0x01700014, 0, 32, .ro, 0, 7⟩
def F.PUB_DIG_HI : Fld := ⟨0x01700018, 0, 32, .ro, 0, 7⟩
def F.PUB_TWSKIP : Fld := ⟨0x0170001C, 0, 16, .w1c, 0, 7⟩
def F.PUB_CURVE_MININT (i : Nat) : Fld := ⟨0x01701000 + 0x8 * i, 0, 20, .rwl, 0xFA, 15⟩
def F.PUB_CURVE_T0 (i : Nat) : Fld := ⟨0x01701004 + 0x8 * i, 0, 16, .rwl, 0x3E8, 15⟩
def F.PUB_GCFG_OWNER (i : Nat) : Fld := ⟨0x01710000 + 0x40 * i, 0, 6, .rwl, 0, 15⟩
def F.PUB_GCFG_BUF (i : Nat) : Fld := ⟨0x01710000 + 0x40 * i, 8, 6, .rwl, 0, 15⟩
def F.PUB_GCFG_QUEUE (i : Nat) : Fld := ⟨0x01710000 + 0x40 * i, 16, 3, .rwl, 0, 15⟩
def F.PUB_GCFG_URGENT (i : Nat) : Fld := ⟨0x01710000 + 0x40 * i, 19, 1, .rwl, 0, 15⟩
def F.PUB_GCFG_TWIN (i : Nat) : Fld := ⟨0x01710000 + 0x40 * i, 20, 1, .rwl, 0, 15⟩
def F.PUB_GCFG_AUTH (i : Nat) : Fld := ⟨0x01710000 + 0x40 * i, 21, 2, .rwl, 0, 15⟩
def F.PUB_GCFG_STAMP (i : Nat) : Fld := ⟨0x01710000 + 0x40 * i, 23, 1, .rwl, 0, 15⟩
def F.PUB_GCFG_VALID (i : Nat) : Fld := ⟨0x01710000 + 0x40 * i, 31, 1, .rwl, 0, 15⟩
def F.PUB_GPORTS_PORTS (i : Nat) : Fld := ⟨0x01710004 + 0x40 * i, 0, 16, .rwl, 0, 15⟩
def F.PUB_GPORTS_MIRROR (i : Nat) : Fld := ⟨0x01710004 + 0x40 * i, 16, 2, .rwl, 0, 15⟩
def F.PUB_GPORTS_SBPORT (i : Nat) : Fld := ⟨0x01710004 + 0x40 * i, 18, 2, .rwl, 0, 15⟩
def F.PUB_GPRE_PREOFS (i : Nat) : Fld := ⟨0x01710008 + 0x40 * i, 0, 16, .rwl, 0, 15⟩
def F.PUB_GPRE_PRELEN (i : Nat) : Fld := ⟨0x01710008 + 0x40 * i, 16, 11, .rwl, 0, 15⟩
def F.PUB_GDATA_ALEN (i : Nat) : Fld := ⟨0x0171000C + 0x40 * i, 0, 11, .rwl, 0, 15⟩
def F.PUB_GDATA_NQ (i : Nat) : Fld := ⟨0x0171000C + 0x40 * i, 16, 6, .rwl, 0, 15⟩
def F.PUB_GDATA_CURVE (i : Nat) : Fld := ⟨0x0171000C + 0x40 * i, 24, 6, .rwl, 0, 15⟩
def F.PUB_GQ_QOFS (i : Nat) : Fld := ⟨0x01710010 + 0x40 * i, 0, 16, .rwl, 0, 15⟩
def F.PUB_GQ_KEYSLOT (i : Nat) : Fld := ⟨0x01710010 + 0x40 * i, 16, 8, .rwl, 0, 15⟩
def F.PUB_GTAL_TALMIN (i : Nat) : Fld := ⟨0x01710014 + 0x40 * i, 0, 16, .rwl, 0, 15⟩
def F.PUB_GMAC_LO_TWMAC (i : Nat) : Fld := ⟨0x01710018 + 0x40 * i, 0, 32, .rwl, 0, 15⟩
def F.PUB_GMAC_HI_TWMAC (i : Nat) : Fld := ⟨0x0171001C + 0x40 * i, 0, 16, .rwl, 0, 15⟩
def F.PUB_GBUF_BUFOFS (i : Nat) : Fld := ⟨0x01710020 + 0x40 * i, 0, 20, .rwl, 0, 15⟩
def F.PUB_GST_STNUM (i : Nat) : Fld := ⟨0x01710024 + 0x40 * i, 0, 32, .ro, 0, 15⟩
def F.PUB_GSQ_SQNUM (i : Nat) : Fld := ⟨0x01710028 + 0x40 * i, 0, 32, .ro, 0, 15⟩
def F.PUB_GSTAT_STATE (i : Nat) : Fld := ⟨0x0171002C + 0x40 * i, 0, 2, .ro, 0, 31⟩
def F.PUB_GFRM_LO (i : Nat) : Fld := ⟨0x01710030 + 0x40 * i, 0, 32, .ro, 0, 7⟩
def F.PUB_GFRM_HI (i : Nat) : Fld := ⟨0x01710034 + 0x40 * i, 0, 16, .ro, 0, 7⟩
def F.PUB_GCNT_NOTAG (i : Nat) : Fld := ⟨0x01710038 + 0x40 * i, 0, 16, .w1c, 0, 7⟩
def F.PUB_GCNT_GATED (i : Nat) : Fld := ⟨0x01710038 + 0x40 * i, 16, 16, .w1c, 0, 7⟩
def F.PUB_SCFG_NCH (i : Nat) : Fld := ⟨0x01718000 + 0x40 * i, 0, 6, .rwl, 8, 15⟩
def F.PUB_SCFG_NASDU (i : Nat) : Fld := ⟨0x01718000 + 0x40 * i, 8, 4, .rwl, 1, 15⟩
def F.PUB_SRATE_RATE (i : Nat) : Fld := ⟨0x0171800C + 0x40 * i, 0, 15, .rwl, 0x12C0, 15⟩
def F.PUB_SRATE_SYNCVAL (i : Nat) : Fld := ⟨0x0171800C + 0x40 * i, 16, 8, .rwl, 2, 15⟩
def F.PUB_SQ_KEYSLOT (i : Nat) : Fld := ⟨0x01718010 + 0x40 * i, 16, 8, .rwl, 0, 15⟩
def F.PUB_SSTAT_LASTCNT (i : Nat) : Fld := ⟨0x0171802C + 0x40 * i, 0, 16, .ro, 0, 15⟩
def F.ACQ_CTRL_HEN : Fld := ⟨0x01800000, 0, 1, .rwl, 0, 15⟩
def F.ACQ_CTRL_HSIZE : Fld := ⟨0x01800000, 8, 7, .rwl, 0x60, 15⟩
def F.ACQ_HSTAT_SPAN : Fld := ⟨0x01800004, 0, 16, .ro, 0, 15⟩
def F.ACQ_HSTAT_BITS : Fld := ⟨0x01800004, 16, 16, .ro, 0, 15⟩
def F.ACQ_HREQ_SEC : Fld := ⟨0x01800008, 0, 32, .rw, 0, 7⟩
def F.ACQ_HREQ_LEN : Fld := ⟨0x0180000C, 0, 16, .rw, 0x3E8, 7⟩
def F.ACQ_HREQ_TB : Fld := ⟨0x0180000C, 16, 2, .rw, 0, 7⟩
def F.ACQ_HREQ_BUSY : Fld := ⟨0x0180000C, 30, 1, .ro, 0, 7⟩
def F.ACQ_HREQ_GO : Fld := ⟨0x0180000C, 31, 1, .w1s, 0, 7⟩
def F.ACQ_HSRC_FIRST : Fld := ⟨0x01800010, 0, 13, .rw, 0, 7⟩
def F.ACQ_HSRC_LAST : Fld := ⟨0x01800010, 16, 13, .rw, 0x1007, 7⟩
def F.ACQ_CNT_OVERWR : Fld := ⟨0x01800014, 0, 16, .w1c, 0, 7⟩
def F.ACQ_CNT_REEXP : Fld := ⟨0x01800014, 16, 16, .w1c, 0, 7⟩
def F.ACQ_RCFG_OWNER (i : Nat) : Fld := ⟨0x01800400 + 0x40 * i, 0, 6, .rwl, 0, 15⟩
def F.ACQ_RCFG_AUTOARM (i : Nat) : Fld := ⟨0x01800400 + 0x40 * i, 8, 1, .rwl, 0, 15⟩
def F.ACQ_RCFG_TB (i : Nat) : Fld := ⟨0x01800400 + 0x40 * i, 12, 2, .rwl, 0, 15⟩
def F.ACQ_RCFG_NCH (i : Nat) : Fld := ⟨0x01800400 + 0x40 * i, 16, 9, .rwl, 1, 15⟩
def F.ACQ_RCFG_VALID (i : Nat) : Fld := ⟨0x01800400 + 0x40 * i, 31, 1, .rwl, 0, 15⟩
def F.ACQ_RTIME_PRE (i : Nat) : Fld := ⟨0x01800404 + 0x40 * i, 0, 11, .rwl, 0, 15⟩
def F.ACQ_RTIME_POST (i : Nat) : Fld := ⟨0x01800404 + 0x40 * i, 16, 16, .rwl, 0, 15⟩
def F.ACQ_RHOLD_HTIME (i : Nat) : Fld := ⟨0x01800408 + 0x40 * i, 0, 16, .rwl, 0, 15⟩
def F.ACQ_RHOLD_HEVENTS (i : Nat) : Fld := ⟨0x01800408 + 0x40 * i, 16, 8, .rwl, 0, 15⟩
def F.ACQ_RXTRIG_CROSS (i : Nat) : Fld := ⟨0x0180040C + 0x40 * i, 0, 16, .rwl, 0, 15⟩
def F.ACQ_RXTRIG_SRCEN (i : Nat) : Fld := ⟨0x0180040C + 0x40 * i, 16, 6, .rwl, 0, 15⟩
def F.ACQ_RBUF_SIZE (i : Nat) : Fld := ⟨0x01800410 + 0x40 * i, 0, 16, .rwl, 0, 15⟩
def F.ACQ_RHALT_HALT (i j : Nat) : Fld := ⟨0x01800414 + 0x40 * i + 0x4 * j, 0, 6, .rwl, 0, 15⟩
def F.ACQ_RHALT_INPUT (i j : Nat) : Fld := ⟨0x01800414 + 0x40 * i + 0x4 * j, 8, 6, .rwl, 0, 15⟩
def F.ACQ_RHALT_EDGE (i j : Nat) : Fld := ⟨0x01800414 + 0x40 * i + 0x4 * j, 16, 2, .rwl, 0, 15⟩
def F.ACQ_RCMD_CMD (i : Nat) : Fld := ⟨0x01800424 + 0x40 * i, 0, 4, .wo, 0, 0⟩
def F.ACQ_RSTAT_STATE (i : Nat) : Fld := ⟨0x01800428 + 0x40 * i, 0, 3, .ro, 0, 15⟩
def F.ACQ_RSTAT_TRUNC (i : Nat) : Fld := ⟨0x01800428 + 0x40 * i, 4, 1, .ro, 0, 15⟩
def F.ACQ_RSTAT_HOLDOFF (i : Nat) : Fld := ⟨0x01800428 + 0x40 * i, 5, 1, .ro, 0, 15⟩
def F.ACQ_RSTAT_EXPORT (i : Nat) : Fld := ⟨0x01800428 + 0x40 * i, 6, 1, .ro, 0, 15⟩
def F.ACQ_RCAP_CAPTURE (i : Nat) : Fld := ⟨0x0180042C + 0x40 * i, 0, 32, .ro, 0, 15⟩
def F.ACQ_RTTIME_T (i : Nat) : Fld := ⟨0x01800430 + 0x40 * i, 0, 32, .ro, 0, 15⟩
def F.ACQ_RCNT_PREIGN (i : Nat) : Fld := ⟨0x01800434 + 0x40 * i, 0, 16, .w1c, 0, 7⟩
def F.ACQ_RCNT_HOLDTRG (i : Nat) : Fld := ⟨0x01800434 + 0x40 * i, 16, 16, .w1c, 0, 7⟩
def F.ACQ_RCNT2_TRUNCS (i : Nat) : Fld := ⟨0x01800438 + 0x40 * i, 0, 16, .w1c, 0, 7⟩
def F.ACQ_RCNT2_FOREIGN (i : Nat) : Fld := ⟨0x01800438 + 0x40 * i, 16, 16, .w1c, 0, 7⟩
def F.LCL_RECTRIG_REC (i : Nat) : Fld := ⟨0x100000010 + 0x1000 * i, 0, 16, .wo, 0, 31⟩
def F.ACQ_CH_ID (i j : Nat) : Fld := ⟨0x01804000 + 0x400 * i + 0x4 * j, 0, 13, .rwl, 0, 15⟩
def F.ACQ_CH_KIND (i j : Nat) : Fld := ⟨0x01804000 + 0x400 * i + 0x4 * j, 14, 2, .rwl, 0, 15⟩
def F.ACQ_CH_E (i j : Nat) : Fld := ⟨0x01804000 + 0x400 * i + 0x4 * j, 16, 8, .rwl, 0, 15⟩
def F.ACQ_CH_TCMP (i j : Nat) : Fld := ⟨0x01804000 + 0x400 * i + 0x4 * j, 24, 2, .rwl, 0, 15⟩
def F.ACQ_HE0 (i : Nat) : Fld := ⟨0x01801000 + 0x4 * i, 0, 8, .rwl, 2, 15⟩
def F.ACQ_HE1 (i : Nat) : Fld := ⟨0x01801000 + 0x4 * i, 8, 8, .rwl, 2, 15⟩
def F.ACQ_HE2 (i : Nat) : Fld := ⟨0x01801000 + 0x4 * i, 16, 8, .rwl, 2, 15⟩
def F.ACQ_HE3 (i : Nat) : Fld := ⟨0x01801000 + 0x4 * i, 24, 8, .rwl, 2, 15⟩
def F.ACQ_MCFG_REC (i : Nat) : Fld := ⟨0x01800800 + 0x10 * i, 0, 4, .rwl, 0, 15⟩
def F.ACQ_MCFG_CHAN (i : Nat) : Fld := ⟨0x01800800 + 0x10 * i, 8, 8, .rwl, 0, 15⟩
def F.ACQ_MCFG_ACTION (i : Nat) : Fld := ⟨0x01800800 + 0x10 * i, 16, 2, .rwl, 0, 15⟩
def F.ACQ_MCFG_MINVIOL (i : Nat) : Fld := ⟨0x01800800 + 0x10 * i, 24, 8, .rwl, 1, 15⟩
def F.ACQ_MCNT_VIOL (i : Nat) : Fld := ⟨0x01800804 + 0x10 * i, 0, 16, .w1c, 0, 7⟩
def F.ACQ_MCNT_RUN (i : Nat) : Fld := ⟨0x01800804 + 0x10 * i, 16, 8, .ro, 0, 15⟩
def F.ACQ_MLAST_TIME (i : Nat) : Fld := ⟨0x01800808 + 0x10 * i, 0, 32, .ro, 0, 15⟩
def F.AFE_CTRL_EN : Fld := ⟨0x01810000, 0, 8, .rwl, 0, 15⟩
def F.AFE_CTRL_RANGE : Fld := ⟨0x01810000, 8, 8, .rwl, 0, 15⟩
def F.AFE_STATUS_CALOK : Fld := ⟨0x01810004, 0, 1, .ro, 0, 7⟩
def F.AFE_STATUS_WRBUSY : Fld := ⟨0x01810004, 1, 1, .ro, 0, 7⟩
def F.AFE_STATUS_ORIGIN : Fld := ⟨0x01810004, 2, 1, .ro, 0, 0⟩
def F.AFE_STATUS_WRITES : Fld := ⟨0x01810004, 16, 16, .ro, 0, 0⟩
def F.AFE_SERIAL_LO : Fld := ⟨0x01810008, 0, 32, .ro, 0, 0⟩
def F.AFE_SERIAL_HI : Fld := ⟨0x0181000C, 0, 32, .ro, 0, 0⟩
def F.AFE_RES_VALUE (i : Nat) : Fld := ⟨0x01810010 + 0x4 * i, 0, 32, .ro, 0, 15⟩
def F.AFE_RQ_QUALITY (i : Nat) : Fld := ⟨0x01810030 + 0x4 * i, 0, 14, .ro, 1, 15⟩
def F.AFE_RQ_SAT (i : Nat) : Fld := ⟨0x01810030 + 0x4 * i, 14, 1, .ro, 0, 15⟩
def F.AFE_RQ_SEQ (i : Nat) : Fld := ⟨0x01810030 + 0x4 * i, 16, 16, .ro, 0, 15⟩
def F.AFE_CNT_BUSY : Fld := ⟨0x01810050, 0, 16, .w1c, 0, 7⟩
def F.AFE_CNT_OVR : Fld := ⟨0x01810050, 16, 16, .w1c, 0, 7⟩
def F.AFE_DRIFT_ODRIFT (i : Nat) : Fld := ⟨0x01810060 + 0x4 * i, 0, 16, .ro, 0, 7⟩
def F.AFE_DRIFT_GDRIFT (i : Nat) : Fld := ⟨0x01810060 + 0x4 * i, 16, 16, .ro, 0, 7⟩
def F.LGE_CTRL_STOPOVR : Fld := ⟨0x01900000, 0, 8, .rwl, 3, 15⟩
def F.LGE_CMD : Fld := ⟨0x01900004, 0, 7, .wo, 0, 0⟩
def F.LGE_STATUS_MODE : Fld := ⟨0x01900008, 0, 2, .ro, 0, 15⟩
def F.LGE_STATUS_LOADED : Fld := ⟨0x01900008, 2, 1, .ro, 0, 15⟩
def F.LGE_STATUS_LASTRST : Fld := ⟨0x01900008, 4, 2, .ro, 0, 15⟩
def F.LGE_STATUS_BPHIT : Fld := ⟨0x01900008, 8, 5, .ro, 0, 15⟩
def F.LGE_HOLDPC_PC : Fld := ⟨0x0190000C, 0, 24, .ro, 0, 15⟩
def F.LGE_EXEC_LAST : Fld := ⟨0x01900010, 0, 16, .ro, 0, 15⟩
def F.LGE_EXEC_PEAK : Fld := ⟨0x01900010, 16, 16, .w1c, 0, 7⟩
def F.LGE_CNT_OVERRUN : Fld := ⟨0x01900014, 0, 16, .w1c, 0, 7⟩
def F.LGE_CNT_REFUSED : Fld := ⟨0x01900014, 16, 16, .w1c, 0, 7⟩
def F.LGE_CYC_CYCLES : Fld := ⟨0x01900018, 0, 32, .ro, 0, 15⟩
def F.LGE_USE_INSTKIB : Fld := ⟨0x0190001C, 0, 13, .ro, 0, 15⟩
def F.LGE_USE_RETKIB : Fld := ⟨0x0190001C, 16, 13, .ro, 0, 15⟩
def F.LGE_PROGID_LO : Fld := ⟨0x01900020, 0, 32, .ro, 0, 15⟩
def F.LGE_PROGID_HI : Fld := ⟨0x01900024, 0, 32, .ro, 0, 15⟩
def F.LGE_BP_ADDR (i : Nat) : Fld := ⟨0x01900040 + 0x4 * i, 0, 24, .rw, 0, 15⟩
def F.LGE_BP_EN (i : Nat) : Fld := ⟨0x01900040 + 0x4 * i, 31, 1, .rw, 0, 15⟩
def F.LGE_CMDW (i : Nat) : Fld := ⟨0x01900100 + 0x4 * i, 0, 32, .rw, 0, 15⟩
def F.LGE_REPW (i : Nat) : Fld := ⟨0x01900200 + 0x4 * i, 0, 32, .ro, 0, 15⟩
def F.HLX_CTRL_REPLYWIN : Fld := ⟨0x01910000, 0, 14, .rwl, 0x96, 15⟩
def F.HLX_CTRL_TB : Fld := ⟨0x01910000, 14, 2, .rwl, 0, 15⟩
def F.HLX_CTRL_DROPCNT : Fld := ⟨0x01910000, 16, 8, .rwl, 3, 15⟩
def F.HLX_CTRL_RETCNT : Fld := ⟨0x01910000, 24, 4, .rwl, 2, 15⟩
def F.HLX_RDA_LO : Fld := ⟨0x01910004, 0, 32, .rwl, 0, 15⟩
def F.HLX_RDA_HI : Fld := ⟨0x01910008, 0, 16, .rwl, 0, 15⟩
def F.HLX_OK_LO : Fld := ⟨0x0191000C, 0, 32, .ro, 0, 15⟩
def F.HLX_OK_HI : Fld := ⟨0x01910010, 0, 32, .ro, 0, 15⟩
def F.HLX_CNT_SKIPPED : Fld := ⟨0x01910014, 0, 16, .w1c, 0, 7⟩
def F.HLX_CNT_BADREP : Fld := ⟨0x01910014, 16, 16, .w1c, 0, 7⟩
def F.HLX_SEQ : Fld := ⟨0x01910018, 0, 16, .ro, 0, 15⟩
def F.HLX_HCFG_PORT (i : Nat) : Fld := ⟨0x01911000 + 0x20 * i, 0, 4, .rwl, 0, 15⟩
def F.HLX_HCFG_WDMISS (i : Nat) : Fld := ⟨0x01911000 + 0x20 * i, 8, 8, .rwl, 3, 15⟩
def F.HLX_HCFG_VALID (i : Nat) : Fld := ⟨0x01911000 + 0x20 * i, 31, 1, .rwl, 0, 15⟩
def F.HLX_HMAC_LO (i : Nat) : Fld := ⟨0x01911004 + 0x20 * i, 0, 32, .rwl, 0, 15⟩
def F.HLX_HMAC_HI (i : Nat) : Fld := ⟨0x01911008 + 0x20 * i, 0, 16, .rwl, 0, 15⟩
def F.HLX_HSAFE_LO (i : Nat) : Fld := ⟨0x0191100C + 0x20 * i, 0, 32, .rwl, 0, 15⟩
def F.HLX_HSAFE_HI (i : Nat) : Fld := ⟨0x01911010 + 0x20 * i, 0, 32, .rwl, 0, 15⟩
def F.HLX_HSTAT_STATUS (i : Nat) : Fld := ⟨0x01911014 + 0x20 * i, 0, 5, .ro, 0, 15⟩
def F.HLX_HSTAT_AGE (i : Nat) : Fld := ⟨0x01911014 + 0x20 * i, 16, 16, .ro, 0, 15⟩
def F.HLX_HCNT_LATE (i : Nat) : Fld := ⟨0x01911018 + 0x20 * i, 0, 16, .w1c, 0, 7⟩
def F.HLX_HCNT_DROPS (i : Nat) : Fld := ⟨0x01911018 + 0x20 * i, 16, 16, .w1c, 0, 7⟩
def F.INS_POOLFREE_DRAM : Fld := ⟨0x01A00000, 0, 14, .ro, 0, 15⟩
def F.INS_POOLFREE_QUEUES : Fld := ⟨0x01A00000, 16, 6, .ro, 0, 15⟩
def F.INS_CNT_BADCMD : Fld := ⟨0x01A00004, 0, 16, .w1c, 0, 7⟩
def F.INS_CNT_QREFUSE : Fld := ⟨0x01A00004, 16, 16, .w1c, 0, 7⟩
def F.INS_SEM_TRY (i : Nat) : Fld := ⟨0x01A02000 + 0x4 * i, 0, 16, .rw, 0, 7⟩
def F.INS_SEM_HOLDER (i : Nat) : Fld := ⟨0x01A02000 + 0x4 * i, 16, 8, .ro, 0xFF, 7⟩
def F.INS_SEM_BROKEN (i : Nat) : Fld := ⟨0x01A02000 + 0x4 * i, 24, 1, .ro, 0, 7⟩
def F.INS_QOWN_OWNER (i : Nat) : Fld := ⟨0x01A02400 + 0x4 * i, 0, 6, .rw, 0, 15⟩
def F.INS_ICMD_CMD (i : Nat) : Fld := ⟨0x01A00100 + 0x40 * i, 0, 3, .wo, 0, 0⟩
def F.INS_ISTAT_STATE (i : Nat) : Fld := ⟨0x01A00104 + 0x40 * i, 0, 3, .ro, 0, 15⟩
def F.INS_ISTAT_OVERQ (i : Nat) : Fld := ⟨0x01A00104 + 0x40 * i, 8, 4, .ro, 0, 15⟩
def F.INS_QUOTA_DRAM (i : Nat) : Fld := ⟨0x01A00108 + 0x40 * i, 0, 14, .rw, 0, 15⟩
def F.INS_QUOTA_QUEUES (i : Nat) : Fld := ⟨0x01A00108 + 0x40 * i, 16, 5, .rw, 0, 15⟩
def F.INS_QUOTA_SEMS (i : Nat) : Fld := ⟨0x01A00108 + 0x40 * i, 24, 8, .rw, 0, 15⟩
def F.INS_QUOTA2_MBDEPTH (i : Nat) : Fld := ⟨0x01A0010C + 0x40 * i, 0, 5, .rw, 0x10, 15⟩
def F.INS_USE_DRAM (i : Nat) : Fld := ⟨0x01A00110 + 0x40 * i, 0, 14, .ro, 0, 15⟩
def F.INS_USE_SEMS (i : Nat) : Fld := ⟨0x01A00110 + 0x40 * i, 24, 8, .ro, 0, 15⟩
def F.INS_HEAP_SIZE (i : Nat) : Fld := ⟨0x01A00114 + 0x40 * i, 0, 14, .rw, 0, 15⟩
def F.INS_HEAPBASE_BASE (i : Nat) : Fld := ⟨0x01A00118 + 0x40 * i, 0, 21, .ro, 0, 31⟩
def F.INS_MBCNT_IREFUSED (i : Nat) : Fld := ⟨0x01A0011C + 0x40 * i, 0, 16, .w1c, 0, 7⟩
def F.INS_MBCNT_OFULLS (i : Nat) : Fld := ⟨0x01A0011C + 0x40 * i, 16, 16, .w1c, 0, 7⟩
def F.INS_DHASH_LO (i : Nat) : Fld := ⟨0x01A00120 + 0x40 * i, 0, 32, .ro, 0, 15⟩
def F.INS_DHASH_HI (i : Nat) : Fld := ⟨0x01A00124 + 0x40 * i, 0, 32, .ro, 0, 15⟩
def F.LCL_MB_STAT_INCNT (i : Nat) : Fld := ⟨0x100000020 + 0x1000 * i, 0, 5, .ro, 0, 31⟩
def F.LCL_MB_STAT_OUTCNT (i : Nat) : Fld := ⟨0x100000020 + 0x1000 * i, 8, 5, .ro, 0, 31⟩
def F.LCL_MB_STAT_DOOR (i : Nat) : Fld := ⟨0x100000020 + 0x1000 * i, 16, 1, .w1c, 0, 31⟩
def F.LCL_MB_STAT_OFULL (i : Nat) : Fld := ⟨0x100000020 + 0x1000 * i, 17, 1, .w1c, 0, 31⟩
def F.LCL_MB_INHDR_OP (i : Nat) : Fld := ⟨0x100000024 + 0x1000 * i, 0, 16, .ro, 0, 31⟩
def F.LCL_MB_INHDR_LEN (i : Nat) : Fld := ⟨0x100000024 + 0x1000 * i, 16, 7, .ro, 0, 31⟩
def F.LCL_MB_POP (i : Nat) : Fld := ⟨0x100000028 + 0x1000 * i, 0, 1, .wo, 0, 0⟩
def F.LCL_MB_PUSH_OPLEN (i : Nat) : Fld := ⟨0x10000002C + 0x1000 * i, 0, 23, .wo, 0, 0⟩
def F.LCL_MB_IN (i j : Nat) : Fld := ⟨0x100000100 + 0x1000 * i + 0x4 * j, 0, 32, .ro, 0, 31⟩
def F.LCL_MB_OUT (i j : Nat) : Fld := ⟨0x100000140 + 0x1000 * i + 0x4 * j, 0, 32, .rw, 0, 31⟩
def F.LCL_SEM_TRY (i j : Nat) : Fld := ⟨0x100000400 + 0x1000 * i + 0x4 * j, 0, 16, .rw, 0, 7⟩
def F.DMX_CHSRC_LO (i : Nat) : Fld := ⟨0x01B00000 + 0x80 * i, 0, 32, .rw, 0, 31⟩
def F.DMX_CHSRC_HI (i : Nat) : Fld := ⟨0x01B00004 + 0x80 * i, 0, 8, .rw, 0, 31⟩
def F.DMX_CHDST_LO (i : Nat) : Fld := ⟨0x01B00008 + 0x80 * i, 0, 32, .rw, 0, 31⟩
def F.DMX_CHDST_HI (i : Nat) : Fld := ⟨0x01B0000C + 0x80 * i, 0, 8, .rw, 0, 31⟩
def F.DMX_CHCNT_CNT (i : Nat) : Fld := ⟨0x01B00010 + 0x80 * i, 0, 28, .rw, 0, 31⟩
def F.DMX_CHTAG_TAG (i : Nat) : Fld := ⟨0x01B00014 + 0x80 * i, 0, 32, .rw, 0, 31⟩
def F.DMX_CHLINK_LO (i : Nat) : Fld := ⟨0x01B00018 + 0x80 * i, 0, 32, .rw, 0, 31⟩
def F.DMX_CHLINK_HI (i : Nat) : Fld := ⟨0x01B0001C + 0x80 * i, 0, 8, .rw, 0, 31⟩
def F.DMX_CHCTL_START (i : Nat) : Fld := ⟨0x01B00020 + 0x80 * i, 0, 1, .w1s, 0, 31⟩
def F.DMX_CHCTL_CHAIN (i : Nat) : Fld := ⟨0x01B00020 + 0x80 * i, 1, 1, .rw, 0, 31⟩
def F.DMX_CHCTL_DOORBELL (i : Nat) : Fld := ⟨0x01B00020 + 0x80 * i, 2, 1, .w1s, 0, 31⟩
def F.DMX_CHCTL_RESUME (i : Nat) : Fld := ⟨0x01B00020 + 0x80 * i, 3, 1, .w1s, 0, 31⟩
def F.DMX_CHCTL_ABORT (i : Nat) : Fld := ⟨0x01B00020 + 0x80 * i, 4, 1, .w1s, 0, 31⟩
def F.DMX_CHCTL_ERRCLR (i : Nat) : Fld := ⟨0x01B00020 + 0x80 * i, 5, 1, .w1s, 0, 31⟩
def F.DMX_CHCTL_PRIO (i : Nat) : Fld := ⟨0x01B00020 + 0x80 * i, 8, 8, .rw, 8, 15⟩
def F.DMX_CHSTAT_STATE (i : Nat) : Fld := ⟨0x01B00024 + 0x80 * i, 0, 3, .ro, 0, 15⟩
def F.DMX_CHSTAT_CHIDLE (i : Nat) : Fld := ⟨0x01B00024 + 0x80 * i, 4, 1, .ro, 0, 31⟩
def F.DMX_CHSTAT_ERR (i : Nat) : Fld := ⟨0x01B00024 + 0x80 * i, 5, 1, .ro, 0, 31⟩
def F.DMX_CHSTAT_ERRDIR (i : Nat) : Fld := ⟨0x01B00024 + 0x80 * i, 6, 1, .ro, 0, 31⟩
def F.DMX_CHERRA_LO (i : Nat) : Fld := ⟨0x01B00028 + 0x80 * i, 0, 32, .ro, 0, 31⟩
def F.DMX_CHERRA_HI (i : Nat) : Fld := ⟨0x01B0002C + 0x80 * i, 0, 8, .ro, 0, 31⟩
def F.DMX_QPUSH_DESC (i : Nat) : Fld := ⟨0x01B00030 + 0x80 * i, 0, 32, .wo, 0, 0⟩
def F.DMX_QSTAT_DEPTH (i : Nat) : Fld := ⟨0x01B00034 + 0x80 * i, 0, 5, .ro, 0, 31⟩
def F.DMX_QSTAT_FENCED (i : Nat) : Fld := ⟨0x01B00034 + 0x80 * i, 8, 1, .ro, 0, 15⟩
def F.DMX_QCRWR_WR (i : Nat) : Fld := ⟨0x01B00038 + 0x80 * i, 0, 16, .ro, 0, 31⟩
def F.DMX_QCNT_ABORTS (i : Nat) : Fld := ⟨0x01B0003C + 0x80 * i, 0, 16, .w1c, 0, 7⟩
def F.DMX_QCNT_REFUSED (i : Nat) : Fld := ⟨0x01B0003C + 0x80 * i, 16, 16, .w1c, 0, 7⟩
def F.DMX_QCRBASE_LDEPTH (i : Nat) : Fld := ⟨0x01B00040 + 0x80 * i, 0, 4, .rwl, 4, 15⟩
def F.DMX_QCRBASE_OFS (i : Nat) : Fld := ⟨0x01B00040 + 0x80 * i, 6, 26, .rwl, 0, 15⟩
def F.DMX_QCNT2_ERRS (i : Nat) : Fld := ⟨0x01B00044 + 0x80 * i, 0, 16, .w1c, 0, 7⟩
def F.DMX_QCNT2_RXNODESC (i : Nat) : Fld := ⟨0x01B00044 + 0x80 * i, 16, 16, .w1c, 0, 7⟩
def F.DMX_ARB_NFREE (i : Nat) : Fld := ⟨0x01B01000 + 0x4 * i, 0, 7, .rw, 8, 15⟩
def F.DMX_ARB_BUSY (i : Nat) : Fld := ⟨0x01B01000 + 0x4 * i, 16, 16, .ro, 0, 7⟩
def F.MEM_ARB_NFREE : Fld := ⟨0x01C00000, 0, 7, .rw, 8, 15⟩
def F.MEM_ECC_CECC : Fld := ⟨0x01C00004, 0, 16, .w1c, 0, 7⟩
def F.MEM_ECC_UECC : Fld := ⟨0x01C00004, 16, 16, .w1c, 0, 7⟩
def F.MEM_ECCADDR_LO : Fld := ⟨0x01C00008, 0, 32, .ro, 0, 7⟩
def F.MEM_ECCADDR_HI : Fld := ⟨0x01C0000C, 0, 16, .ro, 0, 7⟩
def F.MEM_DTEMP_NOW : Fld := ⟨0x01C00010, 0, 8, .ro, 0, 7⟩
def F.MEM_DTEMP_TRAINED : Fld := ⟨0x01C00010, 8, 8, .ro, 0, 7⟩
def F.MEM_ARBPRIO (i : Nat) : Fld := ⟨0x01C00040 + 0x4 * i, 0, 8, .rw, (([14, 15, 12, 12, 8, 8, 10, 13, 0] : List Nat).getD i 0), 15⟩
def F.VLT_STATUS_ROOT : Fld := ⟨0x01030000, 0, 1, .ro, 0, 7⟩
def F.VLT_STATUS_RECS : Fld := ⟨0x01030000, 1, 3, .ro, 0, 7⟩
def F.VLT_STATUS_FAIL : Fld := ⟨0x01030000, 4, 1, .ro, 0, 7⟩
def F.VLT_STATUS_TESTING : Fld := ⟨0x01030000, 5, 1, .ro, 0, 7⟩
def F.VLT_BOOT : Fld := ⟨0x01030004, 0, 32, .ro, 0, 0⟩
def F.VLT_CNT_KCVERR : Fld := ⟨0x01030008, 0, 16, .w1c, 0, 7⟩
def F.VLT_CNT_VERIFAIL : Fld := ⟨0x01030008, 16, 16, .w1c, 0, 7⟩
def F.VLT_CNT2_REFUSED : Fld := ⟨0x0103000C, 0, 16, .w1c, 0, 7⟩
def F.VLT_LAST_OP : Fld := ⟨0x01030010, 0, 16, .ro, 0, 7⟩
def F.VLT_LAST_STATUS : Fld := ⟨0x01030010, 16, 8, .ro, 0, 7⟩
def F.TOK_CTRL_MODE : Fld := ⟨0x01D00000, 0, 2, .rwl, 0, 15⟩
def F.TOK_CTRL_POSITION : Fld := ⟨0x01D00000, 4, 2, .rwl, 0, 15⟩
def F.TOK_CTRL_LEASE : Fld := ⟨0x01D00000, 8, 7, .rwl, 0xA, 15⟩
def F.TOK_CTRL_GUARD : Fld := ⟨0x01D00000, 16, 8, .rwl, 0x14, 15⟩
def F.TOK_CTRL_LINKLAT : Fld := ⟨0x01D00000, 24, 8, .rwl, 0x32, 15⟩
def F.TOK_PLADDR_LO : Fld := ⟨0x01D00004, 0, 32, .rwl, 0, 15⟩
def F.TOK_PLADDR_HI : Fld := ⟨0x01D00008, 0, 16, .rwl, 0, 15⟩
def F.TOK_STATUS_HELD : Fld := ⟨0x01D0000C, 0, 2, .ro, 0, 7⟩
def F.TOK_STATUS_SOLO : Fld := ⟨0x01D0000C, 2, 1, .ro, 0, 7⟩
def F.TOK_STATUS_HEARD : Fld := ⟨0x01D0000C, 3, 1, .ro, 0, 7⟩
def F.TOK_STATUS_LINKS : Fld := ⟨0x01D0000C, 4, 2, .ro, 0, 7⟩
def F.TOK_STATUS_PEERS : Fld := ⟨0x01D0000C, 6, 2, .ro, 0, 7⟩
def F.TOK_LEASE_REMAIN : Fld := ⟨0x01D00010, 0, 20, .ro, 0, 7⟩
def F.TOK_TAKESEQ : Fld := ⟨0x01D00014, 0, 32, .ro, 0, 0⟩
def F.TOK_SYNC_CKPT : Fld := ⟨0x01D00018, 0, 1, .ro, 0, 15⟩
def F.TOK_SYNC_RETAIN : Fld := ⟨0x01D00018, 1, 1, .ro, 0, 15⟩
def F.TOK_SYNC_NINST : Fld := ⟨0x01D00018, 8, 8, .ro, 0, 15⟩
def F.TOK_SYNC_AGE : Fld := ⟨0x01D00018, 16, 16, .ro, 0, 15⟩
def F.TOK_CMD_TAKE : Fld := ⟨0x01D0001C, 0, 1, .wo, 0, 0⟩
def F.TOK_CMD_RELEASE : Fld := ⟨0x01D0001C, 1, 1, .wo, 0, 0⟩
def F.TOK_CMD_POS : Fld := ⟨0x01D0001C, 4, 1, .wo, 0, 0⟩
def F.TOK_CMD_KEY : Fld := ⟨0x01D0001C, 16, 16, .wo, 0, 0⟩
def F.TOK_CNT_TAKES : Fld := ⟨0x01D00020, 0, 16, .w1c, 0, 7⟩
def F.TOK_CNT_EXPIRIES : Fld := ⟨0x01D00020, 16, 16, .w1c, 0, 7⟩
def F.TOK_CNT2_LATEACK : Fld := ⟨0x01D00024, 0, 16, .w1c, 0, 7⟩
def F.TOK_CNT2_CATCHUP : Fld := ⟨0x01D00024, 16, 16, .w1c, 0, 7⟩
def F.TOK_CNT3_CKPTREJ : Fld := ⟨0x01D00028, 0, 16, .w1c, 0, 7⟩
def F.TOK_CNT3_LINKDN : Fld := ⟨0x01D00028, 16, 16, .w1c, 0, 7⟩
def F.TOK_CNT4_CMDREF : Fld := ⟨0x01D0002C, 0, 16, .w1c, 0, 7⟩
def F.PUB_SCFG_QUEUE (i : Nat) : Fld := ⟨0x01718000 + 0x40 * i, 16, 3, .rwl, 0, 15⟩
def F.PUB_SCFG_TWIN (i : Nat) : Fld := ⟨0x01718000 + 0x40 * i, 20, 1, .rwl, 0, 15⟩
def F.PUB_SCFG_AUTH (i : Nat) : Fld := ⟨0x01718000 + 0x40 * i, 21, 2, .rwl, 0, 15⟩
def F.PUB_SCFG_STAMP (i : Nat) : Fld := ⟨0x01718000 + 0x40 * i, 23, 1, .rwl, 0, 15⟩
def F.PUB_SCFG_VALID (i : Nat) : Fld := ⟨0x01718000 + 0x40 * i, 31, 1, .rwl, 0, 15⟩
def F.PUB_SPORTS_PORTS (i : Nat) : Fld := ⟨0x01718004 + 0x40 * i, 0, 16, .rwl, 0, 15⟩
def F.PUB_SPORTS_MIRROR (i : Nat) : Fld := ⟨0x01718004 + 0x40 * i, 16, 2, .rwl, 0, 15⟩
def F.PUB_SPORTS_SBPORT (i : Nat) : Fld := ⟨0x01718004 + 0x40 * i, 18, 2, .rwl, 0, 15⟩
def F.PUB_SPRE_PREOFS (i : Nat) : Fld := ⟨0x01718008 + 0x40 * i, 0, 16, .rwl, 0, 15⟩
def F.PUB_SPRE_PRELEN (i : Nat) : Fld := ⟨0x01718008 + 0x40 * i, 16, 11, .rwl, 0, 15⟩
def F.PUB_SMAC_LO (i : Nat) : Fld := ⟨0x01718018 + 0x40 * i, 0, 32, .rwl, 0, 15⟩
def F.PUB_SMAC_HI (i : Nat) : Fld := ⟨0x0171801C + 0x40 * i, 0, 16, .rwl, 0, 15⟩
def F.PUB_SFRM_LO (i : Nat) : Fld := ⟨0x01718030 + 0x40 * i, 0, 32, .ro, 0, 7⟩
def F.PUB_SFRM_HI (i : Nat) : Fld := ⟨0x01718034 + 0x40 * i, 0, 16, .ro, 0, 7⟩
def F.PUB_SCNT_NOTAG (i : Nat) : Fld := ⟨0x01718038 + 0x40 * i, 0, 16, .w1c, 0, 7⟩
def F.PUB_SCNT_GATED (i : Nat) : Fld := ⟨0x01718038 + 0x40 * i, 16, 16, .w1c, 0, 7⟩
def F.PUB_TMEM (i : Nat) : Fld := ⟨0x01720000 + 0x4 * i, 0, 32, .rwl, 0, 15⟩
def F.TSU_FT_RXLAT (i : Nat) : Fld := ⟨0x01201800 + 0x4 * i, 0, 16, .ro, 0, 7⟩
def F.TSU_FT_TXLAT (i : Nat) : Fld := ⟨0x01201800 + 0x4 * i, 16, 16, .ro, 0, 7⟩
def F.SBP_CTRL_MODE (i : Nat) : Fld := ⟨0x03000000 + 0x1000 * i, 0, 4, .rw, 0, 1⟩
def F.SBP_CTRL_AN (i : Nat) : Fld := ⟨0x03000000 + 0x1000 * i, 4, 1, .rw, 0, 1⟩
def F.SBP_CTRL_PAUSE_EN (i : Nat) : Fld := ⟨0x03000000 + 0x1000 * i, 5, 1, .rw, 0, 1⟩
def F.SBP_CTRL_BCAST (i : Nat) : Fld := ⟨0x03000000 + 0x1000 * i, 6, 1, .rw, 0, 1⟩
def F.SBP_CTRL_SDALLOW (i : Nat) : Fld := ⟨0x03000000 + 0x1000 * i, 10, 1, .rw, 0, 1⟩
def F.SBP_STATUS_LINK (i : Nat) : Fld := ⟨0x03000004 + 0x1000 * i, 0, 1, .ro, 0, 1⟩
def F.SBP_STATUS_PAUSED (i : Nat) : Fld := ⟨0x03000004 + 0x1000 * i, 1, 1, .ro, 0, 1⟩
def F.SBP_STATUS_SNF (i : Nat) : Fld := ⟨0x03000004 + 0x1000 * i, 2, 1, .ro, 0, 1⟩
def F.SBP_STATUS_SDINH (i : Nat) : Fld := ⟨0x03000004 + 0x1000 * i, 3, 1, .ro, 0, 1⟩
def F.SBP_STATUS_RENEG (i : Nat) : Fld := ⟨0x03000004 + 0x1000 * i, 4, 1, .ro, 0, 1⟩
def F.SBP_STATUS_RATE (i : Nat) : Fld := ⟨0x03000004 + 0x1000 * i, 5, 2, .ro, 0, 1⟩
def F.MTP_CTRL_MODE : Fld := ⟨0x03004000, 0, 2, .rw, 0, 1⟩
def F.MTP_CTRL_HDX : Fld := ⟨0x03004000, 2, 1, .rw, 0, 1⟩
def F.MTP_CTRL_AN : Fld := ⟨0x03004000, 4, 1, .rw, 0, 1⟩
def F.MTP_CTRL_PAUSE_EN : Fld := ⟨0x03004000, 5, 1, .rw, 0, 1⟩
def F.MTP_CTRL_BCAST : Fld := ⟨0x03004000, 6, 1, .rw, 0, 1⟩
def F.MTP_STATUS_LINK : Fld := ⟨0x03004004, 0, 1, .ro, 0, 1⟩
def F.MTP_STATUS_PAUSED : Fld := ⟨0x03004004, 1, 1, .ro, 0, 1⟩
def F.MTP_STATUS_SNF : Fld := ⟨0x03004004, 2, 1, .ro, 0, 1⟩
def F.MTP_STATUS_RATE : Fld := ⟨0x03004004, 8, 3, .ro, 0, 1⟩
def F.SBP_TXTHR_START (i : Nat) : Fld := ⟨0x03000008 + 0x1000 * i, 0, 11, .rw, 0x100, 1⟩
def F.SBP_PRIMAP_MAP (i : Nat) : Fld := ⟨0x0300000C + 0x1000 * i, 0, 24, .rw, 0xFAC688, 1⟩
def F.SBP_PAUSE_QUANTA (i : Nat) : Fld := ⟨0x03000010 + 0x1000 * i, 0, 16, .ro, 0, 1⟩
def F.SBP_MAC_LO (i : Nat) : Fld := ⟨0x03000018 + 0x1000 * i, 0, 32, .rw, 0, 1⟩
def F.SBP_MAC_HI (i : Nat) : Fld := ⟨0x0300001C + 0x1000 * i, 0, 16, .rw, 0, 1⟩
def F.SBP_RXFRM_LO (i : Nat) : Fld := ⟨0x03000040 + 0x1000 * i, 0, 32, .ro, 0, 1⟩
def F.SBP_RXFRM_HI (i : Nat) : Fld := ⟨0x03000044 + 0x1000 * i, 0, 16, .ro, 0, 1⟩
def F.SBP_RXOCT_LO (i : Nat) : Fld := ⟨0x03000048 + 0x1000 * i, 0, 32, .ro, 0, 1⟩
def F.SBP_RXOCT_HI (i : Nat) : Fld := ⟨0x0300004C + 0x1000 * i, 0, 16, .ro, 0, 1⟩
def F.SBP_TXFRM_LO (i : Nat) : Fld := ⟨0x03000050 + 0x1000 * i, 0, 32, .ro, 0, 1⟩
def F.SBP_TXFRM_HI (i : Nat) : Fld := ⟨0x03000054 + 0x1000 * i, 0, 16, .ro, 0, 1⟩
def F.SBP_TXOCT_LO (i : Nat) : Fld := ⟨0x03000058 + 0x1000 * i, 0, 32, .ro, 0, 1⟩
def F.SBP_TXOCT_HI (i : Nat) : Fld := ⟨0x0300005C + 0x1000 * i, 0, 16, .ro, 0, 1⟩
def F.SBP_MCDROP_LO (i : Nat) : Fld := ⟨0x03000060 + 0x1000 * i, 0, 32, .ro, 0, 1⟩
def F.SBP_MCDROP_HI (i : Nat) : Fld := ⟨0x03000064 + 0x1000 * i, 0, 16, .ro, 0, 1⟩
def F.SBP_CRCERR (i : Nat) : Fld := ⟨0x03000080 + 0x1000 * i, 0, 16, .w1c, 0, 1⟩
def F.SBP_LENERR (i : Nat) : Fld := ⟨0x03000084 + 0x1000 * i, 0, 16, .w1c, 0, 1⟩
def F.SBP_RXOVF (i : Nat) : Fld := ⟨0x03000088 + 0x1000 * i, 0, 16, .w1c, 0, 1⟩
def F.SBP_UNDERRUN (i : Nat) : Fld := ⟨0x0300008C + 0x1000 * i, 0, 16, .w1c, 0, 1⟩
def F.SBP_PAUSERX (i : Nat) : Fld := ⟨0x03000090 + 0x1000 * i, 0, 16, .w1c, 0, 1⟩
def F.SBP_LINKDN (i : Nat) : Fld := ⟨0x03000094 + 0x1000 * i, 0, 16, .w1c, 0, 1⟩
def F.SBP_TXDROP (i : Nat) : Fld := ⟨0x03000098 + 0x1000 * i, 0, 16, .w1c, 0, 1⟩
def F.MTP_EXCOL : Fld := ⟨0x0300409C, 0, 16, .w1c, 0, 1⟩
def F.MTP_LATECOL : Fld := ⟨0x030040A0, 0, 16, .w1c, 0, 1⟩
def F.SBP_PORT_CTRL_STAMPTB (i : Nat) : Fld := ⟨0x03000400 + 0x1000 * i, 0, 2, .rw, 0, 1⟩
def F.SBP_PORT_CTRL_TCEN (i : Nat) : Fld := ⟨0x03000400 + 0x1000 * i, 8, 1, .rw, 0, 1⟩
def F.SBP_PORT_CTRL_TCPEER (i : Nat) : Fld := ⟨0x03000400 + 0x1000 * i, 9, 5, .rw, 0, 1⟩
def F.SBP_PORT_CTRL_TCMODE (i : Nat) : Fld := ⟨0x03000400 + 0x1000 * i, 14, 1, .rw, 0, 1⟩
def F.SBP_PORT_LAT_RXLAT (i : Nat) : Fld := ⟨0x03000404 + 0x1000 * i, 0, 16, .ro, 0, 1⟩
def F.SBP_PORT_LAT_TXLAT (i : Nat) : Fld := ⟨0x03000404 + 0x1000 * i, 16, 16, .ro, 0, 1⟩
def F.SBP_PORT_ASYM (i : Nat) : Fld := ⟨0x03000408 + 0x1000 * i, 0, 32, .rw, 0, 1⟩
def F.SBP_PORT_PDELAY (i : Nat) : Fld := ⟨0x0300040C + 0x1000 * i, 0, 32, .ro, 0, 1⟩
def F.SBP_EQP_W (i j : Nat) : Fld := ⟨0x03000410 + 0x1000 * i + 0x4 * j, 0, 32, .ro, 0, 1⟩
def F.SBP_EQG_W (i j : Nat) : Fld := ⟨0x03000420 + 0x1000 * i + 0x4 * j, 0, 32, .ro, 0, 1⟩
def F.SBP_EQ_POP_PPOP (i : Nat) : Fld := ⟨0x03000430 + 0x1000 * i, 0, 1, .w1s, 0, 1⟩
def F.SBP_EQ_POP_GPOP (i : Nat) : Fld := ⟨0x03000430 + 0x1000 * i, 1, 1, .w1s, 0, 1⟩
def F.SBP_EQ_STAT_PCOUNT (i : Nat) : Fld := ⟨0x03000434 + 0x1000 * i, 0, 6, .ro, 0, 1⟩
def F.SBP_EQ_STAT_POVF (i : Nat) : Fld := ⟨0x03000434 + 0x1000 * i, 6, 1, .w1c, 0, 1⟩
def F.SBP_EQ_STAT_GCOUNT (i : Nat) : Fld := ⟨0x03000434 + 0x1000 * i, 8, 9, .ro, 0, 1⟩
def F.SBP_EQ_STAT_GOVF (i : Nat) : Fld := ⟨0x03000434 + 0x1000 * i, 17, 1, .w1c, 0, 1⟩
def F.SBP_EQ_LOST_PLOST (i : Nat) : Fld := ⟨0x03000438 + 0x1000 * i, 0, 16, .w1c, 0, 1⟩
def F.SBP_EQ_LOST_GLOST (i : Nat) : Fld := ⟨0x03000438 + 0x1000 * i, 16, 16, .w1c, 0, 1⟩
def F.PRT_RXFRM_LIVE (i : Nat) : Fld := ⟨0x01100040 + 0x1000 * i, 32, 16, .ro, 0, 7⟩
def F.PRT_RXOCT_LIVE (i : Nat) : Fld := ⟨0x01100048 + 0x1000 * i, 32, 16, .ro, 0, 7⟩
def F.PRT_TXFRM_LIVE (i : Nat) : Fld := ⟨0x01100050 + 0x1000 * i, 32, 16, .ro, 0, 7⟩
def F.PRT_TXOCT_LIVE (i : Nat) : Fld := ⟨0x01100058 + 0x1000 * i, 32, 16, .ro, 0, 7⟩
def F.PRT_MCDROP_LIVE (i : Nat) : Fld := ⟨0x01100060 + 0x1000 * i, 32, 16, .ro, 0, 7⟩
def F.PRT_FTFRM_LIVE (i : Nat) : Fld := ⟨0x01112040 + 0x1000 * i, 32, 16, .ro, 0, 7⟩
def F.SVI_NOSUB_LIVE : Fld := ⟨0x01300010, 32, 16, .ro, 0, 7⟩
def F.SVI_PRPDUP_LIVE : Fld := ⟨0x01300018, 32, 16, .ro, 0, 7⟩
def F.SVI_SFRM_LIVE (i : Nat) : Fld := ⟨0x01310014 + 0x20 * i, 32, 16, .ro, 0, 15⟩
def F.FCH_FG_IDX_LIVE (i : Nat) : Fld := ⟨0x01401034 + 0x40 * i, 32, 32, .ro, 0, 15⟩
def F.PFM_LAUNCH_LIVE (i : Nat) : Fld := ⟨0x01500010 + 0x100 * i, 32, 16, .ro, 0, 7⟩
def F.PFM_BUSY_LIVE (i : Nat) : Fld := ⟨0x01500018 + 0x100 * i, 32, 16, .ro, 0, 7⟩
def F.PUB_DIG_LIVE : Fld := ⟨0x01700014, 32, 32, .ro, 0, 7⟩
def F.PUB_GFRM_LIVE (i : Nat) : Fld := ⟨0x01710030 + 0x40 * i, 32, 16, .ro, 0, 7⟩
def F.PUB_SFRM_LIVE (i : Nat) : Fld := ⟨0x01718030 + 0x40 * i, 32, 16, .ro, 0, 7⟩
def F.SBP_RXFRM_LIVE (i : Nat) : Fld := ⟨0x03000040 + 0x1000 * i, 32, 16, .ro, 0, 1⟩
def F.SBP_RXOCT_LIVE (i : Nat) : Fld := ⟨0x03000048 + 0x1000 * i, 32, 16, .ro, 0, 1⟩
def F.SBP_TXFRM_LIVE (i : Nat) : Fld := ⟨0x03000050 + 0x1000 * i, 32, 16, .ro, 0, 1⟩
def F.SBP_TXOCT_LIVE (i : Nat) : Fld := ⟨0x03000058 + 0x1000 * i, 32, 16, .ro, 0, 1⟩
def F.SBP_MCDROP_LIVE (i : Nat) : Fld := ⟨0x03000060 + 0x1000 * i, 32, 16, .ro, 0, 1⟩
def F.TTB_CYCNUM_LIVE : Fld := ⟨0x01210010, 32, 32, .ro, 0, 7⟩
def F.AFE_RQ_LIVE (i : Nat) : Fld := ⟨0x01810010 + 0x4 * i, 32, 32, .ro, 1, 15⟩

end Sys2Proof.Machine
end

