-- ==== Sys2Proof/Machine/RegTable.lean ====
section
/-!
DEFINITION. The register map: every register word of R26 and of the host-die pages with its fields, block by block.
An address that no row names is reserved: it reads 0 and ignores writes (R26).
-/
namespace Sys2Proof.Machine

def regsPwr0 : List RegDesc :=
  [⟨0x01000000, 0, 1, 0, 1, [F.PWR_STAGE, F.PWR_STAGE_FAILED, F.PWR_STAGE_CFG, F.PWR_STAGE_READY, F.PWR_STAGE_CALFAIL]⟩,
    ⟨0x01000004, 0, 1, 0, 1, [F.PWR_STATE, F.PWR_STATE_HOLDUP, F.PWR_STATE_HUC_OK, F.PWR_STATE_VIN, F.PWR_STATE_STORE]⟩,
    ⟨0x01000008, 0, 1, 0, 1, [F.PWR_CAUSE_KIND, F.PWR_CAUSE_SOURCE, F.PWR_CAUSE_WDOG]⟩,
    ⟨0x0100000C, 0, 1, 0, 1, [F.PWR_CMD_PARK, F.PWR_CMD_WAKE, F.PWR_CMD_MRESET, F.PWR_CMD_VOID, F.PWR_CMD_KEY]⟩,
    ⟨0x01000010, 0, 1, 0, 1, [F.PWR_WDT_MGR, F.PWR_WDT_KICKS]⟩]

/-- The registers of the block at 0x01000000. -/
def regsPwr : List RegDesc := regsPwr0

def regsRbk0 : List RegDesc :=
  [⟨0x01020000, 0, 1, 0, 1, [F.RBK_STATUS_ACTIVE, F.RBK_STATUS_VALID_A, F.RBK_STATUS_VALID_B, F.RBK_STATUS_PENDING, F.RBK_STATUS_ENC, F.RBK_STATUS_LOADST]⟩,
    ⟨0x01020004, 0, 1, 0, 1, [F.RBK_RXLEN]⟩,
    ⟨0x01020008, 0, 1, 0, 1, [F.RBK_FAIL_CODE, F.RBK_FAIL_SLOT, F.RBK_FAIL_SECT]⟩,
    ⟨0x0102000C, 0, 1, 0, 1, [F.RBK_SERIAL]⟩,
    ⟨0x01020020, 0x4, 8, 0, 1, [F.RBK_DIGEST 0]⟩,
    ⟨0x01020040, 0, 1, 0, 1, [F.RBK_AMD_SEQ_ASEQ]⟩,
    ⟨0x01020044, 0, 1, 0, 1, [F.RBK_AMD_STAT_CODE, F.RBK_AMD_STAT_SECT, F.RBK_AMD_STAT_JUSE]⟩,
    ⟨0x01020048, 0, 1, 0, 1, [F.RBK_CNT_REFUSED, F.RBK_CNT_AMDOK]⟩]

/-- The registers of the block at 0x01020000. -/
def regsRbk : List RegDesc := regsRbk0

def regsVlt0 : List RegDesc :=
  [⟨0x01030000, 0, 1, 0, 1, [F.VLT_STATUS_ROOT, F.VLT_STATUS_RECS, F.VLT_STATUS_FAIL, F.VLT_STATUS_TESTING]⟩,
    ⟨0x01030004, 0, 1, 0, 1, [F.VLT_BOOT]⟩,
    ⟨0x01030008, 0, 1, 0, 1, [F.VLT_CNT_KCVERR, F.VLT_CNT_VERIFAIL]⟩,
    ⟨0x0103000C, 0, 1, 0, 1, [F.VLT_CNT2_REFUSED]⟩,
    ⟨0x01030010, 0, 1, 0, 1, [F.VLT_LAST_OP, F.VLT_LAST_STATUS]⟩]

/-- The registers of the block at 0x01030000. -/
def regsVlt : List RegDesc := regsVlt0

def regsPrt0 : List RegDesc :=
  [⟨0x01120000, 0x10, 1024, 0, 1, [F.PRT_EXM_ADDR_LO 0]⟩,
    ⟨0x01120004, 0x10, 1024, 0, 1, [F.PRT_EXM_ADDR_HI 0, F.PRT_EXM_VALID 0]⟩,
    ⟨0x01120008, 0x10, 1024, 0, 1, [F.PRT_EXM_PORTS 0]⟩,
    ⟨0x0112000C, 0x10, 1024, 0, 1, [F.PRT_EXM_DEST 0, F.PRT_EXM_QUEUE 0]⟩,
    ⟨0x01124000, 0x4, 128, 0, 1, [F.PRT_HASH_BINS 0]⟩,
    ⟨0x01100000, 0x1000, 18, 0, 1, [F.PRT_CTRL_MODE 0, F.PRT_CTRL_AN 0, F.PRT_CTRL_PAUSE_EN 0, F.PRT_CTRL_BCAST 0, F.PRT_CTRL_PAIR 0]⟩,
    ⟨0x01100004, 0x1000, 18, 0, 1, [F.PRT_STATUS_LINK 0, F.PRT_STATUS_PAUSED 0, F.PRT_STATUS_SNF 0, F.PRT_STATUS_RATE 0]⟩,
    ⟨0x01100008, 0x1000, 18, 0, 1, [F.PRT_TXTHR_START 0]⟩,
    ⟨0x0110000C, 0x1000, 18, 0, 1, [F.PRT_PRIMAP_MAP 0]⟩,
    ⟨0x01100010, 0x1000, 18, 0, 1, [F.PRT_PAUSE_QUANTA 0]⟩,
    ⟨0x01100018, 0x1000, 18, 0, 1, [F.PRT_MAC_LO_ADDR_LO 0]⟩,
    ⟨0x0110001C, 0x1000, 18, 0, 1, [F.PRT_MAC_HI_ADDR_HI 0]⟩,
    ⟨0x01100040, 0x1000, 18, 0, 1, [F.PRT_RXFRM_LO 0, F.PRT_RXFRM_LIVE 0]⟩,
    ⟨0x01100044, 0x1000, 18, 0, 1, [F.PRT_RXFRM_HI 0]⟩,
    ⟨0x01100048, 0x1000, 18, 0, 1, [F.PRT_RXOCT_LO 0, F.PRT_RXOCT_LIVE 0]⟩,
    ⟨0x0110004C, 0x1000, 18, 0, 1, [F.PRT_RXOCT_HI 0]⟩,
    ⟨0x01100050, 0x1000, 18, 0, 1, [F.PRT_TXFRM_LO 0, F.PRT_TXFRM_LIVE 0]⟩,
    ⟨0x01100054, 0x1000, 18, 0, 1, [F.PRT_TXFRM_HI 0]⟩,
    ⟨0x01100058, 0x1000, 18, 0, 1, [F.PRT_TXOCT_LO 0, F.PRT_TXOCT_LIVE 0]⟩,
    ⟨0x0110005C, 0x1000, 18, 0, 1, [F.PRT_TXOCT_HI 0]⟩,
    ⟨0x01100060, 0x1000, 18, 0, 1, [F.PRT_MCDROP_LO 0, F.PRT_MCDROP_LIVE 0]⟩,
    ⟨0x01100064, 0x1000, 18, 0, 1, [F.PRT_MCDROP_HI 0]⟩,
    ⟨0x01100080, 0x1000, 18, 0, 1, [F.PRT_CRCERR 0]⟩,
    ⟨0x01100084, 0x1000, 18, 0, 1, [F.PRT_LENERR 0]⟩,
    ⟨0x01100088, 0x1000, 18, 0, 1, [F.PRT_RXOVF 0]⟩,
    ⟨0x0110008C, 0x1000, 18, 0, 1, [F.PRT_UNDERRUN 0]⟩,
    ⟨0x01100090, 0x1000, 18, 0, 1, [F.PRT_PAUSERX 0]⟩,
    ⟨0x01100094, 0x1000, 18, 0, 1, [F.PRT_LINKDN 0]⟩,
    ⟨0x01112000, 0x1000, 4, 0, 1, [F.PRT_FTCTRL_RATE 0, F.PRT_FTCTRL_INV 0, F.PRT_FTCTRL_DSLEN 0]⟩,
    ⟨0x01112004, 0x1000, 4, 0, 1, [F.PRT_FTSTATUS_SYNC 0]⟩,
    ⟨0x01112040, 0x1000, 4, 0, 1, [F.PRT_FTFRM_LO 0, F.PRT_FTFRM_LIVE 0]⟩,
    ⟨0x01112044, 0x1000, 4, 0, 1, [F.PRT_FTFRM_HI 0]⟩,
    ⟨0x01112080, 0x1000, 4, 0, 1, [F.PRT_FTCRC_CRCERR 0]⟩,
    ⟨0x01112084, 0x1000, 4, 0, 1, [F.PRT_FTSYNC_SYNCLOSS 0]⟩,
    ⟨0x01118000, 0x4, 2, 0, 1, [F.PRT_TRIP_CMD 0, F.PRT_TRIP_ON 0, F.PRT_TRIP_FORCED 0, F.PRT_TRIP_OPENLOAD 0, F.PRT_TRIP_OVERLOAD 0, F.PRT_TRIP_MINON 0, F.PRT_TRIP_OWNER 0, F.PRT_TRIP_OUTBIT 0]⟩]

/-- The registers of the block at 0x01100000. -/
def regsPrt : List RegDesc := regsPrt0

def regsTsu0 : List RegDesc :=
  [⟨0x01200000, 0x100, 4, 0, 1, [F.TSU_TB_CTRL_SRC 0, F.TSU_TB_CTRL_LEADER 0, F.TSU_TB_CTRL_STEPINH 0]⟩,
    ⟨0x01200004, 0x100, 4, 0, 1, [F.TSU_TB_STATUS_STATE 0, F.TSU_TB_STATUS_EPOCH 0]⟩,
    ⟨0x01200008, 0x100, 4, 0, 1, [F.TSU_TB_NS 0]⟩,
    ⟨0x0120000C, 0x100, 4, 0, 1, [F.TSU_TB_SECLO 0]⟩,
    ⟨0x01200010, 0x100, 4, 0, 1, [F.TSU_TB_SECHI 0]⟩,
    ⟨0x01200014, 0x100, 4, 0, 1, [F.TSU_TB_WRAP 0]⟩,
    ⟨0x01200018, 0x100, 4, 0, 1, [F.TSU_TB_OFFSET 0]⟩,
    ⟨0x0120001C, 0x100, 4, 0, 1, [F.TSU_TB_FREQ 0]⟩,
    ⟨0x01200020, 0x100, 4, 0, 1, [F.TSU_TB_STEPTHR 0]⟩,
    ⟨0x01200024, 0x100, 4, 0, 1, [F.TSU_TB_HOLD 0]⟩,
    ⟨0x01200028, 0x100, 4, 0, 1, [F.TSU_TB_LOFS 0]⟩,
    ⟨0x0120002C, 0x100, 4, 0, 1, [F.TSU_TB_SETSEC_LO_SEC 0]⟩,
    ⟨0x01200030, 0x100, 4, 0, 1, [F.TSU_TB_SETSEC_HI_SEC 0, F.TSU_TB_SETSEC_HI_GO 0]⟩,
    ⟨0x01200034, 0x100, 4, 0, 1, [F.TSU_TB_CNT_STEPS 0, F.TSU_TB_CNT_LOSSES 0]⟩,
    ⟨0x01200040, 0x100, 4, 0, 1, [F.TSU_TB_PTP_PROFILE 0, F.TSU_TB_PTP_ROLE 0, F.TSU_TB_PTP_P2P 0, F.TSU_TB_PTP_TWOSTEP 0, F.TSU_TB_PTP_DOMAIN 0]⟩,
    ⟨0x01200044, 0x100, 4, 0, 1, [F.TSU_TB_PTPPORTS_PORTS 0]⟩,
    ⟨0x01200048, 0x100, 4, 0, 1, [F.TSU_TB_PTPINT_LOGSYNC 0, F.TSU_TB_PTPINT_LOGANN 0, F.TSU_TB_PTPINT_LOGPDLY 0, F.TSU_TB_PTPINT_ANNTMO 0]⟩,
    ⟨0x01200050, 0x100, 4, 0, 1, [F.TSU_TB_GMID_LO 0]⟩,
    ⟨0x01200054, 0x100, 4, 0, 1, [F.TSU_TB_GMID_HI 0]⟩,
    ⟨0x01200800, 0, 1, 0, 1, [F.TSU_TIN_CTRL_MODE, F.TSU_TIN_CTRL_CF, F.TSU_TIN_CTRL_DELAY]⟩,
    ⟨0x01200804, 0, 1, 0, 1, [F.TSU_TIN_UTC_UTCOFS]⟩,
    ⟨0x01200808, 0, 1, 0, 1, [F.TSU_TIN_STATUS_SYNC, F.TSU_TIN_STATUS_LEAP, F.TSU_TIN_STATUS_QUAL]⟩,
    ⟨0x01200810, 0, 1, 0, 1, [F.TSU_TOUT_CTRL_MODE, F.TSU_TOUT_CTRL_TB, F.TSU_TOUT_CTRL_WIDTH]⟩,
    ⟨0x01200814, 0, 1, 0, 1, [F.TSU_TOUT_ADV]⟩,
    ⟨0x01201000, 0x40, 18, 0, 1, [F.TSU_PORT_CTRL_STAMPTB 0, F.TSU_PORT_CTRL_TCEN 0, F.TSU_PORT_CTRL_TCPEER 0, F.TSU_PORT_CTRL_TCMODE 0]⟩,
    ⟨0x01201004, 0x40, 18, 0, 1, [F.TSU_PORT_LAT_RXLAT 0, F.TSU_PORT_LAT_TXLAT 0]⟩,
    ⟨0x01201008, 0x40, 18, 0, 1, [F.TSU_PORT_ASYM 0]⟩,
    ⟨0x0120100C, 0x40, 18, 0, 1, [F.TSU_PORT_PDELAY 0]⟩,
    ⟨0x01201010, 0x40, 18, 0x4, 4, [F.TSU_EQP_W 0 0]⟩,
    ⟨0x01201020, 0x40, 18, 0x4, 4, [F.TSU_EQG_W 0 0]⟩,
    ⟨0x01201030, 0x40, 18, 0, 1, [F.TSU_EQ_POP_PPOP 0, F.TSU_EQ_POP_GPOP 0]⟩,
    ⟨0x01201034, 0x40, 18, 0, 1, [F.TSU_EQ_STAT_PCOUNT 0, F.TSU_EQ_STAT_POVF 0, F.TSU_EQ_STAT_GCOUNT 0, F.TSU_EQ_STAT_GOVF 0]⟩,
    ⟨0x01201038, 0x40, 18, 0, 1, [F.TSU_EQ_LOST_PLOST 0, F.TSU_EQ_LOST_GLOST 0]⟩,
    ⟨0x01201800, 0x4, 4, 0, 1, [F.TSU_FT_RXLAT 0, F.TSU_FT_TXLAT 0]⟩]

/-- The registers of the block at 0x01200000. -/
def regsTsu : List RegDesc := regsTsu0

def regsTtb0 : List RegDesc :=
  [⟨0x01210000, 0, 1, 0, 1, [F.TTB_CTRL_TB]⟩,
    ⟨0x01210004, 0, 1, 0, 1, [F.TTB_CYCLE]⟩,
    ⟨0x01210008, 0, 1, 0, 1, [F.TTB_BANK_SEL_ACTIVE, F.TTB_BANK_SEL_SWITCH, F.TTB_BANK_SEL_CANCEL, F.TTB_BANK_SEL_PENDING, F.TTB_BANK_SEL_CHECKING, F.TTB_BANK_SEL_REFUSED]⟩,
    ⟨0x0121000C, 0, 1, 0, 1, [F.TTB_STATUS_RUN, F.TTB_STATUS_EPOCH, F.TTB_STATUS_LAST]⟩,
    ⟨0x01210010, 0, 1, 0, 1, [F.TTB_CYCNUM_LO_CYCLO, F.TTB_CYCNUM_LIVE]⟩,
    ⟨0x01210014, 0, 1, 0, 1, [F.TTB_CYCNUM_HI_CYCHI]⟩,
    ⟨0x01210018, 0, 1, 0, 1, [F.TTB_CNT_REFUSED, F.TTB_CNT_SPACING]⟩,
    ⟨0x0121001C, 0, 1, 0, 1, [F.TTB_CNT2_MISSED, F.TTB_CNT2_DROPPED]⟩,
    ⟨0x01214000, 0x4000, 2, 0x20, 512, [F.TTB_SLOT_OFFSET 0 0, F.TTB_SLOT_VALID 0 0]⟩,
    ⟨0x01214004, 0x4000, 2, 0x20, 512, [F.TTB_SLOT_ACTION 0 0, F.TTB_SLOT_REPEAT 0 0]⟩,
    ⟨0x01214008, 0x4000, 2, 0x20, 512, [F.TTB_SLOT_STRIDE 0 0]⟩,
    ⟨0x0121400C, 0x4000, 2, 0x20, 512, [F.TTB_SLOT_TARGET 0 0]⟩,
    ⟨0x01214010, 0x4000, 2, 0x20, 512, [F.TTB_SLOT_PARAM 0 0]⟩]

/-- The registers of the block at 0x01210000. -/
def regsTtb : List RegDesc := regsTtb0

def regsSvi0 : List RegDesc :=
  [⟨0x01308000, 0x40, 512, 0, 1, [F.SVI_SUB_KIND 0, F.SVI_SUB_ALIGN 0, F.SVI_SUB_URGENT 0, F.SVI_SUB_SIM 0, F.SVI_SUB_TB 0, F.SVI_SUB_NASDU 0, F.SVI_SUB_NCH 0, F.SVI_SUB_VALID 0]⟩,
    ⟨0x01308004, 0x40, 512, 0, 1, [F.SVI_SUB_RATE 0, F.SVI_SUB_FTRX 0]⟩,
    ⟨0x01308008, 0x40, 512, 0, 1, [F.SVI_SUB_DA_LO 0]⟩,
    ⟨0x0130800C, 0x40, 512, 0, 1, [F.SVI_SUB_DA_HI 0, F.SVI_SUB_APPID 0]⟩,
    ⟨0x01308010, 0x40, 512, 0, 1, [F.SVI_SUB_VID 0, F.SVI_SUB_VIDCHK 0, F.SVI_SUB_SVIDLEN 0]⟩,
    ⟨0x01308014, 0x40, 512, 0, 1, [F.SVI_SUB_SVIDCRC 0]⟩,
    ⟨0x01308018, 0x40, 512, 0, 1, [F.SVI_SUB_CONFREV 0]⟩,
    ⟨0x0130801C, 0x40, 512, 0, 1, [F.SVI_SUB_MUDELAY 0]⟩,
    ⟨0x01308020, 0x40, 512, 0, 1, [F.SVI_SUB_DUE 0, F.SVI_SUB_RESTCNT 0]⟩,
    ⟨0x01308024, 0x40, 512, 0, 1, [F.SVI_SUB_LOSSCNT 0]⟩,
    ⟨0x01308028, 0x40, 512, 0, 1, [F.SVI_SUB_PORTS 0]⟩,
    ⟨0x0130802C, 0x40, 512, 0, 1, [F.SVI_SUB_FTSC 0, F.SVI_SUB_FTSW 0, F.SVI_SUB_FTVAL 0]⟩,
    ⟨0x01308030, 0x40, 512, 0, 1, [F.SVI_SUB_FTINV 0]⟩,
    ⟨0x01308034, 0x40, 512, 0, 1, [F.SVI_SUB_FTTEST 0]⟩,
    ⟨0x01300000, 0, 1, 0, 1, [F.SVI_CTRL_DUPAGE]⟩,
    ⟨0x01300004, 0, 1, 0, 1, [F.SVI_STATUS_NSUB, F.SVI_STATUS_UQPEAK]⟩,
    ⟨0x01300008, 0, 1, 0, 1, [F.SVI_LOAD_LAST, F.SVI_LOAD_PEAK]⟩,
    ⟨0x01300010, 0, 1, 0, 1, [F.SVI_NOSUB_LO, F.SVI_NOSUB_LIVE]⟩,
    ⟨0x01300014, 0, 1, 0, 1, [F.SVI_NOSUB_HI]⟩,
    ⟨0x01300018, 0, 1, 0, 1, [F.SVI_PRPDUP_LO, F.SVI_PRPDUP_LIVE]⟩,
    ⟨0x0130001C, 0, 1, 0, 1, [F.SVI_PRPDUP_HI]⟩,
    ⟨0x01300020, 0, 1, 0, 1, [F.SVI_OVFL, F.SVI_OVFL_HSRUNTAG]⟩,
    ⟨0x01300024, 0, 1, 0, 1, [F.SVI_PRPERR]⟩,
    ⟨0x01300028, 0, 1, 0, 1, [F.SVI_LASTERR_STREAM, F.SVI_LASTERR_REASON]⟩,
    ⟨0x01310000, 0x20, 512, 0, 1, [F.SVI_SSTAT_STATE 0, F.SVI_SSTAT_SMPSYNCH 0, F.SVI_SSTAT_LASTCNT 0]⟩,
    ⟨0x01310004, 0x20, 512, 0, 1, [F.SVI_SCNT0_MISSING 0, F.SVI_SCNT0_LATE 0]⟩,
    ⟨0x01310008, 0x20, 512, 0, 1, [F.SVI_SCNT1_DUP 0, F.SVI_SCNT1_FMTERR 0]⟩,
    ⟨0x0131000C, 0x20, 512, 0, 1, [F.SVI_SCNT2_JUMPS 0, F.SVI_SCNT2_LOSSES 0]⟩,
    ⟨0x01310010, 0x20, 512, 0, 1, [F.SVI_SCNT3_SYNCCHG 0]⟩,
    ⟨0x01310014, 0x20, 512, 0, 1, [F.SVI_SFRM_LO 0, F.SVI_SFRM_LIVE 0]⟩,
    ⟨0x01310018, 0x20, 512, 0, 1, [F.SVI_SFRM_HI 0]⟩,
    ⟨0x0131001C, 0x20, 512, 0, 1, [F.SVI_STRANS_TRANSIT 0]⟩]

/-- The registers of the block at 0x01300000. -/
def regsSvi : List RegDesc := regsSvi0

def regsFch0 : List RegDesc :=
  [⟨0x01400000, 0, 1, 0, 1, [F.FCH_BANK_ACTIVE, F.FCH_BANK_SWITCH, F.FCH_BANK_PENDING]⟩,
    ⟨0x01400004, 0, 1, 0, 1, [F.FCH_FRZ_REG]⟩,
    ⟨0x01400008, 0, 1, 0, 1, [F.FCH_FZSTAT_FROZEN]⟩,
    ⟨0x0140000C, 0, 1, 0, 1, [F.FCH_LOAD_COST, F.FCH_LOAD_LATPEAK]⟩,
    ⟨0x01400010, 0, 1, 0, 1, [F.FCH_CNT_SATALL, F.FCH_CNT_FRSHORT]⟩,
    ⟨0x01400100, 0x10, 16, 0, 1, [F.FCH_FZ_INSTLO_INST 0]⟩,
    ⟨0x01400104, 0x10, 16, 0, 1, [F.FCH_FZ_INSTHI_INST 0]⟩,
    ⟨0x01400108, 0x10, 16, 0, 1, [F.FCH_FZ_REC 0]⟩,
    ⟨0x01401000, 0x40, 64, 0, 1, [F.FCH_FG_CTRL_MODE 0, F.FCH_FG_CTRL_NSEL 0, F.FCH_FG_CTRL_TB 0, F.FCH_FG_CTRL_BACK 0, F.FCH_FG_CTRL_LOCKCYC 0]⟩,
    ⟨0x01401004, 0x40, 64, 0, 1, [F.FCH_FG_REF_REFA 0, F.FCH_FG_REF_REFB 0]⟩,
    ⟨0x01401008, 0x40, 64, 0, 1, [F.FCH_FG_REFC 0]⟩,
    ⟨0x0140100C, 0x40, 64, 0, 1, [F.FCH_FG_NOM 0]⟩,
    ⟨0x01401010, 0x40, 64, 0, 1, [F.FCH_FG_RANGE_FMIN 0, F.FCH_FG_RANGE_FMAX 0]⟩,
    ⟨0x01401014, 0x40, 64, 0, 1, [F.FCH_FG_MINLVL 0]⟩,
    ⟨0x01401018, 0x40, 64, 0, 1, [F.FCH_FG_HOLD 0, F.FCH_FG_HOLD_LAG 0]⟩,
    ⟨0x0140101C, 0x40, 64, 0, 1, [F.FCH_FG_DCRATE 0]⟩,
    ⟨0x01401020, 0x40, 64, 0, 1, [F.FCH_FG_STATUS_STATE 0]⟩,
    ⟨0x01401024, 0x40, 64, 0, 1, [F.FCH_FG_FREQ 0]⟩,
    ⟨0x01401028, 0x40, 64, 0, 1, [F.FCH_FG_MAG 0]⟩,
    ⟨0x0140102C, 0x40, 64, 0, 1, [F.FCH_FG_FRAME 0]⟩,
    ⟨0x01401030, 0x40, 64, 0, 1, [F.FCH_FG_CNT_COASTS 0, F.FCH_FG_CNT_RLIM 0]⟩,
    ⟨0x01401034, 0x40, 64, 0, 1, [F.FCH_FG_IDX_LO 0, F.FCH_FG_IDX_LIVE 0]⟩,
    ⟨0x01401038, 0x40, 64, 0, 1, [F.FCH_FG_IDX_HI 0]⟩,
    ⟨0x01410000, 0x40, 4096, 0, 1, [F.FCH_LCFG_STREAM 0, F.FCH_LCFG_CHAN 0, F.FCH_LCFG_FG 0, F.FCH_LCFG_OWNER 0, F.FCH_LCFG_VALID 0]⟩,
    ⟨0x01410004, 0x40, 4096, 0, 1, [F.FCH_LDLY_FRAC 0, F.FCH_LDLY_INT 0]⟩,
    ⟨0x01410008, 0x40, 4096, 0, 1, [F.FCH_LDC_CORNER 0, F.FCH_LDC_FZSET 0, F.FCH_LDC_FZEN 0, F.FCH_LDC_DCEN 0, F.FCH_LDC_DCRST 0]⟩,
    ⟨0x0141000C, 0x40, 4096, 0, 1, [F.FCH_LCIC_ORDER 0, F.FCH_LCIC_RATIO 0]⟩,
    ⟨0x01410010, 0x40, 4096, 0, 1, [F.FCH_LFIR_SET 0, F.FCH_LFIR_FADE 0, F.FCH_LFIR_OSHIFT 0]⟩,
    ⟨0x01410014, 0x40, 4096, 0, 1, [F.FCH_LMODE_MODE0 0, F.FCH_LMODE_MODE1 0, F.FCH_LMODE_FROZEN 0, F.FCH_LMODE_SUPPR 0, F.FCH_LMODE_FADING 0, F.FCH_LMODE_SLEW 0]⟩,
    ⟨0x01410018, 0x40, 4096, 0, 1, [F.FCH_LCMPL0_LVL 0]⟩,
    ⟨0x0141001C, 0x40, 4096, 0, 1, [F.FCH_LCMPL1_LVL 0]⟩,
    ⟨0x01410020, 0x40, 4096, 0x4, 4, [F.FCH_LDEST_LO 0 0, F.FCH_LDEST_HI 0 0]⟩,
    ⟨0x01410030, 0x40, 4096, 0, 1, [F.FCH_LSETTLE_SETTLE 0, F.FCH_LSETTLE_REMAIN 0]⟩,
    ⟨0x01410034, 0x40, 4096, 0, 1, [F.FCH_LGD_GDELAY 0]⟩,
    ⟨0x01410038, 0x40, 4096, 0, 1, [F.FCH_LPD_PDELAY 0]⟩,
    ⟨0x0141003C, 0x40, 4096, 0, 1, [F.FCH_LCNT_SAT 0, F.FCH_LCNT_FRSHORT 0]⟩]

/-- The registers of the block at 0x01400000. -/
def regsFch : List RegDesc := regsFch0

def regsPfm0 : List RegDesc :=
  [⟨0x01500000, 0x100, 24, 0, 1, [F.PFM_PCTRL_TB 0, F.PFM_PCTRL_ROLE 0]⟩,
    ⟨0x01500004, 0x100, 24, 0, 1, [F.PFM_PSTAT_STATE 0, F.PFM_PSTAT_INST 0, F.PFM_PSTAT_TASK 0, F.PFM_PSTAT_QCAUSE 0, F.PFM_PSTAT_LQ 0]⟩,
    ⟨0x01500008, 0x100, 24, 0, 1, [F.PFM_QADDR_ADDR 0]⟩,
    ⟨0x01500010, 0x100, 24, 0, 1, [F.PFM_LAUNCH_LO 0, F.PFM_LAUNCH_LIVE 0]⟩,
    ⟨0x01500014, 0x100, 24, 0, 1, [F.PFM_LAUNCH_HI 0]⟩,
    ⟨0x01500018, 0x100, 24, 0, 1, [F.PFM_BUSY_LO 0, F.PFM_BUSY_LIVE 0]⟩,
    ⟨0x0150001C, 0x100, 24, 0, 1, [F.PFM_BUSY_HI 0]⟩,
    ⟨0x01500020, 0x100, 24, 0, 1, [F.PFM_PCNT0_OVERRUN 0, F.PFM_PCNT0_DLSTOP 0]⟩,
    ⟨0x01500024, 0x100, 24, 0, 1, [F.PFM_PCNT1_TRAPS 0, F.PFM_PCNT1_CECC 0]⟩,
    ⟨0x01500028, 0x100, 24, 0, 1, [F.PFM_LASTOVR_INST 0, F.PFM_LASTOVR_TASK 0]⟩,
    ⟨0x0150002C, 0x100, 24, 0, 1, [F.PFM_PHQ_PEAK 0]⟩,
    ⟨0x01502000, 0, 1, 0, 1, [F.PFM_GSTAT_QMASK]⟩,
    ⟨0x01502004, 0, 1, 0, 1, [F.PFM_SPARE]⟩,
    ⟨0x01503004, 0x4, 63, 0, 1, [F.PFM_IFLAG_OVR 1, F.PFM_IFLAG_DLSTOP 1, F.PFM_IFLAG_TRAP 1, F.PFM_IFLAG_QUAR 1, F.PFM_IFLAG_TRAPCAUSE 1, F.PFM_IFLAG_LASTTASK 1]⟩]

/-- The registers of the block at 0x01500000. -/
def regsPfm : List RegDesc := regsPfm0

def regsMar0 : List RegDesc :=
  [⟨0x01600000, 0, 1, 0, 1, [F.MAR_CTRL_CAP, F.MAR_CTRL_ADAPT, F.MAR_CTRL_PERIOD, F.MAR_CTRL_BACKOFF]⟩,
    ⟨0x01600004, 0, 1, 0, 1, [F.MAR_CTRL2_CUTOFF, F.MAR_CTRL2_ABNMAX]⟩,
    ⟨0x01600008, 0, 1, 0, 1, [F.MAR_STATUS_PLACED, F.MAR_STATUS_SHUNTING, F.MAR_STATUS_NOSPARE, F.MAR_STATUS_SINST, F.MAR_STATUS_STGT]⟩,
    ⟨0x0160000C, 0, 1, 0, 1, [F.MAR_CL_NOW, F.MAR_CL_PEAK]⟩,
    ⟨0x01600010, 0, 1, 0, 1, [F.MAR_AWAIT_PFMASK]⟩,
    ⟨0x01600014, 0, 1, 0, 1, [F.MAR_CNT_SHUNTS, F.MAR_CNT_ABANDONS]⟩,
    ⟨0x01600018, 0, 1, 0, 1, [F.MAR_CNT2_RESTARTS, F.MAR_CNT2_ALARMS]⟩,
    ⟨0x0160001C, 0, 1, 0, 1, [F.MAR_QMOVER_MOVER]⟩,
    ⟨0x01600020, 0, 1, 0, 1, [F.MAR_MSEL_TASK, F.MAR_MSEL_INST, F.MAR_MSEL_CLR]⟩,
    ⟨0x01600024, 0, 1, 0, 1, [F.MAR_MEAS0_MAXC]⟩,
    ⟨0x01600028, 0, 1, 0, 1, [F.MAR_MEAS1_P999]⟩,
    ⟨0x0160002C, 0, 1, 0, 1, [F.MAR_MEAS2_HIMAX]⟩,
    ⟨0x01600030, 0, 1, 0, 1, [F.MAR_MEAS3_FIG]⟩,
    ⟨0x01600034, 0, 1, 0, 1, [F.MAR_MEAS4_HISTEP, F.MAR_MEAS4_WCET]⟩,
    ⟨0x01600038, 0, 1, 0, 1, [F.MAR_MEAS5_DTCMAX]⟩,
    ⟨0x0160003C, 0, 1, 0, 1, [F.MAR_MEAS6_RUNS]⟩,
    ⟨0x01600400, 0x4, 24, 0, 1, [F.MAR_PLOAD_RES 0, F.MAR_PLOAD_NINST 0, F.MAR_PLOAD_HASA 0]⟩,
    ⟨0x01600500, 0x8, 16, 0, 1, [F.MAR_RBUF_BASE 0]⟩,
    ⟨0x01600504, 0x8, 16, 0, 1, [F.MAR_RBUF_BANKS 0]⟩,
    ⟨0x01601020, 0x20, 63, 0, 1, [F.MAR_IPLACE_PF 1, F.MAR_IPLACE_CLASS 1, F.MAR_IPLACE_SHARE 1, F.MAR_IPLACE_CAPPED 1, F.MAR_IPLACE_MOVING 1]⟩,
    ⟨0x01601024, 0x20, 63, 0, 1, [F.MAR_IBOUND_SHMIN 1, F.MAR_IBOUND_SHMAX 1]⟩,
    ⟨0x01601028, 0x20, 63, 0, 1, [F.MAR_IGUARD_GUARD 1, F.MAR_IGUARD_SHUNTEN 1, F.MAR_IGUARD_STUCK 1]⟩,
    ⟨0x0160102C, 0x20, 63, 0, 1, [F.MAR_IPFMASK_ALLOW 1]⟩,
    ⟨0x01601030, 0x20, 63, 0, 1, [F.MAR_IDMAW_WMIN 1, F.MAR_IDMAW_WMAX 1, F.MAR_IDMAW_WEIGHT 1]⟩,
    ⟨0x01601034, 0x20, 63, 0, 1, [F.MAR_ISHUNT_ATTEMPTS 1, F.MAR_ISHUNT_LASTTGT 1, F.MAR_ISHUNT_LASTRES 1]⟩]

/-- The registers of the block at 0x01600000. -/
def regsMar : List RegDesc := regsMar0

def regsPub0 : List RegDesc :=
  [⟨0x01700000, 0, 1, 0, 1, [F.PUB_STATUS_TWIN]⟩,
    ⟨0x01700004, 0, 1, 0, 1, [F.PUB_CNT_NOTAG, F.PUB_CNT_GATED]⟩,
    ⟨0x01700008, 0, 1, 0, 1, [F.PUB_CNT2_BUFERR, F.PUB_CNT2_MIRDROP]⟩,
    ⟨0x0170000C, 0, 1, 0, 1, [F.PUB_TWCNT_DIVERGE, F.PUB_TWCNT_DIGMISS]⟩,
    ⟨0x01700010, 0, 1, 0, 1, [F.PUB_LASTDIV_CYCLE]⟩,
    ⟨0x01700014, 0, 1, 0, 1, [F.PUB_DIG_LO, F.PUB_DIG_LIVE]⟩,
    ⟨0x01700018, 0, 1, 0, 1, [F.PUB_DIG_HI]⟩,
    ⟨0x0170001C, 0, 1, 0, 1, [F.PUB_TWSKIP]⟩,
    ⟨0x01701000, 0x8, 64, 0, 1, [F.PUB_CURVE_MININT 0]⟩,
    ⟨0x01701004, 0x8, 64, 0, 1, [F.PUB_CURVE_T0 0]⟩,
    ⟨0x01710000, 0x40, 512, 0, 1, [F.PUB_GCFG_OWNER 0, F.PUB_GCFG_BUF 0, F.PUB_GCFG_QUEUE 0, F.PUB_GCFG_URGENT 0, F.PUB_GCFG_TWIN 0, F.PUB_GCFG_AUTH 0, F.PUB_GCFG_STAMP 0, F.PUB_GCFG_VALID 0]⟩,
    ⟨0x01710004, 0x40, 512, 0, 1, [F.PUB_GPORTS_PORTS 0, F.PUB_GPORTS_MIRROR 0, F.PUB_GPORTS_SBPORT 0]⟩,
    ⟨0x01710008, 0x40, 512, 0, 1, [F.PUB_GPRE_PREOFS 0, F.PUB_GPRE_PRELEN 0]⟩,
    ⟨0x0171000C, 0x40, 512, 0, 1, [F.PUB_GDATA_ALEN 0, F.PUB_GDATA_NQ 0, F.PUB_GDATA_CURVE 0]⟩,
    ⟨0x01710010, 0x40, 512, 0, 1, [F.PUB_GQ_QOFS 0, F.PUB_GQ_KEYSLOT 0]⟩,
    ⟨0x01710014, 0x40, 512, 0, 1, [F.PUB_GTAL_TALMIN 0]⟩,
    ⟨0x01710018, 0x40, 512, 0, 1, [F.PUB_GMAC_LO_TWMAC 0]⟩,
    ⟨0x0171001C, 0x40, 512, 0, 1, [F.PUB_GMAC_HI_TWMAC 0]⟩,
    ⟨0x01710020, 0x40, 512, 0, 1, [F.PUB_GBUF_BUFOFS 0]⟩,
    ⟨0x01710024, 0x40, 512, 0, 1, [F.PUB_GST_STNUM 0]⟩,
    ⟨0x01710028, 0x40, 512, 0, 1, [F.PUB_GSQ_SQNUM 0]⟩,
    ⟨0x0171002C, 0x40, 512, 0, 1, [F.PUB_GSTAT_STATE 0]⟩,
    ⟨0x01710030, 0x40, 512, 0, 1, [F.PUB_GFRM_LO 0, F.PUB_GFRM_LIVE 0]⟩,
    ⟨0x01710034, 0x40, 512, 0, 1, [F.PUB_GFRM_HI 0]⟩,
    ⟨0x01710038, 0x40, 512, 0, 1, [F.PUB_GCNT_NOTAG 0, F.PUB_GCNT_GATED 0]⟩,
    ⟨0x01718000, 0x40, 64, 0, 1, [F.PUB_SCFG_NCH 0, F.PUB_SCFG_NASDU 0, F.PUB_SCFG_QUEUE 0, F.PUB_SCFG_TWIN 0, F.PUB_SCFG_AUTH 0, F.PUB_SCFG_STAMP 0, F.PUB_SCFG_VALID 0]⟩,
    ⟨0x0171800C, 0x40, 64, 0, 1, [F.PUB_SRATE_RATE 0, F.PUB_SRATE_SYNCVAL 0]⟩,
    ⟨0x01718010, 0x40, 64, 0, 1, [F.PUB_SQ_KEYSLOT 0]⟩,
    ⟨0x0171802C, 0x40, 64, 0, 1, [F.PUB_SSTAT_LASTCNT 0]⟩,
    ⟨0x01718004, 0x40, 64, 0, 1, [F.PUB_SPORTS_PORTS 0, F.PUB_SPORTS_MIRROR 0, F.PUB_SPORTS_SBPORT 0]⟩,
    ⟨0x01718008, 0x40, 64, 0, 1, [F.PUB_SPRE_PREOFS 0, F.PUB_SPRE_PRELEN 0]⟩,
    ⟨0x01718018, 0x40, 64, 0, 1, [F.PUB_SMAC_LO 0]⟩,
    ⟨0x0171801C, 0x40, 64, 0, 1, [F.PUB_SMAC_HI 0]⟩,
    ⟨0x01718030, 0x40, 64, 0, 1, [F.PUB_SFRM_LO 0, F.PUB_SFRM_LIVE 0]⟩,
    ⟨0x01718034, 0x40, 64, 0, 1, [F.PUB_SFRM_HI 0]⟩,
    ⟨0x01718038, 0x40, 64, 0, 1, [F.PUB_SCNT_NOTAG 0, F.PUB_SCNT_GATED 0]⟩,
    ⟨0x01720000, 0x4, 16384, 0, 1, [F.PUB_TMEM 0]⟩]

/-- The registers of the block at 0x01700000. -/
def regsPub : List RegDesc := regsPub0

def regsAcq0 : List RegDesc :=
  [⟨0x01800000, 0, 1, 0, 1, [F.ACQ_CTRL_HEN, F.ACQ_CTRL_HSIZE]⟩,
    ⟨0x01800004, 0, 1, 0, 1, [F.ACQ_HSTAT_SPAN, F.ACQ_HSTAT_BITS]⟩,
    ⟨0x01800008, 0, 1, 0, 1, [F.ACQ_HREQ_SEC]⟩,
    ⟨0x0180000C, 0, 1, 0, 1, [F.ACQ_HREQ_LEN, F.ACQ_HREQ_TB, F.ACQ_HREQ_BUSY, F.ACQ_HREQ_GO]⟩,
    ⟨0x01800010, 0, 1, 0, 1, [F.ACQ_HSRC_FIRST, F.ACQ_HSRC_LAST]⟩,
    ⟨0x01800014, 0, 1, 0, 1, [F.ACQ_CNT_OVERWR, F.ACQ_CNT_REEXP]⟩,
    ⟨0x01800400, 0x40, 16, 0, 1, [F.ACQ_RCFG_OWNER 0, F.ACQ_RCFG_AUTOARM 0, F.ACQ_RCFG_TB 0, F.ACQ_RCFG_NCH 0, F.ACQ_RCFG_VALID 0]⟩,
    ⟨0x01800404, 0x40, 16, 0, 1, [F.ACQ_RTIME_PRE 0, F.ACQ_RTIME_POST 0]⟩,
    ⟨0x01800408, 0x40, 16, 0, 1, [F.ACQ_RHOLD_HTIME 0, F.ACQ_RHOLD_HEVENTS 0]⟩,
    ⟨0x0180040C, 0x40, 16, 0, 1, [F.ACQ_RXTRIG_CROSS 0, F.ACQ_RXTRIG_SRCEN 0]⟩,
    ⟨0x01800410, 0x40, 16, 0, 1, [F.ACQ_RBUF_SIZE 0]⟩,
    ⟨0x01800414, 0x40, 16, 0x4, 4, [F.ACQ_RHALT_HALT 0 0, F.ACQ_RHALT_INPUT 0 0, F.ACQ_RHALT_EDGE 0 0]⟩,
    ⟨0x01800424, 0x40, 16, 0, 1, [F.ACQ_RCMD_CMD 0]⟩,
    ⟨0x01800428, 0x40, 16, 0, 1, [F.ACQ_RSTAT_STATE 0, F.ACQ_RSTAT_TRUNC 0, F.ACQ_RSTAT_HOLDOFF 0, F.ACQ_RSTAT_EXPORT 0]⟩,
    ⟨0x0180042C, 0x40, 16, 0, 1, [F.ACQ_RCAP_CAPTURE 0]⟩,
    ⟨0x01800430, 0x40, 16, 0, 1, [F.ACQ_RTTIME_T 0]⟩,
    ⟨0x01800434, 0x40, 16, 0, 1, [F.ACQ_RCNT_PREIGN 0, F.ACQ_RCNT_HOLDTRG 0]⟩,
    ⟨0x01800438, 0x40, 16, 0, 1, [F.ACQ_RCNT2_TRUNCS 0, F.ACQ_RCNT2_FOREIGN 0]⟩,
    ⟨0x01804000, 0x400, 16, 0x4, 256, [F.ACQ_CH_ID 0 0, F.ACQ_CH_KIND 0 0, F.ACQ_CH_E 0 0, F.ACQ_CH_TCMP 0 0]⟩,
    ⟨0x01801000, 0x4, 1026, 0, 1, [F.ACQ_HE0 0, F.ACQ_HE1 0, F.ACQ_HE2 0, F.ACQ_HE3 0]⟩,
    ⟨0x01800800, 0x10, 64, 0, 1, [F.ACQ_MCFG_REC 0, F.ACQ_MCFG_CHAN 0, F.ACQ_MCFG_ACTION 0, F.ACQ_MCFG_MINVIOL 0]⟩,
    ⟨0x01800804, 0x10, 64, 0, 1, [F.ACQ_MCNT_VIOL 0, F.ACQ_MCNT_RUN 0]⟩,
    ⟨0x01800808, 0x10, 64, 0, 1, [F.ACQ_MLAST_TIME 0]⟩]

/-- The registers of the block at 0x01800000. -/
def regsAcq : List RegDesc := regsAcq0

def regsAfe0 : List RegDesc :=
  [⟨0x01810000, 0, 1, 0, 1, [F.AFE_CTRL_EN, F.AFE_CTRL_RANGE]⟩,
    ⟨0x01810004, 0, 1, 0, 1, [F.AFE_STATUS_CALOK, F.AFE_STATUS_WRBUSY, F.AFE_STATUS_ORIGIN, F.AFE_STATUS_WRITES]⟩,
    ⟨0x01810008, 0, 1, 0, 1, [F.AFE_SERIAL_LO]⟩,
    ⟨0x0181000C, 0, 1, 0, 1, [F.AFE_SERIAL_HI]⟩,
    ⟨0x01810010, 0x4, 8, 0, 1, [F.AFE_RES_VALUE 0, F.AFE_RQ_LIVE 0]⟩,
    ⟨0x01810030, 0x4, 8, 0, 1, [F.AFE_RQ_QUALITY 0, F.AFE_RQ_SAT 0, F.AFE_RQ_SEQ 0]⟩,
    ⟨0x01810050, 0, 1, 0, 1, [F.AFE_CNT_BUSY, F.AFE_CNT_OVR]⟩,
    ⟨0x01810060, 0x4, 8, 0, 1, [F.AFE_DRIFT_ODRIFT 0, F.AFE_DRIFT_GDRIFT 0]⟩]

/-- The registers of the block at 0x01810000. -/
def regsAfe : List RegDesc := regsAfe0

def regsLge0 : List RegDesc :=
  [⟨0x01900000, 0, 1, 0, 1, [F.LGE_CTRL_STOPOVR]⟩,
    ⟨0x01900004, 0, 1, 0, 1, [F.LGE_CMD]⟩,
    ⟨0x01900008, 0, 1, 0, 1, [F.LGE_STATUS_MODE, F.LGE_STATUS_LOADED, F.LGE_STATUS_LASTRST, F.LGE_STATUS_BPHIT]⟩,
    ⟨0x0190000C, 0, 1, 0, 1, [F.LGE_HOLDPC_PC]⟩,
    ⟨0x01900010, 0, 1, 0, 1, [F.LGE_EXEC_LAST, F.LGE_EXEC_PEAK]⟩,
    ⟨0x01900014, 0, 1, 0, 1, [F.LGE_CNT_OVERRUN, F.LGE_CNT_REFUSED]⟩,
    ⟨0x01900018, 0, 1, 0, 1, [F.LGE_CYC_CYCLES]⟩,
    ⟨0x0190001C, 0, 1, 0, 1, [F.LGE_USE_INSTKIB, F.LGE_USE_RETKIB]⟩,
    ⟨0x01900020, 0, 1, 0, 1, [F.LGE_PROGID_LO]⟩,
    ⟨0x01900024, 0, 1, 0, 1, [F.LGE_PROGID_HI]⟩,
    ⟨0x01900040, 0x4, 16, 0, 1, [F.LGE_BP_ADDR 0, F.LGE_BP_EN 0]⟩,
    ⟨0x01900100, 0x4, 64, 0, 1, [F.LGE_CMDW 0]⟩,
    ⟨0x01900200, 0x4, 64, 0, 1, [F.LGE_REPW 0]⟩]

/-- The registers of the block at 0x01900000. -/
def regsLge : List RegDesc := regsLge0

def regsHlx0 : List RegDesc :=
  [⟨0x01910000, 0, 1, 0, 1, [F.HLX_CTRL_REPLYWIN, F.HLX_CTRL_TB, F.HLX_CTRL_DROPCNT, F.HLX_CTRL_RETCNT]⟩,
    ⟨0x01910004, 0, 1, 0, 1, [F.HLX_RDA_LO]⟩,
    ⟨0x01910008, 0, 1, 0, 1, [F.HLX_RDA_HI]⟩,
    ⟨0x0191000C, 0, 1, 0, 1, [F.HLX_OK_LO]⟩,
    ⟨0x01910010, 0, 1, 0, 1, [F.HLX_OK_HI]⟩,
    ⟨0x01910014, 0, 1, 0, 1, [F.HLX_CNT_SKIPPED, F.HLX_CNT_BADREP]⟩,
    ⟨0x01910018, 0, 1, 0, 1, [F.HLX_SEQ]⟩,
    ⟨0x01911000, 0x20, 64, 0, 1, [F.HLX_HCFG_PORT 0, F.HLX_HCFG_WDMISS 0, F.HLX_HCFG_VALID 0]⟩,
    ⟨0x01911004, 0x20, 64, 0, 1, [F.HLX_HMAC_LO 0]⟩,
    ⟨0x01911008, 0x20, 64, 0, 1, [F.HLX_HMAC_HI 0]⟩,
    ⟨0x0191100C, 0x20, 64, 0, 1, [F.HLX_HSAFE_LO 0]⟩,
    ⟨0x01911010, 0x20, 64, 0, 1, [F.HLX_HSAFE_HI 0]⟩,
    ⟨0x01911014, 0x20, 64, 0, 1, [F.HLX_HSTAT_STATUS 0, F.HLX_HSTAT_AGE 0]⟩,
    ⟨0x01911018, 0x20, 64, 0, 1, [F.HLX_HCNT_LATE 0, F.HLX_HCNT_DROPS 0]⟩]

/-- The registers of the block at 0x01910000. -/
def regsHlx : List RegDesc := regsHlx0

def regsIns0 : List RegDesc :=
  [⟨0x01A00000, 0, 1, 0, 1, [F.INS_POOLFREE_DRAM, F.INS_POOLFREE_QUEUES]⟩,
    ⟨0x01A00004, 0, 1, 0, 1, [F.INS_CNT_BADCMD, F.INS_CNT_QREFUSE]⟩,
    ⟨0x01A02000, 0x4, 256, 0, 1, [F.INS_SEM_TRY 0, F.INS_SEM_HOLDER 0, F.INS_SEM_BROKEN 0]⟩,
    ⟨0x01A02400, 0x4, 32, 0, 1, [F.INS_QOWN_OWNER 0]⟩,
    ⟨0x01A00140, 0x40, 63, 0, 1, [F.INS_ICMD_CMD 1]⟩,
    ⟨0x01A00144, 0x40, 63, 0, 1, [F.INS_ISTAT_STATE 1, F.INS_ISTAT_OVERQ 1]⟩,
    ⟨0x01A00148, 0x40, 63, 0, 1, [F.INS_QUOTA_DRAM 1, F.INS_QUOTA_QUEUES 1, F.INS_QUOTA_SEMS 1]⟩,
    ⟨0x01A0014C, 0x40, 63, 0, 1, [F.INS_QUOTA2_MBDEPTH 1]⟩,
    ⟨0x01A00150, 0x40, 63, 0, 1, [F.INS_USE_DRAM 1, F.INS_USE_SEMS 1]⟩,
    ⟨0x01A00154, 0x40, 63, 0, 1, [F.INS_HEAP_SIZE 1]⟩,
    ⟨0x01A00158, 0x40, 63, 0, 1, [F.INS_HEAPBASE_BASE 1]⟩,
    ⟨0x01A0015C, 0x40, 63, 0, 1, [F.INS_MBCNT_IREFUSED 1, F.INS_MBCNT_OFULLS 1]⟩,
    ⟨0x01A00160, 0x40, 63, 0, 1, [F.INS_DHASH_LO 1]⟩,
    ⟨0x01A00164, 0x40, 63, 0, 1, [F.INS_DHASH_HI 1]⟩]

/-- The registers of the block at 0x01A00000. -/
def regsIns : List RegDesc := regsIns0

def regsDmx0 : List RegDesc :=
  [⟨0x01B00000, 0x80, 32, 0, 1, [F.DMX_CHSRC_LO 0]⟩,
    ⟨0x01B00004, 0x80, 32, 0, 1, [F.DMX_CHSRC_HI 0]⟩,
    ⟨0x01B00008, 0x80, 32, 0, 1, [F.DMX_CHDST_LO 0]⟩,
    ⟨0x01B0000C, 0x80, 32, 0, 1, [F.DMX_CHDST_HI 0]⟩,
    ⟨0x01B00010, 0x80, 32, 0, 1, [F.DMX_CHCNT_CNT 0]⟩,
    ⟨0x01B00014, 0x80, 32, 0, 1, [F.DMX_CHTAG_TAG 0]⟩,
    ⟨0x01B00018, 0x80, 32, 0, 1, [F.DMX_CHLINK_LO 0]⟩,
    ⟨0x01B0001C, 0x80, 32, 0, 1, [F.DMX_CHLINK_HI 0]⟩,
    ⟨0x01B00020, 0x80, 32, 0, 1, [F.DMX_CHCTL_START 0, F.DMX_CHCTL_CHAIN 0, F.DMX_CHCTL_DOORBELL 0, F.DMX_CHCTL_RESUME 0, F.DMX_CHCTL_ABORT 0, F.DMX_CHCTL_ERRCLR 0, F.DMX_CHCTL_PRIO 0]⟩,
    ⟨0x01B00024, 0x80, 32, 0, 1, [F.DMX_CHSTAT_STATE 0, F.DMX_CHSTAT_CHIDLE 0, F.DMX_CHSTAT_ERR 0, F.DMX_CHSTAT_ERRDIR 0]⟩,
    ⟨0x01B00028, 0x80, 32, 0, 1, [F.DMX_CHERRA_LO 0]⟩,
    ⟨0x01B0002C, 0x80, 32, 0, 1, [F.DMX_CHERRA_HI 0]⟩,
    ⟨0x01B00030, 0x80, 32, 0, 1, [F.DMX_QPUSH_DESC 0]⟩,
    ⟨0x01B00034, 0x80, 32, 0, 1, [F.DMX_QSTAT_DEPTH 0, F.DMX_QSTAT_FENCED 0]⟩,
    ⟨0x01B00038, 0x80, 32, 0, 1, [F.DMX_QCRWR_WR 0]⟩,
    ⟨0x01B0003C, 0x80, 32, 0, 1, [F.DMX_QCNT_ABORTS 0, F.DMX_QCNT_REFUSED 0]⟩,
    ⟨0x01B00040, 0x80, 32, 0, 1, [F.DMX_QCRBASE_LDEPTH 0, F.DMX_QCRBASE_OFS 0]⟩,
    ⟨0x01B00044, 0x80, 32, 0, 1, [F.DMX_QCNT2_ERRS 0, F.DMX_QCNT2_RXNODESC 0]⟩,
    ⟨0x01B01000, 0x4, 2, 0, 1, [F.DMX_ARB_NFREE 0, F.DMX_ARB_BUSY 0]⟩]

/-- The registers of the block at 0x01B00000. -/
def regsDmx : List RegDesc := regsDmx0

def regsMem0 : List RegDesc :=
  [⟨0x01C00000, 0, 1, 0, 1, [F.MEM_ARB_NFREE]⟩,
    ⟨0x01C00004, 0, 1, 0, 1, [F.MEM_ECC_CECC, F.MEM_ECC_UECC]⟩,
    ⟨0x01C00008, 0, 1, 0, 1, [F.MEM_ECCADDR_LO]⟩,
    ⟨0x01C0000C, 0, 1, 0, 1, [F.MEM_ECCADDR_HI]⟩,
    ⟨0x01C00010, 0, 1, 0, 1, [F.MEM_DTEMP_NOW, F.MEM_DTEMP_TRAINED]⟩,
    ⟨0x01C00040, 0x4, 9, 0, 1, [F.MEM_ARBPRIO 0]⟩]

/-- The registers of the block at 0x01C00000. -/
def regsMem : List RegDesc := regsMem0

def regsTok0 : List RegDesc :=
  [⟨0x01D00000, 0, 1, 0, 1, [F.TOK_CTRL_MODE, F.TOK_CTRL_POSITION, F.TOK_CTRL_LEASE, F.TOK_CTRL_GUARD, F.TOK_CTRL_LINKLAT]⟩,
    ⟨0x01D00004, 0, 1, 0, 1, [F.TOK_PLADDR_LO]⟩,
    ⟨0x01D00008, 0, 1, 0, 1, [F.TOK_PLADDR_HI]⟩,
    ⟨0x01D0000C, 0, 1, 0, 1, [F.TOK_STATUS_HELD, F.TOK_STATUS_SOLO, F.TOK_STATUS_HEARD, F.TOK_STATUS_LINKS, F.TOK_STATUS_PEERS]⟩,
    ⟨0x01D00010, 0, 1, 0, 1, [F.TOK_LEASE_REMAIN]⟩,
    ⟨0x01D00014, 0, 1, 0, 1, [F.TOK_TAKESEQ]⟩,
    ⟨0x01D00018, 0, 1, 0, 1, [F.TOK_SYNC_CKPT, F.TOK_SYNC_RETAIN, F.TOK_SYNC_NINST, F.TOK_SYNC_AGE]⟩,
    ⟨0x01D0001C, 0, 1, 0, 1, [F.TOK_CMD_TAKE, F.TOK_CMD_RELEASE, F.TOK_CMD_POS, F.TOK_CMD_KEY]⟩,
    ⟨0x01D00020, 0, 1, 0, 1, [F.TOK_CNT_TAKES, F.TOK_CNT_EXPIRIES]⟩,
    ⟨0x01D00024, 0, 1, 0, 1, [F.TOK_CNT2_LATEACK, F.TOK_CNT2_CATCHUP]⟩,
    ⟨0x01D00028, 0, 1, 0, 1, [F.TOK_CNT3_CKPTREJ, F.TOK_CNT3_LINKDN]⟩,
    ⟨0x01D0002C, 0, 1, 0, 1, [F.TOK_CNT4_CMDREF]⟩]

/-- The registers of the block at 0x01D00000. -/
def regsTok : List RegDesc := regsTok0

def regsXng0 : List RegDesc :=
  [⟨0x01E00000, 0, 1, 0, 1, [F.XNG_STATUS_UP, F.XNG_STATUS_TRAIN, F.XNG_STATUS_EARLY, F.XNG_STATUS_LANES, F.XNG_STATUS_RETRAINS]⟩,
    ⟨0x01E00004, 0, 1, 0, 1, [F.XNG_ERRCNT_CRC, F.XNG_ERRCNT_RESENT]⟩,
    ⟨0x01E00008, 0, 1, 0, 1, [F.XNG_REFUSED_LASTCODE, F.XNG_REFUSED_EARLY, F.XNG_REFUSED_EVLOST]⟩,
    ⟨0x01E0000C, 0, 1, 0, 1, [F.XNG_BADMSG_COUNT]⟩]

/-- The registers of the block at 0x01E00000. -/
def regsXng : List RegDesc := regsXng0

def regsHost0 : List RegDesc :=
  [⟨0x03000000, 0x1000, 4, 0, 1, [F.SBP_CTRL_MODE 0, F.SBP_CTRL_AN 0, F.SBP_CTRL_PAUSE_EN 0, F.SBP_CTRL_BCAST 0, F.SBP_CTRL_SDALLOW 0]⟩,
    ⟨0x03000004, 0x1000, 4, 0, 1, [F.SBP_STATUS_LINK 0, F.SBP_STATUS_PAUSED 0, F.SBP_STATUS_SNF 0, F.SBP_STATUS_SDINH 0, F.SBP_STATUS_RENEG 0, F.SBP_STATUS_RATE 0]⟩,
    ⟨0x03004000, 0, 1, 0, 1, [F.MTP_CTRL_MODE, F.MTP_CTRL_HDX, F.MTP_CTRL_AN, F.MTP_CTRL_PAUSE_EN, F.MTP_CTRL_BCAST]⟩,
    ⟨0x03004004, 0, 1, 0, 1, [F.MTP_STATUS_LINK, F.MTP_STATUS_PAUSED, F.MTP_STATUS_SNF, F.MTP_STATUS_RATE]⟩,
    ⟨0x03000008, 0x1000, 5, 0, 1, [F.SBP_TXTHR_START 0]⟩,
    ⟨0x0300000C, 0x1000, 5, 0, 1, [F.SBP_PRIMAP_MAP 0]⟩,
    ⟨0x03000010, 0x1000, 5, 0, 1, [F.SBP_PAUSE_QUANTA 0]⟩,
    ⟨0x03000018, 0x1000, 5, 0, 1, [F.SBP_MAC_LO 0]⟩,
    ⟨0x0300001C, 0x1000, 5, 0, 1, [F.SBP_MAC_HI 0]⟩,
    ⟨0x03000040, 0x1000, 5, 0, 1, [F.SBP_RXFRM_LO 0, F.SBP_RXFRM_LIVE 0]⟩,
    ⟨0x03000044, 0x1000, 5, 0, 1, [F.SBP_RXFRM_HI 0]⟩,
    ⟨0x03000048, 0x1000, 5, 0, 1, [F.SBP_RXOCT_LO 0, F.SBP_RXOCT_LIVE 0]⟩,
    ⟨0x0300004C, 0x1000, 5, 0, 1, [F.SBP_RXOCT_HI 0]⟩,
    ⟨0x03000050, 0x1000, 5, 0, 1, [F.SBP_TXFRM_LO 0, F.SBP_TXFRM_LIVE 0]⟩,
    ⟨0x03000054, 0x1000, 5, 0, 1, [F.SBP_TXFRM_HI 0]⟩,
    ⟨0x03000058, 0x1000, 5, 0, 1, [F.SBP_TXOCT_LO 0, F.SBP_TXOCT_LIVE 0]⟩,
    ⟨0x0300005C, 0x1000, 5, 0, 1, [F.SBP_TXOCT_HI 0]⟩,
    ⟨0x03000060, 0x1000, 5, 0, 1, [F.SBP_MCDROP_LO 0, F.SBP_MCDROP_LIVE 0]⟩,
    ⟨0x03000064, 0x1000, 5, 0, 1, [F.SBP_MCDROP_HI 0]⟩,
    ⟨0x03000080, 0x1000, 5, 0, 1, [F.SBP_CRCERR 0]⟩,
    ⟨0x03000084, 0x1000, 5, 0, 1, [F.SBP_LENERR 0]⟩,
    ⟨0x03000088, 0x1000, 5, 0, 1, [F.SBP_RXOVF 0]⟩,
    ⟨0x0300008C, 0x1000, 5, 0, 1, [F.SBP_UNDERRUN 0]⟩,
    ⟨0x03000090, 0x1000, 5, 0, 1, [F.SBP_PAUSERX 0]⟩,
    ⟨0x03000094, 0x1000, 5, 0, 1, [F.SBP_LINKDN 0]⟩,
    ⟨0x03000098, 0x1000, 4, 0, 1, [F.SBP_TXDROP 0]⟩,
    ⟨0x0300409C, 0, 1, 0, 1, [F.MTP_EXCOL]⟩,
    ⟨0x030040A0, 0, 1, 0, 1, [F.MTP_LATECOL]⟩,
    ⟨0x03000400, 0x1000, 4, 0, 1, [F.SBP_PORT_CTRL_STAMPTB 0, F.SBP_PORT_CTRL_TCEN 0, F.SBP_PORT_CTRL_TCPEER 0, F.SBP_PORT_CTRL_TCMODE 0]⟩,
    ⟨0x03000404, 0x1000, 4, 0, 1, [F.SBP_PORT_LAT_RXLAT 0, F.SBP_PORT_LAT_TXLAT 0]⟩,
    ⟨0x03000408, 0x1000, 4, 0, 1, [F.SBP_PORT_ASYM 0]⟩,
    ⟨0x0300040C, 0x1000, 4, 0, 1, [F.SBP_PORT_PDELAY 0]⟩,
    ⟨0x03000410, 0x1000, 4, 0x4, 4, [F.SBP_EQP_W 0 0]⟩,
    ⟨0x03000420, 0x1000, 4, 0x4, 4, [F.SBP_EQG_W 0 0]⟩,
    ⟨0x03000430, 0x1000, 4, 0, 1, [F.SBP_EQ_POP_PPOP 0, F.SBP_EQ_POP_GPOP 0]⟩,
    ⟨0x03000434, 0x1000, 4, 0, 1, [F.SBP_EQ_STAT_PCOUNT 0, F.SBP_EQ_STAT_POVF 0, F.SBP_EQ_STAT_GCOUNT 0, F.SBP_EQ_STAT_GOVF 0]⟩,
    ⟨0x03000438, 0x1000, 4, 0, 1, [F.SBP_EQ_LOST_PLOST 0, F.SBP_EQ_LOST_GLOST 0]⟩]

/-- The registers of the block at 0x03000000. -/
def regsHost : List RegDesc := regsHost0

def regsLcl0 : List RegDesc :=
  [⟨0x100000000, 0x1000, 24, 0, 1, [F.LCL_PHQ_PUSH_DESC 0]⟩,
    ⟨0x100000004, 0x1000, 24, 0, 1, [F.LCL_PHQ_STAT_PEND 0, F.LCL_PHQ_STAT_BUSY 0]⟩,
    ⟨0x100000010, 0x1000, 24, 0, 1, [F.LCL_RECTRIG_REC 0]⟩,
    ⟨0x100000020, 0x1000, 24, 0, 1, [F.LCL_MB_STAT_INCNT 0, F.LCL_MB_STAT_OUTCNT 0, F.LCL_MB_STAT_DOOR 0, F.LCL_MB_STAT_OFULL 0]⟩,
    ⟨0x100000024, 0x1000, 24, 0, 1, [F.LCL_MB_INHDR_OP 0, F.LCL_MB_INHDR_LEN 0]⟩,
    ⟨0x100000028, 0x1000, 24, 0, 1, [F.LCL_MB_POP 0]⟩,
    ⟨0x10000002C, 0x1000, 24, 0, 1, [F.LCL_MB_PUSH_OPLEN 0]⟩,
    ⟨0x100000100, 0x1000, 24, 0x4, 16, [F.LCL_MB_IN 0 0]⟩,
    ⟨0x100000140, 0x1000, 24, 0x4, 16, [F.LCL_MB_OUT 0 0]⟩,
    ⟨0x100000400, 0x1000, 24, 0x4, 256, [F.LCL_SEM_TRY 0 0]⟩]

/-- The registers of the block at 0x100000000. -/
def regsLcl : List RegDesc := regsLcl0

/-- The blocks that hold registers: first address, first address after, registers (R26, R111, R235). -/
def regBlocks : List (Nat × Nat × List RegDesc) :=
  [(0x01000000, 0x01010000, regsPwr),
   (0x01020000, 0x01030000, regsRbk),
   (0x01030000, 0x01100000, regsVlt),
   (0x01100000, 0x01200000, regsPrt),
   (0x01200000, 0x01210000, regsTsu),
   (0x01210000, 0x01300000, regsTtb),
   (0x01300000, 0x01400000, regsSvi),
   (0x01400000, 0x01500000, regsFch),
   (0x01500000, 0x01600000, regsPfm),
   (0x01600000, 0x01700000, regsMar),
   (0x01700000, 0x01800000, regsPub),
   (0x01800000, 0x01810000, regsAcq),
   (0x01810000, 0x01900000, regsAfe),
   (0x01900000, 0x01910000, regsLge),
   (0x01910000, 0x01A00000, regsHlx),
   (0x01A00000, 0x01B00000, regsIns),
   (0x01B00000, 0x01C00000, regsDmx),
   (0x01C00000, 0x01D00000, regsMem),
   (0x01D00000, 0x01E00000, regsTok),
   (0x01E00000, 0x01F00000, regsXng),
   (0x03000000, 0x03010000, regsHost),
   (0x100000000, 0x100018000, regsLcl)]

/-- The fields of the register word at address `a`, none for a reserved address (R26). -/
def fieldsAt (a : Nat) : List Fld :=
  match regBlocks.find? (fun b => decide (b.1 ≤ a) && decide (a < b.2.1)) with
  | none => []
  | some b =>
    match b.2.2.find? (fun r => (r.find a).isSome) with
    | none => []
    | some r => r.flds.map (fun f => f.shift (a - r.addr))

/-- The field whose key in the register file is `k`. -/
def fieldOfKey (k : Nat) : Option Fld := (fieldsAt (k / 64)).find? (fun f => f.key == k)

end Sys2Proof.Machine
end

