-- ==== Sys2Proof/Machine/State.lean ====
section
/-!
DEFINITION. State: everything the manual gives the ZGP-7420, as plain data, with the queue of waiting commands, one setter
per field, the two closed lists of reasons a step can stop for, and the state after reset.
-/
namespace Sys2Proof.Machine

/-- Why a step could stop with a fault. The manual gives every command of the table an effect, so no meaning raises one; the
constructor exists because the interface asks for the type. Safe: nothing raises it. -/
inductive Fault where
  /-- Raised by nothing. Safe. -/
  | none
  deriving DecidableEq, Repr

/-- Why a step could be refused. -/
inductive Refusal where
  /-- Raised by an arm of `exec` whose command has no meaning yet. Safe: nothing is claimed of it. -/
  | notModelled (mnemonic : String)
  deriving DecidableEq, Repr

/-- What a command answers. -/
abbrev Out (σ : Type) : Type := Host.Outcome σ Fault Refusal

/-- The state of the module. -/
structure State where
  /-- The commands that wait, first in, first out (the block's command queue). -/
  pending : List Instr
  /-- Every register field of R26 and of the host-die pages, by `Fld.key`; an unlisted field holds its reset value (R10 to R12). -/
  regs : List (Nat × Nat)
  /-- Field DRAM and the TCM windows (R27); an unlisted byte reads 0 (R49). -/
  mem : List Host.Cell
  /-- The raw TIME counter in ns (R385). -/
  now : Nat
  /-- MODEL'S OWN: how many free values have been drawn. -/
  free : Nat
  /-- The MRAM event log of 65,536 records (R356), oldest first. -/
  log : List Event
  /-- The MRAM counter snapshot (R59, R356), by register-file key; the manual says where it lies and that every reset keeps it, not when it is taken. -/
  snap : List (Nat × Nat)
  /-- The Yevas link and the junctions. -/
  link : LinkS
  /-- The host die as the manual shows it. -/
  host : HostS
  /-- Supply, start-up, resets and watchdogs. -/
  power : PowerS
  /-- The rulebook loader. -/
  rbk : RbkS
  /-- Ethernet ports by number (R106): 0 to 15 PB, 16 and 17 TW, 0x20 to 0x23 SB, 0x24 MT. -/
  ports : List (Nat × PortS)
  /-- The trip drives. -/
  trips : List (Nat × TripS)
  /-- The time bases. -/
  tbs : List (Nat × TbS)
  /-- TIN, TOUT and the SB stamps. -/
  tin : TinS
  /-- The timetable. -/
  ttb : TtbS
  /-- Stream ingress. -/
  svi : SviS
  /-- The filter chain. -/
  fch : FchS
  /-- The platforms. -/
  pfs : List (Nat × PfS)
  /-- Marshalling. -/
  mar : MarS
  /-- Publication. -/
  pub : PubS
  /-- Acquisition and the analogue front end. -/
  acq : AcqS
  /-- The logic engine. -/
  lge : LgeS
  /-- The halt exchange. -/
  hlx : HlxS
  /-- Instances, semaphores, mailboxes, channels, arbiters. -/
  ins : InsS
  /-- The vault. -/
  vlt : VltS
  /-- The redundancy controller. -/
  tok : TokS
  deriving DecidableEq, Repr

/-- Replace `pending`. -/
def State.setPending (s : State) (v : List Instr) : State := { s with pending := v }

/-- Replace `regs`. -/
def State.setRegs (s : State) (v : List (Nat × Nat)) : State := { s with regs := v }

/-- Replace `mem`. -/
def State.setMem (s : State) (v : List Host.Cell) : State := { s with mem := v }

/-- Replace `now`. -/
def State.setNow (s : State) (v : Nat) : State := { s with now := v }

/-- Replace `free`. -/
def State.setFree (s : State) (v : Nat) : State := { s with free := v }

/-- Replace `log`. -/
def State.setLog (s : State) (v : List Event) : State := { s with log := v }

/-- Replace `snap`. -/
def State.setSnap (s : State) (v : List (Nat × Nat)) : State := { s with snap := v }

/-- Replace `link`. -/
def State.setLink (s : State) (v : LinkS) : State := { s with link := v }

/-- Replace `host`. -/
def State.setHost (s : State) (v : HostS) : State := { s with host := v }

/-- Replace `power`. -/
def State.setPower (s : State) (v : PowerS) : State := { s with power := v }

/-- Replace `rbk`. -/
def State.setRbk (s : State) (v : RbkS) : State := { s with rbk := v }

/-- Replace `ports`. -/
def State.setPorts (s : State) (v : List (Nat × PortS)) : State := { s with ports := v }

/-- Replace `trips`. -/
def State.setTrips (s : State) (v : List (Nat × TripS)) : State := { s with trips := v }

/-- Replace `tbs`. -/
def State.setTbs (s : State) (v : List (Nat × TbS)) : State := { s with tbs := v }

/-- Replace `tin`. -/
def State.setTin (s : State) (v : TinS) : State := { s with tin := v }

/-- Replace `ttb`. -/
def State.setTtb (s : State) (v : TtbS) : State := { s with ttb := v }

/-- Replace `svi`. -/
def State.setSvi (s : State) (v : SviS) : State := { s with svi := v }

/-- Replace `fch`. -/
def State.setFch (s : State) (v : FchS) : State := { s with fch := v }

/-- Replace `pfs`. -/
def State.setPfs (s : State) (v : List (Nat × PfS)) : State := { s with pfs := v }

/-- Replace `mar`. -/
def State.setMar (s : State) (v : MarS) : State := { s with mar := v }

/-- Replace `pub`. -/
def State.setPub (s : State) (v : PubS) : State := { s with pub := v }

/-- Replace `acq`. -/
def State.setAcq (s : State) (v : AcqS) : State := { s with acq := v }

/-- Replace `lge`. -/
def State.setLge (s : State) (v : LgeS) : State := { s with lge := v }

/-- Replace `hlx`. -/
def State.setHlx (s : State) (v : HlxS) : State := { s with hlx := v }

/-- Replace `ins`. -/
def State.setIns (s : State) (v : InsS) : State := { s with ins := v }

/-- Replace `vlt`. -/
def State.setVlt (s : State) (v : VltS) : State := { s with vlt := v }

/-- Replace `tok`. -/
def State.setTok (s : State) (v : TokS) : State := { s with tok := v }

/-- The module right after its first power-up (R49, R53, R62): supplied, a P reset in progress in stage 0x01, every register
at its Reset column value but PWR_CAUSE.KIND, which the start of the P reset has written (R62). Log entries 1 and 2 name
the values the manual does not state. -/
def State.reset : State :=
  { pending := [], regs := [(F.PWR_CAUSE_KIND.key, 1)], mem := [], now := 0, free := 0, log := [], snap := [],
    link := LinkS.init, host := HostS.init, power := { PowerS.init with powered := true, kind := some .p },
    rbk := RbkS.init, ports := [], trips := [], tbs := [], tin := TinS.init, ttb := TtbS.init, svi := SviS.init,
    fch := FchS.init, pfs := [], mar := MarS.init, pub := PubS.init, acq := { AcqS.init with page := factoryPage }, lge := LgeS.init,
    hlx := HlxS.init, ins := InsS.init, vlt := VltS.init, tok := TokS.init }

end Sys2Proof.Machine
end

