-- ==== Sys2Proof/Machine/Ops.lean ====
section
/-!
DEFINITION. The named operations every chapter uses: register fields, counters, the raw TIME counter and the time bases,
events, memory, platforms and messages.
-/
namespace Sys2Proof.Machine

/-! ## Register fields (R10, R12) -/

/-- The value of a register field. -/
def State.get (s : State) (f : Fld) : Nat := Sp.get f.reset s.regs f.key

/-- Store a register field, keeping its width. -/
def State.put (s : State) (f : Fld) (v : Nat) : State := s.setRegs (Sp.put f.reset s.regs f.key (v % 2 ^ f.width))

/-- A one-bit field as a truth value. -/
def State.flag (s : State) (f : Fld) : Bool := s.get f != 0

/-- Store a truth value. -/
def State.putB (s : State) (f : Fld) (b : Bool) : State := s.put f (ofBool b)

/-- A field read as a signed number of its width. -/
def State.getI (s : State) (f : Fld) : Int := signedN f.width (s.get f)

/-- Store a signed number in its width's two's complement. -/
def State.putI (s : State) (f : Fld) (v : Int) : State := s.put f (wrapN f.width v)

/-- Return a field to its reset value. -/
def State.clear (s : State) (f : Fld) : State := s.put f f.reset

/-- Return every listed field to its reset value. -/
def State.clearAll (s : State) (fs : List Fld) : State := fs.foldl State.clear s

/-- Raise a field to `v` when it is below: a peak. -/
def State.peak (s : State) (f : Fld) (v : Nat) : State := if s.get f < v then s.put f (Nat.min v (2 ^ f.width - 1)) else s

/-- A rulebook is active (R62 CFG, R74). -/
def State.active (s : State) : Bool := s.flag F.PWR_STAGE_CFG

/-- PWR_STAGE.READY (R51). -/
def State.ready (s : State) : Bool := s.flag F.PWR_STAGE_READY

/-- The platform-island state Park (R57): 0b10 Park, 0b11 waking. -/
def State.parked (s : State) : Bool := s.get F.PWR_STATE == 2

/-! ## Tables of records -/

def State.port (s : State) (p : Nat) : PortS := Sp.get PortS.init s.ports p
def State.setPort (s : State) (p : Nat) (v : PortS) : State := s.setPorts (Sp.put PortS.init s.ports p v)
def State.trip (s : State) (d : Nat) : TripS := Sp.get TripS.init s.trips d
def State.setTrip (s : State) (d : Nat) (v : TripS) : State := s.setTrips (Sp.put TripS.init s.trips d v)
def State.tb (s : State) (b : Nat) : TbS := Sp.get TbS.init s.tbs b
def State.setTb (s : State) (b : Nat) (v : TbS) : State := s.setTbs (Sp.put TbS.init s.tbs b v)
def State.pf (s : State) (p : Nat) : PfS := Sp.get PfS.init s.pfs p
def State.setPf (s : State) (p : Nat) (v : PfS) : State := s.setPfs (Sp.put PfS.init s.pfs p v)
def State.inst (s : State) (i : Nat) : InstS := Sp.get InstS.init s.ins.insts i
def State.setInst (s : State) (i : Nat) (v : InstS) : State :=
  s.setIns { s.ins with insts := Sp.put InstS.init s.ins.insts i v }
def State.chan (s : State) (c : Nat) : ChanS := Sp.get ChanS.init s.ins.chans c
def State.setChan (s : State) (c : Nat) (v : ChanS) : State :=
  s.setIns { s.ins with chans := Sp.put ChanS.init s.ins.chans c v }
def State.stream (s : State) (i : Nat) : StreamS := Sp.get StreamS.init s.svi.streams i
def State.setStream (s : State) (i : Nat) (v : StreamS) : State :=
  s.setSvi { s.svi with streams := Sp.put StreamS.init s.svi.streams i v }
def State.lane (s : State) (i : Nat) : LaneS := Sp.get LaneS.init s.fch.lanes i
def State.setLane (s : State) (i : Nat) (v : LaneS) : State :=
  s.setFch { s.fch with lanes := Sp.put LaneS.init s.fch.lanes i v }
def State.group (s : State) (i : Nat) : GroupS := Sp.get GroupS.init s.fch.groups i
def State.setGroup (s : State) (i : Nat) (v : GroupS) : State :=
  s.setFch { s.fch with groups := Sp.put GroupS.init s.fch.groups i v }
def State.goose (s : State) (i : Nat) : GooseS := Sp.get GooseS.init s.pub.goose i
def State.setGoose (s : State) (i : Nat) (v : GooseS) : State :=
  s.setPub { s.pub with goose := Sp.put GooseS.init s.pub.goose i v }
def State.svt (s : State) (i : Nat) : SvTplS := Sp.get SvTplS.init s.pub.sv i
def State.setSvt (s : State) (i : Nat) (v : SvTplS) : State :=
  s.setPub { s.pub with sv := Sp.put SvTplS.init s.pub.sv i v }
def State.recd (s : State) (i : Nat) : RecS := Sp.get RecS.init s.acq.recs i
def State.setRecd (s : State) (i : Nat) (v : RecS) : State :=
  s.setAcq { s.acq with recs := Sp.put RecS.init s.acq.recs i v }
def State.halt (s : State) (i : Nat) : HaltS := Sp.get HaltS.init s.hlx.halts i
def State.setHalt (s : State) (i : Nat) (v : HaltS) : State :=
  s.setHlx { s.hlx with halts := Sp.put HaltS.init s.hlx.halts i v }
def State.kslot (s : State) (i : Nat) : KSlot := Sp.get KSlot.init s.vlt.slots i
def State.setKslot (s : State) (i : Nat) (v : KSlot) : State :=
  s.setVlt { s.vlt with slots := Sp.put KSlot.init s.vlt.slots i v }
def State.meas (s : State) (k : Nat) : Meas := Sp.get Meas.init s.mar.meas k
def State.setMeas (s : State) (k : Nat) (v : Meas) : State :=
  s.setMar { s.mar with meas := Sp.put Meas.init s.mar.meas k v }

/-! ## The raw TIME counter and the time bases (R112 to R114, R385) -/

/-- Units of a base's accumulator in one ns: 65,536 × 10⁶. -/
def tbUnit : Nat := 65536000000

/-- A base's time in its accumulator: the seconds have 48 bits (R114), and time before zero or past their end wraps (log entry 15). -/
def wrapTime (acc : Int) : Nat := (acc % ((2 ^ 48 * 1000000000 * tbUnit : Nat) : Int)).toNat

/-- Run the bases on by `d` ns of the raw counter: a base that has started (R112) advances by `d` (1 + FREQ / 65,536 ppm)
ns. -/
def State.runBases (s : State) (d : Nat) : State :=
  (List.range 4).foldl (fun s b =>
    if (s.tb b).running then
      s.setTb b { s.tb b with acc := wrapTime ((s.tb b).acc + d * ((tbUnit : Int) + s.getI (F.TSU_TB_FREQ b))) }
    else s) s

/-- Move the raw counter to `t`, never back. -/
def State.advance (s : State) (t : Nat) : State :=
  if s.now < t then (s.runBases (t - s.now)).setNow t else s

/-- Time of base `b` in ns since its zero. -/
def State.tbNs (s : State) (b : Nat) : Nat := (s.tb b).acc / tbUnit

/-- Seconds of base `b` (R114). -/
def State.tbSec (s : State) (b : Nat) : Nat := s.tbNs b / 1000000000

/-- Base time of base `b` at raw counter value `raw`, by the rate now in force. -/
def State.tbAt (s : State) (b raw : Nat) : Int :=
  let rate := (tbUnit : Int) + s.getI (F.TSU_TB_FREQ b)
  Int.fdiv (((s.tb b).acc : Int) + ((raw : Int) - s.now) * rate) tbUnit

/-- EPOCH of base `b` (R127). -/
def State.epoch (s : State) (b : Nat) : Nat := s.get (F.TSU_TB_STATUS_EPOCH b)

/-- The wrapped stamp of base time `ns` (R127). -/
def wrapNs (ns : Int) : Word := BitVec.ofInt 32 ns

/-- The timetable's base (R139). -/
def State.ttbTb (s : State) : Nat := s.get F.TTB_CTRL_TB

/-! ## Events (R40, R41) -/

/-- Does the Yevas link carry messages now (R34)? -/
def State.linkUp (s : State) : Bool := s.flag F.XNG_STATUS_UP && !s.flag F.XNG_STATUS_TRAIN

/-- Keep the newest `n` elements of a list. -/
def keepLast {α : Type} (n : Nat) (l : List α) : List α := l.drop (l.length - n)

/-- Offer an event record to the link: while the link is down or retraining at most 1,024 records are kept and later ones
counted in XNG_REFUSED.EVLOST (R34). -/
def State.offerEvent (s : State) (e : Event) : State :=
  if s.linkUp || s.link.evq.length < 1024 then
    s.setLink { s.link with evq := s.link.evq ++ [e], order := s.link.order + 1,
                            evSince := if s.link.evq.isEmpty then s.link.order else s.link.evSince }
  else s.put F.XNG_REFUSED_EVLOST (Nat.min (s.get F.XNG_REFUSED_EVLOST + 1) 0xFFFF)

/-- The record of an event on base `b` with instance `i` (R40). -/
def State.eventOf (s : State) (b code i arg : Nat) : Event :=
  { code := code, inst := i, tb := b, arg := arg % 2 ^ 32, sec := s.tbSec b % 2 ^ 32, ns := s.tbNs b % 1000000000 }

/-- Keep a record in the MRAM event log (R356). -/
def State.keepEvent (s : State) (e : Event) : State := s.setLog (keepLast 65536 (s.log ++ [e]))

/-- Raise an event on base `b` with instance `i` (R40): into the MRAM log (R356) and to the link. A record that the link drops may take
EVLOST to 0xFFFF: event 0x01FF (R39, R41) is then logged, and dropped by the full link as well. -/
def State.raiseOn (s : State) (b code i arg : Nat) : State :=
  let t := (s.keepEvent (s.eventOf b code i arg)).offerEvent (s.eventOf b code i arg)
  if s.get F.XNG_REFUSED_EVLOST < 0xFFFF ∧ t.get F.XNG_REFUSED_EVLOST = 0xFFFF then
    t.keepEvent (t.eventOf t.ttbTb 0x01FF 0xFF F.XNG_REFUSED_EVLOST.addr)
  else t

/-- Raise an event of instance `i`, timed by the timetable's base. DESIGN CHOICE (log entry 7): the manual lets a record
name its base and does not say which. -/
def State.raiseI (s : State) (code i arg : Nat) : State := s.raiseOn s.ttbTb code i arg

/-- Raise an event that names no instance. -/
def State.raise (s : State) (code arg : Nat) : State := s.raiseI code 0xFF arg

/-- Raise an event of a host-die port in the manager's local queue (R106). -/
def State.raiseHost (s : State) (code arg : Nat) : State :=
  let b := s.ttbTb
  s.setHost { s.host with events := s.host.events ++
    [{ code := code, inst := 0xFF, tb := b, arg := arg % 2 ^ 32, sec := s.tbSec b % 2 ^ 32,
       ns := s.tbNs b % 1000000000 }] }

/-! ## Memory (R27, R206, R332) -/

/-- First address of field DRAM. -/
def dramBase : Nat := 0x1000000000

/-- Bytes of field DRAM. -/
def dramSize : Nat := 0x200000000

/-- First address of the TCM window of platform `p`. -/
def tcmBase (p : Nat) : Nat := 0x20000000 + 0x100000 * p

/-- One byte of memory; a byte nothing has written reads 0 (R49). -/
def State.rd (s : State) (a : Nat) : Byte := Sp.get 0#8 s.mem a

/-- Write one byte of memory. -/
def State.wr (s : State) (a : Nat) (b : Byte) : State := s.setMem (Sp.put 0#8 s.mem a b)

/-- Read `n` bytes from `a`. -/
def State.rdN (s : State) (a n : Nat) : Bytes := (List.range n).map (fun i => s.rd (a + i))

/-- Write bytes from `a` upward. -/
def State.wrN (s : State) (a : Nat) : Bytes → State
  | [] => s
  | b :: bs => (s.wr a b).wrN (a + 1) bs

/-- Zero the bytes from `lo` up to and not including `hi`. -/
def State.zeroMem (s : State) (lo hi : Nat) : State :=
  s.setMem (s.mem.filter (fun c => !(decide (lo ≤ c.1) && decide (c.1 < hi))))

/-- Write a little-endian number of `n` bytes. -/
def State.wrLe (s : State) (a n : Nat) (v : Nat) : State := s.wrN a (leBytes n v)

/-- Read a little-endian number of `n` bytes. -/
def State.rdLe (s : State) (a n : Nat) : Nat := leNat (s.rdN a n)

/-! ## Free values -/

/-- Draw the next free value's index: the counter of State, which the draw advances. -/
def State.draw (s : State) : State × Nat := (s.setFree (s.free + 1), s.free)

/-! ## Folding an effect over units -/

/-- Apply `f` for each element in order. -/
def State.each {α : Type} (s : State) (l : List α) (f : State → α → State) : State := l.foldl f s

end Sys2Proof.Machine
end

