-- ==== Sys2Proof/Machine/Mram.lean ====
section
/-!
DEFINITION. Checkpoint and RETAIN images on their way to MRAM (R46, R47, R149): writes inside maintenance windows. Readings and choices
are in log entry 41.
-/

namespace Sys2Proof.Machine

/-- The owner of an image: its instance; none for RETAIN. -/
def Image.owner : Image → Option Nat
  | .ckpt i _ => some i
  | .retain _ => none

/-- The bytes of a RETAIN image in the order of the instance table (R319). -/
def RetImg.bytes (b : RetImg) : Bytes := b.parts.flatMap (fun x => x.2.2)

/-- Bytes of an image: a checkpoint counts with an even share of the 32 KiB of publication state (R46, R356). DESIGN CHOICE (log
entry 41). -/
def Image.size : Image → Nat
  | .ckpt _ x => x.ckpt.length + 512
  | .retain b => b.bytes.length

/-- The digest that the newest checkpoint belongs to; VOID has not been written since this checkpoint (R54). -/
def State.stampDigest (s : State) : State :=
  s.setPower { s.power with ckptDigest := if s.active then some s.rbk.digest else s.power.ckptDigest, voided := false }

/-- A buffer of MRAM becomes valid (R46). -/
def State.imageWritten (s : State) : Image → State
  | .ckpt i x => (s.setInst i { s.inst i with mram := some x }).stampDigest
  | .retain b => s.setLge { s.lge with retMram := some b }

/-- The last byte of this write has been written by now. -/
def State.writeOver (s : State) (w : MramWrite) : Bool := match w.finish with
  | none => false
  | some f => decide (f ≤ s.now)

/-- The writes that are complete by now take effect; the others stay as they are. -/
def State.settleWrites (s : State) : State :=
  let past := s.ins.writes.filter s.writeOver
  let s := s.setIns { s.ins with writes := s.ins.writes.filter (fun w => !s.writeOver w) }
  (past.map (·.image)).foldl State.imageWritten s

/-- The writes of an owner are cut short. -/
def State.dropWrites (s : State) (o : Option Nat) : State :=
  s.setIns { s.ins with writes := s.ins.writes.filter (fun w => w.image.owner != o) }

/-- The staged images that MRAM does not hold, instances in ascending order, then RETAIN. -/
def State.imagesDue (s : State) : List Image :=
  let snaps := s.ins.insts.filterMap (fun e => match e.2.staged with
    | none => none
    | some x => if some x = e.2.mram then none else some (Image.ckpt e.1 x))
  match s.lge.retStaged with
  | none => snaps
  | some b => if some b = s.lge.retMram then snaps else snaps ++ [.retain b]

/-- Write one image from raw time `e.1` on, at 200 MB/s, as far as the window that ends at `fin` allows; an older image of the same owner
not yet written is given up (R46). -/
def writeImage (old : List MramWrite) (fin : Nat) (e : Nat × List MramWrite) (x : Image) : Nat × List MramWrite :=
  let before := match old.find? (fun w => w.image = x) with
    | none => 0
    | some w => w.done
  let left := x.size - before
  if e.1 + 5 * left ≤ fin then (e.1 + 5 * left, e.2 ++ [{ image := x, done := x.size, finish := some (e.1 + 5 * left) }])
  else (fin, e.2 ++ [{ image := x, done := before + (fin - e.1) / 5, finish := none }])

/-- A window of `ns` opens (R47, R149): the images due are written one after the other; one that the window's end cuts short goes on in the
next. A write of an earlier window that is still to end comes first. -/
def State.writeWindow (s : State) (ns : Nat) : State :=
  let s := s.settleWrites
  let busy := s.ins.writes.filter (fun w => w.finish.isSome)
  let start := busy.foldl (fun a w => Nat.max a (w.finish.getD 0)) s.now
  let due := s.imagesDue.filter (fun x => busy.all (fun w => w.image != x))
  let r := due.foldl (writeImage s.ins.writes (Nat.max start (s.now + ns))) (start, [])
  s.setIns { s.ins with writes := busy ++ r.2 }

/-- A standby has no windows (R391): it writes an image as soon as the writes before it are over, at 200 MB/s (R47), in place of an older
one of the same owner. -/
def State.writeNow (s : State) (x : Image) : State :=
  let s := s.settleWrites.dropWrites x.owner
  let start := s.ins.writes.foldl (fun a w => Nat.max a (w.finish.getD 0)) s.now
  s.setIns { s.ins with writes := s.ins.writes ++ [{ image := x, done := x.size, finish := some (start + 5 * x.size) }] }

/-- The staged images that MRAM does not hold go there whole (R46), with the digest that they belong to (R54). -/
def State.writeImages (s : State) : State :=
  let s := s.settleWrites
  let s := s.setIns { s.ins with writes := [] }
  s.imagesDue.foldl State.imageWritten s

end Sys2Proof.Machine
end

