-- ==== Sys2Proof/Config.lean ====
section
/-!
DEFINITION. What an implementation fixes and the values the manual leaves open: constants without a body, so that a claim
holds whatever they are. An argument named `draw` is the counter of State that the step reads and advances.
-/
namespace Sys2Proof.Config

open Sys2Proof.Machine

/-! ## Standards the manual names and does not restate -/

/-- R119: the offset in ns that the PTP engine draws from a message stamped at a base time. -/
opaque ptpOffset (draw : Nat) (m : PtpMsg) (stamp : Int) : Option Int

/-- R119: the grandmaster identity that the best master clock algorithm selects after a message. -/
opaque ptpGrandmaster (draw : Nat) (m : PtpMsg) : Option Nat

/-- R119, R121: the mean link delay in ns that a peer-delay message completes. -/
opaque ptpLinkDelay (draw : Nat) (m : PtpMsg) (stamp : Int) : Option Nat

/-- R119: the clockIdentity of the module's PTP clocks. -/
opaque clockIdentity : Nat

/-- R119: what an Announce message of a base carries after its header: its grandmaster's quality, priorities and identity. -/
opaque announceBody (draw tb : Nat) : Bytes

/-- R119: the IEEE_C37_238 TLV, with grandmasterID and totalTimeInaccuracy. -/
opaque c37238Tlv (draw tb : Nat) : Bytes

/-- R166: a smpRate field agrees with RATE under smpMod, as IEC 61869-9 defines. -/
opaque smpRateAgrees (smpRate smpMod rate : Nat) : Bool

/-- R52: the drift correction of a port's latency found by stage 0x07, in 1/16 ns. -/
opaque stampDrift (draw port : Nat) (egress : Bool) : Int

/-- R43: the capacitor on HUC in µF, beside the internal store of 500 µF. -/
opaque hucCapacitor : Nat

/-- R43, R44: the hold-up load in mW, conversion losses included; what exceeds 40 W is not used. -/
opaque holdUpLoad : Nat

/-- R99: what the linear-feedback generator of MT supplies for a roll. -/
opaque mtRoll (draw : Nat) : Nat

/-- R258, R264: the contents of the goosePdu or savPdu, which IEC 61850-8-1 and IEC 61850-9-2 make of the prefix image and the fields the
engine sets. -/
opaque pduContents (image : Bytes) (body : TxBody) : Bytes

/-- R266: the two reserved fields of a publication frame's header, the Simulation bit apart, and the octets after the PDU, which
IEC 62351-6 makes of the tag. -/
opaque reservedFields (body : TxBody) : Nat
opaque securityOctets (body : TxBody) : Bytes

/-- R265: the path identifier that the HSR tag of a port carries. -/
opaque hsrPath (port : Nat) : Nat

/-- R273: the IEC 61850-90-5 session-protocol data unit of a publication, signed or, with an empty signature, as it is signed. -/
opaque sessionPdu (image : Bytes) (keyslot : Nat) (body : TxBody) (sig : Bytes) : Bytes

/-- R272: the bytes of a launch's record: instance, task, train index, commit flag, TRIP, FAULTDET, and template number and
contents of each twinned buffer changed. The manual lists them and gives no layout. -/
opaque digestRecord (inst task k : Nat) (commit : Bool) (trip : Word) (fault : Bool) (bufs : List (Nat × Bytes)) : Bytes

/-! ## Values the manual leaves open on the platforms (log entry 34) -/

/-- R219: ns from a launch to the task's first instruction, up to 400. -/
opaque launchDelay (draw : Nat) : Nat

/-- R209: how far the time CSRs of a platform lie from their base at a raw time: up to 8 ns either way. -/
opaque timeSkew (pf raw : Nat) : Nat

/-! ## Values the manual leaves open in the filter chain (log entry 25) -/

/-- R182, R183, R189, R191: a result that no rule rounds is taken up from the whole number below it. -/
opaque roundUp (num : Int) (den : Nat) : Bool

/-- R189: the angle of group `g`'s phasor at grid point `k` where the phasor is zero. -/
opaque zeroTurn (g k : Nat) : Nat

/-- R182: what the delay line of a lane holds `back` inputs before the lane's first. -/
opaque delayLine (lane back : Nat) : BitVec 32

/-- R197: WRITTEN in the frame record of a lane that has written nothing. -/
opaque noneWritten : BitVec 32

/-! ## What the manual leaves to marshalling and the memory system (log entry 31) -/

/-- R254: the DRAM banks that a buffer uses, by its base and size. -/
opaque banksOf (base size : Nat) : BitVec 32

/-- R334, R355: what lies at an address of the system area: 1 the master image of an instance, 2 its checkpoint staging buffer, 3 the
RETAIN staging buffer, 0 anything else. -/
opaque systemArea (addr : Nat) : Nat × Nat

/-- R355: which block of a recorder or of the history an address holds, counted from the oldest. -/
opaque blockAt (addr : Nat) : Nat

/-! ## Values the manual leaves open in the phasor unit (log entry 32) -/

/-- R216: the quotient of OP 0x5 by a current of 0, and whether it counts as saturated. -/
opaque quotientByZero (draw : Nat) : BitVec 32 × BitVec 32 × Bool

/-- R215, R218: the clocks in STATUS of a descriptor with a bad OP, NSEL, HMASK or COUNT. -/
opaque badClocks (draw : Nat) : BitVec 16

/-! ## Values the manual leaves open in the DMA (log entry 29) -/

/-- R347: what a channel reads in a recorder buffer, whose blocks the manual lays out only on the link. -/
opaque recBuffer (draw addr : Nat) : BitVec 8

/-- R349: TAG in the record of a descriptor that a channel may not read. -/
opaque lostTag (draw : Nat) : BitVec 32

/-- R351: bytes moved when software aborts a descriptor. -/
opaque abortedAt (draw : Nat) : Nat

/-- R273: the UDP, IPv4 and Ethernet headers that the host die puts before a session-protocol data unit, as the manager configured them. -/
opaque sessionHeaders (sb length : Nat) : Bytes

/-- R89, R346: the octets of a received frame from the destination address to before the FCS. -/
opaque rxOctets (f : RxFrame) : Bytes

/-! ## Othan block code (log entry 35) -/

/-- R307 to R310: what a program makes of its instance memory and input image in one cycle: the instance memory after it, and the
output image. The manual gives the container of the code and not its operations. -/
opaque blockRun (p : Prog) (mem image : Bytes) : Bytes × Bytes

/-- R311, R316: instance memory after a cycle that did not come to its commit. -/
opaque abortedMem (draw : Nat) (p : Prog) (mem : Bytes) : Bytes

/-- R313, R318: the offsets, in the data of an instance of a standard type with this type hash, of its elapsed time, its PT (64-bit counts of µs),
its output Q and the stored previous input of an edge detector. The manual does not place them. -/
opaque stdElapsed (hash : Nat) : Nat
opaque stdPt (hash : Nat) : Nat
opaque stdQ (hash : Nat) : Nat
opaque stdPrev (hash : Nat) : Nat

/-- R318: the input of an edge detector at the first cycle after a warm restart, by instance number. -/
opaque edgeInput (draw fb : Nat) : Bool

/-- R313: what is recorded of a REAL that is no number; the manual rounds a value only. -/
opaque realNan (word : BitVec 32) : BitVec 32

/-! ## Rulebook sections (log entry 37) -/

/-- R66: what the body of a section declares whose layout the manual leaves to its chapter and the chapter does not give; none where it
does not parse. -/
opaque sectionDecl (type sver : Nat) (body : Bytes) : Option Decl

/-- R342: the semaphores that a LOGIC section names. The container of R312 gives them no place. -/
opaque progSems (body : Bytes) : List Nat

/-! ## Cryptography (R63, R69, R266, R365, R368, R370, R375) -/

/-- SHA-256. -/
opaque sha256 (data : Bytes) : BitVec 256

/-- HMAC-SHA-256. -/
opaque hmac256 (key data : Bytes) : BitVec 256

/-- AES-256-GMAC. -/
opaque gmac (key iv data : Bytes) : BitVec 128

/-- AES-CMAC with a 32-byte key. -/
opaque cmac (key block : Bytes) : BitVec 128

/-- AES-256 KW unwrap of 40 bytes; none when the integrity check fails. -/
opaque kwUnwrap (key wrapped : Bytes) : Option (BitVec 256)

/-- AES-256 KW wrap of a 32-byte key (R366). -/
opaque kwWrap (key plain : Bytes) : BitVec 320

/-- Byte `i` of the AES-256-GCM key stream. -/
opaque gcmStream (key iv : Bytes) (i : Nat) : BitVec 8

/-- The AES-256-GCM tag. -/
opaque gcmTag (key iv aad cipher : Bytes) : BitVec 128

/-- HKDF-SHA-256 with 32 bytes of output. -/
opaque hkdf (ikm salt info : Bytes) : BitVec 256

/-- ECDSA P-256: the signature of the digest verifies under the key. -/
opaque ecdsaOk (key digest sig : Bytes) : Bool

/-- R391: the bytes of an instance's image as the holder streams it; their layout is not stated. -/
opaque ckptImage (x : Snap) : Bytes

/-- R391: the checkpoint region, publication state, TRIP and FAULTDET that the bytes hold. -/
opaque ckptSnap (b : Bytes) : Bytes × List (Nat × GooseS) × Word × Bool

/-- R364: a generation of the root that is interrupted at a raw time has begun to burn its record. -/
opaque rootBegun (raw : Nat) : Bool

/-- R364: the bits of a root record that was burned and not committed. -/
opaque rootPartial (raw : Nat) : BitVec 256

/-- R365: the transport key that the provisioning station generates for this module. -/
opaque transportKey : BitVec 256

/-- R375: the stationmaster's firmware version. -/
opaque firmwareVersion : BitVec 32

end Sys2Proof.Config
end

