-- ==== Sys2Proof/Machine/Codec.lean ====
section
/-!
DEFINITION. The record codec: value and time streams, and the bytes of blocks, summaries and end messages (R288 to R291).
-/
namespace Sys2Proof.Machine

/-! ## The stream code (R290) -/

/-- The state of the coder: r1, r2, a, nc. -/
structure Coder where
  r1 : Int
  r2 : Int
  a  : Nat
  nc : Nat

/-- The least k from 0 to 24 with nc × 2^k ≥ a, else 24. -/
def coderK (a nc : Nat) : Nat := ((List.range 25).find? (fun k => decide (a ≤ nc * 2 ^ k))).getD 24

/-- `w` bits of `v`, most significant first. -/
def bitsMsb : Nat → Nat → List Bool
  | 0, _ => []
  | w + 1, v => bit v w :: bitsMsb w v

/-- The quantised difference: sign(d) × floor((|d| + e) / step). -/
def quant (d : Int) (e : Nat) : Int :=
  let m : Int := ((d.natAbs + e) / (2 * e + 1) : Nat)
  if d < 0 then -m else m

/-- The folded value of a quantised difference. -/
def foldQ (q : Int) : Nat := if 0 ≤ q then (2 * q).toNat else (-2 * q - 1).toNat

/-- Code one value at place `n`. -/
def codeOne (e n : Nat) (c : Coder) (x : Int) : List Bool × Coder :=
  let p : Int := if n = 0 then 0 else if n = 1 then c.r1 else 2 * c.r1 - c.r2
  let k := coderK c.a c.nc
  let q := quant (x - p) e
  let u := foldQ q
  if 24 ≤ u / 2 ^ k then
    (List.replicate 24 true ++ bitsMsb 32 (wrapN 32 x), { c with r2 := c.r1, r1 := x })
  else
    let a := c.a + u
    let nc := c.nc + 1
    (List.replicate (u / 2 ^ k) true ++ [false] ++ bitsMsb k (u % 2 ^ k),
     { r2 := c.r1, r1 := p + q * (2 * e + 1), a := if nc = 64 then a / 2 else a, nc := if nc = 64 then 32 else nc })

/-- The bits of a stream. -/
def codeBits (e : Nat) : Nat → Coder → List Int → List Bool
  | _, _, [] => []
  | n, c, x :: xs => let r := codeOne e n c x; r.1 ++ codeBits e (n + 1) r.2 xs

/-- Bits packed from bit 7 of each byte downward, the last byte padded with zeros. `n` bounds the bytes. -/
def packBits : Nat → List Bool → Bytes
  | 0, _ => []
  | n + 1, b => match b with
    | [] => []
    | _ => BitVec.ofNat 8 ((List.range 8).foldl (fun v i => 2 * v + ofBool (b.getD i false)) 0) :: packBits n (b.drop 8)

/-- The coded stream of some values with bound E. -/
def codeStream (e : Nat) (xs : List Int) : Bytes :=
  let b := codeBits e 0 { r1 := 0, r2 := 0, a := 4, nc := 1 } xs
  packBits (b.length / 8 + 1) b

/-! ## Blocks (R289) -/

/-- The spacings of a list of times. -/
def spacings : List Int → List Int
  | [] => []
  | [_] => []
  | a :: b :: r => (b - a) :: spacings (b :: r)

/-- The quality runs of some qualifiers from a sample offset on, `last` being the qualifier in force. -/
def qualRuns : Nat → Option Nat → List Nat → List (Nat × Nat)
  | _, _, [] => []
  | n, last, q :: qs => if last = some q then qualRuns (n + 1) last qs else (n, q) :: qualRuns (n + 1) (some q) qs

/-- The bytes of quality runs. -/
def runBytes (l : List (Nat × Nat)) : Bytes := l.flatMap (fun r => leBytes 2 r.1 ++ leBytes 4 r.2)

/-- A block of samples; a lane's block shares its times with its group time block. -/
def mkBlock (chan kind src e : Nat) (dcorr : Int) (tb : Nat) (l : List RecSample) : RBlk :=
  let f := l.headD ⟨0, 0, 0, 0, 0, 0⟩
  let z := l.getLastD f
  { chan := chan, kind := kind, src := src, e := e, idx := f.idx, t0 := f.time, tLast := z.time, times := l.map (fun x => x.time), dcorr := dcorr, tb := tb,
    epoch := f.epoch, n := l.length,
    tstr := if kind = 1 then [] else codeStream 0 (spacings (l.map (fun x => x.time))),
    runs := runBytes (qualRuns 0 none (l.map (fun x => x.qual))),
    vals := codeStream e (l.map (fun x => x.value)), num := 0, bad := false }

/-- The group time block of a lane block's samples. -/
def timeBlock (group tb : Nat) (l : List RecSample) : RBlk :=
  { mkBlock 0xFFFF 4 group 0 0 tb l with
    tstr := codeStream 0 (spacings (l.map (fun x => x.time))), runs := [], vals := [] }

/-- Bytes of a block in a message. -/
def RBlk.size (b : RBlk) : Nat := 48 + b.tstr.length + b.runs.length + b.vals.length

/-- The message of a block. -/
def RBlk.bytes (b : RBlk) (rec flags capture number : Nat) : Bytes :=
  leBytes 1 rec ++ leBytes 1 b.kind ++ leBytes 2 b.src ++ leBytes 2 b.chan ++ leBytes 1 b.e ++ leBytes 1 flags ++
  leBytes 4 capture ++ leBytes 4 number ++ leBytes 10 (wrapN 80 b.t0) ++ leBytes 1 b.tb ++ leBytes 1 b.epoch ++
  leBytes 8 b.idx ++ leBytes 4 (wrapN 32 b.dcorr) ++ leBytes 2 b.n ++ leBytes 2 b.tstr.length ++
  leBytes 2 (b.runs.length / 6) ++ leBytes 2 b.vals.length ++ b.tstr ++ b.runs ++ b.vals

/-- May a sample join the block in the making (R289)? Not past 256 samples, across a step, past 2,048 bytes, nor for a lane into
the next run of 256 grid indices, nor for an AFE channel across a change of its SKEW (R298). -/
def joins (kind e : Nat) (l : List RecSample) (x : RecSample) : Bool :=
  match l with
  | [] => true
  | f :: _ => decide (l.length < 256) && f.epoch == x.epoch && (kind != 1 || f.idx / 256 == x.idx / 256) &&
    (kind != 2 || f.dcorr == x.dcorr) &&
    decide ((mkBlock 0 kind 0 e 0 0 (l ++ [x])).size ≤ 2048)

end Sys2Proof.Machine
end

