-- ==== Sys2Proof/Machine/Flags.lean ====
section
/-!
DEFINITION. Counters and flag bits: saturation with its event (R41), statistics counters that wrap, and what a write does to
a field by its access code (R11).
-/
namespace Sys2Proof.Machine

/-- The subsystem whose event 0xSSFF reports the counter at address `a` (R18, R41); the Yevas link's events are the
stationmaster's, subsystem 1 (R18). -/
def subsysOf (a : Nat) : Nat :=
  if a < 0x01010000 then 0x01
  else if a < 0x01020000 then 0x02
  else if a < 0x01030000 then 0x15
  else if a < 0x01100000 then 0x14
  else if 0x01112000 ≤ a ∧ a < 0x01118000 then 0x04
  else if a < 0x01200000 then 0x03
  else if 0x01201000 ≤ a ∧ a < 0x01210000 then 0x05
  else if a < 0x01210000 then 0x06
  else if a < 0x01300000 then 0x07
  else if a < 0x01400000 then 0x08
  else if a < 0x01500000 then 0x09
  else if a < 0x01600000 then 0x0A
  else if a < 0x01700000 then 0x0B
  else if a < 0x01800000 then 0x0C
  else if a < 0x01810000 then 0x0F
  else if a < 0x01900000 then 0x10
  else if a < 0x01910000 then 0x0D
  else if a < 0x01A00000 then 0x0E
  else if a < 0x01B00000 then 0x13
  else if a < 0x01C00000 then 0x12
  else if a < 0x01D00000 then 0x11
  else if a < 0x01E00000 then 0x16
  else if a < 0x02000000 then 0x01
  else 0x03

/-- Raise the saturation event of a counter's register (R41, R106): on the host die for a host-die page. -/
def State.raiseSat (s : State) (a : Nat) : State :=
  if 0x03000000 ≤ a ∧ a < 0x04000000 then s.raiseHost 0x03FF a else s.raise (subsysOf a * 256 + 0xFF) a

/-- Count `n` in a saturating counter. A 16-bit counter that reaches 0xFFFF raises event 0xSSFF once (R41). -/
def State.countN (s : State) (f : Fld) (n : Nat) : State :=
  let v := s.get f
  let top := 2 ^ f.width - 1
  let w := Nat.min (v + n) top
  let s := s.put f w
  if f.width = 16 ∧ v < top ∧ w = top then s.raiseSat f.addr else s

/-- Count one. -/
def State.count (s : State) (f : Fld) : State := s.countN f 1

/-- Add to a wide statistics counter held as its low 32 bits and the part above; it wraps silently (R106). -/
def State.stat (s : State) (lo live : Fld) (n : Nat) : State :=
  let v := s.get lo + 2 ^ 32 * s.get live + n
  (s.put lo v).put live (v / 2 ^ 32)

/-- A field's part of a word that is written. -/
def Fld.part (f : Fld) (v : Word) : Nat := v.toNat / 2 ^ f.lo % 2 ^ f.width

/-- What a write of a word does to one field by its access code (R11). A w1c field wider than one bit is a counter or a
peak: writing 1 to any of its bits clears the whole field, as R39 and most counters' rows say. DESIGN CHOICE (log entry 47): the same
of the wide w1c fields whose row does not say it, those of TSU_TB_CNT (R136) and AFE_CNT (R304) among them. -/
def State.storeFld (s : State) (v : Word) (f : Fld) : State :=
  if 32 ≤ f.lo then s else
  match f.acc with
  | .rw => s.put f (f.part v)
  | .rwl => if s.active then s else s.put f (f.part v)
  | .w1c => if f.part v = 0 then s else s.put f 0
  | .w1s => s.put f (s.get f ||| f.part v)
  | .ro => s
  | .wo => s

/-- A plain write of a register word: each field by its access code; reserved addresses and bits ignore it (R11, R26). -/
def State.storeWord (s : State) (a : Nat) (v : Word) : State := (fieldsAt a).foldl (fun s f => s.storeFld v f) s

/-- The word that a read of a register returns: each field at its place, a wo field as 0 (R11), reserved bits as 0 (R10). -/
def State.loadWord (s : State) (a : Nat) : Word :=
  (fieldsAt a).foldl (fun w f =>
    if 32 ≤ f.lo ∨ f.acc = .wo then w else w ||| BitVec.ofNat 32 (s.get f * 2 ^ f.lo)) 0

/-- Return every field that a reset kind clears to its reset value (R12). -/
def State.clearKind (s : State) (k : Kind) : State :=
  s.setRegs (s.regs.filter (fun e =>
    match fieldOfKey e.1 with
    | some f => !f.clearedBy k
    | none => true))

end Sys2Proof.Machine
end

