-- ==== Sys2Proof/Machine/Operands.lean ====
section
/-!
DEFINITION. The operand forms of the commands: register blocks and the checks on a configuration address (R26, R38), Yevas
messages sent and received with their sequence numbers (R29 to R35, R420), and posted accesses (R20 to R22).
-/
namespace Sys2Proof.Machine

/-! ## Blocks (R26) -/

/-- What the Crossing column grants at most. -/
inductive Grant where
  | never | ro | rw
  deriving DecidableEq, Repr

/-- A block of the register space. -/
structure Block where
  base : Nat
  stop : Nat
  island : Island
  grant : Grant
  deriving DecidableEq, Repr

/-- The blocks of R26 in address order. -/
def blocks : List Block :=
  [⟨0x00000000, 0x01000000, .aon, .never⟩, ⟨0x01000000, 0x01010000, .aon, .rw⟩, ⟨0x01010000, 0x01020000, .aon, .rw⟩,
   ⟨0x01020000, 0x01030000, .memory, .ro⟩, ⟨0x01030000, 0x01100000, .vault, .never⟩,
   ⟨0x01100000, 0x01200000, .media, .rw⟩, ⟨0x01200000, 0x01210000, .time, .rw⟩, ⟨0x01210000, 0x01300000, .time, .rw⟩,
   ⟨0x01300000, 0x01400000, .stream, .rw⟩, ⟨0x01400000, 0x01500000, .stream, .rw⟩,
   ⟨0x01500000, 0x01600000, .tile, .rw⟩, ⟨0x01600000, 0x01700000, .memory, .rw⟩,
   ⟨0x01700000, 0x01800000, .stream, .rw⟩, ⟨0x01800000, 0x01810000, .memory, .rw⟩,
   ⟨0x01810000, 0x01900000, .time, .rw⟩, ⟨0x01900000, 0x01910000, .tile, .rw⟩, ⟨0x01910000, 0x01A00000, .media, .rw⟩,
   ⟨0x01A00000, 0x01B00000, .memory, .rw⟩, ⟨0x01B00000, 0x01C00000, .memory, .rw⟩,
   ⟨0x01C00000, 0x01D00000, .memory, .rw⟩, ⟨0x01D00000, 0x01E00000, .time, .rw⟩,
   ⟨0x01E00000, 0x01F00000, .media, .ro⟩]

/-- The block an address lies in. -/
def blockOf (a : Nat) : Option Block := blocks.find? (fun b => decide (b.base ≤ a) && decide (a < b.stop))

/-- The address lies in a memory window that a configuration message can name (R27). -/
def inWindow (a : Nat) : Bool := decide (0x20000000 ≤ a) && decide (a < 0x21800000)

/-- The access the active rulebook's CROSSING section grants a block: 1 read, 2 read-write, 0 none (R26, R67). -/
def State.crossing (s : State) (base : Nat) : Nat :=
  match s.rbk.active with
  | none => 0
  | some d => match d.crossing.find? (fun e => e.1 == base) with
    | some e => e.2
    | none => 0

/-- The status of one configuration access (R38), first rule broken first. -/
def State.cfgCheck (s : State) (src : Nat) (write : Bool) (addr : Word) : Nat :=
  let a := addr.toNat
  if src ≠ 0 then 0x06
  else if a % 4 ≠ 0 then 0x03
  else if inWindow a then 0x04
  else match blockOf a with
    | none => 0x01
    | some b =>
      if b.grant = .never then 0x05
      else if s.crossing b.base = 0 then 0x01
      else if write && s.crossing b.base = 1 then 0x02
      else 0x00

/-! ## Settings (R11) -/

/-- A field that a rulebook sets: the settings of R11. -/
def Fld.setting (f : Fld) : Bool := decide (f.lo < 32) && (f.acc == .rw || f.acc == .rwl)

/-- Return the settings at the addresses that satisfy `p` to their reset values. -/
def State.resetSets (s : State) (p : Nat → Bool) : State :=
  s.setRegs (s.regs.filter (fun e => match fieldOfKey e.1 with
    | some f => !(f.setting && p f.addr)
    | none => true))

/-- The settings in a word at an address take its value. -/
def State.setFields (s : State) (a : Nat) (v : Word) : State :=
  (fieldsAt a).foldl (fun s f => if f.setting then s.put f (f.part v) else s) s

/-! ## Sending (R29, R32 to R34) -/

def State.ctx (s : State) (cls : Nat) : ClsTx := Sp.get ClsTx.init s.link.tx cls
def State.setCtx (s : State) (cls : Nat) (c : ClsTx) : State :=
  s.setLink { s.link with tx := Sp.put ClsTx.init s.link.tx cls c }
def State.crx (s : State) (cls : Nat) : ClsRx := Sp.get ClsRx.init s.link.rx cls
def State.setCrx (s : State) (cls : Nat) (c : ClsRx) : State :=
  s.setLink { s.link with rx := Sp.put ClsRx.init s.link.rx cls c }

/-- The classes that cross before READY (R30). -/
def earlyClass (cls : Nat) : Bool := cls == 0 || cls == 1 || cls == 2 || cls == 0xE

/-- Offer a message to the link with the class's next SEQ. Before READY only the classes of R30 cross (R39 EARLY); while the
link is down mirrors and record blocks are discarded (R34) and link control, which is never resent, is not held (R35). -/
def State.send (s : State) (m : Msg) : State :=
  if s.flag F.XNG_STATUS_EARLY && !earlyClass m.cls then s
  else if !s.linkUp && (m.cls == 0 || m.cls == 9 || m.cls == 0xB) then s
  else
    let c := s.ctx m.cls
    let o := s.link.order
    let s := s.setLink { s.link with order := o + 1 }
    s.setCtx m.cls { next := c.next + 1, q := c.q ++ [{ seq := c.next, msg := m, sent := false, resends := 0, again := false }],
                     since := if c.q.any (fun e => !e.sent) then c.since else o }

/-- A message of the stationmaster that answers nothing. DESIGN CHOICE (log entry 45): its TGT is 0x00, the manager; R29 gives the
coding of TGT and no value for events, status and link control. -/
def stMsg (cls op : Nat) (payload : Bytes) : Msg :=
  { cls := cls, last := true, reply := false, err := false, src := 0x40, tgt := 0, op := op, tag := 0, payload := payload }

/-- A reply: REPLY set, the request's TAG, its source as target (R29). -/
def replyMsg (cls op : Nat) (h : Hdr) (err : Bool) (payload : Bytes) : Msg :=
  { cls := cls, last := true, reply := true, err := err, src := 0x40, tgt := h.src, op := op, tag := h.tag,
    payload := payload }

/-- The 16-byte header of a message (R29): VER 0x1, the reserved FLAGS bits 0, every field little-endian. -/
def Msg.header (m : Msg) (seq : Word) : Bytes :=
  [BitVec.ofNat 8 (m.cls % 16 + 16), BitVec.ofNat 8 (ofBool m.last + 2 * ofBool m.reply + 4 * ofBool m.err)] ++
  leBytes 2 m.payload.length ++ leBytes 4 seq.toNat ++ [BitVec.ofNat 8 m.src, BitVec.ofNat 8 m.tgt] ++ leBytes 2 m.op ++
  leBytes 4 m.tag.toNat

/-- A message as it goes over the link (R29): header, payload, and the CRC-32 over both, little-endian. -/
def Msg.octets (m : Msg) (seq : Word) : Bytes :=
  m.header seq ++ m.payload ++ leBytes 4 (crc32 (m.header seq ++ m.payload)).toNat

/-- Octets are a message with good framing and a good CRC (R29): VER is 0x1, the reserved FLAGS bits are 0, LEN is at most 2,048 and
fits the octets. DEDUCED (log entry 45): a set reserved FLAGS bit is a framing error. -/
def framed (b : Bytes) : Bool :=
  leAt b 0 1 / 16 == 1 && decide (leAt b 1 1 < 8) && decide (leAt b 2 2 ≤ 2048) && b.length == 20 + leAt b 2 2 &&
  crc32 (b.take (b.length - 4)) == BitVec.ofNat 32 (leAt b (b.length - 4) 4)

/-- CLASS, OP and the other fields that the header of a message names, as the typed commands carry them (R29). -/
def clsOf (b : Bytes) : Nat := leAt b 0 1 % 16
def opOf (b : Bytes) : Nat := leAt b 10 2
def hdrOf (b : Bytes) : Hdr :=
  { seq := BitVec.ofNat 32 (leAt b 4 4), src := leAt b 8 1, tgt := leAt b 9 1, last := bit (leAt b 1 1) 0,
    tag := BitVec.ofNat 32 (leAt b 12 4) }
def payloadOf (b : Bytes) : Bytes := slice b 16 (leAt b 2 2)

/-- One acknowledgement entry (R35). -/
def ackEntry (cls : Nat) (seq : Word) : Bytes := [BitVec.ofNat 8 cls, 0, 0, 0] ++ leBytes 4 seq.toNat

/-- Acknowledge a SEQ of a class (R33). -/
def State.sendAck (s : State) (cls : Nat) (seq : Word) : State := s.send (stMsg 0 0x0001 (ackEntry cls seq))

/-- Name the expected SEQ of a class (R33). -/
def State.sendNak (s : State) (cls : Nat) : State := s.send (stMsg 0 0x0002 (ackEntry cls (s.crx cls).expect))

/-! ## Receiving (R31, R33, R420) -/

/-- Set LASTCODE and raise event 0x0114 (R38, R40). -/
def State.refuseCfg (s : State) (code arg : Nat) : State :=
  (s.put F.XNG_REFUSED_LASTCODE code).raise 0x0114 (code * 2 ^ 24 + arg % 2 ^ 24)

/-- Discard a malformed message (R420). -/
def State.malformed (s : State) (cls op : Nat) : State :=
  (s.count F.XNG_BADMSG_COUNT).refuseCfg 0x07 (cls % 16 * 2 ^ 16 + op % 2 ^ 16)

/-- The discard of a message before READY (R31): counted, with event 0x0116 once per start-up. -/
def State.discardEarly (s : State) (cls : Nat) : State :=
  let s := s.count F.XNG_REFUSED_EARLY
  if s.link.earlyRaised then s else (s.setLink { s.link with earlyRaised := true }).raise 0x0116 cls

/-- What R33 makes of a received SEQ against the expected one. -/
inductive SeqCase where
  | take | behind | ahead
  deriving DecidableEq, Repr

/-- R33's three cases. -/
def seqCase (seq expect : Word) : SeqCase :=
  if seq = expect then .take else if (expect - seq).toNat ≤ 2 ^ 31 then .behind else .ahead

/-- Take a good message of a host-to-field class through R33 and R31, then act on it with `act`: a duplicate is
acknowledged again, a message ahead is answered with the expected SEQ, and before READY a class that R30 marks No is
acknowledged and discarded (DEDUCED, log entry 13). No message comes over a link that is down or retraining (R34). -/
def State.receive (s : State) (cls : Nat) (h : Hdr) (act : State → State) : State :=
  let r := s.crx cls
  if !s.linkUp then s
  else match seqCase h.seq r.expect with
  | .behind => if r.taken then s.sendAck cls (r.expect - 1) else s
  | .ahead => s.sendNak cls
  | .take =>
    let s := (s.setCrx cls { expect := h.seq + 1, taken := true }).sendAck cls h.seq
    if s.flag F.XNG_STATUS_EARLY && !earlyClass cls then s.discardEarly cls else act s

/-! ## Posted accesses (R20 to R22) -/

/-- The place of an island in the serving order of R25. -/
def islandNo : Island → Nat
  | .aon => 0 | .media => 1 | .stream => 2 | .tile => 3 | .memory => 4 | .time => 5 | .vault => 6 | .host => 7

/-- The code under which events name an island: its place in R19's table. DESIGN CHOICE (log entry 8). -/
def islandCode (i : Island) : Nat := islandNo i

def juncKey (src dst : Island) : Nat := 8 * islandNo src + islandNo dst
def State.junc (s : State) (src dst : Island) : Junc := Sp.get Junc.init s.link.junc (juncKey src dst)
def State.setJunc (s : State) (src dst : Island) (j : Junc) : State :=
  s.setLink { s.link with junc := Sp.put Junc.init s.link.junc (juncKey src dst) j }

/-- Issue a posted write from `src` to the register's island: into the 8-entry FIFO, or behind the stalled accesses of the
source when it is full (R20, R22). -/
def State.post (s : State) (src dst : Island) (a : Access) : State :=
  let j := s.junc src dst
  if j.stalled.isEmpty && decide (j.fifo.length < 8) then s.setJunc src dst { j with fifo := j.fifo ++ [a] }
  else s.setJunc src dst { j with stalled := j.stalled ++ [a] }

/-- Take the head of a junction and let a stalled access follow into the freed entry (R21, R22). -/
def State.popJunc (s : State) (src dst : Island) : Option (Access × State) :=
  let j := s.junc src dst
  match j.fifo with
  | [] => none
  | a :: r =>
    match j.stalled with
    | [] => some (a, s.setJunc src dst { fifo := r, stalled := [] })
    | b :: q => some (a, s.setJunc src dst { fifo := r ++ [b], stalled := q })

end Sys2Proof.Machine
end

