-- ==== Sys2Proof/Machine/Slots.lean ====
section
/-!
DEFINITION. Timetable slots: their fields, departure times, units, and the four checks of a bank (R140 to R150, R152, R157).
-/
namespace Sys2Proof.Machine

/-- One slot (R142, R157). -/
structure SlotV where
  offset : Nat
  valid  : Bool
  action : Nat
  rept   : Nat
  stride : Nat
  target : Nat
  param  : Nat
  deriving DecidableEq, Repr

/-- Slot `i` of bank `b` as the registers hold it. -/
def State.slotV (s : State) (b i : Nat) : SlotV :=
  { offset := s.get (F.TTB_SLOT_OFFSET b i), valid := s.flag (F.TTB_SLOT_VALID b i),
    action := s.get (F.TTB_SLOT_ACTION b i), rept := s.get (F.TTB_SLOT_REPEAT b i),
    stride := s.get (F.TTB_SLOT_STRIDE b i), target := s.get (F.TTB_SLOT_TARGET b i),
    param := s.get (F.TTB_SLOT_PARAM b i) }

/-- Store a slot. -/
def State.putSlot (s : State) (b i : Nat) (v : SlotV) : State :=
  ((((((s.put (F.TTB_SLOT_OFFSET b i) v.offset).putB (F.TTB_SLOT_VALID b i) v.valid).put
    (F.TTB_SLOT_ACTION b i) v.action).put (F.TTB_SLOT_REPEAT b i) v.rept).put
    (F.TTB_SLOT_STRIDE b i) v.stride).put (F.TTB_SLOT_TARGET b i) v.target).put (F.TTB_SLOT_PARAM b i) v.param

/-- A slot from its 32-byte image (R157). -/
def slotOfBytes (bs : Bytes) : SlotV :=
  let w := fun i => leAt bs (4 * i) 4
  { offset := w 0 % 2 ^ 27, valid := bit (w 0) 31, action := w 1 % 256, rept := w 1 / 2 ^ 16, stride := w 2,
    target := w 3, param := w 4 }

/-- The slots of a bank. -/
def State.bank (s : State) (b : Nat) : List SlotV := (List.range 512).map (s.slotV b)

/-- The valid slots of a bank with their numbers: only they depart (R142). -/
def validSlots (l : List SlotV) : List (Nat × SlotV) :=
  (List.zip (List.range l.length) l).filter (fun p => p.2.valid)

/-- Departure `k` in ns after the boundary (R143). -/
def depTime (v : SlotV) (k : Nat) : Nat := 8 * (v.offset + k * v.stride / 256)

/-- TARGET bits an action allows (R144); none for a code outside the table. -/
def targetMask (action : Nat) : Option Nat :=
  if action = 0x02 then some 0xFF
  else if action = 0x03 ∨ action = 0x09 then some 0xFFFFFFFF
  else if 0x04 ≤ action ∧ action ≤ 0x06 then some 0xFFFF
  else if action ≤ 0x0B then some 0
  else none

/-- The slot's action is in the table and its TARGET within range (R144). -/
def actionOk (v : SlotV) : Bool :=
  match targetMask v.action with
  | none => false
  | some m => v.target &&& m == v.target

/-- PARAM holds a value in the range that R144 states: an instance of 1 to 63, a window of 40 to 1,000 µs. -/
def paramOk (v : SlotV) : Bool :=
  if v.action = 0x01 then v.param % 64 != 0
  else if v.action = 0x0A then decide (40 ≤ v.param % 65536) && decide (v.param % 65536 ≤ 1000)
  else true

/-- The units a departure is delivered to, but for platforms, as numbers (R144). -/
def unitsOf (v : SlotV) : List Nat :=
  let hi := if bit v.param 0 then 32 else 0
  if v.action = 0x02 then (maskBits 8 v.target).map (fun i => 0x200 + i)
  else if v.action = 0x03 then (maskBits 32 v.target).map (fun i => 0x300 + hi + i)
  else if 0x04 ≤ v.action ∧ v.action ≤ 0x06 then (maskBits 16 v.target).map (fun i => 0x400 + i)
  else if 0x07 ≤ v.action ∧ v.action ≤ 0x0B then [0x100 * v.action]
  else []

/-- The cycle length in ns (R139). -/
def State.cycleNs (s : State) : Nat := s.get F.TTB_CYCLE * 1000

/-- The departures (time, slot) of the slots that satisfy `p`, in order of time. -/
def departures (l : List SlotV) (p : SlotV → Bool) : List (Nat × Nat) :=
  sortBy (fun d => d.1) ((validSlots l).flatMap (fun e =>
    if p e.2 then (List.range (e.2.rept + 1)).map (fun k => (depTime e.2 k, e.1)) else []))

/-- Each departure paired with the one before it, the first with the last of the previous cycle: (gap, slot of the
later) (R148, R150). -/
def gaps (cyc : Nat) (l : List (Nat × Nat)) : List (Nat × Nat) :=
  match l with
  | [] => []
  | d :: r =>
    let last := r.getLastD d
    (d.1 + cyc - last.1, d.2) :: (List.zip l r).map (fun p => (p.2.1 - p.1.1, p.2.2))

/-- The lowest of a list of slot numbers. -/
def lowest (l : List Nat) : Option Nat := l.foldl (fun m x => match m with
  | none => some x
  | some y => some (Nat.min x y)) none

/-- Slots with a departure at or beyond the cycle length (R143). -/
def breaks143 (cyc : Nat) (l : List SlotV) : List Nat :=
  ((validSlots l).filter (fun e => cyc ≤ depTime e.2 e.2.rept)).map (fun e => e.1)

/-- Slots whose action or TARGET is outside R144. -/
def breaks144 (l : List SlotV) : List Nat := ((validSlots l).filter (fun e => !actionOk e.2)).map (fun e => e.1)

/-- Slots that come less than 1 µs after an earlier departure to a unit other than a platform (R148). -/
def breaks148 (cyc : Nat) (l : List SlotV) : List Nat :=
  let units := ((validSlots l).flatMap (fun e => unitsOf e.2)).eraseDups
  units.flatMap (fun u =>
    ((gaps cyc (departures l (fun v => (unitsOf v).contains u))).filter (fun g => g.1 < 1000)).map (fun g => g.2))

/-- Maintenance-window slots that follow the window before by more than 20 ms; 0xFFFF when the bank has none (R150,
R152). -/
def breaks150 (cyc : Nat) (l : List SlotV) : List Nat :=
  match departures l (fun v => v.action == 0x0A) with
  | [] => [0xFFFF]
  | w => ((gaps cyc w).filter (fun g => 20000000 < g.1)).map (fun g => g.2)

/-- The check of a bank (R152): the first of the four rules that it breaks decides, and the answer is the lowest slot that
breaks that rule. -/
def checkBank (cyc : Nat) (l : List SlotV) : Option Nat :=
  match lowest (breaks143 cyc l) with
  | some i => some i
  | none => match lowest (breaks144 l) with
    | some i => some i
    | none => match lowest (breaks148 cyc l) with
      | some i => some i
      | none => lowest (breaks150 cyc l)

/-- Departures of a cycle, all trains together; action 0x00 delivers nothing to anything (R144). -/
def departureCount (l : List SlotV) : Nat :=
  sumN ((validSlots l).map (fun e => if e.2.action = 0 then 0 else e.2.rept + 1))

/-- The valid slots of a bank hold PARAM values within their ranges. -/
def paramsOk (l : List SlotV) : Bool := (validSlots l).all (fun e => paramOk e.2)

/-- The active bank (R151). -/
def State.activeBank (s : State) : Nat := s.get F.TTB_BANK_SEL_ACTIVE

/-- The first boundary of the timetable's base after base time `ns` (R140). -/
def State.nextBoundary (s : State) (ns : Nat) : Nat := (ns / s.cycleNs + 1) * s.cycleNs

/-- The first cycle boundary at or after base time `ns`: the first one of a stepped time (R154). -/
def State.boundaryFrom (s : State) (ns : Nat) : Nat := (ns + s.cycleNs - 1) / s.cycleNs * s.cycleNs

end Sys2Proof.Machine
end

