-- ==== Sys2Proof/Machine/Pool.lean ====
section
/-!
DEFINITION. The resource pool: what instances use of it, their quotas, and the regions of field DRAM (R333, R334, R338, R345). Readings and choices
are in log entry 30.
-/
namespace Sys2Proof.Machine

/-! ## Use and quotas (R333, R334, R338) -/

/-- Instances 1 to 63. -/
def allInsts : List Nat := (List.range 63).map (· + 1)

/-- The owner of queue and channel `c`; 0 for none. -/
def State.qOwner (s : State) (c : Nat) : Nat := s.get (F.INS_QOWN_OWNER c)

/-- The queues of an instance. -/
def State.queuesOf (s : State) (i : Nat) : List Nat := (List.range 32).filter (fun q => s.qOwner q == i)

/-- MiB of the recorder buffers of an instance, in units of 64 KiB. -/
def State.bufUse (s : State) (i : Nat) : Nat :=
  sumN ((List.range 16).map (fun r => if s.flag (F.ACQ_RCFG_VALID r) ∧ s.get (F.ACQ_RCFG_OWNER r) = i then
    s.get (F.ACQ_RBUF_SIZE r) else 0))

/-- DRAM of an instance in MiB with a heap of `heap` MiB: its recorder buffers and its heap, rounded up. -/
def State.dramUse (s : State) (i heap : Nat) : Nat := heap + cdiv (s.bufUse i) 16

/-- Semaphores that a holder holds. -/
def State.semsOf (s : State) (who : Nat) : List Nat := (List.range 256).filter (fun n => s.get (F.INS_SEM_HOLDER n) == who)

/-- Use of a resource by its code: 1 DRAM, 2 queues, 3 semaphores, 4 mailbox depth. -/
def State.useOf (s : State) (i code : Nat) : Nat :=
  if code = 1 then s.dramUse i (s.get (F.INS_HEAP_SIZE i))
  else if code = 2 then (s.queuesOf i).length
  else if code = 3 then (s.semsOf i).length
  else Nat.max (s.inst i).inbox.length (s.inst i).outbox.length

/-- Quota of a resource. -/
def State.quotaOf (s : State) (i code : Nat) : Nat :=
  if code = 1 then s.get (F.INS_QUOTA_DRAM i) else if code = 2 then s.get (F.INS_QUOTA_QUEUES i)
  else if code = 3 then s.get (F.INS_QUOTA_SEMS i) else s.get (F.INS_QUOTA2_MBDEPTH i)

/-- Module total of a pooled resource (R333): DRAM in MiB less the system area and the history ring. -/
def State.poolTotal (s : State) (code : Nat) : Nat :=
  if code = 1 then 8192 - 512 - (if s.flag F.ACQ_CTRL_HEN then s.get F.ACQ_CTRL_HSIZE * 64 else 0)
  else if code = 2 then 32 else 256

/-- What no instance has in its quota. -/
def State.poolFree (s : State) (code : Nat) : Nat :=
  s.poolTotal code - sumN (allInsts.map (fun i => s.quotaOf i code))

/-- Show the pool. -/
def State.showPool (s : State) : State :=
  (s.put F.INS_POOLFREE_DRAM (s.poolFree 1)).put F.INS_POOLFREE_QUEUES ((List.range 32).filter (fun q => s.qOwner q == 0)).length

/-- Show the pool and the use of an instance, none for 0; OVERQ follows use and quota, with event 0x1302 when a bit is set. -/
def State.showUse (s : State) (i : Nat) : State :=
  let s := s.showPool
  if !allInsts.contains i then s
  else
  let s := (s.put (F.INS_USE_DRAM i) (s.useOf i 1)).put (F.INS_USE_SEMS i) (s.useOf i 3)
  [1, 2, 3, 4].foldl (fun s code =>
    let past := decide (s.quotaOf i code < s.useOf i code)
    let old := s.get (F.INS_ISTAT_OVERQ i)
    if past = bit old (code - 1) then s
    else
      let s := s.put (F.INS_ISTAT_OVERQ i) (if past then old + 2 ^ (code - 1) else old - 2 ^ (code - 1))
      if past then s.raiseI 0x1302 i code else s) s

/-! ## Regions of DRAM (R334, R236) -/

/-- Regions of DRAM in use, as base and end in units of 4 KiB: system area, history ring, the buffers of the recorders `r` satisfies and the heaps
of the instances `i` satisfies. -/
def State.dramUsed (s : State) (r i : Nat → Bool) : List (Nat × Nat) :=
  let hist := if s.flag F.ACQ_CTRL_HEN then s.get F.ACQ_CTRL_HSIZE * 16384 else 0
  [(0, 131072), (2097152 - hist, 2097152)] ++
  ((List.range 16).filter (fun k => r k && s.flag (F.ACQ_RCFG_VALID k) && s.get (F.ACQ_RBUF_SIZE k) != 0)).map (fun k =>
    (s.get (F.MAR_RBUF_BASE k), s.get (F.MAR_RBUF_BASE k) + s.get (F.ACQ_RBUF_SIZE k) * 16)) ++
  (allInsts.filter (fun j => i j && s.get (F.INS_HEAP_SIZE j) != 0)).map (fun j =>
    (s.get (F.INS_HEAPBASE_BASE j), s.get (F.INS_HEAPBASE_BASE j) + s.get (F.INS_HEAP_SIZE j) * 256))

/-- The lowest free place of `n` units among the regions taken: DESIGN CHOICE (log entry 30), the manual leaves the place to
marshalling. -/
def firstFree (taken : List (Nat × Nat)) (n : Nat) : Option Nat :=
  let fits := fun (b : Nat) => decide (b + n ≤ 2097152) && taken.all (fun r => decide (b + n ≤ r.1) || decide (r.2 ≤ b))
  lowest ((taken.map (fun r => r.2)).filter fits)

end Sys2Proof.Machine
end

