-- ==== Sys2Proof/Machine/Recorders.lean ====
section
/-!
DEFINITION. Recorders: rings of coded blocks, captures and their export, triggers, masks, and the history (R280 to R293).
-/
namespace Sys2Proof.Machine

/-- ACQ_RSTAT.STATE: 0 IDLE, 1 PREFILL, 2 READY, 3 POST, 4 HELD. -/
def State.recState (s : State) (r : Nat) : Nat := s.get (F.ACQ_RSTAT_STATE r)

/-- Time of a recorder's base in ns. -/
def State.recNow (s : State) (r : Nat) : Int := s.tbNs (s.get (F.ACQ_RCFG_TB r))

/-- N of an NSEL code (R204). -/
def nOf (nsel : Nat) : Nat := [16, 24, 32, 48, 64, 96].getD nsel 32

/-- FCH_FG_CTRL.MODE: 0 off, 1 single reference, 2 positive sequence, 3 DC. -/
def State.fgMode (s : State) (g : Nat) : Nat := s.get (F.FCH_FG_CTRL_MODE g)

/-- N of a group. -/
def State.fgN (s : State) (g : Nat) : Nat := nOf (s.get (F.FCH_FG_CTRL_NSEL g))

/-- The valid lanes. -/
def State.validLanes (s : State) : List Nat := (List.range 4096).filter (fun l => s.flag (F.FCH_LCFG_VALID l))

/-- The channels of a recorder that have a source. -/
def State.recChans (s : State) (r : Nat) : List Nat :=
  (List.range (s.get (F.ACQ_RCFG_NCH r))).filter (fun c => s.get (F.ACQ_CH_KIND r c) != 0)

/-- A field of the calibration page. -/
def State.pageField (s : State) (o n : Nat) : Nat := leAt s.acq.page o n

/-- Offset in the calibration page of an AFE channel's entry for a range (R297). -/
def afeEntry (ch range : Nat) : Nat := 68 + 20 * (2 * ch + range)

/-- The range in use of an AFE channel. -/
def State.afeRange (s : State) (ch : Nat) : Nat := ofBool (bit (s.get F.AFE_CTRL_RANGE) ch)

/-- SKEW of its entry in ns; the rounding to nearest is a DESIGN CHOICE (log entry 23). -/
def State.afeSkew (s : State) (ch : Nat) : Int :=
  rdiv (signedN 32 (s.pageField (afeEntry ch (s.afeRange ch) + 8) 4)) 16

/-- DCORR of a source (R280). -/
def State.dcorr (s : State) (kind src : Nat) : Int :=
  if kind = 1 then (s.get (F.FCH_LGD_GDELAY src) + s.get (F.FCH_LPD_PDELAY src) : Nat)
  else if kind = 2 then - s.afeSkew src
  else 0

/-! ## The ring (R281, R289) -/

/-- The samples of a channel's block in the making. -/
def makingOf (l : List (Nat × List RecSample)) (c : Nat) : List RecSample := Sp.get [] l c

/-- Close a block: with its group's time block before it when that is not there yet. -/
def addBlock (blocks : List RBlk) (b : RBlk) (group : Nat) (samples : List RecSample) : List RBlk :=
  if b.kind = 1 ∧ !(blocks.any (fun x => x.kind == 4 && x.src == group && x.idx == b.idx && x.n == b.n && x.epoch == b.epoch)) then
    blocks ++ [timeBlock group b.tb samples, b]
  else blocks ++ [b]

/-- DCORR of a source in a recorder, whose samples' own is `own`: a capture keeps the SKEW in force when it started (R298). -/
def State.recDcorr (s : State) (r kind src : Nat) (own : Int) : Int := match (s.recd r).cap with
  | some c => if kind = 2 then - c.skew.getD src 0 else own
  | none => own

/-- Close the block in the making of a channel. DESIGN CHOICE (log entry 23): a block of a lane whose delays change inside it carries DCORR of its
first sample. -/
def State.closeChan (s : State) (r c : Nat) : State :=
  let x := s.recd r
  match makingOf x.making c with
  | [] => s
  | f :: rest =>
    let l := f :: rest
    let kind := s.get (F.ACQ_CH_KIND r c)
    let src := s.get (F.ACQ_CH_ID r c)
    let b := mkBlock c kind src (s.get (F.ACQ_CH_E r c)) (s.recDcorr r kind src f.dcorr) (s.get (F.ACQ_RCFG_TB r)) l
    s.setRecd r { x with blocks := addBlock x.blocks b (s.get (F.FCH_LCFG_FG src)) l, making := Sp.put [] x.making c [] }

/-- Close every block in the making. -/
def State.closeAll (s : State) (r : Nat) : State :=
  ((s.recd r).making.map (fun e => e.1)).foldl (fun s c => s.closeChan r c) s

/-- Bytes of a recorder's closed blocks. -/
def RecS.bytes (x : RecS) : Nat := sumN (x.blocks.map RBlk.size)

/-- Does a block hold a sample whose true time lies in the window (R284)? -/
def RBlk.inWindow (b : RBlk) (lo hi : Int) : Bool :=
  b.times.any (fun t => decide (lo ≤ t - b.dcorr) && decide (t - b.dcorr ≤ hi))

/-- Drop the oldest blocks until the rest fit. -/
def dropOld (cap : Nat) : List RBlk → List RBlk
  | [] => []
  | b :: r => if sumN ((b :: r).map RBlk.size) ≤ cap then b :: r else dropOld cap r

/-- Append a sample to a channel's block, closing it first when the sample cannot join. -/
def State.recAppend (s : State) (r c : Nat) (x : RecSample) : State :=
  let k := s.get (F.ACQ_CH_KIND r c)
  let s := if joins k (s.get (F.ACQ_CH_E r c)) (makingOf (s.recd r).making c) x then s else s.closeChan r c
  let d := s.recd r
  s.setRecd r { d with making := Sp.put [] d.making c (makingOf d.making c ++ [x]) }

/-! ## Captures (R284, R287, R288) -/

/-- FLAGS of the summary and the end message. -/
def Capture.flags (c : Capture) : Nat := ofBool c.trunc + 2 * ofBool c.maskStop

/-- The 40-byte summary and the channel table. -/
def State.summary (s : State) (r : Nat) (c : Capture) : Bytes :=
  let tb := s.get (F.ACQ_RCFG_TB r)
  let nch := s.get (F.ACQ_RCFG_NCH r)
  leBytes 1 r ++ leBytes 1 c.cause ++ leBytes 2 c.detail ++ leBytes 4 c.number ++ leBytes 10 (wrapN 80 c.t) ++
  leBytes 1 tb ++ leBytes 1 c.epoch ++ leBytes 8 c.tidx ++ leBytes 2 c.frac ++ leBytes 1 c.flags ++ zeros 1 ++
  leBytes 2 nch ++ leBytes 2 (s.get (F.ACQ_RTIME_PRE r)) ++ leBytes 2 (s.get (F.ACQ_RTIME_POST r)) ++ zeros 2 ++
  (List.range nch).flatMap (fun i => leBytes 4 (s.loadWord (F.ACQ_CH_ID r i).addr).toNat)

/-- The place of a block among those of its channel, or of its group, and whether it is the last. -/
def blockPlace (l : List RBlk) (i : Nat) (b : RBlk) : Nat × Bool :=
  let same := fun (x : RBlk) => x.chan == b.chan && x.kind == b.kind && (b.chan != 0xFFFF || x.src == b.src)
  (((l.take i).filter same).length, !((l.drop (i + 1)).any same))

/-- The block messages of a capture in order of the time of their first sample, group time blocks before the lane blocks that use
them (R288). LAST marks the last block of its channel: DESIGN CHOICE (log entry 23). -/
def blockMsgs (r : Nat) (c : Capture) (l : List RBlk) : List Msg :=
  let l := sortBy (fun b => wrapN 80 b.t0 * 2 + ofBool (b.kind != 4)) l
  (List.zip (List.range l.length) l).map (fun p =>
    let b := p.2
    let q := blockPlace l p.1 b
    let trig := decide (b.t0 - b.dcorr ≤ c.t) && decide (c.t ≤ b.tLast - b.dcorr)
    stMsg 0xB 0x0002 (b.bytes r (ofBool (b.kind == 1) + 2 * ofBool trig + 4 * ofBool q.2 + 8 * ofBool (c.trunc || b.bad)) c.number q.1))

/-- The messages of a capture's export. -/
def State.exportMsgs (s : State) (r : Nat) (c : Capture) : List Msg :=
  let blocks := (s.recd r).blocks
  [stMsg 0xB 0x0001 (s.summary r c)] ++ blockMsgs r c blocks ++
  [stMsg 0xB 0x0003 (leBytes 1 r ++ leBytes 1 c.flags ++ zeros 2 ++ leBytes 4 c.number ++ leBytes 4 blocks.length)]

/-- Start an export: its messages are queued, or it waits for link-up. -/
def State.startExport (s : State) (r : Nat) : State :=
  match (s.recd r).cap with
  | none => s
  | some c =>
    let up := s.linkUp
    let s := (s.exportMsgs r c).foldl State.send s
    s.setRecd r { s.recd r with cap := some { c with queued := up } }

/-- The hold-off of a held capture has ended (R284). -/
def State.heldOver (s : State) (r : Nat) (c : Capture) : Bool :=
  decide (c.enteredAt + s.get (F.ACQ_RHOLD_HTIME r) * 1000000 ≤ s.now) &&
  decide (s.get (F.ACQ_RHOLD_HEVENTS r) ≤ c.heldTrig)

/-! ## Settings and buffers of one recorder (R83, R236) -/

/-- Place the buffer of one recorder anew (R236). DESIGN CHOICE (log entry 30): where no region is free it stays at its place. -/
def State.placeBuffer (s : State) (r : Nat) : State :=
  let n := s.get (F.ACQ_RBUF_SIZE r) * 16
  match firstFree (s.dramUsed (· != r) (fun _ => true)) n with
  | none => s
  | some b => (s.put (F.MAR_RBUF_BASE r) b).put (F.MAR_RBUF_BANKS r) (Config.banksOf b n).toNat

/-- The register of a recorder's page or of one of its channels (R302, R303). -/
def recAddr (r a : Nat) : Bool :=
  (decide (0x01800400 + 0x40 * r ≤ a) && decide (a < 0x01800400 + 0x40 * (r + 1))) ||
  (decide (0x01804000 + 0x400 * r ≤ a) && decide (a < 0x01804000 + 0x400 * (r + 1)))

/-- The mask whose configuration an address is (R303). -/
def maskAt (a : Nat) : Option Nat :=
  if 0x01800800 ≤ a ∧ a < 0x01800C00 ∧ (a - 0x01800800) % 16 = 0 then some ((a - 0x01800800) / 16) else none

/-- A mask in use tests a channel of a recorder. -/
def State.maskOf (s : State) (r m : Nat) : Bool := s.get (F.ACQ_MCFG_ACTION m) != 0 && s.get (F.ACQ_MCFG_REC m) == r

/-- The settings of a recorder and of the masks that test it. -/
def State.recSetting (s : State) (r a : Nat) : Bool := recAddr r a || (match maskAt a with
  | none => false
  | some m => s.maskOf r m)

/-- Take the RECORDERS settings that waited for the end of a capture, before the recorder re-arms (R83): they replace its own and those of the
masks that tested it, and marshalling places its buffer anew (R236). -/
def State.takeWaiting (s : State) (r : Nat) : State :=
  match s.rbk.recWait.find? (fun e => e.rcd == r) with
  | none => s
  | some e =>
    let s := s.setRbk { s.rbk with recWait := s.rbk.recWait.filter (fun e => e.rcd != r) }
    let gone := fun (m : Nat) => s.maskOf r m || e.envs.any (fun x => x.1 == m)
    let masks := s.acq.masks.filter (fun x => !gone x.1) ++ e.envs
    let old := s.get (F.ACQ_RCFG_OWNER r)
    let s := s.resetSets (fun a => s.recSetting r a || e.sets.any (fun w => w.1 == a))
    let s := e.sets.foldl (fun s w => s.setFields w.1 w.2) s
    let owner := s.get (F.ACQ_RCFG_OWNER r)
    (((s.setAcq { s.acq with masks := masks }).placeBuffer r).showUse old).showUse owner

/-! ## Re-arming and HELD (R284) -/

/-- Empty the ring and enter a state. -/
def State.recTo (s : State) (r st : Nat) : State :=
  (s.put (F.ACQ_RSTAT_STATE r) st).setRecd r { s.recd r with blocks := [], making := [], cap := none }

/-- Leave HELD when nothing holds the recorder back any more (R284). -/
def State.tryRearm (s : State) (r : Nat) : State :=
  match (s.recd r).cap with
  | none => s
  | some c =>
    if s.recState r = 4 then
      let past := s.heldOver r c
      let s := s.putB (F.ACQ_RSTAT_HOLDOFF r) (!past)
      if past && c.done then
        let s := s.takeWaiting r
        s.recTo r (if c.toIdle || !s.flag (F.ACQ_RCFG_VALID r) then 0 else 1)
      else s
    else s

/-- A capture ends and the recorder enters HELD (R284, R286, R287): the window's blocks stay, ACQ_RCAP counts, the export starts. A
truncated capture has raised event 0x0F04 before. -/
def State.enterHeld (s : State) (r : Nat) : State :=
  let s := s.closeAll r
  match (s.recd r).cap with
  | none => s
  | some c =>
    let lo := c.t - (s.get (F.ACQ_RTIME_PRE r) * 1000000 : Nat)
    let n := (s.get (F.ACQ_RCAP_CAPTURE r) + 1) % 2 ^ 32
    let c := { c with number := n, enteredAt := s.now, heldTrig := 0 }
    let keep := (s.recd r).blocks.filter (fun b => b.kind != 4 && b.inWindow lo c.endAt)
    let times := (s.recd r).blocks.filter (fun b => b.kind == 4 && keep.any (fun k => k.kind == 1 &&
      s.get (F.FCH_LCFG_FG k.src) == b.src && k.idx == b.idx && k.n == b.n))
    let s := s.setRecd r { s.recd r with blocks := times ++ keep, making := [], cap := some c }
    let s := (s.put (F.ACQ_RCAP_CAPTURE r) n).put (F.ACQ_RSTAT_STATE r) 4
    let s := (s.putB (F.ACQ_RSTAT_TRUNC r) c.trunc).put (F.ACQ_RSTAT_EXPORT r) 1
    let s := s.raiseI (if c.maskStop then 0x0F03 else 0x0F01) (s.get (F.ACQ_RCFG_OWNER r)) r
    let s := s.startExport r
    s.putB (F.ACQ_RSTAT_HOLDOFF r) (!s.heldOver r c)

/-- Truncate a capture in POST (R287). -/
def State.truncate (s : State) (r : Nat) (toIdle : Bool) : State :=
  match (s.recd r).cap with
  | none => s
  | some c =>
    if s.recState r = 3 then
      let s := s.raiseI 0x0F04 (s.get (F.ACQ_RCFG_OWNER r)) r
      let s := s.count (F.ACQ_RCNT2_TRUNCS r)
      (s.setRecd r { s.recd r with cap := some { c with trunc := true, toIdle := c.toIdle || toIdle } }).enterHeld r
    else s

/-! ## Triggers (R282, R283) -/

/-- The ring reaches PRE back from its newest sample on every channel (R282). -/
def State.prefilled (s : State) (r : Nat) : Bool :=
  let x := s.recd r
  let pre : Int := (s.get (F.ACQ_RTIME_PRE r) * 1000000 : Nat)
  (s.recChans r).all (fun c =>
    let m := makingOf x.making c
    let bs := x.blocks.filter (fun b => b.chan == c)
    let firsts := bs.map (fun b => b.t0) ++ m.map (fun q => q.time)
    let lasts := bs.map (fun b => b.tLast) ++ m.map (fun q => q.time)
    match firsts.head?, lasts.getLast? with
    | some a, some b => decide (a ≤ b - pre)
    | _, _ => false)

/-- A recorder whose pre-fill is complete is READY (R282). -/
def State.takeReady (s : State) (r : Nat) : State :=
  if s.recState r = 1 ∧ s.prefilled r then s.put (F.ACQ_RSTAT_STATE r) 2 else s

/-- The capture that a trigger or a mask stop starts now; its window ends at `endAt`. -/
def State.newCapture (s : State) (r cause detail : Nat) (t : Int) (tidx frac : Nat) (endAt : Int) (stop : Bool) : Capture :=
  { cause := cause, detail := detail, t := t, tidx := tidx, frac := frac, endAt := endAt, trunc := false, maskStop := stop, number := 0,
    enteredAt := 0, heldTrig := 0, queued := false, done := false, toIdle := false, startedAt := s.now,
    epoch := s.epoch (s.get (F.ACQ_RCFG_TB r)), skew := (List.range 8).map s.afeSkew }

/-- A capture starts: ACQ_RTTIME shows T, and the ring's AFE blocks take the SKEW in force now (R298, R302). -/
def State.startCapture (s : State) (r : Nat) (c : Capture) : State :=
  let d := s.recd r
  let blocks := d.blocks.map (fun b => if b.kind = 2 then { b with dcorr := - c.skew.getD b.src 0 } else b)
  ((s.setRecd r { d with cap := some c, blocks := blocks }).put (F.ACQ_RSTAT_STATE r) 3).put (F.ACQ_RTTIME_T r) (wrapNs c.t).toNat

/-- The SRCEN bit of a trigger code other than the manager's. -/
def srcBit (code : Nat) : Nat := if code = 1 then 0 else code - 2

/-- What starts a capture: code, detail, T, grid index and 256 × f. -/
structure Trig where
  code   : Nat
  detail : Nat
  t      : Int
  tidx   : Nat
  frac   : Nat

/-- A trigger in the clock in which a capture started (R300): it is not counted, and a lower code becomes its cause. -/
def Capture.takes (c : Capture) (g : Trig) : Bool :=
  !c.maskStop && (decide (g.code < c.cause) || (g.code == 7 && c.cause == 7 && g.detail == c.detail))

/-- A trigger at one recorder, without those it passes on. Answers whether it starts a capture, or becomes the cause of the one that another
trigger of this clock has started (R300). Pre-fill that completes in this clock makes the recorder READY first (R300). -/
def State.trigOne (s : State) (r : Nat) (g : Trig) : State × Bool :=
  if !s.flag (F.ACQ_RCFG_VALID r) || (g.code != 2 && !bit (s.get (F.ACQ_RXTRIG_SRCEN r)) (srcBit g.code)) then
    (s, false)
  else
    let s := s.takeReady r
    let st := s.recState r
    let post : Int := (s.get (F.ACQ_RTIME_POST r) * 1000000 : Nat)
    if st = 1 then
      let s := s.count (F.ACQ_RCNT_PREIGN r)
      let late := match (s.recd r).ignAt with
        | none => true
        | some a => decide (a + 1000000000 ≤ s.now)
      (if late then (s.raiseI 0x0F02 (s.get (F.ACQ_RCFG_OWNER r)) r).setRecd r { s.recd r with ignAt := some s.now } else s,
       false)
    else if st = 2 then
      (s.startCapture r (s.newCapture r g.code g.detail g.t g.tidx g.frac (g.t + post) false), true)
    else if st = 3 ∨ st = 4 then
      match (s.recd r).cap with
      | none => (s.count (F.ACQ_RCNT_HOLDTRG r), false)
      | some c =>
        if c.startedAt = s.now then
          if st = 3 ∧ c.takes g then (s.startCapture r (s.newCapture r g.code g.detail g.t g.tidx g.frac (g.t + post) false), true)
          else (s, false)
        else
          let s := s.count (F.ACQ_RCNT_HOLDTRG r)
          if st = 3 then (s, false)
          else ((s.setRecd r { s.recd r with cap := some { c with heldTrig := c.heldTrig + 1 } }).tryRearm r, false)
    else (s, false)

/-- A trigger, and the triggers it gives the recorders that CROSS names when it starts a capture (R283): one received from another
recorder is not passed on. -/
def State.trigger (s : State) (r : Nat) (g : Trig) : State :=
  let x := s.trigOne r g
  if x.2 then
    (maskBits 16 (s.get (F.ACQ_RXTRIG_CROSS r))).foldl (fun s q =>
      if q = r then s else (s.trigOne q { g with code := 7, detail := r, tidx := 0, frac := 0 }).1) x.1
  else x.1

/-- Arm (R282): only IDLE leaves for PREFILL. -/
def State.recArm (s : State) (r : Nat) : State :=
  if s.flag (F.ACQ_RCFG_VALID r) && s.recState r == 0 then s.recTo r 1 else s

/-- Disarm (R282, R287): to IDLE from PREFILL and READY; a capture in POST is truncated; a held one ends in IDLE; one that Park stopped stays
disarmed on wake (R300). -/
def State.recDisarm (s : State) (r : Nat) : State :=
  let s := s.setRecd r { s.recd r with rearm := false }
  let st := s.recState r
  if st = 1 ∨ st = 2 then s.recTo r 0
  else if st = 3 then s.truncate r true
  else if st = 4 then match (s.recd r).cap with
    | none => s
    | some c => s.setRecd r { s.recd r with cap := some { c with toIdle := true } }
  else s

/-- AUTOARM at activation, at a B reset and at wake; recorders armed when Park was entered return to PREFILL (R282, R300). -/
def State.autoArm (s : State) : State :=
  s.each ((List.range 16).filter (fun r => s.flag (F.ACQ_RCFG_AUTOARM r) || (s.recd r).rearm))
    (fun s r => (s.setRecd r { s.recd r with rearm := false }).recArm r)

/-- Park takes effect (R287, R300): captures in POST are truncated, armed recorders stop and are noted. -/
def State.recPark (s : State) : State :=
  s.each (List.range 16) (fun s r =>
    let st := s.recState r
    if st = 3 then s.truncate r false
    else if st = 1 ∨ st = 2 then let s := s.recTo r 0; s.setRecd r { s.recd r with rearm := true }
    else s)

/-- The owner of recorders is reset (R287, R300). -/
def State.recOwnerReset (s : State) (i : Nat) : State :=
  s.each ((List.range 16).filter (fun r => s.flag (F.ACQ_RCFG_VALID r) && s.get (F.ACQ_RCFG_OWNER r) == i)) (fun s r =>
    let st := s.recState r
    if st = 1 ∨ st = 2 then s.recTo r 0 else if st = 3 then s.truncate r true else s)

/-- A B reset closes open captures (R76) and keeps the exports that are not complete (R300). -/
def State.recBReset (s : State) : State :=
  let s := s.each (List.range 16) (fun s r => s.truncate r false)
  s.each ((List.range 16).filter (fun r => s.flag (F.ACQ_RSTAT_EXPORT r))) (fun s r =>
    match (s.recd r).cap with
    | none => s
    | some c => if s.recState r = 4
        then s.setAcq { s.acq with oldExp := s.acq.oldExp ++ [{ rcd := r, msgs := s.exportMsgs r c, queued := c.queued }] } else s)

/-- At link-up every export that the outage cut restarts from its summary and counts REEXP (R288), those that a B reset left to do
among them (R300). -/
def State.reexport (s : State) : State :=
  let cut := s.acq.oldExp.filter (fun x => !x.queued)
  let s := s.setAcq { s.acq with oldExp := s.acq.oldExp.map (fun x => { x with queued := true }) }
  let s := s.each cut (fun s x => x.msgs.foldl State.send (s.count F.ACQ_CNT_REEXP))
  s.each ((List.range 16).filter (fun r => s.flag (F.ACQ_RSTAT_EXPORT r))) (fun s r => match (s.recd r).cap with
    | none => s
    | some c => if c.done || c.queued then s else (s.count F.ACQ_CNT_REEXP).startExport r)

/-- At link-down the queued record blocks are lost (R34, R288). -/
def State.exportsCut (s : State) : State :=
  let s := s.setAcq { s.acq with oldExp := s.acq.oldExp.map (fun x => { x with queued := false }) }
  s.each (List.range 16) (fun s r => match (s.recd r).cap with
    | none => s
    | some c => s.setRecd r { s.recd r with cap := some { c with queued := false } })

/-! ## Samples (R280, R284 to R286) -/

/-- The envelope bound that a value violates, if any. -/
def violated (u d : List Int) (i : Nat) (v : Int) : Option Int :=
  let hi := u.getD i 0
  let lo := d.getD i 0
  if hi < v then some hi else if v < lo then some lo else none

/-- The instant of R285: 256 × f and T. -/
def crossing285 (l : Int) (absMode : Bool) (prev : Option (Int × Int)) (t1 y1 dcorr : Int) : Nat × Int :=
  match prev with
  | none => (256, t1 - dcorr)
  | some (t0, y0) =>
    let y0 := if absMode then (y0.natAbs : Int) else y0
    let y1 := if absMode then (y1.natAbs : Int) else y1
    let f : Nat := if y1 = y0 then 256 else Nat.min 256 (Int.fdiv (256 * (l - y0)) (y1 - y0)).toNat
    (f, t0 + Int.fdiv (f * (t1 - t0)) 256 - dcorr)

/-- A mask stops the recording at a sample (R286): in READY or POST it ends the window at the sample's true time. -/
def State.maskStop (s : State) (r m : Nat) (t : Int) (idx frac : Nat) : State :=
  let s := s.takeReady r
  if s.recState r = 2 then (s.startCapture r (s.newCapture r 4 m t idx frac t true)).enterHeld r
  else if s.recState r = 3 then
    match (s.recd r).cap with
    | none => s
    | some c => (s.setRecd r { s.recd r with cap := some { c with endAt := t, maskStop := true } }).enterHeld r
  else s

/-- One mask at one output (R286). Answers whether it stops or triggers now. -/
def State.maskTest (s : State) (m : Nat) (t1 : Int) (qual idx n : Nat) (val : Int) : State × Bool :=
  let e := s.acq.masks.find? (fun e => e.1 == m)
  let bad := match e with
    | none => false
    | some e => !bit qual 14 && (violated e.2.1 e.2.2 (1024 * (idx % n) / n) val).isSome
  if bad then
    let s := (s.count (F.ACQ_MCNT_VIOL m)).put (F.ACQ_MLAST_TIME m) (wrapNs t1).toNat
    let old := s.get (F.ACQ_MCNT_RUN m)
    let run := Nat.min (old + 1) 255
    let s := s.put (F.ACQ_MCNT_RUN m) run
    (s, old != run && run == s.get (F.ACQ_MCFG_MINVIOL m))
  else (s.put (F.ACQ_MCNT_RUN m) 0, false)

/-- Deliver a sample of a channel to a recorder's ring (R282): dropped in IDLE and HELD; in POST a full buffer truncates (R287). -/
def State.recSample (s : State) (r c : Nat) (x : RecSample) : State :=
  let st := s.recState r
  if s.parked || !(st == 1 || st == 2 || st == 3) then s
  else
    let s := s.recAppend r c x
    let cap := s.get (F.ACQ_RBUF_SIZE r) * 65536
    if st = 3 then match (s.recd r).cap with
      | none => s
      | some k =>
        let lo := k.t - (s.get (F.ACQ_RTIME_PRE r) * 1000000 : Nat)
        let d := s.recd r
        let kept := dropOld cap d.blocks
        -- blocks before the window may go; one of the window may not
        if (d.blocks.take (d.blocks.length - kept.length)).any (fun b => b.inWindow lo k.endAt) then s.truncate r false
        else s.setRecd r { d with blocks := kept }
    else let d := s.recd r; s.setRecd r { d with blocks := dropOld cap d.blocks }

/-- A lane's output element at a recorder channel (R280, R283, R285, R286): the ring, then the masks, a stop governing, then the
comparators that have become true. `rises` lists the comparators with level and whether they take magnitudes. -/
def State.recLane (s : State) (r c lane : Nat) (x : RecSample) (prev : Option (Int × Int))
    (rises : List (Nat × Int × Bool)) : State :=
  let s := s.recSample r c x
  let dc := x.dcorr
  let n := s.fgN (s.get (F.FCH_LCFG_FG lane))
  let ms := (List.range 64).filter (fun m => s.get (F.ACQ_MCFG_ACTION m) != 0 && s.get (F.ACQ_MCFG_REC m) == r &&
    s.get (F.ACQ_MCFG_CHAN m) == c)
  let hit := ms.foldl (fun (a : State × List Nat) m =>
    let t := a.1.maskTest m x.time x.qual x.idx n x.value
    (t.1, if t.2 then a.2 ++ [m] else a.2)) (s, [])
  let s := hit.1
  let inst := fun (m : Nat) => match s.acq.masks.find? (fun e => e.1 == m) with
    | none => (256, x.time - dc)
    | some e => match violated e.2.1 e.2.2 (1024 * (x.idx % n) / n) x.value with
      | none => (256, x.time - dc)
      | some l => crossing285 l false prev x.time x.value dc
  let stops := hit.2.filter (fun m => s.get (F.ACQ_MCFG_ACTION m) == 2)
  match stops with
  | m :: _ => s.maskStop r m (x.time - dc) x.idx (inst m).1
  | [] =>
    let cmps := rises.filter (fun q => bit (s.get (F.ACQ_CH_TCMP r c)) q.1)
    match cmps with
    | q :: _ =>
      let i := crossing285 q.2.1 q.2.2 prev x.time x.value dc
      s.trigger r { code := 3, detail := c, t := i.2, tidx := x.idx, frac := i.1 }
    | [] => match hit.2.filter (fun m => s.get (F.ACQ_MCFG_ACTION m) == 1) with
      | m :: _ => let i := inst m
                  s.trigger r { code := 4, detail := m, t := i.2, tidx := x.idx, frac := i.1 }
      | [] => s

/-- Channels of all recorders that take a source. -/
def State.recTakers (s : State) (kind src : Nat) : List (Nat × Nat) :=
  (List.range 16).flatMap (fun r => if s.flag (F.ACQ_RCFG_VALID r) then
    ((s.recChans r).filter (fun c => s.get (F.ACQ_CH_KIND r c) == kind && s.get (F.ACQ_CH_ID r c) == src)).map (fun c => (r, c))
    else [])

/-! ## History (R293, R294) -/

/-- The history bound of a source (R303). -/
def State.histE (s : State) (src : Nat) : Nat :=
  s.get ((if src % 4 = 0 then F.ACQ_HE0 else if src % 4 = 1 then F.ACQ_HE1 else if src % 4 = 2 then F.ACQ_HE2 else F.ACQ_HE3)
    (src / 4))

/-- The source number of a history block: AFE channels follow the lanes, group time blocks come after both. -/
def RBlk.source (b : RBlk) : Nat := if b.kind = 1 then b.src else if b.kind = 2 then 4096 + b.src else 4104 + b.src

/-- 2¹⁶ × TTB_CYCLE × the sum of the rates at which the sources of the history sample: lanes at N × NOM or DCRATE, AFE channels at the
conversions of the active bank. -/
def State.histRate (s : State) : Nat :=
  let cyc := s.get F.TTB_CYCLE
  let deps := departures (s.bank s.activeBank) (fun v => v.action == 0x02)
  cyc * sumN (s.validLanes.map (fun l =>
    let g := s.get (F.FCH_LCFG_FG l)
    if s.fgMode g = 3 then 2 ^ 16 * s.get (F.FCH_FG_DCRATE g) else s.fgN g * s.get (F.FCH_FG_NOM g))) +
  2 ^ 16 * 1000000 * sumN ((maskBits 8 (s.get F.AFE_CTRL_EN)).map (fun c =>
    (deps.filter (fun e => bit (s.slotV s.activeBank e.2).target c)).length))

/-- Show SPAN and BITS (R293, R301): the ring's bits over the sum of the rates times the mean coded size, headers and time blocks included;
none while nothing is held. The rates that R293 leaves open are a DESIGN CHOICE (log entry 23). -/
def State.showHist (s : State) : State :=
  let l := s.acq.history
  let samples := sumN (l.map (fun x => if x.kind = 4 then 0 else x.n))
  let coded := sumN (l.map RBlk.size) * 8
  let span := s.get F.ACQ_CTRL_HSIZE * 67108864 * 8 * samples * s.get F.TTB_CYCLE * 2 ^ 16 / (coded * s.histRate)
  (s.put F.ACQ_HSTAT_SPAN (Nat.min span 0xFFFF)).put F.ACQ_HSTAT_BITS (Nat.min (coded * 256 / samples) 0xFFFF)

/-- Number a block of the history and append it; the ring overwrites its oldest blocks. -/
def State.histAdd (s : State) (b : RBlk) : State :=
  let k := b.source
  let n := Sp.get 0 s.acq.blockNo k
  s.setAcq { s.acq with history := dropOld (s.get F.ACQ_CTRL_HSIZE * 67108864) (s.acq.history ++ [{ b with num := n }]),
                        blockNo := Sp.put 0 s.acq.blockNo k ((n + 1) % 2 ^ 32) }

/-- Close the block in the making of a history source. -/
def State.histClose (s : State) (src tb : Nat) : State :=
  match makingOf s.acq.openHist src with
  | [] => s
  | f :: rest =>
    let l := f :: rest
    let kind := if src < 4096 then 1 else 2
    let id := if src < 4096 then src else src - 4096
    let s := s.setAcq { s.acq with openHist := Sp.put [] s.acq.openHist src [] }
    let b := mkBlock 0xFFFF kind id (s.histE src) f.dcorr tb l
    let g := s.get (F.FCH_LCFG_FG id)
    let s := if kind = 1 ∧ !(s.acq.history.any (fun x => x.kind == 4 && x.src == g && x.idx == b.idx && x.n == b.n &&
        x.epoch == b.epoch)) then s.histAdd (timeBlock g tb l) else s
    (s.histAdd b).showHist

/-- A sample of a history source (R293). -/
def State.histSample (s : State) (src tb : Nat) (x : RecSample) : State :=
  if !s.flag F.ACQ_CTRL_HEN || s.parked then s
  else
    let s := if joins (if src < 4096 then 1 else 2) (s.histE src) (makingOf s.acq.openHist src) x then s
      else s.histClose src tb
    s.setAcq { s.acq with openHist := Sp.put [] s.acq.openHist src (makingOf s.acq.openHist src ++ [x]) }

end Sys2Proof.Machine
end

