-- ==== Sys2Proof/Machine/TimeBases.lean ====
section
/-!
DEFINITION. Time bases, servo, TIN, TOUT, the PTP engine and egress stamp queues (R112 to R138), with what a step of a base does to
the timetable, ingress, frequency groups and publications (R154, R177, R201, R275, R300).
-/
namespace Sys2Proof.Machine

/-! ## States and followers (R115, R116) -/

/-- TSU_TB_STATUS.STATE: 0 FREE, 1 ACQUIRING, 2 LOCKED, 3 HOLDOVER. -/
def State.tbState (s : State) (b : Nat) : Nat := s.get (F.TSU_TB_STATUS_STATE b)

/-- The source of a base: TSU_TB_CTRL.SRC, and free run while no rulebook is active (R112). -/
def State.srcOf (s : State) (b : Nat) : Nat := if s.active then s.get (F.TSU_TB_CTRL_SRC b) else 0

/-- The bases that follow base `b` (R115). -/
def State.followers (s : State) (b : Nat) : List Nat :=
  (List.range 4).filter (fun f => f != b && s.srcOf f == 3 && s.get (F.TSU_TB_CTRL_LEADER f) == b)

/-- The time-base state message (R132 OP 0x0001). The manual lists its content; its layout here, 12 bytes a base (state, EPOCH,
two zero bytes, FREQ, OFFSET), is a DESIGN CHOICE (log entry 14). -/
def State.timeStatus (s : State) : Bytes :=
  (List.range 4).flatMap (fun b =>
    leBytes 1 (s.tbState b) ++ leBytes 1 (s.epoch b) ++ zeros 2 ++ leBytes 4 (s.get (F.TSU_TB_FREQ b)) ++
    leBytes 4 (s.get (F.TSU_TB_OFFSET b)))

/-- Send the time-base state message. -/
def State.sendTimeStatus (s : State) : State := s.send (stMsg 0xC 0x0001 s.timeStatus)

/-- Close the running stretch of LOCKED for the 64 s mean (R118). -/
def State.closeSeg (s : State) (b : Nat) : State :=
  if s.tbState b = 2 then
    let t := s.tb b
    let h := t.hist ++ [(s.now - t.segAt, s.getI (F.TSU_TB_FREQ b))]
    s.setTb b { t with hist := h, segAt := s.now }
  else s

/-- The newest 64 s of a history, newest first. -/
def newest64 : Nat → List (Nat × Int) → List (Nat × Int)
  | _, [] => []
  | left, (d, f) :: r => if left ≤ d then [(left, f)] else (d, f) :: newest64 (left - d) r

/-- The mean of FREQ over the last 64 s in LOCKED (R118), rounded to nearest; the FREQ in force when there is none. -/
def State.meanFreq (s : State) (b : Nat) : Int :=
  let h := newest64 64000000000 (s.tb b).hist.reverse
  let tot := sumN (h.map (fun e => e.1))
  if tot = 0 then s.getI (F.TSU_TB_FREQ b) else rdiv (h.foldl (fun a e => a + e.1 * e.2) 0) tot

/-- Set FREQ of a base and of its followers (R115, R117). -/
def State.setFreq : Nat → State → Nat → Int → State
  | 0, s, _, _ => s
  | n + 1, s, b, f =>
    let s := (s.closeSeg b).putI (F.TSU_TB_FREQ b) f
    (s.followers b).foldl (fun s x => State.setFreq n s x f) s

/-- Move a base and its followers to a state, each raising the event under its own number (R115, R116); code 0 raises
none. -/
def State.toState : Nat → State → Nat → Nat → Nat → Nat → State
  | 0, s, _, _, _, _ => s
  | n + 1, s, b, st, code, arg =>
    let s := s.closeSeg b
    let s := s.put (F.TSU_TB_STATUS_STATE b) st
    let s := if st = 2 then s.setTb b { s.tb b with wasLocked := true, segAt := s.now } else s
    let s := if code = 0 then s else s.raiseOn b code 0xFF arg
    (s.followers b).foldl (fun s x => State.toState n s x st code arg) s

/-- Change the state of a base, with its followers, and report it (R132). -/
def State.tbTo (s : State) (b st code arg : Nat) : State := (s.toState 4 b st code arg).sendTimeStatus

/-! ## Steps (R117, R154, R177) -/

/-- What a step of the timetable's base does to it (R154): the departures of the cycle not yet served are dropped and counted,
none is served until the first boundary of the stepped time, and EPOCH is copied. A pending bank switch whose check has passed waits
for no later boundary than that one. -/
def State.ttbStep (s : State) : State :=
  let s := s.put F.TTB_STATUS_EPOCH (s.epoch s.ttbTb)
  let s := s.setTtb { s.ttb with readyAt := 0 }
  if s.flag F.TTB_STATUS_RUN then
    let left := departureCount (s.bank s.activeBank) - s.ttb.served.length
    let s := s.countN F.TTB_CNT2_DROPPED left
    let s := s.put F.TTB_STATUS_RUN 0
    s.setTtb { s.ttb with startAt := some (s.boundaryFrom (s.tbNs s.ttbTb)), served := [] }
  else if s.ttb.startAt.isSome then
    s.setTtb { s.ttb with startAt := some (s.boundaryFrom (s.tbNs s.ttbTb)) }
  else s

/-- Every stream on base `b` goes to WAIT (R177). -/
def State.streamsWait (s : State) (b : Nat) : State :=
  s.each ((List.range 512).filter (fun i => s.flag (F.SVI_SUB_VALID i) && s.get (F.SVI_SUB_TB i) == b))
    (fun s i => (s.put (F.SVI_SSTAT_STATE i) 0).setStream i { s.stream i with run := 0, good := 0 })

/-- Grid times of the groups on base `b` jump by the step; the index goes on (R201). -/
def State.gridsStep (s : State) (b : Nat) (d : Int) : State :=
  s.each ((List.range 64).filter (fun g => s.get (F.FCH_FG_CTRL_TB g) == b))
    (fun s g => let x := s.group g
      s.setGroup g { x with t0 := x.t0.map (· + d), grid := x.grid.map (fun e => (e.1, e.2 + d * 65536)) })

/-- Retransmission points are recomputed from the stepped time (R275): anchors and pending points move with the base. DEDUCED
(log entry 15). -/
def State.pointsStep (s : State) (d : Int) : State :=
  let mv := fun (n : Nat) => ((n : Int) + d).toNat
  s.setPub { s.pub with goose := Sp.mapv GooseS.init (fun g =>
    { g with anchor := g.anchor.map mv, point := g.point.map (fun p => (p.1, mv p.2.1, p.2.2)) }) s.pub.goose }

/-- The ring of every recorder on base `b` that is in PREFILL or READY is discarded, and the recorder returns to PREFILL
(R300); a capture in POST is truncated (R287). -/
def State.ringsStep (s : State) (b : Nat) : State :=
  s.each ((List.range 16).filter (fun r => s.get (F.ACQ_RCFG_TB r) == b))
    (fun s r => if s.recState r = 1 ∨ s.recState r = 2 then s.recTo r 1 else s.truncate r false)

/-- A step of base `b` by `d` ns: time, EPOCH, STEPS, event 0x0605 with the step signed and saturated (R117), its followers by the
same amount (R115), and the units that run on it. -/
def State.step' : Nat → State → Nat → Int → State
  | 0, s, _, _ => s
  | n + 1, s, b, d =>
    let s := s.ringsStep b
    let t := s.tb b
    let s := s.setTb b { t with acc := wrapTime ((t.acc : Int) + d * tbUnit) }
    let s := s.put (F.TSU_TB_STATUS_EPOCH b) (s.epoch b + 1)
    let s := s.count (F.TSU_TB_CNT_STEPS b)
    let s := s.raiseOn b 0x0605 0xFF (wrapN 32 (satS 32 d))
    let s := if b = s.ttbTb then s.ttbStep.pointsStep d else s
    let s := (s.streamsWait b).gridsStep b d
    (s.followers b).foldl (fun s x => State.step' n s x d) s

/-- A step of a base. -/
def State.tbStep (s : State) (b : Nat) (d : Int) : State := State.step' 4 s b d

/-! ## The servo (R116 to R118, R135) -/

/-- 500 ppm in units of 2⁻¹⁶ ppm. -/
def ppm500 : Int := 32768000

/-- `o × 10⁻³ / (m × T)` in 2⁻¹⁶ ppm times 1, with T = 2^k s, as numerator and denominator. -/
def piTerm (o : Int) (m : Nat) (k : Int) : Int × Nat :=
  if 0 ≤ k then (o * 65536, 1000 * m * 2 ^ k.toNat) else (o * 65536 * (2 ^ (-k).toNat : Nat), 1000 * m)

/-- log₂ of the interval between offsets in s: logSyncInterval under PTP, 0 under TIN (R117). -/
def State.logT (s : State) (b : Nat) : Int :=
  if s.srcOf b = 1 then s.getI (F.TSU_TB_PTPINT_LOGSYNC b) else 0

/-- Enter ACQUIRING: the integral part starts from the FREQ in force (R117). -/
def State.acquire (s : State) (b : Nat) : State :=
  let s := s.tbTo b 1 0 0
  s.setTb b { s.tb b with inLim := 0, outLim := 0, integ := s.getI (F.TSU_TB_FREQ b) }

/-- The magnitude of an integer. -/
def absI (i : Int) : Nat := i.natAbs

/-- Apply the proportional-integral law to offset `o` and test for LOCKED (R116, R117). FREQ and the integral part are kept
in units of 2⁻¹⁶ ppm, rounded down: DESIGN CHOICE (log entry 16). -/
def State.slew (s : State) (b : Nat) (o : Int) (port : Nat) : State :=
  let k := s.logT b
  let ti := piTerm o 16 k
  let tp := piTerm o 4 k
  let i := clampI (-ppm500) ppm500 (fdiv ((s.tb b).integ * ti.2 - ti.1) ti.2)
  let f := clampI (-ppm500) ppm500 (fdiv (i * tp.2 - tp.1) tp.2)
  let s := (s.setTb b { s.tb b with integ := i }).setFreq 4 b f
  if s.tbState b = 1 then
    let n := if absI o ≤ 100 then (s.tb b).inLim + 1 else 0
    let s := s.setTb b { s.tb b with inLim := n }
    if 16 ≤ n then
      (s.setTb b { s.tb b with outLim := 0 }).tbTo b 2 0x0601 (s.srcOf b + port * 256)
    else s
  else s

/-- One valid offset measurement of base `b`, in ns, base minus source; `port` is the slave port or 0xFF (R116, R117). -/
def State.servo (s : State) (b : Nat) (o : Int) (port : Nat) : State :=
  let s := s.putI (F.TSU_TB_OFFSET b) (satS 32 o)
  let st := s.tbState b
  let s := if st = 0 ∨ st = 3 then s.acquire b
    else if st = 2 then
      let n := if 1000 < absI o then (s.tb b).outLim + 1 else 0
      let s := s.setTb b { s.tb b with outLim := n }
      if 4 ≤ n then s.acquire b else s
    else s
  if s.tbState b = 1 ∧ s.get (F.TSU_TB_STEPTHR b) * 1000 < absI o ∧ s.get (F.TSU_TB_CTRL_STEPINH b) = 0 then
    let s := s.tbStep b (-o)
    let s := s.setTb b { s.tb b with inLim := 0 }
    s.setFreq 4 b (clampI (-ppm500) ppm500 (s.tb b).integ)
  else s.slew b o port

/-- The base falls to FREE (R116, R118). -/
def State.toFree (s : State) (b : Nat) : State := s.tbTo b 0 0x0603 0

/-- The base enters HOLDOVER at the mean of the last 64 s in LOCKED; a HOLD of 0 sends it to FREE at once (R118). -/
def State.holdover (s : State) (b : Nat) : State :=
  let s := s.closeSeg b
  let m := s.meanFreq b
  let s := s.tbTo b 3 0x0602 0
  let s := (s.setTb b { s.tb b with integ := m, inLim := 0, outLim := 0 }).setFreq 4 b m
  if s.get (F.TSU_TB_HOLD b) = 0 then s.toFree b else s

/-- The base loses its source (R116, R118, R135). -/
def State.sourceLost (s : State) (b : Nat) : State :=
  let st := s.tbState b
  let s := s.setTb b { s.tb b with slave := none }
  if st = 1 then
    let s := (s.count (F.TSU_TB_CNT_LOSSES b)).toFree b
    (s.setTb b { s.tb b with integ := 0, inLim := 0, outLim := 0 }).setFreq 4 b 0
  else if st = 2 then (s.count (F.TSU_TB_CNT_LOSSES b)).holdover b
  else s

/-- The bases disciplined by TIN. -/
def State.tinBases (s : State) : List Nat := (List.range 4).filter (fun b => s.srcOf b == 2)

/-! ## Stamps (R125 to R131) -/

/-- Field page index of an SB port numbered as in R106. -/
def sbOf (p : Nat) : Nat := p - 0x20

/-- The address of an Ethernet port, byte 0 first (R108). -/
def State.macOfPort (s : State) (p : Nat) : Bytes :=
  if p < 0x20 then leBytes 4 (s.get (F.PRT_MAC_LO_ADDR_LO p)) ++ leBytes 2 (s.get (F.PRT_MAC_HI_ADDR_HI p))
  else leBytes 4 (s.get (F.SBP_MAC_LO (sbOf p))) ++ leBytes 2 (s.get (F.SBP_MAC_HI (sbOf p)))

/-- The base in which a port's stamps are given (R126, R133). -/
def State.stampTb (s : State) (p : Nat) : Nat :=
  if p < 0x20 then s.get (F.TSU_PORT_CTRL_STAMPTB p) else s.get (F.SBP_PORT_CTRL_STAMPTB (sbOf p))

/-- The bit of a port in TSU_TB_PTPPORTS: `p` for a PB port, 16 + s for SBs; the other ports never carry PTP (R120, R136). -/
def ptpBit (p : Nat) : Option Nat := if p < 16 then some p else if 0x20 ≤ p ∧ p < 0x24 then some (16 + sbOf p) else none

/-- The base that owns a port's PTP (R120). -/
def State.ptpBase (s : State) (p : Nat) : Option Nat := match ptpBit p with
  | none => none
  | some k => (List.range 4).find? (fun b => s.srcOf b == 1 && bit (s.get (F.TSU_TB_PTPPORTS_PORTS b)) k)

/-- Ingress stamp of a capture: capture − RXLAT, in raw ns (R125). -/
def State.rxStamp (s : State) (p capture : Nat) : Nat :=
  let l := if p < 0x20 then s.get (F.TSU_PORT_LAT_RXLAT p) else s.get (F.SBP_PORT_LAT_RXLAT (sbOf p))
  (capture * 16 - l) / 16

/-- Egress stamp of a capture: capture + TXLAT, in raw ns (R125). -/
def State.txStamp (s : State) (p capture : Nat) : Nat :=
  let l := if p < 0x20 then s.get (F.TSU_PORT_LAT_TXLAT p) else s.get (F.SBP_PORT_LAT_TXLAT (sbOf p))
  (capture * 16 + l) / 16

/-- The host die's mirror of a base (R132); before the first alignment it stands at the base's zero: DESIGN CHOICE (log entry 14). -/
def State.mirrorOf (s : State) (b : Nat) : MirrorS := s.host.mirror.getD b { at_ := 0, ns := 0, freq := 0, epoch := 0 }

/-- Time of base `b` at a raw time as a port sees it: a host-die port through the mirror (R132). -/
def State.portTime (s : State) (p b raw : Nat) : Int :=
  if p < 0x20 then s.tbAt b raw
  else
    let m := s.mirrorOf b
    m.ns + Int.fdiv (((raw : Int) - m.at_) * ((tbUnit : Int) + m.freq)) tbUnit

/-- EPOCH of base `b` as a port sees it. -/
def State.portEpoch (s : State) (p b : Nat) : Nat := if p < 0x20 then s.epoch b else (s.mirrorOf b).epoch

/-- The four words of a queue entry (R131). -/
def stampWords (e : Option StampEnt) : List Nat :=
  match e with
  | none => [0, 0, 0, 0]
  | some e => [e.stamp.toNat, e.tag.toNat, e.tb + e.epoch * 2 ^ 8 + e.port * 2 ^ 16 + 2 ^ 31, 0]

/-- Show the heads and counts of a port's stamp queues in its registers (R138, R133). -/
def State.showQueues (s : State) (p : Nat) : State :=
  let q := s.port p
  let pw := stampWords q.pq.head?
  let gw := stampWords q.gq.head?
  let i := if p < 0x20 then p else sbOf p
  let fp := fun j => if p < 0x20 then F.TSU_EQP_W i j else F.SBP_EQP_W i j
  let fg := fun j => if p < 0x20 then F.TSU_EQG_W i j else F.SBP_EQG_W i j
  let s := s.each (List.range 4) (fun s j => (s.put (fp j) (pw.getD j 0)).put (fg j) (gw.getD j 0))
  if p < 0x20 then (s.put (F.TSU_EQ_STAT_PCOUNT i) q.pq.length).put (F.TSU_EQ_STAT_GCOUNT i) q.gq.length
  else (s.put (F.SBP_EQ_STAT_PCOUNT i) q.pq.length).put (F.SBP_EQ_STAT_GCOUNT i) q.gq.length

/-- Queue the egress stamp of a flagged frame (R129) or lose it (R130). Answers whether the stamp was lost. -/
def State.pushStamp (s : State) (p : Nat) (ptp : Bool) (tag : Word) (raw : Nat) : State × Bool :=
  let b := if ptp then (s.ptpBase p).getD (s.stampTb p) else s.stampTb p
  let q := s.port p
  let e : StampEnt := { stamp := wrapNs (s.portTime p b raw), tag := tag, tb := b, epoch := s.portEpoch p b,
                        port := if p < 0x20 then p else sbOf p }
  let i := if p < 0x20 then p else sbOf p
  let full := if ptp then decide (32 ≤ q.pq.length) else decide (256 ≤ q.gq.length)
  if full then
    let lost := if p < 0x20 then (if ptp then F.TSU_EQ_LOST_PLOST i else F.TSU_EQ_LOST_GLOST i)
      else (if ptp then F.SBP_EQ_LOST_PLOST i else F.SBP_EQ_LOST_GLOST i)
    let ovf := if p < 0x20 then (if ptp then F.TSU_EQ_STAT_POVF i else F.TSU_EQ_STAT_GOVF i)
      else (if ptp then F.SBP_EQ_STAT_POVF i else F.SBP_EQ_STAT_GOVF i)
    let s := s.count lost
    if s.flag ovf then (s, true)
    else
      let s := s.put ovf 1
      (if p < 0x20 then s.raise 0x0501 p else s.raiseHost 0x0501 p, true)
  else if ptp then ((s.setPort p { q with pq := q.pq ++ [e] }).showQueues p, false)
  else ((s.setPort p { q with gq := q.gq ++ [e] }).showQueues p, false)

/-- Pop the head of a stamp queue. -/
def State.popStamp (s : State) (p : Nat) (ptp : Bool) : State :=
  let q := s.port p
  let q := if ptp then { q with pq := q.pq.tail } else { q with gq := q.gq.tail }
  (s.setPort p q).showQueues p

/-! ## PTP messages on the wire (R119, R131, R132) -/

/-- The PTP queue's tag (R131). -/
def ptpTag (m : PtpMsg) : Word :=
  BitVec.ofNat 32 (m.seqId % 2 ^ 16 + m.msgType % 16 * 2 ^ 16 + m.domain % 256 * 2 ^ 20)

/-- PTP event messages: Sync, Delay_Req, Pdelay_Req and Pdelay_Resp of IEEE 1588-2019. -/
def ptpEvent (m : PtpMsg) : Bool := decide (m.msgType < 4)

/-- The octets of a PTP message: the 34-byte header of IEEE 1588-2019, then its content. PRESUMED (log entry 14): the manual names the
standard and does not restate its layout. -/
def ptpOctets (m : PtpMsg) : Bytes :=
  [BitVec.ofNat 8 (m.msgType % 16), 0x12#8] ++ beBytes 2 (34 + m.content.length) ++ [BitVec.ofNat 8 m.domain, 0,
    if m.twoStep then 0x02#8 else 0x00#8, 0] ++ beBytes 8 (wrapN 64 m.corr) ++ zeros 4 ++ beBytes 10 m.portId ++ beBytes 2 m.seqId ++
    zeros 2 ++ m.content

/-- The PTP message that octets hold in that layout. -/
def ptpOfOctets (b : Bytes) : PtpMsg :=
  { msgType := beAt b 0 1 % 16, domain := beAt b 4 1, seqId := beAt b 30 2, portId := beAt b 20 10, corr := signedN 64 (beAt b 8 8),
    twoStep := bit (beAt b 6 1) 1, content := b.drop 34 }

/-- A time as the ten octets of a PTP timestamp: seconds and nanoseconds in network order (log entry 14). -/
def ptpTime (ns : Int) : Bytes :=
  let n := ns.toNat
  beBytes 6 (n / 1000000000) ++ beBytes 4 (n % 1000000000)

/-- The PTP event message that the octets of a frame carry, after any 802.1Q tag (R129). -/
def ptpInFrame (b : Bytes) : Option PtpMsg :=
  let o := if beAt b 12 2 = 0x8100 then 16 else 12
  if beAt b o 2 = 0x88F7 ∧ beAt b (o + 2) 1 % 16 < 4 then some (ptpOfOctets (b.drop (o + 2))) else none

/-- The PTP event message in a frame that leaves: every one is flagged for stamping (R129). -/
def TxBody.event : TxBody → Option PtpMsg
  | .ptp m => if ptpEvent m then some m else none
  | .presp m _ => some m
  | .tc m _ _ => if ptpEvent m then some m else none
  | .fwd f => match f.body with
    | .ptp m => if ptpEvent m then some m else none
    | _ => none
  | .dma b => ptpInFrame b
  | _ => none

/-- Bytes that wait in a port's transmit queues. -/
def PortS.waiting (q : PortS) : Nat := sumN (q.txq.map (fun f => f.len))

/-- Queue a frame on a port (R92). During a renegotiation of an SB port a frame that its 128 KiB buffer cannot hold is dropped
at the tail and counted (R98). -/
def State.queueTx (s : State) (p : Nat) (f : TxFrame) : State :=
  let q := s.port p
  if 0x20 ≤ p ∧ p < 0x24 ∧ s.flag (F.SBP_STATUS_RENEG (sbOf p)) ∧ 131072 < q.waiting + f.len then
    s.count (F.SBP_TXDROP (sbOf p))
  else s.setPort p { q with txq := q.txq ++ [f] }

/-- Bytes of a frame with a PTP message, from the destination address to the FCS. -/
def ptpLen (m : PtpMsg) : Nat := Nat.max 64 (18 + 34 + m.content.length)

/-- Queue a frame with a PTP message on a port, from its own address (R108), on queue 7. R92 gives queue 7 to PTP event messages and
names none for the others: DESIGN CHOICE (log entry 14), every PTP message of the module takes it. -/
def State.queuePtp (s : State) (p : Nat) (m : PtpMsg) (b : TxBody) : State :=
  s.queueTx p { queue := 7, len := ptpLen m, src := s.macOfPort p, body := b, red := none, stamp := none, chan := none }

/-! ## The PTP engine (R119, R120, R126) -/

/-- delayAsymmetry of a port in 2⁻¹⁶ ns (R126). -/
def State.asym (s : State) (p : Nat) : Int :=
  (if p < 0x20 then s.getI (F.TSU_PORT_ASYM p) else s.getI (F.SBP_PORT_ASYM (sbOf p))) * 65536

/-- A message received on a port: Sync and Pdelay_Resp gain delayAsymmetry. PRESUMED (log entry 14): R126 applies it as IEEE 1588-2019
defines. -/
def State.asymIn (s : State) (p : Nat) (m : PtpMsg) : PtpMsg :=
  if m.msgType = 0 ∨ m.msgType = 3 then { m with corr := m.corr + s.asym p } else m

/-- A message sent on a port: Delay_Req and Pdelay_Req lose it. -/
def State.asymOut (s : State) (p : Nat) (m : PtpMsg) : PtpMsg :=
  if m.msgType = 1 ∨ m.msgType = 2 then { m with corr := m.corr - s.asym p } else m

/-- The sourcePortIdentity of a port's PTP messages: the clock identity, then the port number, which is the port as R106 numbers it
plus 1. DESIGN CHOICE (log entry 14). -/
def portIdentity (p : Nat) : Nat := Config.clockIdentity % 2 ^ 64 * 65536 + (p + 1)

/-- A new grandmaster of a base: event 0x0604 and TSU_TB_GMID (R119). -/
def State.setGm (s : State) (b g : Nat) : State :=
  if g % 2 ^ 64 = s.get (F.TSU_TB_GMID_LO b) + 2 ^ 32 * s.get (F.TSU_TB_GMID_HI b) then s
  else ((s.put (F.TSU_TB_GMID_LO b) g).put (F.TSU_TB_GMID_HI b) (g / 2 ^ 32)).raiseOn b 0x0604 0xFF 0

/-- The base is its own grandmaster unless it is slave-only (R119). -/
def State.ownGm (s : State) (b : Nat) : State := if s.get (F.TSU_TB_PTP_ROLE b) = 0 then s else s.setGm b Config.clockIdentity

/-- Send a PTP message of the engine of base `b` on a port: out of a PB port, or through a time-status message to an SB port with the
port and a tag (R119, R132). The payload's layout (port in byte 0, bytes 1 to 3 zero, tag in bytes 4 to 7, then the message) and the tag,
that of R131 with the port in bits 29:28, are DESIGN CHOICES (log entry 14). -/
def State.sendPtp (s : State) (b p : Nat) (m : PtpMsg) (body : TxBody) : State :=
  if p < 0x20 then s.queuePtp p m body
  else
    let tag := ptpTag m ||| BitVec.ofNat 32 (sbOf p * 2 ^ 28)
    let s := if ptpEvent m then s.setTin { s.tin with sbOut := s.tin.sbOut ++ [(tag, b, p, m)] } else s
    s.send (stMsg 0xC 0x0002 (leBytes 1 (sbOf p) ++ zeros 3 ++ leBytes 4 tag.toNat ++ ptpOctets m))

/-- The follow-up of a two-step message that left port `p` at base time `at_` (R119): Follow_Up of a Sync, Pdelay_Resp_Follow_Up of a
Pdelay_Resp. -/
def State.followUp (s : State) (b p : Nat) (m : PtpMsg) (at_ : Int) : State :=
  if m.twoStep ∧ m.msgType = 0 then
    let f := { m with msgType := 8, twoStep := false, corr := 0, content := ptpTime at_ }
    s.sendPtp b p f (.ptp f)
  else if m.twoStep ∧ m.msgType = 3 then
    let f := { m with msgType := 0xA, twoStep := false, corr := 0, content := ptpTime at_ ++ m.content.drop 10 }
    s.sendPtp b p f (.ptp f)
  else s

/-- Record a link delay in a port's register (R138). -/
def State.setPdelay (s : State) (p d : Nat) : State :=
  if p < 0x20 then s.put (F.TSU_PORT_PDELAY p) d else s.put (F.SBP_PORT_PDELAY (sbOf p)) d

/-- The reply of type `k` that port `p` makes to a request received at base time `st`: the time of receipt and the requester (R119). -/
def ptpReply (k p : Nat) (m : PtpMsg) (twoStep : Bool) (st : Int) : PtpMsg :=
  { m with msgType := k, portId := portIdentity p, twoStep := twoStep, content := ptpTime st ++ beBytes 10 m.portId }

/-- Answer a Pdelay_Req captured at raw ns `at_` (R119, R121) with a Pdelay_Resp. On a port that the hardware answers it is one-step, its
correction made as it leaves: DESIGN CHOICE (log entry 14). -/
def State.pdelayResp (s : State) (b p : Nat) (m : PtpMsg) (at_ : Nat) : State :=
  let r := ptpReply 3 p m false (s.portTime p b at_)
  s.queuePtp p r (.presp r at_)

/-- The engine sends a reply on a port. -/
def State.engineReply (s : State) (b k p : Nat) (m : PtpMsg) (twoStep : Bool) (st : Int) : State :=
  let r := ptpReply k p m twoStep st
  s.sendPtp b p r (.ptp r)

/-- Base `b` is master on port `p`: not slave there, and not slave-only (R119, R120). -/
def State.ptpMaster (s : State) (b p : Nat) : Bool := (s.tb b).slave != some p && s.get (F.TSU_TB_PTP_ROLE b) != 0

/-- A PTP message reaches the engine of base `b` on port `p` (R119): the answer to a Delay_Req under E2E, grandmaster, link delay,
offset. `st` is the ingress stamp in the base. -/
def State.ptpTake (s : State) (b p : Nat) (m : PtpMsg) (st : Int) : State :=
  let s := if m.msgType = 1 ∧ s.ptpMaster b p ∧ !s.flag (F.TSU_TB_PTP_P2P b) ∧ m.domain = s.get (F.TSU_TB_PTP_DOMAIN b) then
      s.engineReply b 9 p m false st else s
  let m := s.asymIn p m
  let (s, n) := s.draw
  let s := match Config.ptpGrandmaster n m with
    | none => s
    | some g => s.setGm b g
  let s := match Config.ptpLinkDelay n m st with
    | none => s
    | some d => s.setPdelay p d
  match Config.ptpOffset n m st with
  | none => s
  | some o => (s.setTb b { s.tb b with slave := some p }).servo b o p

/-- A PTP message reaches the engine of the base that owns the port, if one does. `stamp` is the ingress stamp in raw ns. -/
def State.ptpEngine (s : State) (p : Nat) (m : PtpMsg) (stamp : Nat) : State :=
  match s.ptpBase p with
  | none => s
  | some b => s.ptpTake b p m (s.tbAt b stamp)

/-! ## Transparent clocks (R121) -/

/-- A port is half of a transparent-clock pair. -/
def State.tcEn (s : State) (p : Nat) : Bool :=
  if p < 16 then s.flag (F.TSU_PORT_CTRL_TCEN p) else if 0x20 ≤ p ∧ p < 0x24 then s.flag (F.SBP_PORT_CTRL_TCEN (sbOf p)) else false

/-- Its partner, numbered as in R106. -/
def State.tcPeer (s : State) (p : Nat) : Nat :=
  if p < 0x20 then s.get (F.TSU_PORT_CTRL_TCPEER p) else 0x20 + s.get (F.SBP_PORT_CTRL_TCPEER (sbOf p))

/-- The pair is peer to peer. -/
def State.tcP2P (s : State) (p : Nat) : Bool :=
  if p < 0x20 then s.flag (F.TSU_PORT_CTRL_TCMODE p) else s.flag (F.SBP_PORT_CTRL_TCMODE (sbOf p))

/-- The port measures link delay for a transparent clock: half of a P2P pair. -/
def State.tcPeerDelay (s : State) (p : Nat) : Bool := s.tcEn p && s.tcP2P p

/-- The port answers Pdelay_Req: half of a P2P pair, whether or not a base uses it, or a port of a base that runs P2P. -/
def State.pdelayPort (s : State) (p : Nat) : Bool := s.tcPeerDelay p || (match s.ptpBase p with
  | none => false
  | some b => s.flag (F.TSU_TB_PTP_P2P b))

/-- The base in which a port's peer-delay messages are stamped: that of its PTP, else STAMPTB (R126). -/
def State.pdelayTb (s : State) (p : Nat) : Nat := (s.ptpBase p).getD (s.stampTb p)

/-- Peer-delay messages of a port: a Pdelay_Req is answered when the port `answers`; a reply completes the delay of a transparent clock's
port that no base uses. -/
def State.pdelayTake (s : State) (p : Nat) (answers : Bool) (m : PtpMsg) (stamp : Nat) : State :=
  if m.msgType = 2 then (if answers then s.pdelayResp (s.pdelayTb p) p m stamp else s)
  else if (m.msgType = 3 ∨ m.msgType = 0xA) ∧ s.tcPeerDelay p ∧ s.ptpBase p = none then
    let (s, n) := s.draw
    match Config.ptpLinkDelay n (s.asymIn p m) (s.portTime p (s.stampTb p) stamp) with
    | none => s
    | some d => s.setPdelay p d
  else s

/-- A message of the peer-delay mechanism: 2, 3 and 0xA. -/
def isPdelay (m : PtpMsg) : Bool := m.msgType == 2 || m.msgType == 3 || m.msgType == 0xA

/-- The transparent clock of a port sends a message out of its partner, on queue 7 with the addresses it came with; under P2P peer-delay
messages end at the port. -/
def State.tcRelay (s : State) (p : Nat) (m : PtpMsg) (stamp : Nat) (src : Bytes) (len : Nat) : State :=
  if !s.tcEn p || (s.tcP2P p && isPdelay m) then s
  else s.queueTx (s.tcPeer p) { queue := 7, len := len, src := src, body := .tc (s.asymIn p m) p stamp, red := none, stamp := none, chan := none }

/-- A PTP message reaches the time-stamp unit of a field-die port, captured at raw time `capture` (R119, R121). -/
def State.ptpMessage (s : State) (p : Nat) (m : PtpMsg) (capture : Nat) : State :=
  let st := s.rxStamp p capture
  (s.pdelayTake p (s.pdelayPort p) m st).ptpEngine p m st

/-- What a transparent clock adds on the way out: the residence time scaled to the ingress port's STAMPTB, plus under P2P
the ingress link delay, in 2⁻¹⁶ ns. -/
def State.tcAmount (s : State) (ingress at_ out : Nat) : Int :=
  let b := s.stampTb ingress
  let d := if ingress < 0x20 then s.get (F.TSU_PORT_PDELAY ingress) else s.get (F.SBP_PORT_PDELAY (sbOf ingress))
  ((s.portTime ingress b out - s.portTime ingress b at_) + (if s.tcP2P ingress then (d : Int) else 0)) * 65536

/-- Correct a forwarded message as it leaves port `p` at raw time `out`: one-step Sync and, under E2E, Delay_Req on the fly;
a two-step Sync through its Follow_Up within 1 s. -/
def State.tcCorrect (s : State) (p : Nat) (m : PtpMsg) (ingress at_ out : Nat) : State × PtpMsg :=
  let a := s.tcAmount ingress at_ out
  let q := s.port p
  if m.msgType = 0 then
    if m.twoStep then (s.setPort p { q with tc := (m.seqId, m.portId, a, out) :: q.tc }, m)
    else (s, { m with corr := m.corr + a })
  else if m.msgType = 1 then (s, if s.tcP2P ingress then m else { m with corr := m.corr + a })
  else if m.msgType = 8 then
    match q.tc.find? (fun e => e.1 == m.seqId && e.2.1 == m.portId && decide (out ≤ e.2.2.2 + 1000000000)) with
    | none => (s, m)
    | some e => (s.setPort p { q with tc := q.tc.erase e }, { m with corr := m.corr + e.2.2.1 })
  else (s, m)

/-- A frame's content as it leaves port `p` at raw time `out` (R119, R121, R126): a one-step Sync takes its origin time, a Pdelay_Resp its
turnaround, a forwarded message its correction, and delayAsymmetry goes off a request. -/
def State.ptpLeaves (s : State) (p : Nat) (b : TxBody) (out : Nat) : State × TxBody := match b with
  | .ptp m =>
    let m := if m.msgType = 0 ∧ !m.twoStep then { m with content := ptpTime (s.portTime p (s.pdelayTb p) out) } else m
    (s, .ptp (s.asymOut p m))
  | .presp m i => (s, .presp { m with corr := m.corr + (s.portTime p (s.pdelayTb p) out - s.portTime p (s.pdelayTb p) i) * 65536 } i)
  | .tc m i a =>
    let r := s.tcCorrect p m i a out
    (r.1, .tc (r.1.asymOut p r.2) i a)
  | b => (s, b)

/-! ## TIN (R122, R123) -/

/-- The receiver counts a frame or edge that is missing or bad; three in a row lose synchronisation and the source. -/
def State.tinBad (s : State) : State :=
  let n := s.tin.bad + 1
  let s := s.setTin { s.tin with bad := n, good := 0 }
  if n = 3 then s.tinBases.foldl State.sourceLost (s.put F.TSU_TIN_STATUS_SYNC 0) else s

/-- Days in the year that begins `y` years after 1970, modulo 400 years. -/
def yearDays (y : Nat) : Nat :=
  let n := 1970 + y
  if (n % 4 = 0 ∧ n % 100 ≠ 0) ∨ n % 400 = 0 then 366 else 365

/-- Days from the start of the year holding day `d`, counted from year `y`. -/
def dayOfYear : Nat → Nat → Nat → Nat
  | 0, _, d => d
  | n + 1, y, d => if d < yearDays y then d else dayOfYear n (y + 1) (d - yearDays y)

/-- The seconds, on the scale of the argument, at which the year holding `sec` began (R122, CF = 0). -/
def yearStartOf (sec : Nat) : Nat := (sec / 86400 - dayOfYear 400 0 (sec / 86400 % 146097)) * 86400

/-- IRIG_FRAME (R122). -/
def irigFrame (good : Bool) (toy yearStart : Nat) (leap : Bool) (qual : Nat) (s : State) : State :=
  let mode := s.get F.TSU_TIN_CTRL_MODE
  if mode = 1 ∨ mode = 2 then
    if good then
      let s := s.setTin { s.tin with good := s.tin.good + 1, bad := 0 }
      let s := if 2 ≤ s.tin.good then s.put F.TSU_TIN_STATUS_SYNC 1 else s
      let cf := s.flag F.TSU_TIN_CTRL_CF
      let s := if cf then (s.putB F.TSU_TIN_STATUS_LEAP leap).put F.TSU_TIN_STATUS_QUAL qual else s
      if s.flag F.TSU_TIN_STATUS_SYNC then
        let ofs := s.get F.TSU_TIN_UTC_UTCOFS
        s.tinBases.foldl (fun s b =>
          let y := if cf then yearStart else yearStartOf (s.tbSec b - ofs)
          s.servo b ((s.tbNs b : Int) - (((y + toy + ofs) * 1000000000 + s.get F.TSU_TIN_CTRL_DELAY : Nat) : Int)) 0xFF) s
      else s
    else s.tinBad
  else s

/-- The whole second nearest to a time in ns. -/
def nearSec (x : Int) : Int := Int.fdiv (x + 500000000) 1000000000 * 1000000000

/-- The base that measures the edges of 1PPS (R123): the lowest one that TIN disciplines, TB0 when none is. DEDUCED (log
entry 17). -/
def State.tinBase (s : State) : Nat := s.tinBases.headD 0

/-- SETSEC of a base. -/
def State.setsec (s : State) (b : Nat) : Nat :=
  s.get (F.TSU_TB_SETSEC_LO_SEC b) + 2 ^ 32 * s.get (F.TSU_TB_SETSEC_HI_SEC b)

/-- One base at a 1PPS edge (R123): an armed load first, then the offset of a good edge. -/
def State.edgeBase (s : State) (b : Nat) (good : Bool) : State :=
  let x := (s.tbNs b : Int) - s.get F.TSU_TIN_CTRL_DELAY
  let d := if s.flag (F.TSU_TB_SETSEC_HI_GO b) then (s.setsec b : Int) * 1000000000 - nearSec x else 0
  let s := s.put (F.TSU_TB_SETSEC_HI_GO b) 0
  let s := if d ≠ 0 then s.tbStep b d else s
  if good && s.srcOf b == 2 then s.servo b (x + d - nearSec (x + d)) 0xFF else s

/-- PPS_EDGE (R123). -/
def ppsEdge (s : State) : State :=
  if s.get F.TSU_TIN_CTRL_MODE = 3 then
    let m := s.tbNs s.tinBase
    let prev := s.tin.lastEdge
    let good := match prev with
      | none => false
      | some p => decide (((m : Int) - p - 1000000000).natAbs ≤ 1000000)
    let s := s.setTin { s.tin with lastEdge := some m }
    let s := if good then (s.setTin { s.tin with bad := 0 }).put F.TSU_TIN_STATUS_SYNC 1
      else if prev.isSome then s.tinBad else s
    ((List.range 4).filter (fun b => s.srcOf b != 3)).foldl (fun s b => s.edgeBase b good) s
  else s

/-! ## The commands -/

/-- SYNC_TIMEOUT (R116). -/
def execSyncTimeout (tb : Nat) (s : State) : Out State :=
  .next (if s.srcOf tb = 1 then s.sourceLost tb else s)

/-- ANNOUNCE_RECEIPT_TIMEOUT (R116): with no qualified grandmaster a base that may be master is its own (R119). -/
def execAnnounceReceiptTimeout (tb : Nat) (s : State) : Out State :=
  .next (if s.srcOf tb = 1 then (s.sourceLost tb).ownGm tb else s)

/-- HOLDOVER_EXPIRED (R118). -/
def execHoldoverExpired (tb : Nat) (s : State) : Out State :=
  .next (if s.tbState tb = 3 then s.toFree tb else s)

/-- IRIG_FRAME (R122). -/
def execIrigFrame (good : Bool) (toy yearStart : Nat) (leap : Bool) (qual t : Nat) (s : State) : Out State :=
  .next (irigFrame good toy yearStart leap qual (s.advance t))

/-- IRIG_FRAME_MISSING (R122). -/
def execIrigFrameMissing (s : State) : Out State :=
  .next (if s.get F.TSU_TIN_CTRL_MODE = 1 ∨ s.get F.TSU_TIN_CTRL_MODE = 2 then s.tinBad else s)

/-- LEAP_SECOND (R122): an inserted second raises TAI − UTC by one, a deleted one lowers it; the announcement is over. -/
def execLeapSecond (ins : Bool) (s : State) : Out State :=
  .next (if s.flag F.TSU_TIN_CTRL_CF && s.flag F.TSU_TIN_STATUS_LEAP then
    let u := s.get F.TSU_TIN_UTC_UTCOFS
    (s.put F.TSU_TIN_UTC_UTCOFS (if ins then u + 1 else u + 255)).put F.TSU_TIN_STATUS_LEAP 0
  else s)

/-- PPS_EDGE (R123). -/
def execPpsEdge (t : Nat) (s : State) : Out State := .next (ppsEdge (s.advance t))

/-- PPS_EDGE_MISSING (R123). -/
def execPpsEdgeMissing (s : State) : Out State := .next (if s.get F.TSU_TIN_CTRL_MODE = 3 then s.tinBad else s)

/-- GO arms a seconds load unless steps are inhibited. -/
def State.armSetsec (s : State) (tb : Nat) : State := s.putB (F.TSU_TB_SETSEC_HI_GO tb) (!s.flag (F.TSU_TB_CTRL_STEPINH tb))

/-- SETSEC_GO (R123): ignored, and cleared at once, while steps are forbidden. -/
def execSetsecGo (tb : Nat) (s : State) : Out State := .next (s.armSetsec tb)

/-- The second boundary nearest to base time `x` lies within 10 ns of it (R134). -/
def atSecond (x : Nat) : Bool := decide (x % 1000000000 ≤ 10) || decide (999999990 ≤ x % 1000000000)

/-- The second that begins at that boundary. -/
def secondAt (x : Nat) : Nat := (x + 500000000) / 1000000000

/-- TOUT_OUTPUT (R124): low while no rulebook is active. The pulse rises ADV ns before a second boundary of the base and lasts WIDTH × 10 µs;
an IRIG-B frame begins at the boundary, in UTC by UTCOFS, with leap second pending and time quality as its control functions. At any other
instant TOUT sends nothing new. -/
def execToutOutput (t : Nat) (s : State) : Out State :=
  let s := s.advance t
  let b := s.get F.TSU_TOUT_CTRL_TB
  let q := if s.tbState b = 2 then 0 else 0xF
  .next (if !s.active || (s.get F.TSU_TOUT_CTRL_MODE != 1 && s.get F.TSU_TOUT_CTRL_MODE != 2) then s.setTin { s.tin with tout := none }
    else
      let irig := s.get F.TSU_TOUT_CTRL_MODE == 2
      let x := if irig then s.tbNs b else s.tbNs b + s.get F.TSU_TOUT_ADV
      if !atSecond x then s
      else
        let o : ToutS := { irig := irig, sec := if irig then secondAt x - s.get F.TSU_TIN_UTC_UTCOFS else secondAt x, rise := t,
                           fall := t + s.get F.TSU_TOUT_CTRL_WIDTH * 10000, leap := s.flag F.TSU_TIN_STATUS_LEAP, qual := q }
        s.setTin { s.tin with tout := some o })

/-- The level of TOUT in 1PPS mode (R124): high from the rising edge for WIDTH × 10 µs. -/
def State.toutHigh (s : State) : Bool := match s.tin.tout with
  | none => false
  | some o => s.active && !o.irig && decide (o.rise ≤ s.now) && decide (s.now < o.fall)

/-- PTP_QUEUE_POP (R129). -/
def execPtpQueuePop (port : Nat) (s : State) : Out State := .next (s.popStamp port true)

/-- GENERAL_QUEUE_POP (R129). -/
def execGeneralQueuePop (port : Nat) (s : State) : Out State := .next (s.popStamp port false)

/-- Latch the time of a base in its registers (R114, R127). -/
def State.latchTb (s : State) (b : Nat) : State :=
  (((s.put (F.TSU_TB_NS b) (s.tbNs b % 1000000000)).put (F.TSU_TB_SECLO b) (s.tbSec b)).put
    (F.TSU_TB_SECHI b) (s.tbSec b / 2 ^ 32)).put (F.TSU_TB_WRAP b) (s.tbNs b)

/-- TB_NS_READ (R114). -/
def execTbNsRead (tb t : Nat) (s : State) : Out State := .next ((s.advance t).latchTb tb)

/-- TIME_STATUS_MESSAGE (R132). -/
def execTimeStatusMessage (s : State) : Out State := .next s.sendTimeStatus

/-- A wrapped stamp extended against the base's own time (R127). -/
def extendStamp (stamp : Word) (ref : Nat) : Int :=
  (ref : Int) + signedN 32 (stamp - BitVec.ofNat 32 ref).toNat


/-- SB_PTP_FRAME (R132): the stamp is in the base that owns the port's PTP. A Pdelay_Req that no transparent clock of the host die answers is
answered in two steps, since its answer leaves from the host die. -/
def execSbPtpFrame (h : Hdr) (sb : Nat) (stamp : Word) (m : PtpMsg) (s : State) : Out State :=
  .next (s.receive 0xC h (fun s =>
    match s.ptpBase (0x20 + sb) with
    | none => s
    | some b =>
      let st := extendStamp stamp (s.tbNs b)
      let s := if m.msgType = 2 ∧ s.flag (F.TSU_TB_PTP_P2P b) ∧ !s.tcPeerDelay (0x20 + sb) then s.engineReply b 3 (0x20 + sb) m true st else s
      s.ptpTake b (0x20 + sb) m st))

/-- The engine takes the egress stamp of a message it sent through an SB port: a two-step Sync is followed up. -/
def State.sbStamp (s : State) (ftag : Word) (stamp : Option Word) : State :=
  match s.tin.sbOut.find? (fun e => e.1 == ftag) with
  | none => s
  | some e =>
    let s := s.setTin { s.tin with sbOut := s.tin.sbOut.erase e }
    match stamp with
    | none => s
    | some w => s.followUp e.2.1 e.2.2.1 e.2.2.2 (extendStamp w (s.tbNs e.2.1))

/-- SB_EGRESS_STAMP (R132). -/
def execSbEgressStamp (h : Hdr) (ftag : Word) (stamp : Option Word) (s : State) : Out State :=
  .next (s.receive 0xC h (fun s => (s.setTin { s.tin with sbStamps := s.tin.sbStamps ++ [(ftag, stamp)] }).sbStamp ftag stamp))

/-- TIME_BASE_MIRROR_ALIGNMENT (R132, R35): the payload carries the times at the serialiser stamp of the message before. -/
def execTimeBaseMirrorAlignment (t : Nat) (s : State) : Out State :=
  let s := s.advance t
  let m := if s.link.mirror.isEmpty then List.replicate 4 (0, 0) else s.link.mirror
  let pay := (List.range 4).flatMap (fun b =>
    let e := m.getD b (0, 0)
    leBytes 6 e.1 ++ zeros 2 ++ leBytes 4 e.2 ++ leBytes 1 (s.epoch b) ++ leBytes 1 (s.tbState b) ++ zeros 2)
  let s := s.send (stMsg 0 0x0020 pay)
  .next (s.setLink { s.link with
    mirror := (List.range 4).map (fun b => (s.tbSec b, s.tbNs b % 1000000000)), mirrorAt := s.now })

/-- PTP message types that SYNC_TRANSMISSION sends: Sync, Announce, Pdelay_Req, Delay_Req. -/
def ptpKind (kind : Nat) : Nat := if kind = 0 then 0 else if kind = 1 then 0xB else if kind = 2 then 2 else 1

/-- Does the engine of base `b` send messages of this kind on port `p` (R119, R120)? Sync and Announce go out of the ports on
which the base is master; Pdelay_Req under P2P out of every port; Delay_Req under E2E out of the slave port. -/
def State.ptpSends (s : State) (b kind p : Nat) : Bool :=
  if kind = 0 ∨ kind = 1 then s.ptpMaster b p
  else if kind = 2 then s.flag (F.TSU_TB_PTP_P2P b)
  else (s.tb b).slave == some p && !s.flag (F.TSU_TB_PTP_P2P b)

/-- What a message of the engine carries: an Announce its grandmaster, with the IEEE_C37_238 TLV under that profile; the others ten zero
octets where their origin time stands, which a one-step Sync replaces as it leaves. -/
def State.ptpContent (s : State) (b kind draw : Nat) : Bytes :=
  if kind = 1 then Config.announceBody draw b ++ (if s.get (F.TSU_TB_PTP_PROFILE b) = 2 then Config.c37238Tlv draw b else [])
  else zeros 10

/-- The message of a kind that base `b` makes for port `p`, which numbers it. -/
def State.ptpMake (s : State) (b kind p draw : Nat) : State × PtpMsg :=
  let q := s.port p
  (s.setPort p { q with ptpSeq := q.ptpSeq + 1 },
   { msgType := ptpKind kind, domain := s.get (F.TSU_TB_PTP_DOMAIN b), seqId := q.ptpSeq % 65536, portId := portIdentity p, corr := 0,
     twoStep := kind == 0 && s.flag (F.TSU_TB_PTP_TWOSTEP b), content := s.ptpContent b kind draw })

/-- The engine of base `b` sends a message of a kind on port `p`. -/
def State.engineSend (s : State) (b kind p : Nat) : State :=
  let (s, n) := s.draw
  let r := s.ptpMake b kind p n
  r.1.sendPtp b p r.2 (.ptp r.2)

/-- The ports named in TSU_TB_PTPPORTS, numbered as in R106. -/
def State.ptpPorts (s : State) (b : Nat) : List Nat :=
  (maskBits 20 (s.get (F.TSU_TB_PTPPORTS_PORTS b))).map (fun k => if k < 16 then k else 0x20 + (k - 16))

/-- The ports whose P2P transparent clock measures link delay with base `b` and that no base uses (R121). -/
def State.tcDelayPorts (s : State) (b : Nat) : List Nat :=
  ((List.range 16) ++ [0x20, 0x21, 0x22, 0x23]).filter (fun p => s.tcPeerDelay p && (s.ptpBase p).isNone && s.stampTb p == b)

/-- A transparent clock sends a Pdelay_Req on its port; that of an SB pair runs on the host die. -/
def State.tcPdelayReq (s : State) (b p : Nat) : State :=
  let r := s.ptpMake b 2 p 0
  r.1.queuePtp p r.2 (.ptp r.2)

/-- SYNC_TRANSMISSION (R119, R121): a base that is slave nowhere announces itself as grandmaster. -/
def execSyncTransmission (tb kind : Nat) (s : State) : Out State :=
  let s := if s.srcOf tb = 1 then
      let s := if kind = 1 ∧ (s.tb tb).slave = none then s.ownGm tb else s
      (s.ptpPorts tb).foldl (fun s p => if s.ptpSends tb kind p then s.engineSend tb kind p else s) s
    else s
  .next (if kind = 2 then (s.tcDelayPorts tb).foldl (fun s p => s.tcPdelayReq tb p) s else s)

end Sys2Proof.Machine
end

