-- ==== Sys2Proof/Machine/Calibration.lean ====
section
/-!
DEFINITION. The calibration page (R297) and the latencies in force (R125, R133, R138).
-/
namespace Sys2Proof.Machine

/-- The RXLAT and TXLAT entry at a page offset, in the layout of TSU_PORT_LAT. -/
def State.pageLat (s : State) (o : Nat) : Nat × Nat := (s.pageField o 2, s.pageField (o + 2) 2)

/-- Rate index of a PB or TW port in the page (R297), by PRT_CTRL.MODE and PRT_STATUS.RATE. -/
def rateIdx (mode rate : Nat) : Nat :=
  if mode = 1 then 0 else if mode = 2 then 1 + Nat.min rate 2 else if mode = 3 then 4 else if mode = 4 then 5 else 6

/-- Rate index of an SB port in the page (R297), by SBP_CTRL.MODE and SBP_STATUS.RATE. -/
def sbRateIdx (mode rate : Nat) : Nat := if mode = 2 then Nat.min rate 2 else if mode = 3 then 3 else 4

/-- A latency with the drift correction of stage 0x07 on top (R52, R125). -/
def State.drifted (s : State) (port lat : Nat) (egress : Bool) : Nat :=
  match s.power.stampDraw with
  | none => lat
  | some n => wrapN 16 ((lat : Int) + Config.stampDrift n port egress)

/-- Put the latencies in force of a PB, TW or SB port in its registers (R125, R133). -/
def State.showLat (s : State) (p : Nat) : State :=
  if p < 0x20 then
    let l := s.pageLat (388 + 4 * (7 * p + rateIdx (s.get (F.PRT_CTRL_MODE p)) (s.get (F.PRT_STATUS_RATE p))))
    (s.put (F.TSU_PORT_LAT_RXLAT p) (s.drifted p l.1 false)).put (F.TSU_PORT_LAT_TXLAT p) (s.drifted p l.2 true)
  else
    let i := sbOf p
    let l := s.pageLat (940 + 4 * (5 * i + sbRateIdx (s.get (F.SBP_CTRL_MODE i)) (s.get (F.SBP_STATUS_RATE i))))
    (s.put (F.SBP_PORT_LAT_RXLAT i) l.1).put (F.SBP_PORT_LAT_TXLAT i) l.2

/-- Put the latencies of an FT3 receiver in its register (R138). -/
def State.showFtLat (s : State) (f : Nat) : State :=
  let l := s.pageLat (892 + 4 * (3 * f + Nat.min (s.get (F.PRT_FTCTRL_RATE f)) 2))
  (s.put (F.TSU_FT_RXLAT f) (s.drifted (18 + f) l.1 false)).put (F.TSU_FT_TXLAT f) (s.drifted (18 + f) l.2 true)

/-- The ports with stamp registers on the field die. -/
def fieldPorts : List Nat := List.range 18

/-- Show every latency anew: after stage 0x07 and after a page write (R52, R298). -/
def State.showLats (s : State) : State :=
  let s := fieldPorts.foldl State.showLat s
  let s := [0x20, 0x21, 0x22, 0x23].foldl State.showLat s
  (List.range 4).foldl State.showFtLat s

end Sys2Proof.Machine
end

