-- ==== Sys2Proof/Machine/Ports.lean ====
section
/-!
DEFINITION. Ports: transmission, PAUSE, rate step-down, MT half duplex, link state, statistics and the trip drives (R85 to R111, R382).
-/
namespace Sys2Proof.Machine

/-- The port is on the host die (R106): its events stay in the manager's queue. -/
def isHostPort (p : Nat) : Bool := decide (0x20 ≤ p)

/-- The page of a host-die port: 0 to 3 SB, 4 MT (R111). -/
def hostPage (p : Nat) : Nat := p - 0x20

/-- A port's field, from its field-die page or its host-die page. -/
def portFld (fieldSide hostSide : Nat → Fld) (p : Nat) : Fld :=
  if p < 0x20 then fieldSide p else hostSide (hostPage p)

/-- Raise a port event where R106 puts it. -/
def State.raisePort (s : State) (code p : Nat) : State := if isHostPort p then s.raiseHost code p else s.raise code p

def linkFld := portFld F.PRT_STATUS_LINK F.SBP_STATUS_LINK
def pausedFld := portFld F.PRT_STATUS_PAUSED F.SBP_STATUS_PAUSED
def quantaFld := portFld F.PRT_PAUSE_QUANTA F.SBP_PAUSE_QUANTA
def startFld := portFld F.PRT_TXTHR_START F.SBP_TXTHR_START
def snfFld := portFld F.PRT_STATUS_SNF F.SBP_STATUS_SNF

/-- A port of the host die while that is suspended in Hold-up: it is down (R45, R406). -/
def State.hostDown (s : State) (p : Nat) : Bool := isHostPort p && s.host.suspended

/-! ## Time on the line (R85, R96) -/

/-- Tenths of ns that a byte takes at a rate as PRT_STATUS.RATE codes it. -/
def byteTime (rate : Nat) : Nat := [8000, 800, 80, 32, 8].getD rate 8

/-- The rate in force on a port, as PRT_STATUS.RATE codes it: an SB page codes 10 Gb/s as 3 (R111). -/
def State.rateOf (s : State) (p : Nat) : Nat :=
  if p < 0x20 then s.get (F.PRT_STATUS_RATE p)
  else if p = 0x24 then s.get F.MTP_STATUS_RATE
  else if s.get (F.SBP_STATUS_RATE (hostPage p)) = 3 then 4 else s.get (F.SBP_STATUS_RATE (hostPage p))

/-- Ns that `n` bytes take on a port. -/
def State.lineTime (s : State) (p n : Nat) : Nat := n * byteTime (s.rateOf p) / 10

/-- Raw time at which the frame being sent ends. -/
def State.sendEnd (s : State) (p : Nat) : Nat := match (s.port p).cur with
  | none => 0
  | some f => (s.port p).curAt + s.lineTime p f.len

/-! ## Transmission (R92, R94, R129, R130) -/

/-- The queue served next: the highest one that holds a frame (R92). -/
def nextQueue (l : List TxFrame) : Option Nat :=
  match l with
  | [] => none
  | _ => some (maxN (l.map (fun f => f.queue)))

/-- Take the oldest frame of the highest queue. -/
def takeFrame (l : List TxFrame) : Option (TxFrame × List TxFrame) :=
  match nextQueue l with
  | none => none
  | some q => match l.find? (fun f => f.queue == q) with
    | none => none
    | some f => some (f, l.erase f)

/-- Count a frame sent. -/
def State.countTx (s : State) (p len : Nat) : State :=
  if p < 0x20 then
    (s.stat (F.PRT_TXFRM_LO p) (F.PRT_TXFRM_LIVE p) 1).stat (F.PRT_TXOCT_LO p) (F.PRT_TXOCT_LIVE p) len
  else
    (s.stat (F.SBP_TXFRM_LO (hostPage p)) (F.SBP_TXFRM_LIVE (hostPage p)) 1).stat
      (F.SBP_TXOCT_LO (hostPage p)) (F.SBP_TXOCT_LIVE (hostPage p)) len

/-- Stamp a frame that leaves at raw time `out`, if it is flagged (R129): PTP event messages into the PTP queue, any other flagged frame into
the general queue. A lost stamp is noted for the DMA channel that waits (R130), and the engine follows up a two-step message whose stamp it
has (R119). -/
def State.stampTx (s : State) (p : Nat) (f : TxFrame) (out : Nat) : State :=
  let one := fun (s : State) (ptp : Bool) (tag : Word) =>
    let r := s.pushStamp p ptp tag out
    let s := match f.chan with
      | none => r.1
      | some c => if r.2 then r.1.setChan c { r.1.chan c with stampLost := true } else r.1
    (s, r.2)
  match f.body.event with
  | some m =>
    let r := one s true (ptpTag m)
    match f.body, s.ptpBase p with
    | .ptp m, some b => if !r.2 && decide (p < 0x20) then r.1.followUp b p m (s.portTime p b out) else r.1
    | _, _ => r.1
  | none => match f.stamp with
    | none => s
    | some tag => (one s false tag).1

/-- Start a frame on a port, its start-of-frame delimiter passing at raw time `raw`. -/
def State.startFrame (s : State) (p : Nat) (f : TxFrame) (rest : List TxFrame) (raw : Nat) : State :=
  let q := s.port p
  let s := s.setPort p { q with txq := rest, hand := none, sent := q.cur, badCrc := false }
  let out := s.txStamp p raw
  let r := s.ptpLeaves p f.body out
  let f := { f with body := r.2 }
  let s := (r.1.setPort p { r.1.port p with cur := some f, curAt := raw }).countTx p f.len
  s.stampTx p f out

/-! ## PAUSE (R95, R96) -/

/-- MT runs half duplex: forced, or by auto-negotiation (R100, R111). -/
def State.mtHalfDuplex (s : State) : Bool :=
  let m := s.get F.MTP_CTRL_MODE
  if m = 1 ∨ m = 2 then s.flag F.MTP_CTRL_HDX else m == 0 && s.host.mtHalf

/-- The port honours PAUSE: never on TW0 and TW1, nor on MT in half duplex (R95, R96). -/
def State.honoursPause (s : State) (p : Nat) : Bool :=
  if p < 16 then s.flag (F.PRT_CTRL_PAUSE_EN p)
  else if p < 0x20 then false
  else s.flag (F.SBP_CTRL_PAUSE_EN (hostPage p)) && !(p == 0x24 && s.mtHalfDuplex)

/-- Pause quanta remaining (R96): a quantum is 512 bit times at the current rate, and the pause runs from its start. -/
def State.pauseLeft (s : State) (p : Nat) : Nat := match (s.port p).pause with
  | none => 0
  | some (t, n) => n - (s.now - t) * 10 / (64 * byteTime (s.rateOf p))

/-- A pause holds transmission now. -/
def State.pausedNow (s : State) (p : Nat) : Bool := match (s.port p).pause with
  | none => false
  | some (t, _) => decide (t ≤ s.now) && s.pauseLeft p != 0

/-- Show the pause in the port's registers; one that has run out is over. -/
def State.showPause (s : State) (p : Nat) : State :=
  let s := (s.putB (pausedFld p) (s.pausedNow p)).put (quantaFld p) (s.pauseLeft p)
  if s.pauseLeft p = 0 then s.setPort p { s.port p with pause := none } else s

/-- Set the pause of a port (R96): it runs from now, or from the end of the frame being sent; 0 quanta ends it, a new value replaces the
old. -/
def State.setPause (s : State) (p quanta : Nat) : State :=
  (s.setPort p { s.port p with pause := some (Nat.max s.now (s.sendEnd p), quanta) }).showPause p

/-- A PAUSE frame is received (R95, R96). -/
def State.pauseFrame (s : State) (p quanta : Nat) : State :=
  let s := s.count (portFld F.PRT_PAUSERX F.SBP_PAUSERX p)
  if s.honoursPause p then s.setPause p quanta else s

/-- PAUSE_FRAME. -/
def execPauseFrame (port quanta t : Nat) (s : State) : Out State :=
  let s := s.advance t
  .next (if s.hostDown port then s else s.pauseFrame port quanta)

/-- PAUSE_EXPIRED (R96): the registers show what remains; a pause whose quanta have run out is over. -/
def execPauseExpired (port : Nat) (s : State) (t : Nat := 0) : Out State := .next ((s.advance t).showPause port)

/-! ## Starting a frame (R92, R94, R96, R98, R99, R406) -/

/-- In Park a PB port sends PTP frames only (R406). -/
def State.maySend (s : State) (p : Nat) (f : TxFrame) : Bool :=
  !(decide (2 ≤ s.get F.PWR_STATE) && decide (p < 16)) || f.body.event.isSome || (match f.body with
    | .ptp _ => true
    | .tc _ _ _ => true
    | _ => false)

/-- The frame served next on a port, with those that stay. -/
def State.nextFrame (s : State) (p : Nat) : Option (TxFrame × List TxFrame) :=
  match takeFrame ((s.port p).txq.filter (s.maySend p)) with
  | none => none
  | some (f, _) => some (f, (s.port p).txq.erase f)

/-- Half duplex on MT (R99): a roll is over, and the gap of 96 bit times, with the 64 of the preamble, has passed since the carrier and the
port's own frame ended. -/
def State.mtClear (s : State) : Bool :=
  s.host.roll.isNone && decide (Nat.max s.host.carrier (s.sendEnd 0x24) + s.lineTime 0x24 20 ≤ s.now)

/-- The port may start a frame: its link is up, no pause holds it and the frame before has ended (R92, R96). -/
def State.canStart (s : State) (p : Nat) : Bool :=
  s.flag (linkFld p) && !s.pausedNow p && decide (s.sendEnd p ≤ s.now) && (p != 0x24 || !s.mtHalfDuplex || s.mtClear)

/-- A frame of the manager, whole in the buffer, from the port's own address (R108). -/
def State.managerFrame (s : State) (p len : Nat) (ftag : Option Word) : TxFrame :=
  { queue := 0, len := len, src := s.macOfPort p, body := .dma [], red := none, stamp := ftag, chan := none }

/-- A port starts its next frame if START bytes or the whole frame are in the buffer (R94); on MT first the one that collided. On a
host-die port whose queues hold nothing it is one of the manager's, whole in the buffer. -/
def State.startNext (s : State) (p buffered : Nat) (ftag : Option Word) (t : Nat) : State :=
  match (s.port p).hand with
  | some f => s.startFrame p f (s.port p).txq t
  | none =>
    let s := if p = 0x24 then s.setHost { s.host with attempts := 0 } else s
    match s.nextFrame p with
    | some (f, rest) => if Nat.min (s.get (startFld p)) f.len ≤ buffered then s.startFrame p f rest t else s
    | none => if isHostPort p then s.startFrame p (s.managerFrame p buffered ftag) [] t else s

/-- TRANSMIT_START (R94): during a renegotiation a frame is queued (R98). -/
def execTransmitStart (port buffered t : Nat) (s : State) (ftag : Option Word := none) : Out State :=
  let s := (s.advance t).showPause port
  .next (if s.hostDown port then s
    else if isHostPort port && s.flag (F.SBP_STATUS_RENEG (hostPage port)) then s.queueTx port (s.managerFrame port buffered ftag)
    else if s.canStart port then s.startNext port buffered ftag t
    else s)

/-- Store a transmit threshold and show store-and-forward (R94, R107). -/
def State.setStart (s : State) (p v : Nat) : State := (s.put (startFld p) v).putB (snfFld p) (decide (1536 ≤ v))

/-- The field-die port whose PRT_TXTHR lies at an address. -/
def startPort (a : Nat) : Option Nat := unitAt 0x01100000 0x1000 18 0x08 a

/-- A write of PRT_TXTHR: rounded down to a multiple of 64, then clamped to 64 to 1,536 (R107). -/
def State.writeTxthr (s : State) (p : Nat) (v : Word) : State :=
  s.setStart p (clampN 64 1536 (v.toNat % 2048 / 64 * 64))

/-- TRANSMIT_UNDERRUN (R94): none occurs on a store-and-forward port or without a frame. -/
def execTransmitUnderrun (port : Nat) (s : State) : Out State :=
  let q := s.port port
  .next (if q.cur.isSome && !s.flag (snfFld port) then
    let s := s.setPort port { q with cur := none, sent := q.cur, badCrc := true }
    let s := (s.count (portFld F.PRT_UNDERRUN F.SBP_UNDERRUN port)).raisePort 0x0303 port
    s.setStart port (Nat.min (s.get (startFld port) + 256) 1536)
  else s)

/-! ## Rate step-down (R97, R98) -/

/-- The rate an SB port was declared to run at. -/
def State.declRate (s : State) (i : Nat) : Nat := Sp.get 0 s.host.declRate i

/-- Step-down is inhibited, and a mark ignored (R97). -/
def State.sdInhibited (s : State) (i : Nat) : Bool :=
  s.get (F.SBP_CTRL_MODE i) == 3 || s.get (F.SBP_CTRL_MODE i) == 5 || (s.ptpBase (0x20 + i)).isSome || s.flag (F.SBP_PORT_CTRL_TCEN i)

/-- Step-down applies to the port (R97). -/
def State.sdApplies (s : State) (i : Nat) : Bool :=
  s.flag (F.SBP_CTRL_SDALLOW i) && s.get (F.SBP_CTRL_MODE i) == 2 && !s.sdInhibited i

/-- Start a renegotiation to a rate. -/
def State.startReneg (s : State) (i rate : Nat) : State :=
  (s.put (F.SBP_STATUS_RENEG i) 1).setHost { s.host with
    reneg := Sp.put 0 s.host.reneg i (rate + 1), low := Sp.put 0 s.host.low i 0 }

/-- The port runs below its declared rate. -/
def State.steppedDown (s : State) (i : Nat) : Bool :=
  s.get (F.SBP_STATUS_RATE i) == 1 && s.declRate i != 1

/-- A step-up condition (R98): it starts a renegotiation, or follows the step-down in progress. -/
def State.stepUp (s : State) (i : Nat) : State :=
  if s.flag (F.SBP_STATUS_RENEG i) then
    if Sp.get 0 s.host.reneg i = 2 then s.setHost { s.host with upDue := Sp.put 0 s.host.upDue i 1 } else s
  else if s.steppedDown i then s.startReneg i (s.declRate i)
  else s

/-- The port steps down: a renegotiation to 100 Mb/s is in progress. -/
def State.steppingDown (s : State) (i : Nat) : Bool :=
  s.flag (F.SBP_STATUS_RENEG i) && Sp.get 0 s.host.reneg i == 2 && s.declRate i != 1

/-- Show SDINH; a port that is stepped down, or steps down, steps up when step-down is now inhibited (R97, R98). -/
def State.showSdinh (s : State) (i : Nat) : State :=
  let x := s.sdInhibited i
  let s := s.putB (F.SBP_STATUS_SDINH i) x
  if x && (s.steppedDown i || s.steppingDown i) then s.stepUp i else s

/-- Bits that a rate allows in 100 ms (R98). -/
def bitsAllowed (rate : Nat) : Nat :=
  if rate = 0 then 1000000 else if rate = 1 then 10000000 else if rate = 2 then 100000000 else 1000000000

/-- UTILISATION_WINDOW (R98). -/
def execUtilisationWindow (sb rxBits txBits : Nat) (s : State) : Out State :=
  let u := Nat.max rxBits txBits * 100
  let a := bitsAllowed (s.get (F.SBP_STATUS_RATE sb))
  .next (if !s.sdApplies sb || s.host.suspended then s
    else if s.get (F.SBP_STATUS_RATE sb) = 1 then (if 40 * a < u then s.stepUp sb else s)
    else if s.flag (F.SBP_STATUS_RENEG sb) then s
    else
      let n := if u < 2 * a then Sp.get 0 s.host.low sb + 1 else 0
      let s := s.setHost { s.host with low := Sp.put 0 s.host.low sb n }
      if 10 ≤ n then s.startReneg sb 1 else s)

/-- RENEGOTIATION_COMPLETE (R98). -/
def execRenegotiationComplete (sb : Nat) (s : State) : Out State :=
  .next (if s.flag (F.SBP_STATUS_RENEG sb) && !s.host.suspended then
    let s := ((s.put (F.SBP_STATUS_RATE sb) (Sp.get 0 s.host.reneg sb - 1)).put (F.SBP_STATUS_RENEG sb) 0)
    let s := (s.raiseHost 0x0304 (0x20 + sb)).showLat (0x20 + sb)
    let due := Sp.get 0 s.host.upDue sb
    let s := s.setHost { s.host with reneg := Sp.put 0 s.host.reneg sb 0, upDue := Sp.put 0 s.host.upDue sb 0 }
    if due = 1 then s.stepUp sb else s
  else s)

/-- TRANSMIT_BUFFER_HALF_FULL (R98). -/
def execTransmitBufferHalfFull (sb : Nat) (s : State) : Out State := .next (if s.host.suspended then s else s.stepUp sb)

/-! ## MT half duplex (R99, R100) -/

/-- Take a frame that did not get through out of the transmit counters. -/
def State.uncountTx (s : State) (p len : Nat) : State :=
  if p < 0x20 then
    (s.stat (F.PRT_TXFRM_LO p) (F.PRT_TXFRM_LIVE p) (2 ^ 48 - 1)).stat (F.PRT_TXOCT_LO p) (F.PRT_TXOCT_LIVE p) (2 ^ 48 - len)
  else
    (s.stat (F.SBP_TXFRM_LO (hostPage p)) (F.SBP_TXFRM_LIVE (hostPage p)) (2 ^ 48 - 1)).stat
      (F.SBP_TXOCT_LO (hostPage p)) (F.SBP_TXOCT_LIVE (hostPage p)) (2 ^ 48 - len)

/-- The frame in hand on MT is over: nothing is sent and no roll waits. -/
def State.mtDrop (s : State) : State :=
  (s.setPort 0x24 { s.port 0x24 with cur := none }).setHost { s.host with attempts := 0, roll := none }

/-- The frame that collided waits for a roll of 0 to 2^k − 1 slot times after the jam (R99). -/
def State.mtRetry (s : State) (f : TxFrame) (jam : Nat) : State :=
  let n := s.host.attempts + 1
  let d := s.draw
  let r := Config.mtRoll d.2 % 2 ^ Nat.min n 10
  (d.1.setPort 0x24 { d.1.port 0x24 with cur := none, hand := some f }).setHost
    { d.1.host with attempts := n, roll := some r, rollEnd := jam + d.1.lineTime 0x24 (64 * r) }

/-- COLLISION, `bits` bit times into the frame being sent on MT, in half duplex only: a 32-bit jam follows. A collision after the first
512 bit times is late; the 16th attempt discards the frame; otherwise a roll of 0 to 2^k − 1 slot times begins, after which the frame is
tried again (R99, R100). -/
def execCollision (bits : Nat) (s : State) (t : Nat := 0) : Out State :=
  let s := s.advance t
  .next (match (s.port 0x24).cur with
    | none => s
    | some f =>
      if !s.mtHalfDuplex || s.host.suspended then s
      else
        let jam := t + s.lineTime 0x24 4
        let s := (s.uncountTx 0x24 f.len).setHost { s.host with carrier := jam }
        if 512 < bits then (s.count F.MTP_LATECOL).mtDrop
        else if s.host.attempts + 1 = 16 then (s.count F.MTP_EXCOL).mtDrop
        else s.mtRetry f jam)

/-- ROLL_EXPIRED (R99): once its slot times have passed the roll is over, and the frame is the next to start. -/
def execRollExpired (s : State) (t : Nat := 0) : Out State :=
  let s := s.advance t
  .next (if s.host.rollEnd ≤ s.now then s.setHost { s.host with roll := none } else s)

/-! ## Link state (R106) -/

/-- A host-die port's address is individual and not zero (R108). -/
def State.hostMacOk (s : State) (i : Nat) : Bool :=
  (s.get (F.SBP_MAC_LO i) != 0 || s.get (F.SBP_MAC_HI i) != 0) && !bit (s.get (F.SBP_MAC_LO i)) 0

/-- R85 lists the PHY type for the port, as MODE codes it: PB0 to PB11, PB12 to PB15, TW0 and TW1, SB0 to SB3. -/
def phyListed (p mode : Nat) : Bool :=
  if p < 12 then decide (1 ≤ mode) && decide (mode ≤ 4)
  else if p < 16 then decide (1 ≤ mode) && decide (mode ≤ 5)
  else if p < 0x20 then mode == 5
  else mode == 2 || mode == 3 || mode == 5

/-- The port is switched on, with a PHY type that R85 lists. MT's mode 3 is off (R111), and a host-die port with no good address stays off
(R108). -/
def State.portOn (s : State) (p : Nat) : Bool :=
  if p < 0x20 then phyListed p (s.get (F.PRT_CTRL_MODE p))
  else if p = 0x24 then s.get F.MTP_CTRL_MODE != 3 && s.hostMacOk 4
  else phyListed p (s.get (F.SBP_CTRL_MODE (hostPage p))) && s.hostMacOk (hostPage p)

/-- The rate a PHY type runs at, as PRT_STATUS.RATE codes it (R85): SGMII takes 1,000 Mb/s with AN = 0, else the rate its PHY signals, up
to that; the other types have one rate. -/
def phyRate (mode : Nat) (an : Bool) (rate : Nat) : Nat :=
  if mode = 1 then 1 else if mode = 2 then (if an then Nat.min rate 2 else 2) else if mode = 3 then 2 else if mode = 4 then 3 else 4

/-- The rate of MT: the one forced, or the one negotiated, 10 or 100 Mb/s. -/
def State.mtRate (s : State) (rate : Nat) : Nat :=
  if s.get F.MTP_CTRL_MODE = 1 then 0 else if s.get F.MTP_CTRL_MODE = 2 then 1 else Nat.min (rate % 8) 1

/-- An SB port's link comes up: at its declared rate, which a renegotiation in progress does not change (R98). -/
def State.sbLinkUp (s : State) (i rate : Nat) : State :=
  let r := phyRate (s.get (F.SBP_CTRL_MODE i)) (s.flag (F.SBP_CTRL_AN i)) rate
  let r := if r = 4 then 3 else r
  if s.flag (F.SBP_STATUS_RENEG i) then s
  else ((((s.put (F.SBP_STATUS_RATE i) r).setHost { s.host with declRate := Sp.put 0 s.host.declRate i r })).showLat (0x20 + i)).showSdinh i

/-- PORT_LINK_UP: `rate` is what the PHY reports, coded as in PRT_STATUS.RATE; on MT 8 is added for half duplex by auto-negotiation. -/
def execPortLinkUp (port rate : Nat) (s : State) : Out State :=
  .next (if s.portOn port && !s.hostDown port then
    let s := s.put (linkFld port) 1
    if port < 0x20 then
      (s.put (F.PRT_STATUS_RATE port) (phyRate (s.get (F.PRT_CTRL_MODE port)) (s.flag (F.PRT_CTRL_AN port)) rate)).showLat port
    else if port = 0x24 then (s.put F.MTP_STATUS_RATE (s.mtRate rate)).setHost { s.host with mtHalf := decide (8 ≤ rate) }
    else s.sbLinkUp (hostPage port) rate
  else s)

/-- LINK_STABLE. -/
def execLinkStable (port : Nat) (s : State) : Out State :=
  .next (if s.flag (linkFld port) then s.raisePort 0x0301 port else s)

/-- A port loses its link; a renegotiation in progress goes on to the declared rate (R98). -/
def State.portDown (s : State) (port : Nat) : State :=
  if s.flag (linkFld port) then
    let s := s.put (linkFld port) 0
    let s := (s.raisePort 0x0302 port).count (portFld F.PRT_LINKDN F.SBP_LINKDN port)
    let i := hostPage port
    if isHostPort port && s.flag (F.SBP_STATUS_RENEG i) then
      (s.startReneg i (s.declRate i)).setHost { (s.startReneg i (s.declRate i)).host with upDue := Sp.put 0 s.host.upDue i 0 }
    else s
  else s

/-! ## Statistics (R106) -/

/-- A read of a wide counter's LO register latches its HI register. The results of the AFE have their own latch (R304). -/
def State.latchHi (s : State) (a : Nat) : State :=
  if 0x01810000 ≤ a ∧ a < 0x01900000 then s
  else match (fieldsAt a).find? (fun f => f.lo == 32), (fieldsAt (a + 4)).find? (fun f => f.lo == 0) with
  | some live, some hi => s.put hi (s.get live)
  | _, _ => s

/-- STAT_COUNTER_LO_READ (R106). -/
def execStatCounterLoRead (addr : Word) (s : State) : Out State := .next (s.latchHi addr.toNat)

/-! ## Trip drives (R103, R104, R110, R382) -/

/-- The token gate for the trip drives (R381, R382): open in Single mode, else while the module holds a token. -/
def State.gateOpen (s : State) : Bool := s.get F.TOK_CTRL_MODE == 0 || s.get F.TOK_STATUS_HELD != 0

/-- A forced open applies to drive `d` (R104): before READY, with no rulebook, with the gate closed, in Park, from the owner's
reset to its next commit, and from a take to the first departure after it (R394). -/
def State.tripForced (s : State) (d : Nat) : Bool :=
  !s.ready || !s.active || !s.gateOpen || decide (2 ≤ s.get F.PWR_STATE) || (s.trip d).ownerReset || s.tok.resume

/-- Open a drive. -/
def State.openTrip (s : State) (d : Nat) : State :=
  (s.put (F.PRT_TRIP_ON d) 0).setTrip d { s.trip d with closedAt := none }

/-- Drive `d` follows its committed bit under R103 and R104; during a B reset it holds its state (R75). -/
def State.driveTrip (s : State) (d : Nat) : State :=
  if s.power.kind = some .b then s
  else if s.tripForced d then (s.put (F.PRT_TRIP_FORCED d) 1).openTrip d
  else
    let s := s.put (F.PRT_TRIP_FORCED d) 0
    if s.get (F.PRT_TRIP_OWNER d) = 0 then s.openTrip d
    else if s.flag (F.PRT_TRIP_CMD d) then
      if s.flag (F.PRT_TRIP_ON d) || (s.trip d).overOff then s
      else (s.put (F.PRT_TRIP_ON d) 1).setTrip d { s.trip d with closedAt := some s.now }
    else match (s.trip d).closedAt with
      | none => s.openTrip d
      | some c => if s.now < c + s.get (F.PRT_TRIP_MINON d) * 1000000 then s else s.openTrip d

/-- Both drives. -/
def State.driveTrips (s : State) : State := (s.driveTrip 0).driveTrip 1

/-- MINON_EXPIRED (R103). -/
def execMinonExpired (drive t : Nat) (s : State) : Out State := .next ((s.advance t).driveTrip drive)

/-- TRIP_OVERLOAD (R104). -/
def execTripOverload (drive : Nat) (s : State) : Out State :=
  .next (if s.flag (F.PRT_TRIP_ON drive) then
    let s := (s.put (F.PRT_TRIP_OVERLOAD drive) 1).openTrip drive
    s.setTrip drive { s.trip drive with overOff := true }
  else s)

/-- OVERLOAD_RETRY (R104, R110): tried while the drive is still commanded; a retry that succeeds clears OVERLOAD. -/
def execOverloadRetry (drive : Nat) (overloaded : Bool) (t : Nat) (s : State) : Out State :=
  let s := s.advance t
  .next (if (s.trip drive).overOff && s.flag (F.PRT_TRIP_CMD drive) && !s.tripForced drive && !overloaded then
    ((s.put (F.PRT_TRIP_OVERLOAD drive) 0).setTrip drive { s.trip drive with overOff := false }).driveTrip drive
  else s)

/-- OPEN_LOAD (R104). -/
def execOpenLoadFound (drive : Nat) (s : State) : Out State :=
  .next (if s.flag (F.PRT_TRIP_ON drive) then s.put (F.PRT_TRIP_OPENLOAD drive) 1 else s)

/-- OPEN_LOAD_CLEARED (R110). -/
def execOpenLoadCleared (drive : Nat) (s : State) : Out State := .next (s.put (F.PRT_TRIP_OPENLOAD drive) 0)

end Sys2Proof.Machine
end

