-- ==== Sys2Proof/Machine/Banks.lean ====
section
/-!
DEFINITION. The two banks of the timetable: switch requests, their check, cancelling, slot writes (R151 to R153, R156).
-/
namespace Sys2Proof.Machine

/-- A switch request (R152). Without a rulebook it is ignored; with one pending it has no further effect (R153). -/
def State.bankRequest (s : State) : State :=
  if !s.active || s.flag F.TTB_BANK_SEL_PENDING then s
  else
    let s := (((s.put F.TTB_BANK_SEL_REFUSED 0).put F.TTB_BANK_SEL_PENDING 1).put F.TTB_BANK_SEL_CHECKING 1).put F.TTB_BANK_SEL_SWITCH 1
    s.setTtb { s.ttb with checked := false, readyAt := s.now }

/-- The switch is over: refused, cancelled, discarded or done; the bank unlocks. -/
def State.bankIdle (s : State) : State :=
  let s := ((s.put F.TTB_BANK_SEL_PENDING 0).put F.TTB_BANK_SEL_CHECKING 0).put F.TTB_BANK_SEL_SWITCH 0
  s.setTtb { s.ttb with checked := false }

/-- The check of the inactive bank ends (R152). -/
def State.bankChecked (s : State) : State :=
  if !s.flag F.TTB_BANK_SEL_CHECKING then s
  else match checkBank s.cycleNs (s.bank (1 - s.activeBank)) with
    | some i => (((s.bankIdle).put F.TTB_BANK_SEL_REFUSED 1).count F.TTB_CNT_SPACING).raise 0x0703 i
    | none =>
      let s := s.put F.TTB_BANK_SEL_CHECKING 0
      s.setTtb { s.ttb with checked := true, readyAt := s.now }

/-- Cancel a pending switch (R153). -/
def State.bankCancel (s : State) : State := if s.flag F.TTB_BANK_SEL_PENDING then s.bankIdle else s

/-- The switch at a boundary served now: a request or a check that ended in this TIME clock of 4 ns waits (R153). -/
def State.bankBoundary (s : State) : State :=
  if s.ttb.checked && s.flag F.TTB_BANK_SEL_PENDING && decide (s.ttb.readyAt / 4 < s.now / 4) then
    let n := 1 - s.activeBank
    ((s.put F.TTB_BANK_SEL_ACTIVE n).bankIdle).raise 0x0701 n
  else s

/-- A bank whose slots cannot be written (R151): the active one, and the other from a request until the switch is over. -/
def State.bankLocked (s : State) (b : Nat) : Bool := s.active && (b == s.activeBank || s.flag F.TTB_BANK_SEL_PENDING)

/-- The register address of a slot word (R157). -/
def slotAddr (b i w : Nat) : Nat := 0x01214000 + 0x4000 * b + 32 * i + 4 * w

/-- A slot write (R151). -/
def State.writeSlot (s : State) (b i w : Nat) (v : Word) : State :=
  if s.bankLocked b then (s.count F.TTB_CNT_REFUSED).raise 0x0702 i else s.storeWord (slotAddr b i w) v

/-- Replace every slot of a bank (R83, R151). -/
def State.putBank (s : State) (b : Nat) (l : List SlotV) : State :=
  (List.zip (List.range 512) l).foldl (fun s e => s.putSlot b e.1 e.2) s

/-- BANK_SWITCH_REQUEST (R152). -/
def execBankSwitchRequest (t : Nat) (s : State) : Out State := .next (s.advance t).bankRequest

/-- BANK_CHECK_COMPLETE (R152). -/
def execBankCheckComplete (t : Nat) (s : State) : Out State := .next (s.advance t).bankChecked

/-- BANK_SWITCH_CANCEL (R153): CANCEL acts before SWITCH. -/
def execBankSwitchCancel (switch : Bool) (t : Nat) (s : State) : Out State :=
  let s := (s.advance t).bankCancel
  .next (if switch then s.bankRequest else s)

/-- SLOT_WRITE (R151). -/
def execSlotWrite (bank slot w : Nat) (val : Word) (s : State) : Out State := .next (s.writeSlot bank slot w val)

/-- CYCNUM_LO_READ (R156). -/
def execCycnumLoRead (s : State) : Out State := .next (s.latchHi F.TTB_CYCNUM_LO_CYCLO.addr)

end Sys2Proof.Machine
end

