-- ==== Sys2Proof/Machine/Image.lean ====
section
/-!
DEFINITION. Digests and signatures, and the rulebook image: header, section table, CROSSING (R63 to R67).
-/
namespace Sys2Proof.Machine

/-- SHA-256 as 32 bytes. -/
def sha256 (d : Bytes) : Bytes := beBytes 32 (Config.sha256 d).toNat

/-- HMAC-SHA-256 as 32 bytes. -/
def hmac256 (k d : Bytes) : Bytes := beBytes 32 (Config.hmac256 k d).toNat

/-- AES-256-GMAC as 16 bytes. -/
def gmac (k iv d : Bytes) : Bytes := beBytes 16 (Config.gmac k iv d).toNat

/-- The AES-256-GCM tag as 16 bytes. -/
def gcmTag (k iv aad c : Bytes) : Bytes := beBytes 16 (Config.gcmTag k iv aad c).toNat

/-- AES-256-GCM encryption and decryption of a byte string: the key stream added. -/
def gcmCrypt (k iv d : Bytes) : Bytes :=
  (List.zip (List.range d.length) d).map (fun p => p.2 ^^^ Config.gcmStream k iv p.1)

/-- HKDF-SHA-256 with 32 bytes of output. -/
def hkdf (ikm salt info : Bytes) : Bytes := beBytes 32 (Config.hkdf ikm salt info).toNat

/-- The key check value (R368). -/
def kcvOf (key : Bytes) : Bytes :=
  (beBytes 16 (Config.cmac key ([0x5A, 0x47, 0x4B, 0x43] ++ zeros 12)).toNat).take 3

/-! ## The image (R63, R64) -/

def imgTotlen (b : Bytes) : Nat := leAt b 8 4
def imgNsect (b : Bytes) : Nat := leAt b 12 2
def imgFlags (b : Bytes) : Nat := leAt b 14 2
def imgEnc (b : Bytes) : Bool := bit (imgFlags b) 0
def imgSerial (b : Bytes) : Nat := leAt b 20 4
def imgAnchor (b : Bytes) : Nat := leAt b 28 1
def imgKeyslot (b : Bytes) : Nat := leAt b 29 1

/-- The rulebook digest: SHA-256 of everything but the trailer (R63). -/
def imgDigest (b : Bytes) : Bytes := sha256 (b.take (imgTotlen b - 64))

/-- The trailer's signature. -/
def imgSig (b : Bytes) : Bytes := slice b (imgTotlen b - 64) 64

/-- The stored body between header and trailer. -/
def imgBody (b : Bytes) : Bytes := slice b 128 (imgTotlen b - 192)

/-- A section-table entry (R65). -/
structure Sect where
  type : Nat
  sver : Nat
  ofs  : Nat
  len  : Nat
  crc  : Nat
  deriving DecidableEq, Repr

/-- The section table of a plaintext body. -/
def sections (n : Nat) (body : Bytes) : List Sect :=
  (List.range n).map (fun i =>
    let o := 16 * i
    ⟨leAt body o 2, leAt body (o + 2) 2, leAt body (o + 4) 4, leAt body (o + 8) 4, leAt body (o + 12) 4⟩)

/-- The body of a section. -/
def sectBody (body : Bytes) (t : Sect) : Bytes := slice body t.ofs t.len

/-- The section types a rulebook must hold (R66). -/
def requiredTypes : List Nat := [0x0001, 0x0002, 0x0003, 0x0004, 0x0009, 0x000F, 0x0010]

/-- The types an amendment may replace (R66, R81). -/
def amendable (t : Nat) : Bool := [0x0007, 0x0009, 0x000B, 0x000C, 0x000E].contains t

/-- Two sections share no byte. -/
def apart (x y : Sect) : Bool := decide (x.ofs + x.len ≤ y.ofs) || decide (y.ofs + y.len ≤ x.ofs)

/-- An entry of the table is sound beside those before it: a known type, not met before, aligned, inside the body, no overlap. -/
def entryOk (n bodyLen : Nat) (earlier : List Sect) (x : Sect) : Bool :=
  decide (1 ≤ x.type) && decide (x.type ≤ 0x0010) && x.ofs % 8 == 0 && decide (16 * n ≤ x.ofs) && decide (x.ofs + x.len ≤ bodyLen) &&
  earlier.all (fun y => y.type != x.type && apart x y)

/-- Check 10 of R73: the type of the first entry that fails, 0 where the table itself does not fit, none where the table is sound. -/
def tableFail (n bodyLen : Nat) (l : List Sect) : Option Nat :=
  if decide (1 ≤ n) && decide (n ≤ 32) && decide (16 * n ≤ bodyLen) then
    ((List.range l.length).findSome? (fun i => match l[i]? with
      | none => none
      | some x => if entryOk n bodyLen (l.take i) x then none else some x.type))
  else some 0

/-- The header checks of R73, checks 1 to 4, against the length received and the TOTLEN of OPEN; 0 when they pass. -/
def headerFail (rxlen openLen : Nat) (b : Bytes) : Nat :=
  let tot := imgTotlen b
  let enc := imgEnc b
  if !(rxlen == openLen && rxlen == tot && decide (192 ≤ tot) && decide (tot ≤ 16777216)) then 0x01
  else if !(leAt b 0 4 == 0x5A475242 && leAt b 4 2 == 1 && leAt b 6 2 == 128 && decide (imgFlags b < 2) &&
      allZero (slice b 30 2) && allZero (slice b 44 4) && allZero (slice b 112 12) &&
      (enc || (allZero (slice b 32 12) && allZero (slice b 48 40) && allZero (slice b 88 16)))) then 0x02
  else if !(leAt b 124 4 == (crc32 (b.take 124)).toNat) then 0x03
  else if !(leAt b 16 4 == 0x00007420) then 0x04
  else 0

/-- One CROSSING entry (R67): base and access. -/
def crossEntries (b : Bytes) : List (Nat × Nat) :=
  (List.range (b.length / 8)).map (fun i => (leAt b (8 * i) 4, leAt b (8 * i + 4) 1))

/-- Reserved bytes 5 to 7 of every entry are 0. -/
def crossReservedOk (b : Bytes) : Bool := (List.range (b.length / 8)).all (fun i => allZero (slice b (8 * i + 5) 3))

end Sys2Proof.Machine
end

