-- ==== Sys2Proof/Machine/Crossing.lean ====
section
/-!
DEFINITION. The check of the CROSSING section against the blocks of R26 (R67, check 17 of R73).
-/
namespace Sys2Proof.Machine

/-- The section body holds 1 to 32 whole entries (R67): a defect fails check 13. -/
def crossingShape (b : Bytes) : Bool := b.length % 8 == 0 && decide (1 ≤ b.length / 8) && decide (b.length / 8 ≤ 32)

/-- Every entry grants what R67 allows. -/
def crossingOk (b : Bytes) : Bool :=
  let l := crossEntries b
  crossReservedOk b && decide ((l.map (fun e => e.1)).Nodup) &&
  l.all (fun e => match blocks.find? (fun k => k.base == e.1) with
    | none => false
    | some k => k.grant != .never && (e.2 == 1 || (e.2 == 2 && k.grant == .rw)))

end Sys2Proof.Machine
end

