-- ==== Sys2Proof/Machine/Vault.lean ====
section
/-!
DEFINITION. The vault: root, key slots, requests, anchors, attestation, self-tests (R363 to R380).
-/
namespace Sys2Proof.Machine

/-! ## Replies (R369, R371) -/

/-- Status codes counted in REFUSED: all but done, KCV mismatch and a failed verification (R380). -/
def countsRefused (st : Nat) : Bool := !(st == 0x00 || st == 0x07 || st == 0x0A)

/-- Count a request's outcome (R380). -/
def State.vltCount (s : State) (op st : Nat) : State :=
  if countsRefused st then ((s.count F.VLT_CNT2_REFUSED).put F.VLT_LAST_OP op).put F.VLT_LAST_STATUS st
  else if st = 0x0A then s.count F.VLT_CNT_VERIFAIL
  else s

/-- Reply to a request: status, three zero bytes, results. -/
def State.vltReply (s : State) (op : Nat) (h : Hdr) (st : Nat) (res : Bytes) : State :=
  (s.vltCount op st).send (replyMsg 0xD op h (st != 0) ([BitVec.ofNat 8 st, 0, 0, 0] ++ res))

/-- A request of the manager (R369, R371, R378): a length outside its range is status 0x02, a self-test in progress 0x0B, a failed vault
0x0D. DEDUCED (log entry 18): in this order, and before anything that the operation itself looks at. -/
def State.vltServe (s : State) (op : Nat) (h : Hdr) (lenOk : Bool) (act : State → State) : State :=
  if !lenOk then s.vltReply op h 0x02 []
  else if s.flag F.VLT_STATUS_TESTING then s.vltReply op h 0x0B []
  else if s.flag F.VLT_STATUS_FAIL || !s.flag F.VLT_STATUS_ROOT then s.vltReply op h 0x0D []
  else act s

/-- A message of class 0xD (R369): from a source other than the manager it is discarded and counted. -/
def State.vltTake (s : State) (op : Nat) (h : Hdr) (act : State → State) : State :=
  s.receive 0xD h (fun s =>
    if h.src ≠ 0 then ((s.count F.VLT_CNT2_REFUSED).put F.VLT_LAST_OP op).put F.VLT_LAST_STATUS 0 else act s)

/-- Every request passes here. -/
def State.vltRequest (s : State) (op : Nat) (h : Hdr) (lenOk : Bool) (act : State → State) : State :=
  s.vltTake op h (fun s => s.vltServe op h lenOk act)

/-! ## Use of keys (R367) -/

/-- USE codes (R370). -/
def useEncrypt : Nat := 0
def useDecrypt : Nat := 1
def useWrap : Nat := 2
def useDerive : Nat := 3

/-- The status of an operation that needs the active half of a slot with a USE, an ATTEST flag and one of some ALGs, 0 when it
may run (R367, R371). -/
def keyStatus (k : Option Key) (use : Nat) (att : Bool) (algs : List Nat) : Nat :=
  match k with
  | none => 0x03
  | some k => if k.use ≠ use ∨ k.att ≠ att then 0x04 else if !algs.contains k.alg then 0x05 else 0x00

/-- The status of attributes that a new key is to have: 0x04 for no USE, 0x05 for an ALG that does not fit it (R366, R367). DESIGN
CHOICE (log entry 18) for the values outside the encodings. -/
def attrStatus (use alg : Nat) : Nat :=
  if 3 < use then 0x04 else if 1 < alg then 0x05 else if use = useWrap ∧ alg ≠ 0 then 0x05 else 0x00

/-- The active key of a slot. -/
def State.akey (s : State) (i : Nat) : Option Key := (s.kslot i).active

/-- The key bytes of the active half, empty for none. -/
def State.keyBytes (s : State) (i : Nat) : Bytes := match s.akey i with
  | none => []
  | some k => k.key

/-- Set the candidate half. -/
def State.setCand (s : State) (i : Nat) (c : Option Key) : State := s.setKslot i { s.kslot i with cand := c }

/-! ## Commands -/

/-- KEYINFO: attributes of the active half, presence of both halves, their KCVs, commits. -/
def execKeyinfo (h : Hdr) (slot : Nat) (s : State) : Out State :=
  .next (s.vltRequest 0x0001 h (decide (slot < 256)) (fun s =>
    let k := s.kslot slot
    let a := match k.active with
      | none => [0, 0, 0]
      | some x => [BitVec.ofNat 8 x.alg, BitVec.ofNat 8 x.use, BitVec.ofNat 8 (ofBool x.att)]
    let kcv := fun (x : Option Key) => match x with
      | none => zeros 3
      | some x => x.kcv
    s.vltReply 0x0001 h 0 (a ++ [BitVec.ofNat 8 (ofBool k.active.isSome), BitVec.ofNat 8 (ofBool k.cand.isSome)] ++
      kcv k.active ++ kcv k.cand ++ leBytes 4 k.commits)))

/-- A request that names a slot for a new candidate: an earlier candidate is discarded, whatever the outcome (R379). -/
def State.vltCand (s : State) (op : Nat) (h : Hdr) (slot : Nat) (lenOk : Bool) (act : State → State) : State :=
  s.vltTake op h (fun s => (if slot < 256 then s.setCand slot none else s).vltServe op h (decide (slot < 256) && lenOk) act)

/-- IMPORT (R372, R379): the key is unwrapped under the wrapping slot and its KCV compared. -/
def execImportKey (h : Hdr) (slot wslot use alg : Nat) (attest : Bool) (kcv wrapped : Bytes) (s : State) : Out State :=
  .next (s.vltCand 0x0002 h slot (decide (wslot < 256) && kcv.length == 3 && wrapped.length == 40)
    (fun s =>
      let st := keyStatus (s.akey wslot) useWrap false [0]
      if st ≠ 0 then s.vltReply 0x0002 h st []
      else if attrStatus use alg ≠ 0 then s.vltReply 0x0002 h (attrStatus use alg) []
      else match Config.kwUnwrap (s.keyBytes wslot) wrapped with
        | none => s.vltReply 0x0002 h 0x06 []
        | some k =>
          let key := beBytes 32 k.toNat
          if kcvOf key ≠ kcv then
            ((s.count F.VLT_CNT_KCVERR).raise 0x1403 slot).vltReply 0x0002 h 0x07 []
          else (s.setCand slot (some { key := key, alg := alg, use := use, att := attest, kcv := kcv })).vltReply
            0x0002 h 0x00 []))

/-- The slot wraps the body key of a valid encrypted image in a rulebook slot (R374). -/
def State.imageKey (s : State) (slot : Nat) : Bool :=
  [s.rbk.slotA, s.rbk.slotB].any (fun x => x.valid && imgEnc x.image && imgKeyslot x.image == slot)

/-- The slot is KEYSLOT of a valid publication template (R374). -/
def State.templateKey (s : State) (slot : Nat) : Bool :=
  (List.range 512).any (fun t => s.flag (F.PUB_GCFG_VALID t) && s.get (F.PUB_GQ_KEYSLOT t) == slot) ||
  (List.range 64).any (fun v => s.flag (F.PUB_SCFG_VALID v) && s.get (F.PUB_SQ_KEYSLOT v) == slot)

/-- VAULT_COMMIT (R373, R374). -/
def execVaultCommit (h : Hdr) (slot : Nat) (s : State) : Out State :=
  .next (s.vltRequest 0x0003 h (decide (slot < 256)) (fun s =>
    let k := s.kslot slot
    match k.cand with
    | none => s.vltReply 0x0003 h 0x08 []
    | some c =>
      if s.imageKey slot then s.vltReply 0x0003 h 0x09 []
      else ((s.setKslot slot { k with active := some c, cand := none, commits := k.commits + 1 }).raise 0x1402 slot).vltReply
        0x0003 h 0x00 []))

/-- VAULT_CANCEL (R373). -/
def execVaultCancel (h : Hdr) (slot : Nat) (s : State) : Out State :=
  .next (s.vltRequest 0x0004 h (decide (slot < 256)) (fun s => (s.setCand slot none).vltReply 0x0004 h 0x00 []))

/-- The slot holds the last committed wrap-only key (R374). -/
def State.lastWrap (s : State) (slot : Nat) : Bool :=
  let wraps := fun (k : KSlot) => match k.active with
    | none => false
    | some x => x.use == useWrap
  wraps (s.kslot slot) && !s.vlt.slots.any (fun e => e.1 != slot && wraps e.2)

/-- ERASE (R373, R374). -/
def execErase (h : Hdr) (slot : Nat) (s : State) : Out State :=
  .next (s.vltRequest 0x0005 h (decide (slot < 256)) (fun s =>
    if s.imageKey slot || s.templateKey slot || s.lastWrap slot then s.vltReply 0x0005 h 0x09 []
    else (s.setKslot slot { s.kslot slot with active := none, cand := none }).vltReply 0x0005 h 0x00 []))

/-- DERIVE (R372, R379). A target equal to the source is status 0x04: DESIGN CHOICE (log entry 18). -/
def execDerive (h : Hdr) (sslot tslot use alg : Nat) (attest : Bool) (salt info : Bytes) (s : State) : Out State :=
  .next (s.vltCand 0x0006 h tslot (decide (sslot < 256) && decide (salt.length ≤ 64) && decide (1 ≤ info.length) &&
      decide (info.length ≤ 128))
    (fun s =>
      let st := keyStatus (s.akey sslot) useDerive false [0, 1]
      if st ≠ 0 then s.vltReply 0x0006 h st []
      else if sslot = tslot then s.vltReply 0x0006 h 0x04 []
      else if attrStatus use alg ≠ 0 then s.vltReply 0x0006 h (attrStatus use alg) []
      else
        let key := hkdf (s.keyBytes sslot) salt info
        (s.setCand tslot (some { key := key, alg := alg, use := use, att := attest, kcv := kcvOf key })).vltReply
          0x0006 h 0x00 (kcvOf key)))

/-- The tag of a key over data: HMAC-SHA-256 or, for an AES key, AES-256-GMAC under an IV (R370). -/
def macOf (k : Key) (iv data : Bytes) : Bytes := if k.alg = 1 then hmac256 k.key data else gmac k.key iv data

/-- MAC (R370). -/
def execMac (h : Hdr) (slot : Nat) (iv data : Bytes) (s : State) : Out State :=
  .next (s.vltRequest 0x0007 h (decide (slot < 256) && iv.length == 12 && decide (1 ≤ data.length) &&
      decide (data.length ≤ 1984))
    (fun s =>
      let st := keyStatus (s.akey slot) useEncrypt false [0, 1]
      match s.akey slot with
      | none => s.vltReply 0x0007 h st []
      | some k => if st ≠ 0 then s.vltReply 0x0007 h st [] else s.vltReply 0x0007 h 0x00 (macOf k iv data)))

/-- VERIFY (R370): the data followed by the tag, 32 bytes for HMAC and 16 for GMAC. -/
def execVerify (h : Hdr) (slot : Nat) (iv dataTag : Bytes) (s : State) : Out State :=
  .next (s.vltRequest 0x0008 h (decide (slot < 256) && iv.length == 12)
    (fun s =>
      let st := keyStatus (s.akey slot) useDecrypt false [0, 1]
      match s.akey slot with
      | none => s.vltReply 0x0008 h st []
      | some k =>
        let n := if k.alg = 1 then 32 else 16
        let d := dataTag.take (dataTag.length - n)
        if st ≠ 0 then s.vltReply 0x0008 h st []
        else if d.length = 0 ∨ 1984 < d.length then s.vltReply 0x0008 h 0x02 []
        else if macOf k iv d = dataTag.drop (dataTag.length - n) then s.vltReply 0x0008 h 0x00 []
        else s.vltReply 0x0008 h 0x0A []))

/-- The IV of ENCRYPT (R377): slot, three zero bytes, the slot's 64-bit invocation counter, here most significant byte first: DESIGN
CHOICE (log entry 18). -/
def encryptIv (slot inv : Nat) : Bytes := [BitVec.ofNat 8 slot, 0, 0, 0] ++ beBytes 8 inv

/-- ENCRYPT (R370, R377). -/
def execEncrypt (h : Hdr) (slot : Nat) (aad plain : Bytes) (s : State) : Out State :=
  .next (s.vltRequest 0x0009 h (decide (slot < 256) && decide (aad.length + plain.length ≤ 1900))
    (fun s =>
      let st := keyStatus (s.akey slot) useEncrypt false [0]
      if st ≠ 0 then s.vltReply 0x0009 h st []
      else
        let k := s.kslot slot
        let iv := encryptIv slot k.inv
        let c := gcmCrypt (s.keyBytes slot) iv plain
        (s.setKslot slot { k with inv := (k.inv + 1) % 2 ^ 64 }).vltReply 0x0009 h 0x00
          (iv ++ c ++ gcmTag (s.keyBytes slot) iv aad c)))

/-- DECRYPT (R370). -/
def execDecrypt (h : Hdr) (slot : Nat) (iv aad cipher gtag : Bytes) (s : State) : Out State :=
  .next (s.vltRequest 0x000A h (decide (slot < 256) && iv.length == 12 && gtag.length == 16 &&
      decide (18 + aad.length + cipher.length + 16 ≤ 2048))
    (fun s =>
      let st := keyStatus (s.akey slot) useDecrypt false [0]
      if st ≠ 0 then s.vltReply 0x000A h st []
      else if gcmTag (s.keyBytes slot) iv aad cipher = gtag then
        s.vltReply 0x000A h 0x00 (gcmCrypt (s.keyBytes slot) iv cipher)
      else s.vltReply 0x000A h 0x0A []))

/-- Trust anchor `i`, none when empty. -/
def State.anchor (s : State) (i : Nat) : Option Bytes :=
  match Sp.get [] s.vlt.anchors i with
  | [] => none
  | b => some b

/-- ANCHOR (R375). -/
def execAnchor (h : Hdr) (idx : Nat) (key sig : Bytes) (s : State) : Out State :=
  .next (s.vltRequest 0x000B h (decide (idx < 16) && key.length == 64 && (sig.length == 0 || sig.length == 64))
    (fun s =>
      let write := fun (s : State) => s.setVlt { s.vlt with anchors := Sp.put [] s.vlt.anchors idx key }
      match s.anchor idx with
      | none => (write s).vltReply 0x000B h 0x00 []
      | some old =>
        if sig = [] then s.vltReply 0x000B h 0x0C []
        else if Config.ecdsaOk old (sha256 ([BitVec.ofNat 8 idx] ++ key)) sig then
          (write s).vltReply 0x000B h 0x00 []
        else s.vltReply 0x000B h 0x0A []))

/-- The module serial number as AFE_SERIAL shows it. -/
def State.serial (s : State) : Nat := s.get F.AFE_SERIAL_LO + 2 ^ 32 * s.get F.AFE_SERIAL_HI

/-- The active rulebook digest, or zeros (R36, R375). -/
def State.activeDigest (s : State) : Bytes := if s.active then s.rbk.digest else zeros 32

/-- Instances in RUNNING, bit i for instance i. ISTAT codes: see R336. -/
def State.runningMask (s : State) : Nat :=
  sumN ((List.range 64).map (fun i => if s.get (F.INS_ISTAT_STATE i) = 2 then 2 ^ i else 0))

/-- The attestation body (R375). -/
def State.attestBody (s : State) (nonce : Bytes) : Bytes :=
  nonce ++ leBytes 8 s.serial ++ leBytes 4 0x00007420 ++ leBytes 4 Config.firmwareVersion.toNat ++ s.activeDigest ++
  leBytes 4 (s.loadWord 0x01000000).toNat ++ leBytes 1 (s.get F.TOK_CTRL_MODE) ++ leBytes 1 (s.get F.TOK_STATUS_HELD) ++
  leBytes 2 (s.get F.RBK_AMD_SEQ_ASEQ) ++ leBytes 8 s.runningMask

/-- ATTEST (R367, R375). -/
def execAttest (h : Hdr) (slot : Nat) (nonce : Bytes) (s : State) : Out State :=
  .next (s.vltRequest 0x000C h (decide (slot < 256) && nonce.length == 16)
    (fun s =>
      let st := keyStatus (s.akey slot) useEncrypt true [1]
      if st ≠ 0 then s.vltReply 0x000C h st []
      else s.vltReply 0x000C h 0x00 (s.attestBody nonce ++ hmac256 (s.keyBytes slot) (s.attestBody nonce))))

/-- SELFTEST (R378): the reply follows when the tests end. -/
def execSelftest (h : Hdr) (s : State) : Out State :=
  .next (s.vltRequest 0x000D h true (fun s =>
    (s.put F.VLT_STATUS_TESTING 1).setVlt { s.vlt with testing := some h.tag }))

/-- Test 10 empties each damaged slot and raises event 0x1401 (R378). -/
def State.emptyDamaged (s : State) (bad : List Nat) : State :=
  s.each bad (fun s i => (s.setKslot i { s.kslot i with active := none }).raise 0x1401 (10 + 256 * (i % 256)))

/-- A stopping failure (R378). -/
def State.vltStopping (s : State) (test : Nat) : State := (s.put F.VLT_STATUS_FAIL 1).raise 0x1401 test

/-- The first failing test as the reply to SELFTEST gives it: one that stops, else 10 for a damaged slot, else 0. -/
def firstFailing (test : Nat) (bad : List Nat) : Nat := if 2 ≤ test ∧ test ≤ 9 then test else if bad = [] then 0 else 10

/-- SELFTEST_COMPLETE (R378). DEDUCED (log entry 18): the request itself is done, status 0x00, whichever test failed. -/
def execSelftestComplete (firstFail : Nat) (badSlots : List Nat) (s : State) : Out State :=
  .next (match s.vlt.testing with
  | none => s
  | some tag =>
    let s := (s.put F.VLT_STATUS_TESTING 0).setVlt { s.vlt with testing := none }
    let s := if 2 ≤ firstFail ∧ firstFail ≤ 9 then s.vltStopping firstFail else s
    let s := s.emptyDamaged badSlots
    s.send { cls := 0xD, last := true, reply := true, err := false, src := 0x40, tgt := 0, op := 0x000D, tag := tag,
             payload := [0, 0, 0, 0, BitVec.ofNat 8 (firstFailing firstFail badSlots)] })

/-! ## Stage 0x06 (R363, R364, R378) -/

/-- The info of the key-store key: "ZGP-7420 key store" (R365). -/
def keyStoreInfo : Bytes :=
  [0x5A, 0x47, 0x50, 0x2D, 0x37, 0x34, 0x32, 0x30, 0x20, 0x6B, 0x65, 0x79, 0x20, 0x73, 0x74, 0x6F, 0x72, 0x65]

/-- The key-store key (R365, R366): HKDF of the root with a zero salt; under it the records of the key store in MRAM are wrapped. -/
def State.keyStoreKey (s : State) : Option Bytes := s.vlt.root.map (fun r => hkdf r [] keyStoreInfo)

/-- The record of an active half in the key store: its key wrapped with AES-256 KW under the key-store key (R366). -/
def State.keyRecord (s : State) (i : Nat) : Option (BitVec 320) := match s.keyStoreKey, s.akey i with
  | some k, some x => some (Config.kwWrap k x.key)
  | _, _ => none

/-- The root record with a burned commit fuse. -/
def committedRoot (l : List RootRec) : Option RootRec := l.find? (fun r => r.fuse)

/-- Generate a root into the lowest record not yet touched: SHA-256 over 1,024 bits of raw entropy (R363, R364). -/
def State.generateRoot (s : State) (entropy : Bytes) : State :=
  let bits := sha256 (entropy.take 128)
  let r : RootRec := { bits := bits, crc := crc32 bits, touched := true, fuse := true }
  (s.setVlt { s.vlt with roots := s.vlt.roots ++ [r], root := some bits }).raise 0x1404 0

/-- The first start is the one at final test, where the station writes the transport key into KS0 as a committed wrap-only key and the
provisioning fuse is burned (R365). -/
def State.provision (s : State) : State :=
  if s.vlt.provFuse then s
  else
    let k := beBytes 32 Config.transportKey.toNat
    let s := s.setKslot 0 { s.kslot 0 with
      active := some { key := k, alg := 0, use := useWrap, att := false, kcv := kcvOf k }, commits := (s.kslot 0).commits + 1 }
    s.setVlt { s.vlt with provFuse := true }

/-- The lowest record not yet touched, while none is committed, is touched without its commit fuse: a generation that ended before it, or
whose burned bits did not agree with the CRC (R364). What stands in it is free. -/
def State.rootSpoiled (s : State) : State :=
  if (committedRoot s.vlt.roots).isNone ∧ s.vlt.roots.length < 4 then
    let bits := beBytes 32 (Config.rootPartial s.now).toNat
    s.setVlt { s.vlt with roots := s.vlt.roots ++ [{ bits := bits, crc := 0, touched := true, fuse := false }] }
  else s

/-- Stage 0x06: the vault's tests and its root. Answers the state and whether the stage succeeded. -/
def State.vaultStage (s : State) (test : Nat) (bad : List Nat) (entropy : Bytes) : State × Bool :=
  if test ≠ 0 ∧ test ≠ 10 then
    let s := if test = 2 then s.rootSpoiled else s
    ((s.vltStopping test).put F.VLT_STATUS_RECS s.vlt.roots.length, false)
  else
    let r := match committedRoot s.vlt.roots with
      | some r => if crc32 r.bits = r.crc then (s.setVlt { s.vlt with root := some r.bits }, true)
        else (s.vltStopping 2, false)
      | none => if 4 ≤ s.vlt.roots.length then (s.vltStopping 2, false) else ((s.generateRoot entropy).provision, true)
    let s := r.1
    let s := (s.putB F.VLT_STATUS_ROOT r.2).put F.VLT_STATUS_RECS s.vlt.roots.length
    (s.emptyDamaged bad, r.2)

/-- A first start that is interrupted in stage 0x06 (R364): it leaves no root, and the record that it had begun, if it had, is touched
without its commit fuse. Whether it had begun one is free (log entry 18). -/
def State.rootCut (s : State) : State :=
  if s.get F.PWR_STAGE = 6 ∧ !s.flag F.PWR_STAGE_FAILED ∧ Config.rootBegun s.now then s.rootSpoiled else s

/-- What a P, W or M reset does to the vault: candidates are lost (R366), the boot count rises (R380), the invocation counters go
on from the block reserved (R377), a self-test in progress ends. -/
def State.vaultReset (s : State) : State :=
  let s := s.put F.VLT_BOOT (s.get F.VLT_BOOT + 1)
  s.setVlt { s.vlt with root := none, testing := none, slots := Sp.mapv KSlot.init (fun k =>
    { k with cand := none, inv := roundUp k.inv 4096 }) s.vlt.slots }

end Sys2Proof.Machine
end

