-- ==== Sys2Proof/Machine/PairLink.lean ====
section
/-!
DEFINITION. Pair-link frames and the token's status (R381 to R385, R399): what every frame sent or received does.
-/
namespace Sys2Proof.Machine

/-- LEASE in raw ns (R385, R400). -/
def State.leaseNs (s : State) : Nat := s.get F.TOK_CTRL_LEASE * 1000000

/-- GUARD in raw ns. -/
def State.guardNs (s : State) : Nat := s.get F.TOK_CTRL_GUARD * 100000

/-- LINKLAT in raw ns. -/
def State.linklatNs (s : State) : Nat := s.get F.TOK_CTRL_LINKLAT * 1000

/-- Pair or Twin-plus-spare (R381): the modes in which the module has peers. -/
def State.redundant (s : State) : Bool := s.get F.TOK_CTRL_MODE != 0

/-- Twin-plus-spare mode. -/
def State.twinMode (s : State) : Bool := s.get F.TOK_CTRL_MODE == 2

/-- The position held, 0 A, 1 B (R381: never more than one). -/
def State.heldPos (s : State) : Option Nat :=
  if bit (s.get F.TOK_STATUS_HELD) 0 then some 0 else if bit (s.get F.TOK_STATUS_HELD) 1 then some 1 else none

/-- The module holds no token in a redundant set. -/
def State.standby (s : State) : Bool := s.redundant && s.heldPos.isNone

/-- The gate for a template (R267): its position's token, or Single mode. -/
def State.gateFor (s : State) (twin : Bool) : Bool :=
  if s.get F.TOK_CTRL_MODE = 0 then true
  else if s.twinMode && twin then s.get F.TOK_STATUS_HELD != 0
  else bit (s.get F.TOK_STATUS_HELD) 0

/-- What a module knows of a position. -/
def State.pos (s : State) (p : Nat) : PosS := if p = 0 then s.tok.posA else s.tok.posB

/-- Store it. -/
def State.setPos (s : State) (p : Nat) (v : PosS) : State :=
  s.setTok (if p = 0 then { s.tok with posA := v } else { s.tok with posB := v })

/-- Ns since a raw time. -/
def State.since (s : State) (t : Nat) : Nat := s.now - t

/-! ## Status message (R399) -/

/-- Lease remaining in µs. -/
def State.leaseLeft (s : State) : Nat := match s.tok.lease with
  | none => 0
  | some e => (e - s.now) / 1000

/-- Age of the oldest accepted image in ms (R393, R399). -/
def State.oldestAge (s : State) : Nat := maxN (s.tok.images.map (fun e => s.since e.2.at_ / 1000000))

/-- The instances of class P that the active rulebook declares. -/
def State.pInstances (s : State) : List InstDecl := match s.rbk.active with
  | none => []
  | some d => d.insts.filter (fun i => !i.supervisory)

/-- CKPT of TOK_SYNC: every P instance holds an accepted image less than 60 ms old (R393). -/
def State.ckptFresh (s : State) : Bool :=
  s.standby && s.pInstances.all (fun d => match s.tok.images.find? (fun e => e.1 == d.inst) with
    | none => false
    | some e => decide (s.since e.2.at_ < 60000000))

/-- Show TOK_SYNC and TOK_LEASE (R393, R400). -/
def State.showSync (s : State) : State :=
  let s := s.putB F.TOK_SYNC_CKPT s.ckptFresh
  let s := s.put F.TOK_SYNC_NINST s.tok.images.length
  let s := s.put F.TOK_SYNC_AGE (Nat.min s.oldestAge 0xFFFF)
  s.put F.TOK_LEASE_REMAIN s.leaseLeft

/-- The redundancy-status message (R399). -/
def State.redStatus (s : State) : Bytes :=
  [BitVec.ofNat 8 (s.get F.TOK_CTRL_MODE), BitVec.ofNat 8 (s.get F.TOK_CTRL_POSITION),
   BitVec.ofNat 8 (s.get F.TOK_STATUS_HELD),
   BitVec.ofNat 8 (s.get F.TOK_STATUS_SOLO + 2 * s.get F.TOK_STATUS_HEARD + 4 * s.get F.TOK_SYNC_CKPT +
     8 * s.get F.TOK_SYNC_RETAIN)] ++ leBytes 4 (s.get F.TOK_LEASE_REMAIN) ++ leBytes 4 (s.get F.TOK_TAKESEQ) ++
  leBytes 2 (s.get F.TOK_SYNC_AGE) ++
  [BitVec.ofNat 8 (s.get F.TOK_STATUS_LINKS + 4 * s.get F.TOK_STATUS_PEERS), 0]

/-- Send it. -/
def State.sendRedStatus (s : State) : State := let s := s.showSync; s.send (stMsg 0xF 0x0001 s.redStatus)

/-- The bytes whose change sends a status message by itself: all but the lease remaining and the age, which run on. -/
def State.redKey (s : State) : List Nat :=
  [s.get F.TOK_CTRL_MODE, s.get F.TOK_CTRL_POSITION, s.get F.TOK_STATUS_HELD, s.get F.TOK_STATUS_SOLO,
   s.get F.TOK_STATUS_HEARD, s.get F.TOK_SYNC_CKPT, s.get F.TOK_SYNC_RETAIN, s.get F.TOK_TAKESEQ,
   s.get F.TOK_STATUS_LINKS, s.get F.TOK_STATUS_PEERS]

/-- Report a change of the status since an older state (R399). The lease remaining and the age of the images change with every clock;
their change alone sends nothing: DESIGN CHOICE (log entry 22). -/
def State.reportRedOf (s old : State) : State :=
  let s := s.showSync
  if s.redKey = old.redKey then s else s.sendRedStatus

/-- The same around something done. -/
def State.reportRed (s : State) (f : State → State) : State := (f s).reportRedOf s

/-! ## Frames (R383) -/

/-- FLAGS of the header. -/
def State.plFlags (s : State) (last : Bool) : Nat :=
  s.get F.TOK_STATUS_HELD + 4 * s.get F.TOK_STATUS_SOLO + 8 * ofBool last

/-- The bytes of a pair-link frame after its EtherType: header, body, CRC. -/
def State.plBytes (s : State) (type seq : Nat) (last : Bool) (body : Bytes) : Bytes :=
  let b := [0x01, BitVec.ofNat 8 type, BitVec.ofNat 8 (s.get F.TOK_CTRL_POSITION), BitVec.ofNat 8 (s.plFlags last)] ++
    beBytes 4 seq ++ beBytes 8 s.serial ++ body
  b ++ beBytes 4 (crc32 b).toNat

/-- Put a frame on one pair link, from the port's own address (R108). R92 names transmit queue 6 for halt-exchange frames and none for these:
DESIGN CHOICE (log entry 21), they take the same queue. -/
def State.plQueue (s : State) (tw : Nat) (bytes : Bytes) : State :=
  s.queueTx (16 + tw) { queue := 6, len := Nat.max 64 (18 + bytes.length), src := s.macOfPort (16 + tw), body := .pair bytes, red := none,
                        stamp := none, chan := none }

/-- Take the next SEQ of a TYPE. -/
def State.plSeq (s : State) (type : Nat) : State × Nat :=
  let n := Sp.get 0 s.tok.seqs type
  (s.setTok { s.tok with seqs := Sp.put 0 s.tok.seqs type ((n + 1) % 2 ^ 32) }, n)

/-- Send a frame on both links. -/
def State.plSend (s : State) (type : Nat) (last : Bool) (body : Bytes) : State :=
  let (s, n) := s.plSeq type
  let b := s.plBytes type n last body
  (s.plQueue 0 b).plQueue 1 b

/-- Send a frame on one link: an acknowledgement (R387). -/
def State.plSendOn (s : State) (tw type : Nat) (body : Bytes) : State :=
  let (s, n) := s.plSeq type
  s.plQueue tw (s.plBytes type n false body)

/-- Set a bit of a two-bit mask field. -/
def State.putBit (s : State) (f : Fld) (i : Nat) (b : Bool) : State :=
  let v := s.get f
  if b then s.put f (v ||| 2 ^ i) else if bit v i then s.put f (v - 2 ^ i) else s

/-- What every pair-link frame does on arrival, first copy or not: the link and the peer are heard, HEARD is set, and SOLO ends
(R384, R387, R388). In Pair mode both links lead to the one peer (R381). -/
def State.plHeard (s : State) (tw : Nat) : State :=
  let s := s.setPort (16 + tw) { s.port (16 + tw) with heard := some s.now }
  let s := s.putBit F.TOK_STATUS_LINKS tw true
  let peers := if s.twinMode then [tw] else [0, 1]
  let s := s.each peers (fun s p => (s.putBit F.TOK_STATUS_PEERS p true).setTok
    { s.tok with peerAt := Sp.put 0 s.tok.peerAt p (s.now + 1) })
  let s := if s.flag F.TOK_STATUS_HEARD then s
    else (s.put F.TOK_STATUS_HEARD 1).setTok { s.tok with heardAt := some s.now }
  if s.tok.solo then (s.put F.TOK_STATUS_SOLO 0).setTok { s.tok with solo := false } else s

/-- Receive a frame on pair link `tw` (R383): a good one of version 1 is heard, and the first copy of each (SERIAL, TYPE, SEQ) in
LEASE / 2 is acted on. In Single mode the module has no peers (R381). -/
def State.plReceive (s : State) (tw type : Nat) (h : PlHdr) (act : State → State) : State :=
  if !s.redundant || !h.crcOk || h.ver != 1 then s
  else s.reportRed (fun s =>
    let s := s.plHeard tw
    let live := s.tok.seen.filter (fun e => decide (s.since e.2.2.2 < s.leaseNs / 2))
    if live.any (fun e => e.1 == h.serial && e.2.1 == type && e.2.2.1 == h.seq.toNat) then
      s.setTok { s.tok with seen := live }
    else act (s.setTok { s.tok with seen := live ++ [(h.serial, type, h.seq.toNat, s.now)] }))

end Sys2Proof.Machine
end

