-- ==== Sys2Proof/Machine/Windows.lean ====
section
/-!
DEFINITION. The code and data windows of an instance in the TCMs of its platform, its header and rings (R206, R207, R210, R212).
-/
namespace Sys2Proof.Machine

/-- The declaration of an instance in the active rulebook (R333). -/
def State.decl (s : State) (i : Nat) : Option InstDecl := match s.rbk.active with
  | none => none
  | some d => d.insts.find? (fun x => x.inst == i)

/-- The instances of the active rulebook. -/
def State.declared (s : State) : List InstDecl := match s.rbk.active with
  | none => []
  | some d => d.insts

/-- The platform that hosts an instance. -/
def State.placeOf (s : State) (i : Nat) : Nat := s.get (F.MAR_IPLACE_PF i)

/-- TCM address of offset `o` of the data window of instance `i` on platform `pf` (R206, R207). -/
def State.dataOn (s : State) (pf i o : Nat) : Nat := tcmBase pf + 0x80000 + Sp.get 0 (s.pf pf).data i + o

/-- TCM address of offset `o` of the code window. -/
def State.codeOn (s : State) (pf i o : Nat) : Nat := tcmBase pf + Sp.get 0 (s.pf pf).code i + o

/-- TCM address of a data-window offset where the instance now lies. -/
def State.dataAt (s : State) (i o : Nat) : Nat := s.dataOn (s.placeOf i) i o

/-- A little-endian word of the data window. -/
def State.dword (s : State) (i o : Nat) : Nat := s.rdLe (s.dataAt i o) 4

/-- The commit-block offset of an instance's header (R210). -/
def State.commitOfs (s : State) (i : Nat) : Nat := s.dword i 0x014

/-- The ring header's offset of ring input `r`; 0 when the input has no ring (R210). -/
def State.ringOfs (s : State) (i r : Nat) : Nat := s.dword i (0x400 + 4 * r)

/-- The data share of an instance, rounded up to 4 KiB (R237). -/
def State.dataShare (s : State) (i : Nat) : Nat := match s.decl i with
  | none => 0
  | some d => roundUp d.data 4096

/-- Bytes of the rings of an instance (R237). -/
def ringBytes (rings : List (Nat × Nat)) : Nat := sumN (rings.map (fun r => 0x40 + 8 * 2 ^ r.2))

/-- End of the ring area: every ring's size is a multiple of 64 bytes (R237). -/
def ringEnd (d : InstDecl) : Nat := 0x2000 + ringBytes d.rings

/-- The 1 KiB blocks of the data share that a write of `n` bytes at offset `o` touches, less the ring area. -/
def blocksOf (d : InstDecl) (o n : Nat) : List Nat :=
  if n = 0 then []
  else ((List.range ((o + n - 1) / 1024 - o / 1024 + 1)).map (fun k => o / 1024 + k)).filter (fun b =>
    !(decide (0x2000 ≤ Nat.max o (b * 1024)) && decide (Nat.min (o + n) ((b + 1) * 1024) ≤ ringEnd d)))

/-- A write into the data share during a shunt marks the blocks already copied for another copy (R249). -/
def State.track (s : State) (i o n : Nat) : State :=
  match s.mar.shunt, s.decl i with
  | some h, some d =>
    if h.inst = i then
      let bs := (blocksOf d o n).filter (fun b => decide (roundUp d.code 4096 + (b + 1) * 1024 ≤ h.copied) && !h.marked.contains b)
      s.setMar { s.mar with shunt := some { h with marked := h.marked ++ bs } }
    else s
  | _, _ => s

/-- Write bytes into the data window of an instance where it lies, as far as its data share goes. -/
def State.dataPut (s : State) (i o : Nat) (b : Bytes) : State :=
  let b := b.take (s.dataShare i - o)
  (s.wrN (s.dataAt i o) b).track i o b.length

/-- The task of a platform has executed an instruction: PFM_PSTAT.STATE goes from launching to running (R232). -/
def State.coreActs (s : State) (p : Nat) : State := if s.get (F.PFM_PSTAT_STATE p) = 1 then s.put (F.PFM_PSTAT_STATE p) 2 else s

/-- INS_ISTAT.STATE of an instance (R336). -/
def State.instState (s : State) (i : Nat) : Nat := s.get (F.INS_ISTAT_STATE i)

end Sys2Proof.Machine
end

