-- ==== Sys2Proof/Machine/Publication.lean ====
section
/-!
DEFINITION. Publication: GOOSE and SV templates, numbering, retransmission, redundancy tags, authentication, the token gate, twin
publication, digests and mirrors (R256 to R279).
-/
namespace Sys2Proof.Machine

/-! ## Template memory and addresses (R256, R258, R259, R265) -/

/-- Byte `j` of template memory. -/
def State.tmem (s : State) (j : Nat) : Byte := BitVec.ofNat 8 (s.get (F.PUB_TMEM (j / 4)) / 2 ^ (8 * (j % 4)))

/-- Bytes of template memory. -/
def State.tmemN (s : State) (o n : Nat) : Bytes := (List.range n).map (fun i => s.tmem (o + i))

/-- The quality slots of a GOOSE template (R259). -/
def State.qslots (s : State) (t : Nat) : List Nat :=
  (List.range (s.get (F.PUB_GDATA_NQ t))).map (fun i => leNat (s.tmemN (s.get (F.PUB_GQ_QOFS t) + 2 * i) 2))


/-- The other port of a PRP or HSR pair: the one with the same PAIR and the same address (R88, R107). -/
def State.pairPeer (s : State) (p : Nat) : Option Nat :=
  if s.get (F.PRT_CTRL_PAIR p) = 0 then none
  else (List.range 16).find? (fun q => q != p && s.get (F.PRT_CTRL_PAIR q) == s.get (F.PRT_CTRL_PAIR p) &&
    s.macOfPort q == s.macOfPort p)

/-- The lower port of a port's pair, by which the pair's tables are kept. -/
def State.pairKey (s : State) (p : Nat) : Nat := match s.pairPeer p with
  | none => p
  | some q => Nat.min p q

/-- LanId of a port of a PRP pair: 0xA on the lower, 0xB on the higher. -/
def State.lanOf (s : State) (p : Nat) : Nat := if s.pairKey p = p then 0xA else 0xB

/-- The tag of a copy on a port of a pair with a sequence number (R88, R265). -/
def State.redTag (s : State) (p seq : Nat) : RedS :=
  let hsr := s.get (F.PRT_CTRL_PAIR p) == 2
  { hsr := hsr, lan := if hsr then Config.hsrPath p else s.lanOf p, seq := seq }

/-- The next number of the counter of a pair, kept by its lower port (R265). -/
def State.takeSeq (s : State) (k : Nat) : State × Nat :=
  let n := Sp.get 0 s.pub.pairSeq k
  (s.setPub { s.pub with pairSeq := Sp.put 0 s.pub.pairSeq k ((n + 1) % 65536) }, n)

/-- Send a frame of the module out of a port: on both ports of a pair with one sequence number (R88, R265). -/
def State.sendPaired (s : State) (p : Nat) (f : Nat → Option RedS → TxFrame) : State :=
  match s.pairPeer p with
  | none => s.queueTx p (f p none)
  | some q =>
    let k := Nat.min p q
    let r := s.takeSeq k
    let s := r.1.queueTx k (f k (some (r.1.redTag k r.2)))
    s.queueTx (Nat.max p q) (f (Nat.max p q) (some (s.redTag (Nat.max p q) r.2)))

/-- The ports that a template's frame leaves by (R265): those in PORTS, and with one port of a PRP pair the other (R88). -/
def State.pubPorts (s : State) (ports : Nat) : List Nat :=
  (List.range 16).filter (fun p => bit ports p || (s.get (F.PRT_CTRL_PAIR p) == 1 && (match s.pairPeer p with
    | none => false
    | some q => bit ports q)))

/-- The TWMACs of the twinned templates (R258, R269). -/
def State.twMacs (s : State) : List Bytes :=
  ((List.range 512).filter (fun t => s.flag (F.PUB_GCFG_VALID t) && s.flag (F.PUB_GCFG_TWIN t))).map
    (fun t => leBytes 4 (s.get (F.PUB_GMAC_LO_TWMAC t)) ++ leBytes 2 (s.get (F.PUB_GMAC_HI_TWMAC t))) ++
  ((List.range 64).filter (fun v => s.flag (F.PUB_SCFG_VALID v) && s.flag (F.PUB_SCFG_TWIN v))).map
    (fun v => leBytes 4 (s.get (F.PUB_SMAC_LO v)) ++ leBytes 2 (s.get (F.PUB_SMAC_HI v)))

/-! ## The octets of a frame (R258) -/

/-- The length octets of a BER element in the definite form. PRESUMED (log entry 19). -/
def berLen (n : Nat) : Bytes :=
  if n < 128 then [BitVec.ofNat 8 n] else if n < 256 then [0x81#8, BitVec.ofNat 8 n] else 0x82#8 :: beBytes 2 n

/-- The PDU of a publication: its tag, its length from the contents, its contents. -/
def pduOctets (image : Bytes) (body : TxBody) : Bytes :=
  let c := Config.pduContents image body
  (match body with
    | .sv _ _ _ => 0x60#8
    | _ => 0x61#8) :: (berLen c.length ++ c)

/-- The octets of a publication frame without redundancy trailer and FCS (R258): the header of the prefix image with the source address,
APPID, Length from the contents, Reserved 1 with the Simulation bit 0, Reserved 2, the PDU and the security extension (R266). The places are
those of IEC 61850-8-1: PRESUMED (log entry 19). -/
def pubOctets (image src : Bytes) (body : TxBody) : Bytes :=
  let o := if beAt image 12 2 = 0x8100 then 16 else 12
  let pdu := pduOctets image body
  fitTo 6 image ++ fitTo 6 src ++ slice image 12 (o + 4 - 12) ++ beBytes 2 (8 + pdu.length) ++
    beBytes 4 (Config.reservedFields body % 2 ^ 31) ++ pdu ++ Config.securityOctets body

/-! ## One frame (R265 to R267, R270, R273, R377) -/

/-- What the engine builds a frame from: template identifier of R273, twinned or not, and the template's fields; `body` and `auth`
give the content without and with the security extension. -/
structure PubFrame where
  id      : Nat
  twin    : Bool
  auth    : Nat
  keyslot : Nat
  queue   : Nat
  stamp   : Bool
  ports   : Nat
  mirror  : Nat
  sbport  : Nat
  image   : Bytes
  twMac   : Bytes
  nominal : Nat
  frames  : Nat
  index   : Nat
  body    : Bytes → TxBody

/-- The key that a publication may use: encrypt-only, of the algorithm, from a vault in service (R266, R371). -/
def State.pubKey (s : State) (slot auth : Nat) : Option Key :=
  if s.flag F.VLT_STATUS_FAIL || s.flag F.VLT_STATUS_TESTING || !s.flag F.VLT_STATUS_ROOT then none
  else match s.akey slot with
    | none => none
    | some k =>
      if k.use == useEncrypt && !k.att && ((auth == 1 && k.alg == 1) || (auth == 2 && k.alg == 0)) then some k else none

/-- The GMAC IV (R377), the identifier in network order: DESIGN CHOICE (log entry 19). -/
def State.pubIv (s : State) (f : PubFrame) (cyc : Nat) : Bytes :=
  if f.twin then beBytes 2 f.id ++ [BitVec.ofNat 8 f.index, BitVec.ofNat 8 (s.epoch s.ttbTb)] ++ beBytes 8 cyc
  else beBytes 2 (f.id + 0x8000) ++ beBytes 2 (s.get F.VLT_BOOT / 2 ^ 16) ++ beBytes 2 (s.get F.VLT_BOOT) ++
    beBytes 6 f.frames

/-- The 16-byte tag over some octets (R266), none when the vault cannot supply it; a twinned GMAC template gets none until the
timetable's base has been LOCKED since the last reset (R377). -/
def State.pubTag (s : State) (f : PubFrame) (auth cyc : Nat) (octets : Bytes) : Option Bytes :=
  match s.pubKey f.keyslot auth with
  | none => none
  | some k =>
    if f.twin && auth == 2 && !(s.tb s.ttbTb).wasLocked then none
    else some ((macOf k (s.pubIv f cyc) octets).take 16)

/-- The tag of a copy on a pair (R265, R270): the two copies share a number, which the later of them counts. -/
def State.redSeq (s : State) (f : PubFrame) (p cyc : Nat) : State × Option RedS :=
  match s.pairPeer p with
  | none => (s, none)
  | some q =>
    if f.twin then (s, some (s.redTag p ((cyc * 64 + f.index + 32768 * (s.epoch s.ttbTb % 2)) % 65536)))
    else
      let k := Nat.min p q
      let tag := s.redTag p (Sp.get 0 s.pub.pairSeq k)
      let last := p == Nat.max p q || !(s.pubPorts f.ports).contains q
      (if last then (s.takeSeq k).1 else s, some tag)

/-- The queue of a frame (R92): a tagged one takes the queue of its PCP, a PTP event message queue 7, any other the queue named. -/
def State.txQueue (s : State) (p : Nat) (b : Bytes) (q : Nat) : Nat :=
  let tagged := beAt b 12 2 == 0x8100
  let o := if tagged then 16 else 12
  if beAt b o 2 = 0x88F7 ∧ beAt b (o + 2) 1 % 16 < 4 then 7
  else if tagged then s.get (F.PRT_PRIMAP_MAP p) / 2 ^ (3 * (beAt b 14 1 / 32)) % 8
  else q

/-- Copy a frame to one port. -/
def State.pubCopy (s : State) (f : PubFrame) (cyc : Nat) (tag : Bytes) (p : Nat) : State :=
  let src := if f.twin then f.twMac else s.macOfPort p
  let (s, seq) := s.redSeq f p cyc
  let len := (pubOctets f.image src (f.body tag)).length + 4 + (if seq.isSome then 6 else 0)
  s.queueTx p { queue := s.txQueue p f.image f.queue, len := len, src := src, body := f.body tag, red := seq,
                stamp := if f.stamp then some (BitVec.ofNat 32 f.id) else none, chan := none }

/-- The mirror message of a frame (R273). While the link is down it is discarded and counted. A session PDU whose signature the
vault cannot supply is not sent: DESIGN CHOICE (log entry 19). -/
def State.pubMirror (s : State) (f : PubFrame) (cyc : Nat) (tag : Bytes) : State :=
  if f.mirror = 0 then s
  else if !s.linkUp then s.count F.PUB_CNT2_MIRDROP
  else
    let src := if f.twin then f.twMac else s.macOfPort ((maskBits 16 f.ports).headD 0)
    let alg := match s.akey f.keyslot with
      | none => 0
      | some k => if k.alg = 1 then 1 else 2
    let body := if f.mirror = 1 then some (pubOctets f.image src (f.body tag))
      else match s.pubTag f alg cyc (Config.sessionPdu f.image f.keyslot (f.body []) []) with
        | none => none
        | some sig => some (Config.sessionPdu f.image f.keyslot (f.body []) sig)
    match body with
    | none => s
    | some b =>
      let kind := if f.mirror = 1 then 1 else if f.id < 0x200 then 2 else 3
      s.send (stMsg 9 0x0001 (leBytes 2 f.id ++ [BitVec.ofNat 8 kind, BitVec.ofNat 8 f.sbport] ++ leBytes 2 b.length ++
        zeros 2 ++ b))

/-- What became of a frame. -/
inductive Sent where
  | none | gated | sent
  deriving DecidableEq, Repr

/-- Build a frame and pass it through the gate to its ports and mirror. `GATED` of the template is `gcnt`, the frame counter
`flo`, `flive`. -/
def State.pubEmit (s : State) (f : PubFrame) (gcnt flo flive : Fld) : State × Sent :=
  let cyc := f.nominal / s.cycleNs
  if f.twin && decide (64 ≤ f.index) then (s.count F.PUB_TWSKIP, .none)
  else
    let tag := if f.auth = 0 then some []
      else s.pubTag f f.auth cyc (pubOctets f.image [] (f.body []))
    match tag with
    | none => (s, .none)
    | some tag =>
      if !s.gateFor f.twin then ((s.count F.PUB_CNT_GATED).count gcnt, .gated)
      else
        let s := (s.pubPorts f.ports).foldl (fun s p => s.pubCopy f cyc tag p) s
        ((s.pubMirror f cyc tag).stat flo flive 1, .sent)

/-- No tag could be had (R266): counted, with event 0x0C03 at most once per second per template. `lastAt` is when it was last
raised; answers when it is now. -/
def State.noTag (s : State) (id : Nat) (cnt : Fld) (lastAt : Option Nat) : State × Option Nat :=
  let s := (s.count F.PUB_CNT_NOTAG).count cnt
  match lastAt with
  | none => (s.raise 0x0C03 id, some s.now)
  | some l => if l + 1000000000 ≤ s.now then (s.raise 0x0C03 id, some s.now) else (s, some l)

/-! ## GOOSE (R257 to R263, R268, R270) -/

/-- The MININT (µs) and T0 (ms) a template follows: the old curve until its next stNum increment after an amendment (R83). -/
def State.curve (s : State) (t : Nat) : Nat × Nat :=
  match s.rbk.oldCurve.find? (fun e => e.1 == t) with
  | some e => e.2
  | none => let c := s.get (F.PUB_GDATA_CURVE t); (s.get (F.PUB_CURVE_MININT c), s.get (F.PUB_CURVE_T0 c))

/-- The template is twinned now: R270 numbering is in force (R269). -/
def State.twinned (s : State) (t : Nat) : Bool := s.twinMode && s.flag (F.PUB_GCFG_TWIN t)

/-- t of a frame (R258): seconds, fraction and quality octet of a time of the timetable's base. The quality octet is laid out as
UtcTime: LeapSecondsKnown bit 7, ClockNotSynchronized bit 5, TimeAccuracy bits 4:0 (PRESUMED, log entry 19). -/
def State.utcTime (s : State) (ns : Nat) : Nat × Nat × Nat :=
  let ofs := s.get F.TSU_TIN_UTC_UTCOFS
  let locked := s.tbState s.ttbTb == 2
  let early := decide (ns / 1000000000 < ofs)
  (if early then 0 else ns / 1000000000 - ofs, if early then 0 else ns % 1000000000 * 2 ^ 24 / 10 ^ 9,
   128 + (if locked && !early then 0 else 32) + (if locked then 20 else 31))

/-- test (R258): a quality slot has test set, which is bit 4 of the octet after the slot (PRESUMED, log entry 19). -/
def testOf (slots : List Nat) (c : Bytes) : Bool := slots.any (fun o => bit ((c.getD (o + 1) 0#8).toNat) 4)

/-- Milliseconds, rounded up, of twice an interval in ns (R262). -/
def talOf (talmin interval : Nat) : Nat := Nat.max talmin (cdiv (2 * interval) 1000000)

/-- The publication index of a frame with a nominal time (R270). -/
def twIndex (twCyc twIdx cyc : Nat) : Nat := if twCyc = cyc then twIdx else 0

/-- Send a frame of a GOOSE template with the numbers its state holds. -/
def State.goosePut (s : State) (t nominal tal : Nat) : State × Sent :=
  let g := s.goose t
  let u := s.utcTime g.tchange
  let test := testOf (s.qslots t) g.contents
  let cyc := nominal / s.cycleNs
  let idx := twIndex g.twCyc g.twIdx cyc
  let f : PubFrame := {
    id := t, twin := s.twinned t, auth := s.get (F.PUB_GCFG_AUTH t), keyslot := s.get (F.PUB_GQ_KEYSLOT t),
    queue := s.get (F.PUB_GCFG_QUEUE t), stamp := s.flag (F.PUB_GCFG_STAMP t), ports := s.get (F.PUB_GPORTS_PORTS t),
    mirror := s.get (F.PUB_GPORTS_MIRROR t), sbport := s.get (F.PUB_GPORTS_SBPORT t),
    image := s.tmemN (s.get (F.PUB_GPRE_PREOFS t)) (s.get (F.PUB_GPRE_PRELEN t)),
    twMac := leBytes 4 (s.get (F.PUB_GMAC_LO_TWMAC t)) ++ leBytes 2 (s.get (F.PUB_GMAC_HI_TWMAC t)),
    nominal := nominal, frames := g.frames, index := idx,
    body := fun a => .goose t g.stNum g.sqNum tal u.1 u.2.1 u.2.2 test g.contents a }
  let r := s.pubEmit f (F.PUB_GCNT_GATED t) (F.PUB_GFRM_LO t) (F.PUB_GFRM_LIVE t)
  match r.2 with
  | .none =>
    if f.twin && decide (64 ≤ idx) then r
    else
      let n := r.1.noTag t (F.PUB_GCNT_NOTAG t) g.notagAt
      (n.1.setGoose t { n.1.goose t with notagAt := n.2 }, .none)
  | st =>
    let s := (r.1.put (F.PUB_GST_STNUM t) g.stNum).put (F.PUB_GSQ_SQNUM t) g.sqNum
    (s.setGoose t { s.goose t with frames := (g.frames + 1) % 2 ^ 48, twCyc := cyc, twIdx := idx + 1 }, st)

/-- stNum after an increment (R263). -/
def nextSt (n : Nat) : Nat := if n = 0xFFFFFFFF then 1 else n + 1

/-- sqNum of the next frame (R263). -/
def nextSq (n : Nat) : Nat := if n = 0xFFFFFFFF then 1 else n + 1

/-- A state change at a departure time (R260, R262): numbers, contents, anchor, points, and the first frame. -/
def State.stateChange (s : State) (t dep deadlineUs : Nat) (contents : Bytes) : State :=
  let s := s.setRbk { s.rbk with oldCurve := s.rbk.oldCurve.filter (fun e => e.1 != t) }
  let g := s.goose t
  let a := dep + deadlineUs * 1000
  let m := (s.curve t).1
  let s := s.setGoose t { g with stNum := nextSt g.stNum, sqNum := 0, contents := contents, tchange := dep,
                                 anchor := some a, point := some (1, a + m * 1000, m), deferred := false }
  let s := s.put (F.PUB_GSTAT_STATE t) 1
  (s.goosePut t dep (talOf (s.get (F.PUB_GTAL_TALMIN t)) (a + m * 1000 - dep))).1

/-- A point of a template is served (R262, R263): the frame at the point has the next sqNum, and the next point follows. -/
def State.servePoint (s : State) (t : Nat) : State :=
  let g := s.goose t
  match g.point with
  | none => s
  | some (n, at_, iv) =>
    let iv' := Nat.min (2 * iv) ((s.curve t).2 * 1000)
    let s := s.setGoose t { g with sqNum := nextSq g.sqNum, point := some (n + 1, at_ + iv' * 1000, iv'), deferred := false }
    (s.goosePut t at_ (talOf (s.get (F.PUB_GTAL_TALMIN t)) (iv' * 1000))).1

/-- Frames may leave: a rulebook is active, no reset runs and the module is not in Park (R75, R275). -/
def State.publishing (s : State) : Bool :=
  s.active && s.power.kind.isNone && decide (s.get F.PWR_STATE < 2)

/-- The running task of an instance, if any. -/
def State.taskOf (s : State) (i : Nat) : Option Running :=
  (List.range 24).findSome? (fun p => match (s.pf p).cur with
    | none => none
    | some r => if r.l.inst = i then some r else none)

/-- A point of a twinned template whose nominal time falls at or after the launch of an owner task still running is deferred
(R270). -/
def State.pointDeferred (s : State) (t at_ : Nat) : Bool :=
  s.twinned t && (match s.taskOf (s.get (F.PUB_GCFG_OWNER t)) with
    | none => false
    | some r => decide (r.l.dep ≤ at_))

/-- Serve a point at its time, or defer it. A point that falls in the clock of a commit of the owner waits for what the commit does: a
state change drops it (R275). -/
def State.pointDue (s : State) (t : Nat) (atCommit : Bool) : State :=
  match (s.goose t).point with
  | none => s
  | some (_, at_, _) =>
    if s.tbNs s.ttbTb < at_ then s
    else if s.pointDeferred t at_ || (atCommit && (s.taskOf (s.get (F.PUB_GCFG_OWNER t))).isSome) then s.setGoose t { s.goose t with deferred := true }
    else s.servePoint t

/-- RETRANSMISSION_POINT (R262). -/
def execRetransmissionPoint (tpl t : Nat) (s : State) (atCommit : Bool := false) : Out State :=
  let s := s.advance t
  .next (if s.publishing && s.get (F.PUB_GSTAT_STATE tpl) == 1 then s.pointDue tpl atCommit else s)

/-- Serve the points deferred to the end of a task, as many as have come due (R270). -/
def State.serveDeferred : Nat → State → Nat → State
  | 0, s, _ => s
  | n + 1, s, t =>
    match (s.goose t).point with
    | none => s
    | some (_, at_, _) =>
      if (s.goose t).deferred ∧ at_ ≤ s.tbNs s.ttbTb then
        let s := s.servePoint t
        State.serveDeferred n (s.setGoose t { s.goose t with deferred := true }) t
      else s.setGoose t { s.goose t with deferred := false }

/-- The valid GOOSE templates of an instance. -/
def State.templatesOf (s : State) (i : Nat) : List Nat :=
  (List.range 512).filter (fun t => s.flag (F.PUB_GCFG_VALID t) && s.get (F.PUB_GCFG_OWNER t) == i)

/-- A task of instance `i` has ended: its deferred points are served unless a state change has dropped them. -/
def State.pubTaskEnd (s : State) (i : Nat) : State :=
  (s.templatesOf i).foldl (fun s t => State.serveDeferred 64 s t) s

/-- One flagged buffer of a commit (R257, R260). Answers the contents when it is a state change. -/
def State.takeBuffer (s : State) (i t dep deadlineUs : Nat) : State × Option Bytes :=
  let a := s.dataAt i (s.get (F.PUB_GBUF_BUFOFS t))
  let len := s.rdLe a 4
  if len = 0 ∨ s.get (F.PUB_GDATA_ALEN t) < len then (s.count F.PUB_CNT2_BUFERR, none)
  else
    let c := s.rdN (a + 4) len
    if c = (s.goose t).contents then (s, none) else (s.stateChange t dep deadlineUs c, some c)

/-- The buffers that PUBLO and PUBHI flag, taken at a commit in the order of template numbers with URGENT templates first (R260,
R261). Answers template and contents of each changed twinned buffer (R272). -/
def State.pubCommit (s : State) (i mask dep deadlineUs : Nat) : State × List (Nat × Bytes) :=
  let ts := (s.templatesOf i).filter (fun t => bit mask (s.get (F.PUB_GCFG_BUF t)))
  let ts := ts.filter (fun t => s.flag (F.PUB_GCFG_URGENT t)) ++ ts.filter (fun t => !s.flag (F.PUB_GCFG_URGENT t))
  ts.foldl (fun r t =>
    let x := r.1.takeBuffer i t dep deadlineUs
    match x.2 with
    | none => (x.1, r.2)
    | some c => (x.1, if x.1.twinned t then r.2 ++ [(t, c)] else r.2)) (s, [])

/-- Write validity 0b01 in every quality slot (R268). -/
def invalidate (slots : List Nat) (c : Bytes) : Bytes :=
  slots.foldl (fun c o => if o < c.length then c.set o ((c.getD o 0#8 &&& 0x3F#8) ||| 0x40#8) else c) c

/-- The owner of a template is reset (R268): one final frame if it has quality slots and last contents to send, then it stops. Without a
state change since its cold start it has none (R263), and in Park nothing is published (R275). -/
def State.stopTemplate (s : State) (t : Nat) : State :=
  let s := if 0 < s.get (F.PUB_GDATA_NQ t) ∧ (s.goose t).stNum ≠ 0 ∧ s.publishing = true then
      let g := s.goose t
      let now := s.tbNs s.ttbTb
      let kept := g.contents
      let s := s.setGoose t { g with stNum := nextSt g.stNum, sqNum := 0, tchange := now,
                                     contents := invalidate (s.qslots t) g.contents }
      let r := s.goosePut t now (s.get (F.PUB_GTAL_TALMIN t))
      let s := r.1.setGoose t { r.1.goose t with contents := kept }
      if r.2 = .sent then s.raiseI 0x0C01 (s.get (F.PUB_GCFG_OWNER t)) t else s
    else s
  (s.put (F.PUB_GSTAT_STATE t) 2).setGoose t { s.goose t with point := none, deferred := false }

/-- Every template of an instance in reset. -/
def State.pubReset (s : State) (i : Nat) : State := (s.templatesOf i).foldl State.stopTemplate s

/-- The publication state of an instance (R263). -/
def State.pubStateOf (s : State) (i : Nat) : List (Nat × GooseS) := (s.templatesOf i).map (fun t => (t, s.goose t))

/-- Publication state restored for a warm start: numbers, contents and anchor of the image (R263). -/
def State.pubRestore (s : State) (i : Nat) (l : List (Nat × GooseS)) : State :=
  (s.templatesOf i).foldl (fun s t => match l.find? (fun e => e.1 == t) with
    | none => s
    | some e => s.setGoose t { s.goose t with
        stNum := e.2.stNum, sqNum := e.2.sqNum, contents := e.2.contents,
        anchor := e.2.anchor, point := e.2.point, tchange := e.2.tchange }) s

/-- A cold start sets stNum to 0; no frame until the first state change (R263). -/
def State.pubCold (s : State) (i : Nat) : State :=
  (s.templatesOf i).foldl (fun s t => (s.put (F.PUB_GSTAT_STATE t) 0).setGoose t
    { s.goose t with stNum := 0, sqNum := 0, contents := [], anchor := none, point := none, deferred := false }) s

/-- Pass over the points at or before `now` while the interval still grows to `t0`, in µs. -/
def GooseS.passGrowing : Nat → GooseS → Nat → Nat → GooseS
  | 0, g, _, _ => g
  | n + 1, g, now, t0 => match g.point with
    | none => g
    | some (k, at_, iv) =>
      if at_ ≤ now ∧ iv < t0 then
        let iv' := Nat.min (2 * iv) t0
        GooseS.passGrowing n { g with sqNum := nextSq g.sqNum, point := some (k + 1, at_ + iv' * 1000, iv') } now t0
      else g

/-- Pass over the points that fell while publication was stopped: the frame at point n has sqNum n (R263). -/
def GooseS.passed (g : GooseS) (now t0 : Nat) : GooseS :=
  let g := GooseS.passGrowing 20 g now t0
  match g.point with
  | none => g
  | some (k, at_, iv) =>
    if at_ ≤ now then
      let m := (now - at_) / (t0 * 1000) + 1
      let q := g.sqNum + m
      { g with sqNum := if q ≤ 0xFFFFFFFF then q else (q - 1) % 0xFFFFFFFF + 1, point := some (k + m, at_ + m * t0 * 1000, iv) }
    else g

/-- Templates with a publication state go on after a warm start that is no instance reset: they publish again from their next point
(R263, R275). On a take the resumption frames decide for a template that is not twinned (R394). -/
def State.pubResume (s : State) (i : Nat) : State :=
  (s.templatesOf i).foldl (fun s t =>
    let g := s.goose t
    if g.anchor.isNone then s
    else
      let s := s.put (F.PUB_GSTAT_STATE t) 1
      if s.tok.taken && !s.twinned t then s else s.setGoose t (g.passed (s.tbNs s.ttbTb) ((s.curve t).2 * 1000))) s

/-- Resumption frames at the first departure after a take (R394): last contents with the next sqNum, points at intervals of T0 from
that instant; a twinned template goes on from its anchor. -/
def State.resumeFrames (s : State) : State :=
  ((List.range 512).filter (fun t => s.flag (F.PUB_GCFG_VALID t) && (s.goose t).anchor.isSome)).foldl (fun s t =>
    let s := s.put (F.PUB_GSTAT_STATE t) 1
    if s.twinned t then s
    else
      let g := s.goose t
      let now := s.tbNs s.ttbTb
      let t0 := (s.curve t).2 * 1000
      let s := s.setGoose t { g with sqNum := nextSq g.sqNum, point := some (1, now + t0 * 1000, t0), deferred := false }
      (s.goosePut t now (talOf (s.get (F.PUB_GTAL_TALMIN t)) (t0 * 1000))).1) s

/-! ## SV (R264) -/

/-- oldData of detailQual with validity invalid, in the places of R175 (PRESUMED, log entry 19). -/
def staleQuality : Nat := 0x81

/-- Deliver an output element to a channel of an SV template (R196). -/
def State.svDeliver (s : State) (v ch : Nat) (value : Int) (qual : Nat) : State :=
  let x := s.svt v
  s.setSvt v { x with chans := (x.chans.filter (fun e => e.1 != ch)) ++ [(ch, value, qual, s.tbNs s.ttbTb)] }

/-- Value and quality of a channel at a release: stale after 10 ms without an element. -/
def SvTplS.sample (x : SvTplS) (ch now : Nat) : Int × Nat :=
  match x.chans.find? (fun e => e.1 == ch) with
  | none => (0, staleQuality)
  | some (_, v, q, t) => if t + 10000000 < now then (0, staleQuality) else (v, q % 2 ^ 14)

/-- smpCnt: round(ns × RATE / 10⁹) mod RATE. -/
def smpCntAt (rate ns : Nat) : Nat := if rate = 0 then 0 else (2 * (ns % 1000000000) * rate + 1000000000) / 2000000000 % rate

/-- Release one sample of SV template `v` at departure time `dep` (R264). -/
def State.svReleaseOne (s : State) (v dep : Nat) : State :=
  if !s.flag (F.PUB_SCFG_VALID v) then s
  else
    let rate := s.get (F.PUB_SRATE_RATE v)
    let cnt := smpCntAt rate dep
    let st := s.tbState s.ttbTb
    let sync := if st = 2 ∨ st = 3 then s.get (F.PUB_SRATE_SYNCVAL v) else 0
    let x := s.svt v
    let asdus := x.asdus ++ [(cnt, sync, (List.range (s.get (F.PUB_SCFG_NCH v))).map (fun c => x.sample c dep))]
    if asdus.length < s.get (F.PUB_SCFG_NASDU v) then s.setSvt v { x with asdus := asdus }
    else
      let s := s.setSvt v { x with asdus := [] }
      let cyc := dep / s.cycleNs
      let idx := twIndex x.twCyc x.twIdx cyc
      let f : PubFrame := {
        id := 0x200 + v, twin := s.twinMode && s.flag (F.PUB_SCFG_TWIN v), auth := s.get (F.PUB_SCFG_AUTH v),
        keyslot := s.get (F.PUB_SQ_KEYSLOT v), queue := s.get (F.PUB_SCFG_QUEUE v), stamp := s.flag (F.PUB_SCFG_STAMP v),
        ports := s.get (F.PUB_SPORTS_PORTS v), mirror := s.get (F.PUB_SPORTS_MIRROR v),
        sbport := s.get (F.PUB_SPORTS_SBPORT v),
        image := s.tmemN (s.get (F.PUB_SPRE_PREOFS v)) (s.get (F.PUB_SPRE_PRELEN v)),
        twMac := leBytes 4 (s.get (F.PUB_SMAC_LO v)) ++ leBytes 2 (s.get (F.PUB_SMAC_HI v)),
        nominal := dep, frames := x.frames, index := idx, body := fun a => .sv v asdus a }
      let r := s.pubEmit f (F.PUB_SCNT_GATED v) (F.PUB_SFRM_LO v) (F.PUB_SFRM_LIVE v)
      match r.2 with
      | .none =>
        if f.twin && decide (64 ≤ idx) then r.1
        else
          let n := r.1.noTag (0x200 + v) (F.PUB_SCNT_NOTAG v) x.notagAt
          n.1.setSvt v { n.1.svt v with notagAt := n.2 }
      | _ => (r.1.put (F.PUB_SSTAT_LASTCNT v) cnt).setSvt v
          { r.1.svt v with frames := (x.frames + 1) % 2 ^ 48, twCyc := cyc, twIdx := idx + 1 }

/-! ## Digests (R272) -/

/-- Record the end of a launch of a P instance for its cycle's digest. -/
def State.digestNote (s : State) (l : Launch) (commit : Bool) (trip : Word) (fault : Bool) (bufs : List (Nat × Bytes)) :
    State :=
  match s.decl l.inst with
  | none => s
  | some d =>
    if d.supervisory || !s.twinMode then s
    else s.setPub { s.pub with digRecs := s.pub.digRecs ++
      [(l.cyc, l.dep, l.inst, Config.digestRecord l.inst l.task l.k commit trip fault bufs)] }

/-- The digest of a cycle. -/
def State.digestOf (s : State) (cyc : Nat) : BitVec 64 :=
  let rs := sortBy (fun r => r.2.1 * 64 + r.2.2.1) (s.pub.digRecs.filter (fun r => r.1 == cyc))
  crc64 (rs.flatMap (fun r => r.2.2.2))

/-- Compare own and peer digest of a cycle when both are there. -/
def State.digestCompare (s : State) (cyc : Nat) : State :=
  match s.pub.digOwn.find? (fun e => e.1 == cyc), s.pub.digPeer.find? (fun e => e.1 == cyc) with
  | some o, some p =>
    let s := s.setPub { s.pub with digOwn := s.pub.digOwn.filter (fun e => e.1 != cyc),
                                   digPeer := s.pub.digPeer.filter (fun e => e.1 != cyc) }
    let s := (s.put F.PUB_DIG_LO o.2.toNat).put F.PUB_DIG_LIVE (o.2.toNat / 2 ^ 32)
    if o.2 = p.2 then s
    else
      let s := (s.count F.PUB_TWCNT_DIVERGE).put F.PUB_LASTDIV_CYCLE cyc
      match s.pub.divAt with
      | none => (s.raise 0x0C02 cyc).setPub { s.pub with divAt := some s.now }
      | some d => if d + 1000000000 ≤ s.now then (s.raise 0x0C02 cyc).setPub { s.pub with divAt := some s.now } else s
  | _, _ => s

/-- An active sends digests, but not for 100 ms after a take (R272, R394). -/
def State.digesting (s : State) : Bool :=
  s.twinMode && s.heldPos.isSome && (match s.tok.takeAt with
    | none => true
    | some t => decide (t + 100000000 ≤ s.now))

/-- DIGEST_SEND (R272). -/
def execDigestSend (cycle t : Nat) (s : State) : Out State :=
  let s := s.advance t
  .next (if s.digesting then
    let d := s.digestOf cycle
    let s := s.setPub { s.pub with digRecs := s.pub.digRecs.filter (fun r => r.1 != cycle),
                                   digOwn := s.pub.digOwn ++ [(cycle, d)] }
    (s.plSend 0x14 false (beBytes 8 cycle ++ beBytes 8 d.toNat)).digestCompare cycle
  else s.setPub { s.pub with digRecs := s.pub.digRecs.filter (fun r => r.1 != cycle) })

/-- A digest frame on a link (R272, R383). -/
def State.digestIn (s : State) (tw : Nat) (h : PlHdr) (cycle : Nat) (digest : BitVec 64) : State :=
  s.plReceive tw 0x14 h (fun s =>
    if s.twinMode && s.heldPos.isSome then
      (s.setPub { s.pub with digPeer := keepLast 256 (s.pub.digPeer ++ [(cycle, digest)]) }).digestCompare cycle
    else s)

/-- DIGEST_FRAME. -/
def execDigestFrame (tw : Nat) (h : PlHdr) (cycle : Nat) (digest : BitVec 64) (t : Nat) (s : State) : Out State :=
  .next ((s.advance t).digestIn tw h cycle digest)

/-- DIGEST_TIMEOUT (R272): no peer digest within one lease. -/
def execDigestTimeout (cycle : Nat) (s : State) : Out State :=
  .next (if s.pub.digOwn.any (fun e => e.1 == cycle) then
    (s.count F.PUB_TWCNT_DIGMISS).setPub { s.pub with digOwn := s.pub.digOwn.filter (fun e => e.1 != cycle) }
  else s)

end Sys2Proof.Machine
end

