-- ==== Sys2Proof/Machine/Trig.lean ====
section
/-!
DEFINITION. The trigonometry of R183, R189 and R216 in fixed point with 96 fraction bits, and the rounding of results that no rule
rounds. Log entry 25 gives the accuracy.
-/
namespace Sys2Proof.Machine

/-- One in fixed point. -/
def fxOne : Nat := 2 ^ 96

/-- π in fixed point. -/
def fxPi : Int := 248902613312231085230521944622

/-- Product of two fixed-point numbers, rounded to nearest. -/
def fxMul (a b : Int) : Int := rdiv (a * b) fxOne

/-- The whole number at or next above a quotient that no rule rounds: a free choice between the two neighbours, none when it is whole
(log entry 25). -/
def rnd (num : Int) (den : Nat) : Int :=
  let q := fdiv num den
  if q * den = num then q else if Config.roundUp num den then q + 1 else q

/-- Terms of a power series whose term `k + 1` is term `k` times −x²/((m)(m+1)). -/
def seriesFrom : Nat → Nat → Int → Int → Int → Int
  | 0, _, _, _, acc => acc
  | n + 1, m, x2, term, acc =>
    let t := - rdiv (fxMul term x2) (m * (m + 1))
    seriesFrom n (m + 2) x2 t (acc + t)

/-- cos of `k / n` of a turn, at most an eighth. -/
def cosSmall (n k : Nat) : Int :=
  if k = 0 then fxOne
  else let x := rdiv (2 * fxPi * k) n; seriesFrom 18 1 (fxMul x x) fxOne fxOne

/-- sin of `k / n` of a turn, at most an eighth; a twelfth gives one half. -/
def sinSmall (n k : Nat) : Int :=
  if 12 * k = n then 2 ^ 95
  else let x := rdiv (2 * fxPi * k) n; seriesFrom 18 2 (fxMul x x) x x

/-- cos of `k / n` of a turn for `k` at most `n / 2`, `n` a multiple of 8. -/
def cosHalf (n k : Nat) : Int :=
  let c := fun k => if 8 * k ≤ n then cosSmall n k else sinSmall n (n / 4 - k)
  if 4 * k ≤ n then c k else - c (n / 2 - k)

/-- cos of `k / n` of a turn. -/
def cosFx (n k : Nat) : Int :=
  let r := k % n
  if 2 * r ≤ n then cosHalf n r else cosHalf n (n - r)

/-- sin of `k / n` of a turn. -/
def sinFx (n k : Nat) : Int := cosFx n (k + 3 * (n / 4))

/-- √3 / 2 in fixed point. -/
def fxS3 : Int := isqrt (3 * 2 ^ 190)

/-- arctan of `y / x` for 0 ≤ y ≤ x, halved three times before its series. -/
def atanFx (y x : Nat) : Int :=
  let halve := fun (t : Nat) => t * fxOne / (fxOne + isqrt (fxOne * fxOne + t * t))
  let t : Int := halve (halve (halve (y * fxOne / x)))
  let t2 := fxMul t t
  8 * ((List.range 24).foldl (fun (a : Int × Int) k => (fxMul a.1 t2, a.2 + (if k % 2 = 0 then rdiv a.1 (2 * k + 1)
    else - rdiv a.1 (2 * k + 1)))) (t, 0)).2

/-- The angle of (a, b) as a part of a turn, above −1/2 and at most 1/2, in fixed point. -/
def turnFx (a b : Int) : Int :=
  let x := a.natAbs
  let y := b.natAbs
  if x = 0 ∧ y = 0 then 0
  else
    let q : Int := fxOne / 4
    let acute : Int := if y = 0 then 0 else if y ≤ x then rdiv (atanFx y x * fxOne) (2 * fxPi).toNat
      else q - rdiv (atanFx x y * fxOne) (2 * fxPi).toNat
    let t := if a < 0 then 2 * q - acute else acute
    if b < 0 then (if t = 2 * q then t else -t) else t

/-- 1 − exp(−2π c / (100 r)) in fixed point (R183). -/
def decayFx (c r : Nat) : Int :=
  let y := rdiv (2 * fxPi * c) (100 * r)
  ((List.range 24).foldl (fun (a : Int × Int) k =>
    let t := - rdiv (fxMul a.1 y) (k + 1)
    (t, a.2 - t)) ((fxOne : Int), (0 : Int))).2

/-- Round a fixed-point number to nearest, ties toward plus infinity, with the 2⁻³² that the constants may be off counted as a
tie (R216). -/
def fxRound (x : Int) : Int := fdiv (2 * x + fxOne + 2 ^ 65) (2 * fxOne)

end Sys2Proof.Machine
end

