-- ==== Sys2Proof/Machine/Filter.lean ====
section
/-!
DEFINITION. The filter chain: lanes, frequency groups, freeze sets, frame marks and delivery (R180 to R205, R212, R213). What the
rules leave open here is in log entries 25 and 26.
-/
namespace Sys2Proof.Machine

/-! ## Frequency groups and the grid (R188 to R190) -/

/-- Δ in 2⁻¹⁶ ns. -/
def gridStep (n f : Nat) : Nat := 2 ^ 32 * 10 ^ 9 / (n * f)

/-- Time of grid point `k` in 2⁻¹⁶ ns; a point not fixed yet by the F now in force; none before the group starts. -/
def State.gridAt (s : State) (g k : Nat) : Option Int :=
  let x := s.group g
  match x.t0 with
  | none => none
  | some t0 =>
    if s.fgMode g = 3 then
      let r := s.get (F.FCH_FG_DCRATE g)
      some ((t0 + (k / r * 10 ^ 9 + k % r * 10 ^ 9 / r : Nat)) * 65536)
    else
      let d : Int := gridStep (s.fgN g) x.f
      match x.grid with
      | [] => some (t0 * 65536 + k * d)
      | (hi, t) :: _ =>
        if hi ≤ k then some (t + (k - hi : Nat) * d)
        else match x.grid.find? (fun e => e.1 == k) with
          | some e => some e.2
          | none => some (t - (hi - k : Nat) * d)

/-- Fix the time of a grid point that a lane outputs. -/
def State.fixGrid (s : State) (g k : Nat) (t : Int) : State :=
  let x := s.group g
  if s.fgMode g = 3 then s
  else match x.grid with
    | [] => s.setGroup g { x with grid := [(k, t)] }
    | (hi, _) :: _ => if hi < k then s.setGroup g { x with grid := ((k, t) :: x.grid).take 8192 } else s

/-- Note F and state from index `k` on. -/
def State.fgMark (s : State) (g k : Nat) : State :=
  let x := s.group g
  s.setGroup g { x with marks := ((k, x.f, s.get (F.FCH_FG_STATUS_STATE g)) :: x.marks).take 256 }

/-- A group enters a state at index `k` with a grid frequency and an event. The good cycles counted so far stand: those in COASTING
count on in NOMINAL (R190). -/
def State.fgTo (s : State) (g k st f code : Nat) : State :=
  let s := (s.put (F.FCH_FG_STATUS_STATE g) st).setGroup g { s.group g with f := f }
  (s.fgMark g k).raise code g

/-- To NOMINAL. -/
def State.fgNominal (s : State) (g k : Nat) : State := s.fgTo g k 0 (s.get (F.FCH_FG_NOM g)) 0x0902

/-- To COASTING (R190): the F in force before the latest BACK updates. With fewer updates than BACK the oldest known F is
taken. -/
def State.fgCoast (s : State) (g k : Nat) : State :=
  let x := s.group g
  let b := s.get (F.FCH_FG_CTRL_BACK g)
  let f := if b = 0 then x.f else x.back.getD (b - 1) (x.back.getLastD x.f)
  let s := ((s.setGroup g { x with good := 0 }).count (F.FCH_FG_CNT_COASTS g)).fgTo g k 2 f 0x0901
  if s.get (F.FCH_FG_HOLD g) = 0 then s.fgNominal g k else s

/-- The reference lanes of a group. -/
def State.refLanes (s : State) (g : Nat) : List Nat :=
  if s.fgMode g = 1 then [s.get (F.FCH_FG_REF_REFA g)]
  else if s.fgMode g = 2 then [s.get (F.FCH_FG_REF_REFA g), s.get (F.FCH_FG_REF_REFB g), s.get (F.FCH_FG_REFC g)]
  else []

/-- Start a group (R188, R201): point 0 at the first whole second after the start. -/
def State.groupStart (s : State) (g : Nat) : State :=
  let m := s.fgMode g
  if m = 0 then s.setGroup g GroupS.init
  else
    let n := (s.refLanes g).length
    let t0 : Int := (s.tbSec (s.get (F.FCH_FG_CTRL_TB g)) + 1) * 1000000000
    let s := (s.put (F.FCH_FG_STATUS_STATE g) (if m = 3 then 3 else 0)).put (F.FCH_FG_FRAME g) 0
    let s := ((s.put (F.FCH_FG_IDX_LO g) 0).put (F.FCH_FG_IDX_LIVE g) 0)
    (s.setGroup g { GroupS.init with t0 := some t0, f := s.get (F.FCH_FG_NOM g), refs := List.replicate n [],
                                     win := List.replicate n [] }).fgMark g 0

/-- Start every group. -/
def State.groupsStart (s : State) : State := s.each (List.range 64) State.groupStart

/-- The full-cycle phasor of one reference lane's last N values, the newest at index `k` (R189). -/
def cyclePhasor (n k : Nat) (w : List Int) : Int × Int :=
  let t := (List.zip (List.range n) w).foldl (fun (a : Int × Int) p =>
    let m := k + 1 + p.1
    (a.1 + p.2 * cosFx n m, a.2 - p.2 * sinFx n m)) (0, 0)
  (rdiv (2 * t.1) n, rdiv (2 * t.2) n)

/-- a x with a = e^(i2π/3). -/
def turn120 (x : Int × Int) : Int × Int :=
  (- rdiv x.1 2 - fxMul fxS3 x.2, - rdiv x.2 2 + fxMul fxS3 x.1)

/-- a² x. -/
def turn240 (x : Int × Int) : Int × Int :=
  (- rdiv x.1 2 + fxMul fxS3 x.2, - rdiv x.2 2 - fxMul fxS3 x.1)

/-- The positive sequence (Xa + a Xb + a² Xc) / 3. -/
def posSeq (xa xb xc : Int × Int) : Int × Int :=
  let b := turn120 xb
  let c := turn240 xc
  (rdiv (xa.1 + b.1 + c.1) 3, rdiv (xa.2 + b.2 + c.2) 3)

/-- The group's phasor at index `k`, once N points are in. -/
def State.fgPhasor (s : State) (g k : Nat) : Option (Int × Int) :=
  let n := s.fgN g
  let w := (s.group g).win
  if w.isEmpty || w.any (fun l => decide (l.length < n)) then none
  else match w.map (cyclePhasor n k) with
    | [xa, xb, xc] => some (posSeq xa xb xc)
    | xa :: _ => some xa
    | [] => none

/-- The angle of group `g`'s phasor at point `k` as a part of a turn; a zero phasor has none, so its angle is free (log entry 25). -/
def argFx (g k : Nat) (x : Int × Int) : Int :=
  if x = (0, 0) then (fxOne / 2 : Nat) - (Config.zeroTurn g k % fxOne : Nat) else turnFx x.1 x.2

/-- Δθ of an update as a part of a turn, above −1/2 and at most 1/2 (R189). -/
def deltaTurn (g k n : Nat) (x p : Int × Int) : Int :=
  if x = (0, 0) ∨ p = (0, 0) then
    let d := argFx g k x - argFx g (k - n) p
    if (fxOne / 2 : Nat) < d then d - fxOne else if d ≤ -((fxOne / 2 : Nat) : Int) then d + fxOne else d
  else turnFx (x.1 * p.1 + x.2 * p.2) (x.2 * p.1 - x.1 * p.2)

/-- FREQ of an update (R189) and whether it was limited. -/
def updateFreq (f : Nat) (t : Int) : Int × Bool :=
  if (20 * 2 ^ 32 * fxOne : Nat) < (f * f * t.natAbs : Nat) then
    (rnd ((f * f : Nat) + (if t < 0 then -1 else 1) * (20 * 2 ^ 32 : Nat)) f, true)
  else (rnd ((f : Int) * (fxOne + t)) fxOne, false)

/-- The update at the end of a cycle (R189, R190). There is none before two full windows. -/
def State.fgUpdate (s : State) (g k : Nat) (x : Option (Int × Int)) : State :=
  let q := s.group g
  let r : State × Option Nat := match x, q.prev with
    | some x, some p =>
      let u := updateFreq q.f (deltaTurn g k (s.fgN g) x p)
      let s := if u.2 then s.count (F.FCH_FG_CNT_RLIM g) else s
      let f := u.1.toNat % 2 ^ 32
      ((s.put (F.FCH_FG_FREQ g) f).setGroup g { q with back := (q.f :: q.back).take 4 }, some f)
    | _, _ => (s, none)
  let s := r.1.setGroup g { r.1.group g with prev := x }
  let inr := match r.2 with
    | none => false
    | some f => decide (s.get (F.FCH_FG_RANGE_FMIN g) * 65536 ≤ f * 100) && decide (f * 100 ≤ s.get (F.FCH_FG_RANGE_FMAX g) * 65536)
  let f := r.2.getD q.f
  if s.get (F.FCH_FG_STATUS_STATE g) = 1 then
    if inr then (s.setGroup g { s.group g with f := f }).fgMark g k else s.fgCoast g k
  else
    let n := if q.cycOk && inr then q.good + 1 else 0
    if inr && decide (s.get (F.FCH_FG_CTRL_LOCKCYC g) ≤ n) && q.cycOk then (s.setGroup g { s.group g with good := 0 }).fgTo g k 1 f 0x0903
    else s.setGroup g { s.group g with good := n }

/-- A HOLD that expires at reference point `k`: a lock that completes at the point goes before it (R201). -/
def State.fgHoldEnd (s : State) (g k : Nat) : State :=
  let x := s.group g
  if x.holdOver then
    let s := s.setGroup g { x with holdOver := false }
    if s.get (F.FCH_FG_STATUS_STATE g) = 2 then s.fgNominal g k else s
  else s

/-- One reference point: MAG, the good cycle, coasting, the update and the end of HOLD (R189, R190, R201). -/
def State.refPoint (s : State) (g : Nat) (vals : List Int) (ok : Bool) : State :=
  let q := s.group g
  let n := s.fgN g
  let k := q.nk
  let s := s.setGroup g { q with win := (List.zip q.win vals).map (fun p => keepLast n (p.1 ++ [p.2])), nk := k + 1 }
  let x := s.fgPhasor g k
  let mag2 := match x with
    | none => 0
    | some x => x.1.natAbs * x.1.natAbs + x.2.natAbs * x.2.natAbs
  let lvl := s.get (F.FCH_FG_MINLVL g) * fxOne
  let s := if x.isSome then s.put (F.FCH_FG_MAG g) (Nat.min (rnd (isqrt mag2) fxOne).toNat (2 ^ 32 - 1)) else s
  let good := ok && x.isSome && decide (lvl * lvl ≤ mag2)
  let s := s.setGroup g { s.group g with cycOk := (k % n == 0 || q.cycOk) && good }
  let s := if s.get (F.FCH_FG_STATUS_STATE g) = 1 ∧ (!ok ∨ 64 * mag2 < 49 * (lvl * lvl)) then s.fgCoast g k else s
  (if k % n = n - 1 then s.fgUpdate g k x else s).fgHoldEnd g k

/-- Serve the reference points for which every reference lane has delivered. -/
def State.refRun : Nat → State → Nat → State
  | 0, s, _ => s
  | n + 1, s, g =>
    let q := s.group g
    if q.refs.isEmpty || q.refs.any (fun l => l.isEmpty) then s
    else
      let heads := q.refs.map (fun l => l.headD (0, false))
      let s := s.setGroup g { q with refs := q.refs.map List.tail }
      State.refRun n (s.refPoint g (heads.map (fun h => h.1)) (heads.all (fun h => h.2))) g

/-- An output of lane `l` reaches its group: index and, from a reference lane, the reference (R189, R204). -/
def State.groupTake (s : State) (g l k : Nat) (value : Int) (qual : Nat) : State :=
  let q := s.group g
  let idx := Nat.max q.idx k
  let ok := qual % 4 == 0 && !bit qual 14
  let refs := (List.zip (s.refLanes g) q.refs).map (fun p => if p.1 = l then p.2 ++ [(value, ok)] else p.2)
  let s := s.setGroup g { q with idx := idx, refs := refs }
  let s := (s.put (F.FCH_FG_IDX_LO g) idx).put (F.FCH_FG_IDX_LIVE g) (idx / 2 ^ 32)
  State.refRun 2 s g

/-! ## Freeze sets (R184) -/

/-- A set is frozen by its register bit, by an instance's committed fault detector, or by a recorder whose capture runs. -/
def State.fzSource (s : State) (z : Nat) : Bool :=
  bit (s.get F.FCH_FRZ_REG) z ||
  (maskBits 31 (s.get (F.FCH_FZ_INSTLO_INST z))).any (fun i => (s.inst (i + 1)).fault) ||
  (maskBits 32 (s.get (F.FCH_FZ_INSTHI_INST z))).any (fun i => (s.inst (i + 32)).fault) ||
  (maskBits 16 (s.get (F.FCH_FZ_REC z))).any (fun r => s.recState r == 3)

/-- One set taken anew, with event 0x0904 when it freezes. A set that no lane uses raises none. -/
def State.fzTake (s : State) (z : Nat) : State :=
  let old := s.get F.FCH_FZSTAT_FROZEN
  let on := s.fzSource z
  if on = bit old z then s
  else
    let s := s.put F.FCH_FZSTAT_FROZEN (if on then old + 2 ^ z else old - 2 ^ z)
    let due := match s.fch.frzAt.find? (fun e => e.1 == z) with
      | none => true
      | some e => decide (e.2 + 100000000 ≤ s.now)
    if on && due then
      match s.validLanes.find? (fun l => s.flag (F.FCH_LDC_FZEN l) && s.get (F.FCH_LDC_FZSET l) == z) with
      | none => s
      | some l => (s.setFch { s.fch with frzAt := (z, s.now) :: s.fch.frzAt.filter (fun e => e.1 != z) }).raise 0x0904 l
    else s

/-- Every set taken anew: at an input, at a write of FCH_FRZ and at a commit. -/
def State.fzRefresh (s : State) : State := s.each (List.range 16) State.fzTake

/-! ## Settling and delays (R194, R195) -/

/-- The coefficient set of a lane in a bank. -/
def State.coefOf (s : State) (l b : Nat) : CoefSet :=
  (s.fch.banks.getD b []).getD (s.get (F.FCH_LFIR_SET l)) { gd := 0, h := [] }

/-- RATE of a lane's stream. -/
def State.laneRate (s : State) (l : Nat) : Nat := s.get (F.SVI_SUB_RATE (s.get (F.FCH_LCFG_STREAM l)))

/-- SETTLE with a set. -/
def State.settleOf (s : State) (l : Nat) (c : CoefSet) : Nat :=
  let r := s.get (F.FCH_LCIC_RATIO l)
  (if 1 < r then s.get (F.FCH_LCIC_ORDER l) * r else 0) + (c.h.length + 4) * r

/-- The most inputs that SETTLE of a lane can count, with a set of 128 taps (R194). -/
def State.settleMax (s : State) (l : Nat) : Nat :=
  let r := s.get (F.FCH_LCIC_RATIO l)
  (if 1 < r then s.get (F.FCH_LCIC_ORDER l) * r else 0) + 132 * r

/-- GDELAY in ns with a set. -/
def State.gdelayOf (s : State) (l : Nat) (c : CoefSet) : Nat :=
  let r := s.get (F.FCH_LCIC_RATIO l)
  (s.get (F.FCH_LCIC_ORDER l) * (r - 1) * 128 + r * c.gd) * 10 ^ 9 / (256 * s.laneRate l)

/-- Show SETTLE and GDELAY for the bank a lane uses. -/
def State.showSettle (s : State) (l : Nat) : State :=
  let c := s.coefOf l (s.lane l).bank
  (s.put (F.FCH_LSETTLE_SETTLE l) (s.settleOf l c)).put (F.FCH_LGD_GDELAY l) (s.gdelayOf l c)

/-- A disturbance: REMAIN := SETTLE (R194). -/
def State.disturb (s : State) (l : Nat) : State :=
  let n := s.get (F.FCH_LSETTLE_SETTLE l)
  (s.put (F.FCH_LSETTLE_REMAIN l) n).putB (F.FCH_LMODE_SUPPR l) (n != 0)

/-- Show the effective phase delay. -/
def State.showDelay (s : State) (l : Nat) : State :=
  s.put (F.FCH_LPD_PDELAY l) ((s.lane l).dly * 10 ^ 9 / (256 * s.laneRate l))

/-- FCH_LDLY in 1/256 sample. -/
def State.ldly (s : State) (l : Nat) : Nat := s.get (F.FCH_LDLY_INT l) * 256 + s.get (F.FCH_LDLY_FRAC l)

/-- A lane is re-mapped (R193, R201): every stage starts afresh and settles. -/
def State.remapLane (s : State) (l : Nat) : State :=
  let n := s.get (F.FCH_LCIC_ORDER l)
  let s := s.setLane l { LaneS.init with dly := s.ldly l, bank := s.get F.FCH_BANK_ACTIVE,
                                         switched := s.fch.switches.length, integ := List.replicate n 0,
                                         comb := List.replicate n 0, ownerReset := (s.lane l).ownerReset }
  let s := ((s.put (F.FCH_LMODE_FROZEN l) 0).put (F.FCH_LMODE_FADING l) 0).put (F.FCH_LMODE_SLEW l) 0
  ((s.showSettle l).showDelay l).disturb l

/-- Every lane in use is re-mapped. -/
def State.remapLanes (s : State) : State := s.each s.validLanes State.remapLane

/-! ## The stages (R182 to R187) -/

/-- Binomial coefficients of 3 and 4. -/
def binom (n k : Nat) : Int := if n = 3 then [1, 3, 3, 1].getD k 0 else [1, 4, 6, 4, 1].getD k 0

/-- Lagrange interpolation over nodes 0 to n, n being 3 or 4, at `x / unit`: numerator and denominator. -/
def lagrange (ys : List Int) (x : Int) (unit : Nat) : Int × Nat :=
  let n := ys.length - 1
  let idx := List.range (n + 1)
  ((List.zip idx ys).foldl (fun a p =>
    let prod := idx.foldl (fun q m => if m = p.1 then q else q * (x - (m * unit : Nat))) (1 : Int)
    a + (if (n - p.1) % 2 = 0 then 1 else -1) * binom n p.1 * p.2 * prod) 0,
   (if n = 3 then 6 else 24) * unit ^ n)

/-- The input `d` before the newest. -/
def delayed (lane : Nat) (h : List Sample) (d : Nat) : Int := match h[d]? with
  | some x => x.value
  | none => (Config.delayLine lane (d - h.length)).toInt

/-- The phase delay stage (R182): the five samples nearest, none later than the newest. -/
def phaseOut (lane : Nat) (h : List Sample) (dly : Nat) : Int :=
  let i := dly / 256
  let f := dly % 256
  if f = 0 then delayed lane h i
  else
    let lo := (if 128 < f then i + 1 else i) - 2
    let r := lagrange ((List.range 5).map (fun j => delayed lane h (lo + j))) ((dly : Int) - (lo * 256 : Nat)) 256
    rnd r.1 r.2

/-- One step of a slew (R182): the effective delay at input `k` of 16. -/
def slewStep (from_ to_ k : Nat) : Nat := (fdiv ((from_ * 16 : Nat) + ((to_ : Int) - from_) * k) 16).toNat

/-- round(e), nearest, ties toward plus infinity. -/
def roundE (e : Int) : Int := rdiv e 16384

/-- The DC estimate after an input (R183): α (x − e), in 2⁻¹⁴ counts. -/
def dcUpdate (corner rate : Nat) (e x : Int) : Int :=
  let a := rdiv (decayFx corner rate * 2 ^ 24) fxOne
  e + rnd (a * (x * 16384 - e)) (2 ^ 24)

/-- The integrators: their new contents and what the last one hands on (R185). -/
def integrate : List (BitVec 72) → BitVec 72 → List (BitVec 72) × BitVec 72
  | [], v => ([], v)
  | a :: r, v => let t := integrate r (a + v); ((a + v) :: t.1, t.2)

/-- The combs. -/
def combs : List (BitVec 72) → BitVec 72 → List (BitVec 72) × BitVec 72
  | [], v => ([], v)
  | c :: r, v => let t := combs r (v - c); (v :: t.1, t.2)

/-- CSH (R185). -/
def cshOf (order ratio : Nat) : Nat := 35 + order * clog2 ratio - 48

/-- The FIR sum of a set (R186). -/
def firDot (c : CoefSet) (xs : List Tap) : Int := (List.zip c.h xs).foldl (fun a p => a + p.1 * p.2.value) 0

/-- Output scaling (R192): the saturated value and whether it saturated. -/
def scaleOut (osh : Nat) (y : Int) : Int × Bool :=
  let v := if osh = 0 then y else fdiv (y + (2 ^ (osh - 1) : Nat)) (2 ^ osh)
  (satS 32 v, satS 32 v != v)

/-- The merged bits of the last SETTLE inputs (R194, R199): the quality, MISSING, LOST, RESUME, SIM, FT3, UNSYNC. -/
def mergeWindow (w : List Nat) : Nat :=
  let rest := w.foldl (fun a q => a ||| (q &&& 0x1F3FFC) ||| (if q / 2 ^ 24 = 0 then 2 ^ 21 else 0)) 0
  let v := if w.any (fun q => q % 4 == 1 || q % 4 == 2) then 1 else if w.any (fun q => q % 4 == 3) then 3 else 0
  rest + v

/-- A comparator (R198). -/
def comparator (mode : Nat) (v lvl : Int) : Bool :=
  if mode = 1 then decide (lvl < v) else if mode = 2 then decide (v < lvl)
  else if mode = 3 then decide (lvl < (v.natAbs : Int)) else false

/-! ## Delivery (R196, R199, R212, R213) -/

/-- Write into the data window of an instance from outside its tasks' stores: during a shunt into both copies (R249). -/
def State.ringPut (s : State) (i o : Nat) (b : Bytes) : State :=
  let s := s.wrN (s.dataAt i o) b
  match s.mar.shunt with
  | none => s
  | some h => if h.inst = i then s.wrN (tcmBase h.target + 0x80000 + h.data + o) b else s

/-- The instance takes ring writes: it runs and does not wait for a restart (R196, R227). -/
def State.takesRings (s : State) (i : Nat) : Bool := s.instState i == 2 && !s.flag (F.PFM_IFLAG_QUAR i)

/-- Write an element into a ring: the element, then WRHI, then WRLO (R213). -/
def State.ringWrite (s : State) (i r k : Nat) (value : Int) (qual : Nat) : State :=
  let o := s.ringOfs i r
  if o = 0 then s
  else
    let d := s.dword i o % 16
    let x := s.inst i
    let s := if x.ringFrom.any (fun e => e.1 == r) then s else s.setInst i { x with ringFrom := x.ringFrom ++ [(r, k)] }
    let s := s.ringPut i (o + 0x40 + 8 * (k % 2 ^ d)) (leBytes 4 (wrapN 32 value) ++ leBytes 4 qual)
    (s.ringPut i (o + 8) (leBytes 4 (k / 2 ^ 32))).ringPut i (o + 4) (leBytes 4 k)

/-- The destination entries of a lane (R196). -/
def State.dests (s : State) (l : Nat) : List Nat :=
  (List.range 4).flatMap (fun w => [s.get (F.FCH_LDEST_LO l w), s.get (F.FCH_LDEST_HI l w)])

/-- The rings of a lane: (instance, ring input). -/
def State.ringsOf (s : State) (l : Nat) : List (Nat × Nat) :=
  ((s.dests l).filter (fun d => d / 2 ^ 14 == 1)).map (fun d => (d / 256 % 64, d % 256))

/-- Deliver an output element to every destination. -/
def State.deliverOut (s : State) (l k : Nat) (gt : Int) (value : Int) (qual : Nat) (prev : Option (Int × Int))
    (rises : List (Nat × Int × Bool)) : State :=
  let g := s.get (F.FCH_LCFG_FG l)
  let tb := s.get (F.FCH_FG_CTRL_TB g)
  let x : RecSample := { time := gt, value := value, qual := qual, idx := k, epoch := s.epoch tb, dcorr := s.dcorr 1 l }
  let s := (s.dests l).foldl (fun s d =>
    let idx := d % 2 ^ 14
    if d / 2 ^ 14 = 1 then
      let i := idx / 256 % 64
      if s.takesRings i && !((s.lane l).ownerReset && i == s.get (F.FCH_LCFG_OWNER l)) then
        s.ringWrite i (idx % 256) k value qual
      else s
    else if d / 2 ^ 14 = 2 then s.recLane (idx / 256 % 16) (idx % 256) l x prev rises
    else if d / 2 ^ 14 = 3 then s.svDeliver (idx / 256 % 64) (idx % 32) value qual
    else s) s
  let s := s.histSample l tb x
  let s := s.setLane l { s.lane l with written := some k }
  s.groupTake g l k value qual

/-- What an input left for the outputs it completes. -/
structure InFlags where
  frozen : Bool
  slew   : Bool
  fade   : Bool

/-- One grid point of a lane (R191, R192, R194, R198, R199). `mu` is the fractional position, none when the point lies at or before
the FIR output before the newest. -/
def State.emitPoint (s : State) (l k : Nat) (gt : Int) (mu : Option Int) (q : InFlags) : State :=
  let x := s.lane l
  let g := s.get (F.FCH_LCFG_FG l)
  let sup := s.flag (F.FCH_LMODE_SUPPR l) || x.ownerReset || mu.isNone || decide (x.outs.length < 4)
  let merged := mergeWindow (x.window.take (s.get (F.FCH_LSETTLE_SETTLE l)))
  let merged := if s.get (F.SVI_SUB_KIND (s.get (F.FCH_LCFG_STREAM l))) = 2 then merged ||| 2 ^ 20 else merged
  let base := 2 ^ 15 * ofBool q.fade + 2 ^ 22 * ofBool q.frozen + 2 ^ 23 * ofBool q.slew +
    2 ^ 27 * s.get (F.FCH_FG_STATUS_STATE g)
  if sup then
    let s := s.setLane l { x with cmp := 0 }
    s.deliverOut l k gt 0 (base + (merged / 4 * 4 + 1) + 2 ^ 14) x.last []
  else
    let r := lagrange ((x.outs.map (fun t => t.value)).reverse) (mu.getD 0 + 131072) 65536
    let o := scaleOut (s.get (F.FCH_LFIR_OSHIFT l)) (rnd r.1 r.2)
    let s := if o.2 then (s.count (F.FCH_LCNT_SAT l)).count F.FCH_CNT_SATALL else s
    let l0 := s.getI (F.FCH_LCMPL0_LVL l)
    let l1 := s.getI (F.FCH_LCMPL1_LVL l)
    let m0 := s.get (F.FCH_LMODE_MODE0 l)
    let m1 := s.get (F.FCH_LMODE_MODE1 l)
    let c0 := comparator m0 o.1 l0
    let c1 := comparator m1 o.1 l1
    let rises := (if c0 && !bit x.cmp 0 then [(0, l0, m0 == 3)] else []) ++ (if c1 && !bit x.cmp 1 then [(1, l1, m1 == 3)] else [])
    let s := s.setLane l { x with cmp := ofBool c0 + 2 * ofBool c1, last := some (gt, o.1) }
    s.deliverOut l k gt o.1 (base + merged + 2 ^ 24 * ofBool o.2 + 2 ^ 25 * ofBool c0 + 2 ^ 26 * ofBool c1) x.last rises

/-- The grid points up to the newest FIR output (R191). Answers whether there was one. -/
def State.resample : Nat → State → Nat → InFlags → Bool → State × Bool
  | 0, s, _, _, any => (s, any)
  | n + 1, s, l, q, any =>
    let x := s.lane l
    let g := s.get (F.FCH_LCFG_FG l)
    let k := x.nextGrid
    match x.outs, s.gridAt g k with
    | t1 :: older, some gt =>
      if s.fgMode g = 0 ∨ t1.label * 65536 < gt then (s, any)
      else
        let mu := match older with
          | t0 :: _ => if t0.label * 65536 < gt then some (rnd (gt - t0.label * 65536) (t1.label - t0.label).toNat) else none
          | [] => none
        let s := (s.fixGrid g k gt).setLane l { x with nextGrid := k + 1 }
        State.resample n (s.emitPoint l k (fdiv gt 65536) mu q) l q true
    | _, _ => (s, any)

/-- Grid points that the next call can find, at most: no grid is denser than 32,768 points a second. -/
def State.pointsDue (s : State) (l : Nat) : Nat :=
  let x := s.lane l
  match x.outs, s.gridAt (s.get (F.FCH_LCFG_FG l)) x.nextGrid with
  | t :: _, some gt => ((t.label - fdiv gt 65536).toNat * 32768 / 1000000000) + 2
  | _, _ => 0

/-- The bank switches that a lane has not made yet and whose boundary is at or before `label`, in their order (R187). -/
def State.switchesDue (s : State) (l : Nat) (label : Int) : List (Int × Nat) :=
  ((s.fch.switches.reverse).drop (s.lane l).switched).takeWhile (fun e => decide (e.1 ≤ label))

/-- A lane changes to bank `b` (R187): with a fade of FADE outputs, or at once with a disturbance. -/
def State.switchLane (s : State) (l b : Nat) : State :=
  let x := s.lane l
  let m := s.get (F.FCH_LFIR_FADE l)
  let s := (s.setLane l { x with bank := b, switched := x.switched + 1, fade := if m = 0 then none else some (0, x.bank) }).showSettle l
  if m = 0 then s.disturb l else s

/-- One FIR input (R186, R187): the bank switch, the fade and the points. -/
def State.firIn (s : State) (l : Nat) (v label : Int) (q : InFlags) : State × Bool :=
  let x := s.lane l
  let x := { x with fir := ({ label := label, value := v } :: x.fir).take 128 }
  let m := s.get (F.FCH_LFIR_FADE l)
  let s := (s.switchesDue l label).foldl (fun s e => s.switchLane l e.2) (s.setLane l x)
  let x := s.lane l
  let y := firDot (s.coefOf l x.bank) x.fir
  let r : Int × Option (Nat × Nat) × Bool := match x.fade with
    | none => (y, none, false)
    | some (k, old) =>
      let k := k + 1
      (rdiv (firDot (s.coefOf l old) x.fir * ((m : Int) - k) + y * k) m, if m ≤ k then none else some (k, old), true)
  let s := s.setLane l { x with fade := r.2.1, outs := ({ label := label, value := r.1 } :: x.outs).take 4 }
  let s := s.putB (F.FCH_LMODE_FADING l) r.2.1.isSome
  State.resample (s.pointsDue l) s l { q with fade := r.2.2 } false

/-- The lane's DC stage is frozen: its set is, or its owner is in reset (R184, R200). -/
def State.laneFrozen (s : State) (l : Nat) : Bool :=
  (s.lane l).ownerReset || (s.flag (F.FCH_LDC_FZEN l) && bit (s.get F.FCH_FZSTAT_FROZEN) (s.get (F.FCH_LDC_FZSET l)))

/-- One input of a lane through every stage. In an owner's reset REMAIN counts on like the other stages (R200, log entry 25). Answers whether it completed a grid point. -/
def State.laneIn (s : State) (l : Nat) (i : Sample) : State × Bool :=
  let s := s.fzRefresh
  let x := s.lane l
  -- phase delay
  let hist := (i :: x.hist).take 4101
  let sl : Nat × Option (Nat × Nat) × Bool := match x.slew with
    | none => (x.dly, none, false)
    | some (st, k) => (slewStep st (s.ldly l) (k + 1), if k + 1 = 16 then none else some (st, k + 1), true)
  let xd := phaseOut l hist sl.1
  -- DC blocking
  let frz := s.laneFrozen l
  let miss := bit i.qual 16
  let e := x.dc
  let dcDist := (x.dcReq.isSome || x.dcPend) && !frz
  let dcen := s.flag (F.FCH_LDC_DCEN l)
  let y := if dcen then xd - roundE e else xd
  let e' := if dcen && !frz && !miss && i.qual % 4 == 0 then dcUpdate (s.get (F.FCH_LDC_CORNER l)) (s.laneRate l) e xd else e
  let s := s.setLane l { x with hist := hist, dly := sl.1, slew := sl.2.1, dc := e', dcReq := none,
                                dcPend := (x.dcReq.isSome || x.dcPend) && frz,
                                window := (i.qual :: x.window).take (s.settleMax l) }
  let s := if sl.2.2 then s.showDelay l else s
  let s := (s.putB (F.FCH_LMODE_FROZEN l) frz).putB (F.FCH_LMODE_SLEW l) sl.2.2
  -- settling
  let s := if miss || bit i.qual 18 || dcDist then s.disturb l
    else
      let n := x.dcReq.getD (s.get (F.FCH_LSETTLE_REMAIN l)) - 1
      (s.put (F.FCH_LSETTLE_REMAIN l) n).putB (F.FCH_LMODE_SUPPR l) (n != 0)
  -- CIC
  let q : InFlags := { frozen := frz, slew := sl.2.2, fade := false }
  let ratio := s.get (F.FCH_LCIC_RATIO l)
  if ratio ≤ 1 then s.firIn l y i.time q
  else
    let x := s.lane l
    let t := integrate x.integ (BitVec.ofInt 72 y)
    if i.pos % ratio = ratio - 1 then
      let c := combs x.comb t.2
      (s.setLane l { x with integ := t.1, comb := c.1 }).firIn l
        (fdiv c.2.toInt (2 ^ cshOf (s.get (F.FCH_LCIC_ORDER l)) ratio)) i.time q
    else (s.setLane l { x with integ := t.1 }, false)

/-- Run the released inputs of a lane until one completes an output; note its latency (R181). -/
def State.laneRun : Nat → State → Nat → State
  | 0, s, _ => s
  | n + 1, s, l =>
    match (s.lane l).inq with
    | [] => s
    | i :: r =>
      let q := (s.setLane l { s.lane l with inq := r }).laneIn l i
      if q.2 then q.1.peak F.FCH_LOAD_LATPEAK ((q.1.now - i.rel) / 10) else State.laneRun n q.1 l

/-- The chain runs: a rulebook is active and the module is not in Park (R201). -/
def State.chainOn (s : State) : Bool := s.active && decide (s.get F.PWR_STATE < 2)

/-- LANE_OUTPUT (R181). -/
def execLaneOutput (lane t : Nat) (s : State) : Out State :=
  let s := s.advance t
  .next (if s.chainOn && s.flag (F.FCH_LCFG_VALID lane) then s.laneRun (s.lane lane).inq.length lane else s)

/-- COASTING_HOLD_EXPIRED (R190): to NOMINAL. When the group's next reference point falls in the same instant (`atPoint`), the end of
HOLD waits for what that point does (R201). -/
def execCoastingHoldExpired (fg : Nat) (s : State) (atPoint : Bool := false) : Out State :=
  .next (if s.get (F.FCH_FG_STATUS_STATE fg) = 2 then
      if atPoint then s.setGroup fg { s.group fg with holdOver := true } else s.fgNominal fg (s.group fg).nk
    else s)

/-- COEFF_BANK_SWITCH_REQUEST (R187): PENDING; SWITCH reads 1 while PENDING. -/
def execCoeffBankSwitchRequest (s : State) : Out State := .next ((s.put F.FCH_BANK_SWITCH 1).put F.FCH_BANK_PENDING 1)

/-- A coefficient bank switch that waits takes effect at the boundary at base time `at_` once no fade runs (R187). -/
def State.coefBoundary (s : State) (at_ : Nat) : State :=
  if s.flag F.FCH_BANK_PENDING && !(s.fch.lanes.any (fun e => e.2.fade.isSome)) then
    let b := 1 - s.get F.FCH_BANK_ACTIVE
    (((s.put F.FCH_BANK_ACTIVE b).put F.FCH_BANK_PENDING 0).put F.FCH_BANK_SWITCH 0).setFch
      { s.fch with switches := (at_, b) :: s.fch.switches }
  else s

/-- Write the phase delay of a lane: a slew starts from the effective delay (R182). -/
def State.writeDelay (s : State) (l int frac : Nat) : State :=
  let s := (s.put (F.FCH_LDLY_INT l) int).put (F.FCH_LDLY_FRAC l) frac
  s.setLane l { s.lane l with slew := some ((s.lane l).dly, 0) }

/-- PHASE_DELAY_WRITE. -/
def execPhaseDelayWrite (lane int frac : Nat) (s : State) : Out State := .next (s.writeDelay lane int frac)

/-- DCRST (R183): e := 0. On a thawed lane it is a disturbance at once; the next input belongs to it, and one that begins a freeze
undoes it, so that the thaw is the disturbance (R201). On a frozen lane the thaw is. -/
def State.resetDc (s : State) (l : Nat) : State :=
  let x := s.lane l
  if s.laneFrozen l then s.setLane l { x with dc := 0, dcPend := true }
  else (s.setLane l { x with dc := 0, dcReq := some (x.dcReq.getD (s.get (F.FCH_LSETTLE_REMAIN l))) }).disturb l

/-- DCRST. -/
def execDcrst (lane : Nat) (s : State) : Out State := .next (s.resetDc lane)

/-- FG_IDX_LO_READ (R204). -/
def execFgIdxLoRead (fg : Nat) (s : State) : Out State := .next (s.latchHi (F.FCH_FG_IDX_LO fg).addr)

/-! ## Ready times and frame marks (R169, R170, R197) -/

/-- Nominal time of absolute position `p` (R169). -/
def tnomAt (rate : Nat) (p : Int) : Int := Int.fdiv p rate * 10 ^ 9 + Int.fdiv (p % rate * 10 ^ 9) rate

/-- The due time of a sample (R169): tnom(last) + DUE × 1,000. -/
def State.dueOf (s : State) (st : Nat) (tnom : Int) : Int :=
  tnom + ((s.get (F.SVI_SUB_NASDU st) - 1) * 10 ^ 9 / s.get (F.SVI_SUB_RATE st) + s.get (F.SVI_SUB_DUE st) * 1000 : Nat)

/-- The least number at or above `p` that is congruent to −1 modulo `ratio`. -/
def nextInstant (p : Int) (ratio : Nat) : Int := p + ((ratio : Int) - 1 - p) % ratio

/-- Ceiling of an integer quotient. -/
def cdivI (a : Int) (n : Nat) : Int := - fdiv (-a) n

/-- The nominal time of the input that completes label time `x` for ALIGN = 1 (R170, R197): the first released one at or after it on a
decimation instant; one not released yet, or no longer kept, is reckoned by the sample period. -/
def completingTnom (rate ratio : Nat) (q : StreamS) (x : Int) : Int :=
  match (q.tnoms.reverse.dropWhile (fun e => decide (e.2 < x))).find? (fun e => nextInstant e.1 ratio == e.1),
      q.tnoms.getLast? with
  | some e, some o =>
    if x ≤ o.2 - (ratio * 10 ^ 9 / rate : Nat) then
      let p := nextInstant (o.1 + cdivI ((x - o.2) * rate) (10 ^ 9)) ratio
      o.2 + Int.fdiv ((p - o.1) * 10 ^ 9) rate
    else e.2
  | _, _ =>
    let p := nextInstant (q.sinceAnchor + cdivI ((x - q.lastTnom) * rate) (10 ^ 9)) ratio
    q.lastTnom + Int.fdiv ((p - q.sinceAnchor) * 10 ^ 9) rate

/-- The ready time, in ns, of grid time `gt` (2⁻¹⁶ ns) for a lane, less LAG (R197). -/
def State.readyAt (s : State) (l : Nat) (gt : Int) : Option Int :=
  let st := s.get (F.FCH_LCFG_STREAM l)
  let rate := s.get (F.SVI_SUB_RATE st)
  let ratio := Nat.max (s.get (F.FCH_LCIC_RATIO l)) 1
  let x := cdivI gt 65536 + s.get (F.SVI_SUB_MUDELAY st)
  if s.get (F.SVI_SUB_ALIGN st) = 0 then
    some (s.dueOf st (tnomAt rate (nextInstant (cdivI (x * rate) (10 ^ 9)) ratio)))
  else if s.get (F.SVI_SSTAT_STATE st) = 0 then none
  else some (s.dueOf st (completingTnom rate ratio (s.stream st) x))

/-- The lanes of a group. -/
def State.lanesOf (s : State) (g : Nat) : List Nat := s.validLanes.filter (fun l => s.get (F.FCH_LCFG_FG l) == g)

/-- A point is ready by `m` for every lane of the group (log entry 26). -/
def State.pointReady (s : State) (g : Nat) (ls : List Nat) (m : Int) (k : Nat) : Bool :=
  match s.gridAt g k with
  | none => false
  | some gt => ls.all (fun l => match s.readyAt l gt with
    | none => false
    | some t => decide (t + s.get (F.FCH_FG_HOLD_LAG g) * 1000 ≤ m))

/-- The highest ready index at or below `k`. -/
def State.lastReady (s : State) (g : Nat) (ls : List Nat) (m : Int) : Nat → Nat → Option Nat
  | 0, _ => none
  | n + 1, k => if s.pointReady g ls m k then some k else if k = 0 then none else State.lastReady s g ls m n (k - 1)

/-- The highest index whose grid time is at or before `m`: no point is ready before its grid time. -/
def State.lastPoint (s : State) (g : Nat) (m : Int) : Nat :=
  let x := s.group g
  if s.fgMode g = 3 then
    let r := s.get (F.FCH_FG_DCRATE g)
    let d := (m - x.t0.getD 0).toNat
    d / 10 ^ 9 * r + (d % 10 ^ 9 + 1) * r / 10 ^ 9
  else
    let h := x.grid.headD (0, x.t0.getD 0 * 65536)
    h.1 + ((m * 65536 - h.2).toNat / gridStep (s.fgN g) x.f)

/-- Close a frame of group `g` at base time `m` (R197): nothing before its first ready point. -/
def State.closeFrame (s : State) (g : Nat) (m : Int) : State :=
  let ls := s.lanesOf g
  if ls.isEmpty || (s.group g).t0.isNone || s.fgMode g == 0 then s
  else match s.lastReady g ls m 8192 (s.lastPoint g m) with
    | none => s
    | some e =>
      let s := s.put (F.FCH_FG_FRAME g) (s.get (F.FCH_FG_FRAME g) + 1)
      let tb := s.get (F.FCH_FG_CTRL_TB g)
      let x := s.group g
      let mk := (x.marks.find? (fun k => decide (k.1 ≤ e))).getD (0, x.f, s.get (F.FCH_FG_STATUS_STATE g))
      let n := if s.fgMode g = 3 then 0 else s.fgN g
      ls.foldl (fun s l =>
        let w := (s.lane l).written
        let short := match w with
          | none => true
          | some w => decide (w < e)
        let s := if short then (s.count (F.FCH_LCNT_FRSHORT l)).count F.FCH_CNT_FRSHORT else s
        let rec_ := leBytes 4 (s.get (F.FCH_FG_FRAME g)) ++ leBytes 4 e ++
          leBytes 4 (wrapN 32 (fdiv ((s.gridAt g e).getD 0) 65536)) ++ leBytes 4 mk.2.1 ++
          leBytes 4 (mk.2.2 + 4 * tb + 16 * ofBool short + 2 ^ 8 * s.epoch tb + 2 ^ 16 * n) ++
          leBytes 4 (w.getD Config.noneWritten.toNat) ++ zeros 8
        (s.ringsOf l).foldl (fun s r =>
          let o := s.ringOfs r.1 r.2
          if o = 0 ∨ !s.takesRings r.1 then s else s.ringPut r.1 (o + 0x20) rec_) s) s

end Sys2Proof.Machine
end

