-- ==== Sys2Proof/Machine/Ingress.lean ====
section
/-!
DEFINITION. Stream ingress: classification, queues, parsing, sample times, the sample sequence, loss and restoration (R158 to R179), and
the FT3 receivers (R101, R102). Readings are in log entry 27.
-/
namespace Sys2Proof.Machine

/-! ## Classification and queues (R161 to R163) -/

/-- The valid subscriptions. -/
def State.subs (s : State) : List Nat := (List.range 512).filter (fun i => s.flag (F.SVI_SUB_VALID i))

/-- Destination MAC of a subscription, byte 0 first. -/
def State.subDa (s : State) (i : Nat) : Bytes := leBytes 4 (s.get (F.SVI_SUB_DA_LO i)) ++ leBytes 2 (s.get (F.SVI_SUB_DA_HI i))

/-- The APPID at its place after the EtherType, as far as the frame has one. -/
def appidOf (f : RxFrame) : Option Nat := match f.body with
  | .sv b => some b.appid
  | .raw b => if b.length < 2 then none else some (beAt b 0 2)
  | _ => none

/-- The subscriptions that a frame matches on a port. -/
def State.matches (s : State) (p : Nat) (f : RxFrame) : List Nat :=
  s.subs.filter (fun i => s.get (F.SVI_SUB_KIND i) != 2 && bit (s.get (F.SVI_SUB_PORTS i)) p && s.subDa i == f.dst &&
    appidOf f == some (s.get (F.SVI_SUB_APPID i)))

/-- The window closes if the timetable's base has left its millisecond (R163): LAST takes its count, or 0 when whole windows without a frame
have passed since, PEAK the count; event 0x0804 above 2,500 frames, at most once per second. -/
def State.closeWindow (s : State) : State :=
  let w := s.tbNs s.ttbTb / 1000000
  let n := s.svi.count
  if w = s.svi.win then s
  else
    let s := (s.put F.SVI_LOAD_LAST (if w = s.svi.win + 1 then Nat.min n 0xFFFF else 0)).peak F.SVI_LOAD_PEAK n
    let due := match s.svi.loadAt with
      | none => true
      | some a => decide (a + 1000000000 ≤ s.now)
    let s := s.setSvi { s.svi with win := w, count := 0 }
    if decide (2500 < n) && due then (s.setSvi { s.svi with loadAt := some s.now }).raise 0x0804 0 else s

/-- Place a frame in a queue in order of the end of reception (R162); of frames that end in one clock the lower-numbered port's is served
first (R177). -/
def queueIn (l : List QFrame) (q : QFrame) : List QFrame :=
  let before := fun (e : QFrame) => decide (e.at_ / 4 < q.at_ / 4) || (e.at_ / 4 == q.at_ / 4 && decide (e.port ≤ q.port))
  l.takeWhile before ++ q :: l.dropWhile before

/-- Queue a matched frame (R162) and count it in its window (R163). -/
def State.enqueue (s : State) (q : QFrame) : State :=
  let s := s.closeWindow
  let s := s.setSvi { s.svi with count := s.svi.count + 1 }
  if q.subs.any (fun i => s.flag (F.SVI_SUB_URGENT i)) then
    if 64 ≤ s.svi.urgent.length then s.count F.SVI_OVFL
    else (s.setSvi { s.svi with urgent := queueIn s.svi.urgent q }).peak F.SVI_STATUS_UQPEAK (s.svi.urgent.length + 1)
  else if 4096 ≤ s.svi.normal.length then s.count F.SVI_OVFL
  else s.setSvi { s.svi with normal := queueIn s.svi.normal q }

/-- Classify a frame at the end of its reception (R161). -/
def State.classify (s : State) (p : Nat) (f : RxFrame) (stamp : Nat) : State :=
  if !s.chainOn then s
  else match s.matches p f with
    | [] => s.stat F.SVI_NOSUB_LO F.SVI_NOSUB_LIVE 1
    | l => s.enqueue { port := p, ft := false, frame := some f, ds := [], stamp := stamp, subs := l, at_ := s.now }

/-- LOAD_WINDOW (R163): the windows are the whole milliseconds of the timetable's base. -/
def execLoadWindow (t : Nat) (s : State) : Out State := .next (s.advance t).closeWindow

/-! ## The sample sequence (R169 to R174) -/

/-- Raise what R174 asks for when a value is due to be reported. -/
def State.reportSync (s : State) (i : Nat) : State :=
  let v := s.get (F.SVI_SSTAT_SMPSYNCH i)
  (s.setStream i { s.stream i with reportAt := some s.now, reported := v }).raise 0x0803 (i + 2 ^ 16 * v)

/-- The smpSynch of an accepted ASDU. FT3 streams never raise event 0x0803 (R168). -/
def State.takeSync (s : State) (i v : Nat) : State :=
  if v = s.get (F.SVI_SSTAT_SMPSYNCH i) then s
  else
    let s := (s.put (F.SVI_SSTAT_SMPSYNCH i) v).count (F.SVI_SCNT3_SYNCCHG i)
    if s.get (F.SVI_SUB_KIND i) = 2 then s
    else match (s.stream i).reportAt with
      | none => s.reportSync i
      | some a => if a + 100000000 ≤ s.now then s.reportSync i else s

/-- SMPSYNCH_REPORT (R174): at the end of the 100 ms, if the value differs from the one last reported. -/
def execSmpsynchReport (stream t : Nat) (s : State) : Out State :=
  let s := s.advance t
  let x := s.stream stream
  .next (if !s.chainOn then s else match x.reportAt with
    | none => s
    | some a => if a + 100000000 ≤ s.now ∧ s.get (F.SVI_SSTAT_SMPSYNCH stream) ≠ x.reported then s.reportSync stream else s)

/-- Hand a released sample to the stream's lanes (R175). -/
def State.handOn (s : State) (i : Nat) (pos tnom : Int) (vals : List (Int × Nat)) (flags : Nat) : State :=
  let tb := s.get (F.SVI_SUB_TB i)
  let ls := s.validLanes.filter (fun l => s.get (F.FCH_LCFG_STREAM l) == i)
  ls.foldl (fun s l => match vals[s.get (F.FCH_LCFG_CHAN l)]? with
    | none => s
    | some v => s.setLane l { s.lane l with inq := (s.lane l).inq ++ [
        { value := v.1, qual := v.2 % 2 ^ 14 + flags, time := tnom - s.get (F.SVI_SUB_MUDELAY i), pos := pos,
          epoch := s.epoch tb, rel := s.now }] }) s

/-- The flags of a released sample: LOST and SMPSYNCH. -/
def State.relFlags (s : State) (i : Nat) : Nat :=
  (if s.get (F.SVI_SSTAT_STATE i) = 1 then 0 else 2 ^ 17) + 2 ^ 24 * s.get (F.SVI_SSTAT_SMPSYNCH i)

/-- The nominal time of the next position (R169, R170). -/
def State.nextTnom (s : State) (i : Nat) : Int :=
  let x := s.stream i
  let rate := s.get (F.SVI_SUB_RATE i)
  if s.get (F.SVI_SUB_ALIGN i) = 0 then tnomAt rate x.next else x.lastTnom + (10 ^ 9 / rate : Nat)

/-- The position that the CIC counts (R185). -/
def State.cicPos (s : State) (i : Nat) : Int :=
  let x := s.stream i
  if s.get (F.SVI_SUB_ALIGN i) = 0 then x.next else x.sinceAnchor + 1

/-- Note a release at `next` and go on. -/
def State.released (s : State) (i : Nat) (tnom : Int) (real : Bool) : State :=
  let x := s.stream i
  s.setStream i { x with next := x.next + 1, cnt := (x.cnt + 1) % 65536, lastTnom := tnom,
                         sinceAnchor := x.sinceAnchor + 1, tnoms := ((x.sinceAnchor + 1, tnom) :: x.tnoms).take 4096, recent := ((x.next, real) :: x.recent).take 64,
                         run := if real then 0 else x.run + 1, good := if real then x.good else 0 }

/-- Release a placeholder at `next` (R172); LOSSCNT of them in a row take RUN to LOST (R173, R177). -/
def State.placeholder (s : State) (i : Nat) : State :=
  let t := s.nextTnom i
  let n := s.get (F.SVI_SUB_NCH i)
  let s := s.handOn i (s.cicPos i) t (List.replicate n (0, 1)) (2 ^ 16 + s.relFlags i)
  let s := (s.released i t false).count (F.SVI_SCNT0_MISSING i)
  if s.get (F.SVI_SSTAT_STATE i) = 1 ∧ s.get (F.SVI_SUB_LOSSCNT i) ≤ (s.stream i).run then
    ((s.put (F.SVI_SSTAT_STATE i) 2).count (F.SVI_SCNT2_LOSSES i)).raise 0x0801 i
  else s

/-- Several placeholders. -/
def State.placeholders : Nat → State → Nat → State
  | 0, s, _ => s
  | n + 1, s, i => State.placeholders n (s.placeholder i) i

/-- A sample of an accepted frame: smpCnt, smpSynch, the channels, its nominal time and absolute position. -/
structure InSample where
  cnt  : Nat
  sync : Nat
  vals : List (Int × Nat)
  tnom : Int
  pos  : Int

/-- j of R171. -/
def State.offsetJ (s : State) (i : Nat) (c : InSample) : Int :=
  let x := s.stream i
  if s.get (F.SVI_SUB_ALIGN i) = 0 then c.pos - x.next
  else
    let d := (c.cnt + 65536 - x.cnt) % 65536
    if d < 32768 then d else (d : Int) - 65536

/-- Release a real sample at `next`. -/
def State.releaseReal (s : State) (i : Nat) (c : InSample) (flags : Nat) : State :=
  let s := s.handOn i (s.cicPos i) c.tnom c.vals (flags + s.relFlags i)
  (s.released i c.tnom true).put (F.SVI_SSTAT_LASTCNT i) c.cnt

/-- Re-anchor at a sample, `j` away from `next` (R171, R173). -/
def State.reanchor (s : State) (i : Nat) (c : InSample) (j : Int) (flags : Nat) : State :=
  let x := s.stream i
  let x := if s.get (F.SVI_SSTAT_STATE i) = 0 then { x with recent := [], tnoms := [], run := 0, good := 0 } else x
  let s := s.setStream i { x with next := if s.get (F.SVI_SUB_ALIGN i) = 0 then c.pos else x.next + j, cnt := c.cnt,
                                  sinceAnchor := -1 }
  let s := if s.get (F.SVI_SSTAT_STATE i) = 0 then s.put (F.SVI_SSTAT_STATE i) 2 else s
  s.releaseReal i c (flags + 2 ^ 18)

/-- One sample of an accepted frame (R171). Answers whether it was released real. -/
def State.takeSample (s : State) (i : Nat) (c : InSample) (flags : Nat) : State × Bool :=
  let s := s.takeSync i c.sync
  let st := s.get (F.SVI_SSTAT_STATE i)
  let j := s.offsetJ i c
  if st = 0 then (s.reanchor i c 0 flags, true)
  else if j < 0 then
    if st = 2 then (s.reanchor i c j flags, true)
    else
      let p := (s.stream i).next + j
      if (s.stream i).recent.any (fun e => e.1 == p && e.2) then (s.count (F.SVI_SCNT1_DUP i), false)
      else (s.count (F.SVI_SCNT0_LATE i), false)
  else if j ≤ 64 then ((State.placeholders j.toNat s i).releaseReal i c flags, true)
  else ((s.count (F.SVI_SCNT2_JUMPS i)).reanchor i c j flags, true)

/-- The samples of one stream in an accepted frame (R171, R173, R179). -/
def State.takeSamples (s : State) (i : Nat) (l : List InSample) (arrival : Int) (flags : Nat) : State :=
  let r := l.foldl (fun (a : State × Bool) c => let q := a.1.takeSample i c flags; (q.1, a.2 && q.2)) (s, true)
  let last := match l.getLast? with
    | none => 0
    | some c => arrival - c.tnom
  let s := r.1.put (F.SVI_STRANS_TRANSIT i) (clampI 0 0xFFFFFF last).toNat
  if r.2 then
    let s := s.stat (F.SVI_SFRM_LO i) (F.SVI_SFRM_LIVE i) 1
    let n := (s.stream i).good + 1
    let s := s.setStream i { s.stream i with good := n }
    if s.get (F.SVI_SSTAT_STATE i) = 2 ∧ s.get (F.SVI_SUB_RESTCNT i) ≤ n then
      (s.put (F.SVI_SSTAT_STATE i) 1).raise 0x0802 i
    else s
  else s.setStream i { s.stream i with good := 0 }

/-- Nominal time and position of sample `k` of `n` in a frame (R169, R170, R171). -/
def State.timeOf (s : State) (i cnt k n : Nat) (arrival : Int) : Int × Int :=
  let rate := s.get (F.SVI_SUB_RATE i)
  if s.get (F.SVI_SUB_ALIGN i) = 0 then
    let o : Int := (cnt * 10 ^ 9 / rate : Nat)
    let sec := fdiv (arrival - o) 1000000000
    (sec * 1000000000 + o, sec * rate + cnt)
  else (arrival - (s.get (F.SVI_SUB_DUE i) * 1000 + (n - 1 - k) * 10 ^ 9 / rate : Nat), 0)

/-! ## Parsing (R165 to R168) -/

/-- A refusal of a stream: counted, with its reason. -/
def State.fmtErr (s : State) (i reason : Nat) : State :=
  ((s.count (F.SVI_SCNT1_FMTERR i)).put F.SVI_LASTERR_STREAM i).put F.SVI_LASTERR_REASON reason

/-- The frame-level checks (R165), in the rule's order; 0 passes. -/
def State.frameReason (s : State) (f : RxFrame) (l : List Nat) : Nat :=
  let vid := match f.vlan with
    | none => none
    | some v => if v.1 = 0 then none else some v.1
  if f.etherType ≠ 0x88BA then 0x0B
  else if l.any (fun i => s.flag (F.SVI_SUB_VIDCHK i) && vid != some (s.get (F.SVI_SUB_VID i))) then 0x08
  else match f.body with
    | .sv b =>
      if b.length ≠ 8 + b.apduLen then 0x01
      else if l.any (fun i => s.flag (F.SVI_SUB_SIM i) != b.sim) then 0x07
      else if !b.berOk || b.noAsdu == 0 || decide (8 < b.noAsdu) then 0x02 else 0
    | _ => 0x02

/-- The subscription of an ASDU among those a frame matched (R166). -/
def State.asduSub (s : State) (l : List Nat) (a : Asdu) : Option Nat :=
  l.find? (fun i => s.get (F.SVI_SUB_SVIDLEN i) == a.svId.length && s.get (F.SVI_SUB_SVIDCRC i) == (crc32 a.svId).toNat)

/-- The checks of a matched ASDU (R166), 0 passes. -/
def State.asduReason (s : State) (i : Nat) (a : Asdu) : Nat :=
  let rate := s.get (F.SVI_SUB_RATE i)
  let badRate := match a.smpRate with
    | none => false
    | some r => !Config.smpRateAgrees r.1 r.2 rate
  if a.confRev.toNat ≠ s.get (F.SVI_SUB_CONFREV i) then 0x03
  else if badRate then 0x04
  else if a.seqLen ≠ s.get (F.SVI_SUB_NCH i) * 8 then 0x05
  else if s.get (F.SVI_SUB_ALIGN i) = 0 ∧ rate ≤ a.smpCnt then 0x06
  else 0

/-- smpCnt values that follow one another. -/
def consecutive (step : Nat) : List Nat → Bool
  | a :: b :: r => (a + 1) % step == b % step && consecutive step (b :: r)
  | _ => true

/-- The first refused ASDU of a stream in a frame: its place and reason. A wrong number or sequence refuses all of them with 0x0A. -/
def State.streamReason (s : State) (i : Nat) (l : List (Nat × Asdu)) : Option (Nat × Nat) :=
  let step := if s.get (F.SVI_SUB_ALIGN i) = 0 then s.get (F.SVI_SUB_RATE i) else 65536
  if l.length = s.get (F.SVI_SUB_NASDU i) ∧ consecutive step (l.map (fun e => e.2.smpCnt)) then
    match l.find? (fun e => s.asduReason i e.2 != 0) with
    | some e => some (e.1, s.asduReason i e.2)
    | none => none
  else some ((l.headD (0, ⟨[], 0, 0, 0, none, 0, []⟩)).1, 0x0A)

/-- The samples of a stream's ASDUs. -/
def State.samplesOf (s : State) (i : Nat) (l : List Asdu) (arrival : Int) : List InSample :=
  let n := l.length
  (List.zip (List.range n) l).map (fun e =>
    let t := s.timeOf i e.2.smpCnt e.1 n arrival
    { cnt := e.2.smpCnt % 65536, sync := e.2.smpSynch % 256, tnom := t.1, pos := t.2,
      vals := e.2.seqData.map (fun v => (v.1.toInt, v.2.toNat)) })

/-- The ASDUs of one stream: taken all or none. Answers the refusal, if any: place, stream, reason. -/
def State.takeAsdus (s : State) (i : Nat) (l : List (Nat × Asdu)) (stamp : Nat) (sim : Bool) :
    State × Option (Nat × Nat × Nat) :=
  match s.streamReason i l with
  | some (k, r) => (s.count (F.SVI_SCNT1_FMTERR i), some (k, i, r))
  | none =>
    let arrival := s.tbAt (s.get (F.SVI_SUB_TB i)) stamp
    (s.takeSamples i (s.samplesOf i (l.map (fun e => e.2)) arrival) arrival (2 ^ 19 * ofBool sim), none)

/-- Parse an SV frame (R165, R166). -/
def State.parseSv (s : State) (f : RxFrame) (l : List Nat) (stamp : Nat) : State :=
  let r := s.frameReason f l
  if r ≠ 0 then l.foldl (fun s i => s.fmtErr i r) s
  else match f.body with
    | .sv b =>
      let as := List.zip (List.range b.asdus.length) b.asdus
      let s := s.stat F.SVI_NOSUB_LO F.SVI_NOSUB_LIVE ((as.filter (fun a => (s.asduSub l a.2).isNone)).length)
      let ss := ((as.filterMap (fun a => s.asduSub l a.2))).eraseDups
      let q := ss.foldl (fun (a : State × List (Nat × Nat × Nat)) i =>
        let t := a.1.takeAsdus i (as.filter (fun e => s.asduSub l e.2 == some i)) stamp b.sim
        (t.1, match t.2 with
          | none => a.2
          | some e => a.2 ++ [e])) (s, [])
      match sortBy (fun e => e.1) q.2 with
      | [] => q.1
      | e :: _ => (q.1.put F.SVI_LASTERR_STREAM e.2.1).put F.SVI_LASTERR_REASON e.2.2
    | _ => s

/-- Parse an FT3 data set for one stream (R168), its words in network order. -/
def State.parseFt (s : State) (i : Nat) (ds : Bytes) (stamp : Nat) : State :=
  let sc := s.get (F.SVI_SUB_FTSC i)
  let sw := s.get (F.SVI_SUB_FTSW i)
  let fv := s.get (F.SVI_SUB_FTVAL i)
  let n := s.get (F.SVI_SUB_NCH i)
  let len := Nat.min ds.length (s.get (F.PRT_FTCTRL_DSLEN (s.get (F.SVI_SUB_FTRX i))))
  let cnt := beAt ds sc 2
  if len < sc + 2 ∨ len < sw + 4 ∨ len < fv + 2 * n then s.fmtErr i 0x09
  else if s.get (F.SVI_SUB_ALIGN i) = 0 ∧ s.get (F.SVI_SUB_RATE i) ≤ cnt then s.fmtErr i 0x06
  else
    let st := beAt ds (sw + 2) 2 * 2 ^ 16 + beAt ds sw 2
    let q := (if st &&& s.get (F.SVI_SUB_FTINV i) = 0 then 0 else 1) +
      (if st &&& s.get (F.SVI_SUB_FTTEST i) = 0 then 0 else 2 ^ 11)
    let arrival := s.tbAt (s.get (F.SVI_SUB_TB i)) stamp
    let t := s.timeOf i cnt 0 1 arrival
    let c : InSample := { cnt := cnt, sync := 0xFE, tnom := t.1, pos := t.2,
                          vals := (List.range n).map (fun k => (signedN 16 (beAt ds (fv + 2 * k) 2), q)) }
    s.takeSamples i [c] arrival (2 ^ 20)

/-- Take the next frame of the parser's queues: urgent first (R162). -/
def State.nextParse (s : State) : Option (QFrame × State) :=
  match s.svi.urgent with
  | q :: r => some (q, s.setSvi { s.svi with urgent := r })
  | [] => match s.svi.normal with
    | q :: r => some (q, s.setSvi { s.svi with normal := r })
    | [] => none

/-- The parser completes its next frame (R162, R165, R168). -/
def State.parseNext (s : State) : State := match s.nextParse with
  | none => s
  | some (q, s) =>
    if !s.chainOn then s
    else match q.frame with
      | some f => s.parseSv f q.subs q.stamp
      | none => q.subs.foldl (fun s i => s.parseFt i q.ds q.stamp) s

/-- FRAME_PARSE (R165). -/
def execFrameParse (t : Nat) (s : State) : Out State := .next (s.advance t).parseNext

/-- The deadline of `next`: due + D (R172). -/
def State.deadlineOf (s : State) (i : Nat) : Int :=
  s.dueOf i (s.nextTnom i) + (s.get (F.SVI_SUB_NASDU i) * 10 ^ 9 / s.get (F.SVI_SUB_RATE i) : Nat)

/-- The deadline of `next` has come: a placeholder is released (R172). -/
def State.deadlineMet (s : State) (i : Nat) : State :=
  if s.chainOn && s.flag (F.SVI_SUB_VALID i) && s.get (F.SVI_SSTAT_STATE i) != 0 &&
      decide (s.deadlineOf i ≤ s.tbNs (s.get (F.SVI_SUB_TB i))) then s.placeholder i else s

/-- The frame that completes parsing carries the stream's `next`: its sample is released there. -/
def State.parseCarries (s : State) (i : Nat) : Bool :=
  (s.parseNext.stream i).recent.any (fun e => e.1 == (s.stream i).next && e.2)

/-- SAMPLE_DEADLINE (R172, R177). A frame that completes parsing in the same STREAM clock and carries `next` comes first, and no placeholder is
released for it; any other comes after the placeholder. -/
def execSampleDeadline (stream t : Nat) (s : State) (parsing : Bool := false) : Out State :=
  let s := s.advance t
  .next (if !parsing then s.deadlineMet stream
    else if s.parseCarries stream then s.parseNext.deadlineMet stream
    else (s.deadlineMet stream).parseNext)

/-- Every stream in WAIT (R173, R177): activation, a B reset, wake from Park. -/
def State.ingressWait (s : State) : State :=
  let s := s.subs.foldl (fun s i => (s.put (F.SVI_SSTAT_STATE i) 0).setStream i
    { s.stream i with run := 0, good := 0, recent := [] }) s
  s.setSvi { s.svi with urgent := [], normal := [] }

/-! ## FT3 receivers (R101, R102) -/

/-- A bad or missing FT3 frame. -/
def State.ftBad (s : State) (f : Nat) : State :=
  let q := s.port (18 + f)
  let s := s.setPort (18 + f) { q with ftGood := 0, ftBad := q.ftBad + 1 }
  if s.flag (F.PRT_FTSTATUS_SYNC f) && decide (3 ≤ q.ftBad + 1) then
    ((s.put (F.PRT_FTSTATUS_SYNC f) 0).count (F.PRT_FTSYNC_SYNCLOSS f)).raise 0x0401 f
  else s

/-- A good FT3 frame: handed to ingress while the receiver is synchronised. `t` is the capture of its start header (log entry 28). -/
def State.ftGood (s : State) (f : Nat) (data : Bytes) (t : Nat) : State :=
  let q := s.port (18 + f)
  let s := (s.setPort (18 + f) { q with ftGood := q.ftGood + 1, ftBad := 0 }).stat (F.PRT_FTFRM_LO f) (F.PRT_FTFRM_LIVE f) 1
  if s.flag (F.PRT_FTSTATUS_SYNC f) then
    if !s.chainOn then s
    else
      let stamp := (t * 16 - s.get (F.TSU_FT_RXLAT f)) / 16
      match s.subs.filter (fun i => s.get (F.SVI_SUB_KIND i) == 2 && s.get (F.SVI_SUB_FTRX i) == f) with
      | [] => s.stat F.SVI_NOSUB_LO F.SVI_NOSUB_LIVE 1
      | l => s.enqueue { port := 18 + f, ft := true, frame := none, ds := data, stamp := stamp, subs := l, at_ := s.now }
  else if 2 ≤ q.ftGood + 1 then (s.put (F.PRT_FTSTATUS_SYNC f) 1).raise 0x0402 f
  else s

/-- FT3_FRAME (R101). -/
def execFt3Frame (ft : Nat) (ok : Bool) (data : Bytes) (t : Nat) (s : State) : Out State :=
  let s := s.advance t
  .next (if s.get (F.PRT_FTCTRL_RATE ft) = 3 then s
    else if ok then s.ftGood ft data t
    else (s.count (F.PRT_FTCRC_CRCERR ft)).ftBad ft)

/-- FT3_FRAME_MISSING (R102). -/
def execFt3FrameMissing (ft : Nat) (s : State) : Out State :=
  .next (if s.get (F.PRT_FTCTRL_RATE ft) = 3 then s else s.ftBad ft)

end Sys2Proof.Machine
end

