-- ==== Sys2Proof/Machine/Acquisition.lean ====
section
/-!
DEFINITION. Acquisition: the commands of recorders and history, the analogue front end and the calibration page (R282 to R304).
-/
namespace Sys2Proof.Machine

/-! ## Commands of the recorders -/

/-- ACQ_ARM (R282). -/
def execAcqArm (rec : Nat) (s : State) : Out State := .next (s.recArm rec)

/-- ACQ_DISARM (R282). -/
def execAcqDisarm (rec : Nat) (s : State) : Out State := .next (s.recDisarm rec)

/-- A trigger at the present time of a recorder's base. -/
def State.trigNow (s : State) (r code detail : Nat) : State :=
  s.trigger r { code := code, detail := detail, t := s.recNow r, tidx := 0, frac := 0 }

/-- ACQ_TRIG (R283). -/
def execAcqTrig (rec t : Nat) (s : State) : Out State := .next ((s.advance t).trigNow rec 2 0)

/-- Release a held capture (R284). -/
def State.recRelease (s : State) (r : Nat) : State :=
  match (s.recd r).cap with
  | none => s
  | some c =>
    if s.recState r = 4 then (s.setRecd r { s.recd r with cap := some { c with done := true } }).tryRearm r else s

/-- ACQ_RELEASE (R284, R300). -/
def execAcqRelease (rec : Nat) (s : State) : Out State := .next (s.recRelease rec)

/-- A task triggers recorders (R283): only its own; the others are counted in FOREIGN. -/
def State.rectrig (s : State) (pf mask : Nat) : State := match (s.pf pf).cur with
  | none => s
  | some r => (maskBits 16 mask).foldl (fun s q =>
      if s.get (F.ACQ_RCFG_OWNER q) = r.l.inst then s.trigNow q 1 0 else s.count (F.ACQ_RCNT2_FOREIGN q)) s

/-- LCL_RECTRIG. -/
def execLclRectrig (pf mask t : Nat) (s : State) : Out State :=
  let s := s.advance t
  .next (if (s.pf pf).cur.isSome then (s.coreActs pf).rectrig pf mask else s)

/-- PREFILL_COMPLETE (R282). -/
def execPrefillComplete (rec : Nat) (s : State) : Out State :=
  .next (s.takeReady rec)

/-- The window is over (R284): every channel has gone beyond it, or 1 s has passed. -/
def State.windowOver (s : State) (r : Nat) (c : Capture) : Bool :=
  decide (c.endAt + 1000000000 ≤ s.recNow r) ||
  (s.recChans r).all (fun ch =>
    let k := s.get (F.ACQ_CH_KIND r ch)
    (makingOf (s.recd r).making ch).any (fun x => decide (c.endAt < x.time - s.recDcorr r k (s.get (F.ACQ_CH_ID r ch)) x.dcorr)) ||
    (s.recd r).blocks.any (fun b => b.chan == ch && decide (c.endAt < b.tLast - b.dcorr)))

/-- CAPTURE_WINDOW_END (R284). -/
def execCaptureWindowEnd (rec t : Nat) (s : State) : Out State :=
  let s := s.advance t
  .next (match (s.recd rec).cap with
    | none => s
    | some c => if s.recState rec = 3 ∧ s.windowOver rec c then s.enterHeld rec else s)

/-- HOLD_OFF_END (R284). -/
def execHoldOffEnd (rec t : Nat) (s : State) : Out State := .next ((s.advance t).tryRearm rec)

/-- Messages of recorder `r`'s export that still wait for their acknowledgement. -/
def State.exportWaits (s : State) (r : Nat) : Bool :=
  (s.ctx 0xB).q.any (fun e => decide (e.msg.op < 4) && (e.msg.payload.headD 0#8).toNat == r)

/-- The export of recorder `r` is over: those that a B reset left to do are no longer kept, EXPORT reads 0, and a held capture holds the recorder
back no more (R284, R302). A capture that RELEASE let go has none left. -/
def State.exportDone (s : State) (r : Nat) : State :=
  let s := s.setAcq { s.acq with oldExp := s.acq.oldExp.filter (fun x => x.rcd != r || !x.queued) }
  match (s.recd r).cap with
  | none => s.put (F.ACQ_RSTAT_EXPORT r) 0
  | some c =>
    if s.recState r ≠ 4 then s.put (F.ACQ_RSTAT_EXPORT r) 0
    else if c.queued then
      ((s.put (F.ACQ_RSTAT_EXPORT r) 0).setRecd r { s.recd r with cap := some { c with done := true } }).tryRearm r
    else s

/-- EXPORT_COMPLETE (R288): every message of the export has been acknowledged. -/
def execExportComplete (rec : Nat) (s : State) : Out State :=
  .next (if s.exportWaits rec then s else s.exportDone rec)

/-- The interval of a request in ns of its base: the low 32 bits of the seconds are given, the rest are the base's own. -/
def State.reqFrom (s : State) : Int :=
  let b := s.get F.ACQ_HREQ_TB
  ((s.tbSec b / 2 ^ 32 * 2 ^ 32 + s.get F.ACQ_HREQ_SEC) * 1000000000 : Nat)

/-- A block of the history by source and number, after the group time block that it uses (R288). -/
def State.withTimes (s : State) (k : RBlk) : List (Nat × Nat) :=
  (s.acq.history.filter (fun x => x.kind == 4 && k.kind == 1 && s.get (F.FCH_LCFG_FG k.src) == x.src && k.idx == x.idx && k.n == x.n &&
    k.epoch == x.epoch)).map (fun x => (x.source, x.num)) ++ [(k.source, k.num)]

/-- The block of the history that a source and a number name. -/
def State.histBlock (s : State) (k : Nat × Nat) : Option RBlk := s.acq.history.find? (fun x => x.source == k.1 && x.num == k.2)

/-- A history request (R294): GO, ignored while BUSY. The blocks that overlap are noted now and sent when the request completes; of a source whose
block in the making overlaps, the number that it will have is noted too: DESIGN CHOICE (log entry 23). -/
def State.historyReq (s : State) : State :=
  if s.flag F.ACQ_HREQ_BUSY then s
    else
      let b := s.get F.ACQ_HREQ_TB
      let lo := s.reqFrom
      let hi := lo + (s.get F.ACQ_HREQ_LEN * 1000000 : Nat)
      let first := s.get F.ACQ_HSRC_FIRST
      let last := s.get F.ACQ_HSRC_LAST
      let wanted := fun (src tb : Nat) (t0 tLast : Int) =>
        let d : Int := (s.tbNs b : Int) - s.tbNs tb
        decide (first ≤ src) && decide (src ≤ last) && decide (lo ≤ tLast + d) && decide (t0 + d < hi)
      let hit := s.acq.history.filter (fun x => x.kind != 4 && wanted x.source x.tb x.t0 x.tLast)
      let making := s.acq.openHist.filter (fun e => match e.2 with
        | [] => false
        | f :: rest => wanted e.1 (if e.1 < 4096 then s.get (F.FCH_FG_CTRL_TB (s.get (F.FCH_LCFG_FG e.1))) else s.ttbTb) f.time
            ((f :: rest).getLastD f).time)
      let s := s.put F.ACQ_HREQ_BUSY 1
      s.setAcq { s.acq with
        req := some ((hit.flatMap s.withTimes).eraseDups ++ making.map (fun e => (e.1, Sp.get 0 s.acq.blockNo e.1))) }

/-- HISTORY_REQUEST. -/
def execHistoryRequest (s : State) : Out State := .next s.historyReq

/-- The blocks of a request at its completion: one still in the making is not in the ring and not sent, one completed since is sent with the group
time block that it uses. -/
def State.reqBlocks (s : State) (l : List (Nat × Nat)) : List (Nat × Nat) :=
  (l.flatMap (fun k => match s.histBlock k with
    | some b => if b.kind = 4 then [k] else (s.withTimes b).filter (fun x => x == k || !l.contains x)
    | none => if k.2 = Sp.get 0 s.acq.blockNo k.1 then [] else [k])).eraseDups

/-- HISTORY_REQUEST_COMPLETE (R294). -/
def execHistoryRequestComplete (s : State) : Out State :=
  .next (match s.acq.req with
    | none => s
    | some l =>
      let r := (s.reqBlocks l).foldl (fun (a : State × Nat × Nat) k =>
        match a.1.histBlock k with
        | none => (a.1.count F.ACQ_CNT_OVERWR, a.2.1, a.2.2 + 1)
        | some b => (a.1.send (stMsg 0xB 0x0002 (b.bytes 0x10 (ofBool (b.kind == 1) + 8 * ofBool b.bad) 0 b.num)), a.2.1 + 1, a.2.2))
        (s, 0, 0)
      let s := r.1.send (stMsg 0xB 0x0004 (leBytes 4 r.2.1 ++ leBytes 4 r.2.2))
      (s.put F.ACQ_HREQ_BUSY 0).setAcq { s.acq with req := none })

/-! ## Analogue front end (R295, R296, R299) -/

/-- Drift terms in force of a channel and range: (ODRIFT, GDRIFT). -/
def State.afeDrift (s : State) (ch range : Nat) : Int × Int := s.power.drift.getD (2 * ch + range) (0, 0)

/-- Show the drift terms of the ranges in use (R304). -/
def State.showDrift (s : State) : State :=
  s.each (List.range 8) (fun s n =>
    let d := s.afeDrift n (s.afeRange n)
    (s.putI (F.AFE_DRIFT_ODRIFT n) d.1).putI (F.AFE_DRIFT_GDRIFT n) d.2)

/-- A conversion of a channel begins with the calibration of this instant (R298). -/
def State.newConv (s : State) (ch raw : Nat) (dep : Int) : Conv :=
  let r := s.afeRange ch
  let o := afeEntry ch r
  { raw := raw, dep := dep, range := r, gain := s.pageField o 4, offset := signedN 32 (s.pageField (o + 4) 4), odrift := (s.afeDrift ch r).1,
    gdrift := (s.afeDrift ch r).2, skew := s.afeSkew ch }

/-- The value of a code in µV (R296): 76.2939453125 µV is 20,000,000 / 2¹⁸ and 7.62939453125 µV is 2,000,000 / 2¹⁸. -/
def Conv.value (c : Conv) (code : Int) : Int :=
  let span : Int := if c.range = 1 then 20000000 else 2000000
  rdivAway (span * c.gain * (2 ^ 20 + c.gdrift) * (256 * code - (c.offset + c.odrift))) (2 ^ 18 * 2 ^ 30 * 2 ^ 20 * 256)

/-- Start the conversion of a channel at a departure (R295). -/
def State.afeConvert (s : State) (ch raw : Nat) (dep : Int) : State :=
  if !bit (s.get F.AFE_CTRL_EN) ch then s
  else
    let last := s.acq.conv.find? (fun e => e.1 == ch)
    let soon := match last with
      | none => false
      | some e => decide (raw < e.2.raw + 5000)
    if soon then s.count F.AFE_CNT_BUSY
    else s.setAcq { s.acq with conv := (s.acq.conv.filter (fun e => e.1 != ch)) ++ [(ch, s.newConv ch raw dep)],
                               due := (s.acq.due.filter (· != ch)) ++ [ch],
                               convCnt := Sp.put 0 s.acq.convCnt ch (Sp.get 0 s.acq.convCnt ch + 1) }

/-- CONVERSION_COMPLETE (R295, R296, R304). -/
def execConversionComplete (ch : Nat) (code : Int) (s : State) : Out State :=
  .next (match s.acq.conv.find? (fun e => e.1 == ch) with
    | none => s
    | some e => if !s.acq.due.contains ch then s
    else
      let s := s.setAcq { s.acq with due := s.acq.due.filter (· != ch) }
      let sat := code == -131072 || code == 131071
      let q := if sat then 0x5 else 0
      let seq := (s.get (F.AFE_RQ_LIVE ch) / 2 ^ 16 + 1) % 2 ^ 16
      let v := e.2.value code
      let s := (s.putI (F.AFE_RES_VALUE ch) v).put (F.AFE_RQ_LIVE ch) (q + 2 ^ 14 * ofBool sat + 2 ^ 16 * seq)
      let past := match s.acq.overAt.find? (fun e => e.1 == ch) with
        | none => true
        | some e => decide (e.2 + 1000000000 ≤ s.now)
      let s := if sat then
          let s := s.count F.AFE_CNT_OVR
          if past then (s.raise 0x1003 ch).setAcq { s.acq with overAt := (s.acq.overAt.filter (fun e => e.1 != ch)) ++ [(ch, s.now)] }
          else s
        else s
      let x : RecSample := { time := e.2.dep, value := v, qual := q + 2 ^ 24 * ofBool sat, idx := Sp.get 0 s.acq.convCnt ch - 1,
                             epoch := s.epoch s.ttbTb, dcorr := - e.2.skew }
      let s := (s.recTakers 2 ch).foldl (fun s p => s.recSample p.1 p.2 x) s
      s.histSample (4096 + ch) s.ttbTb x)

/-- A read of AFE_RES latches AFE_RQ (R304). -/
def State.latchRq (s : State) (ch : Nat) : State :=
  let v := s.get (F.AFE_RQ_LIVE ch)
  (((s.put (F.AFE_RQ_QUALITY ch) v).put (F.AFE_RQ_SAT ch) (v / 2 ^ 14)).put (F.AFE_RQ_SEQ ch) (v / 2 ^ 16))

/-- AFE_RES_READ. -/
def execAfeResRead (ch : Nat) (s : State) : Out State := .next (s.latchRq ch)

/-- The drift terms that stage 0x07 computes from the readings (z, f), and whether they are within bounds (R299). -/
def State.driftOf (s : State) (readings : List (Int × Int)) : List (Int × Int) × Bool :=
  let l := (List.zip (List.range 16) readings).map (fun e =>
    let o := 68 + 20 * e.1
    let z := e.2.1
    let f := e.2.2
    let rz := signedN 32 (s.pageField (o + 12) 4)
    let rr := signedN 32 (s.pageField (o + 16) 4)
    let den := f - z
    let num := 2 ^ 20 * ((rr - rz) - den)
    (z - rz, if den = 0 then (2 ^ 20 : Int) else if 0 < den then rdiv num den.toNat else rdiv (-num) (-den).toNat))
  (l, l.all (fun e => decide (e.1.natAbs ≤ 16384) && decide (e.2.natAbs ≤ 10486)))

/-! ## Calibration-page messages (R298) -/

/-- Show ORIGIN and WRITES (R304). -/
def State.showPage (s : State) : State :=
  (s.put F.AFE_STATUS_ORIGIN (s.pageField 16 1)).put F.AFE_STATUS_WRITES (s.pageField 18 2)

/-- The latencies of an image lie within 4,095 ns, given in 1/16 ns. -/
def latsOk (b : Bytes) : Bool := (List.range 316).all (fun i => decide (leAt b (388 + 2 * i) 2 ≤ 65520))

/-- The GAINs of an image lie from 0.9 to 1.1. -/
def gainsOk (b : Bytes) : Bool :=
  (List.range 16).all (fun i => let g := leAt b (68 + 20 * i) 4; decide (9 * 2 ^ 30 ≤ 10 * g) && decide (10 * g ≤ 11 * 2 ^ 30))

/-- The status of a write, lowest code first. -/
def State.pageStatus (s : State) (h : Hdr) (b : Bytes) : Nat :=
  if h.src ≠ 0 then 0x01
  else if b.length ≠ 1024 ∨ leAt b 0 4 ≠ 0x5A474350 ∨ leAt b 4 2 ≠ 1 ∨ leAt b 6 2 ≠ 1024 then 0x02
  else if leAt b 1020 4 ≠ (crc32 (b.take 1020)).toNat then 0x03
  else if leAt b 8 8 ≠ s.serial then 0x04
  else if !(gainsOk b && latsOk b) then 0x05
  else if s.flag F.AFE_STATUS_WRBUSY then 0x06
  else 0x00

/-- The reply to a page write. -/
def State.pageReply (s : State) (h : Hdr) (st : Nat) : State :=
  s.send (replyMsg 0xE 0x0004 h (st != 0) [BitVec.ofNat 8 st])

/-- CALIBRATION_PAGE_READ (R298): only from the manager; another source gets the refusal 0x01 (DESIGN CHOICE, log entry 24). -/
def execCalibrationPageRead (h : Hdr) (s : State) : Out State :=
  .next (s.receive 0xE h (fun s =>
    if h.src ≠ 0 then s.pageReply h 0x01 else s.send (replyMsg 0xE 0x0002 h false s.acq.page)))

/-- Serve a page write: refused with its status, or in progress. -/
def State.servePage (s : State) (h : Hdr) (b : Bytes) : State :=
  let st := s.pageStatus h b
  if st ≠ 0 then s.pageReply h st
  else (s.put F.AFE_STATUS_WRBUSY 1).setAcq { s.acq with pageWr := some (b, h) }

/-- CALIBRATION_PAGE_WRITE (R298); during stage 0x07 it is served when the stage ends (R300). -/
def execCalibrationPageWrite (h : Hdr) (image : Bytes) (s : State) : Out State :=
  .next (s.receive 0xE h (fun s =>
    if s.get F.PWR_STAGE = 0x07 then
      (if s.acq.pageHeld.isSome then s.pageReply h 0x06 else s.setAcq { s.acq with pageHeld := some (image, h) })
    else s.servePage h image))

/-- The page a write leaves: ORIGIN 1, WRITES counted, WTIME in seconds of the timetable's base (DESIGN CHOICE, log entry 24), the
CRC recomputed. -/
def State.newPage (s : State) (b : Bytes) : Bytes :=
  let p := b.take 16 ++ [1#8] ++ slice b 17 1 ++ leBytes 2 (s.pageField 18 2 + 1) ++ leBytes 8 (s.tbSec s.ttbTb) ++
    slice b 28 992
  p ++ leBytes 4 (crc32 p).toNat

/-- CALIBRATION_PAGE_WRITE_COMPLETE (R298, R299). -/
def execCalibrationPageWriteComplete (t : Nat) (s : State) : Out State :=
  let s := s.advance t
  .next (match s.acq.pageWr with
    | none => s
    | some (b, h) =>
      let old := s.acq.page
      let p := s.newPage b
      let drift := (List.zip (List.range 16) s.power.drift).map (fun e =>
        if slice old (68 + 20 * e.1 + 12) 8 = slice p (68 + 20 * e.1 + 12) 8 then e.2 else (0, 0))
      let s := (s.setAcq { s.acq with page := p, pageWr := none }).setPower { s.power with drift := drift }
      ((((s.put F.AFE_STATUS_WRBUSY 0).showPage.showDrift.showLats).raise 0x1002 0).pageReply h 0x00))

end Sys2Proof.Machine
end

