-- ==== Sys2Proof/Machine/Dma.lean ====
section
/-!
DEFINITION. DMA channels and queues: descriptors, windows, completion records, chains, bus errors (R345 to R351). Readings and choices
are in log entry 29.
-/
namespace Sys2Proof.Machine

/-! ## Owners and windows (R345, R347) -/

/-- DMX_CHSTAT.STATE: 0 IDLE, 1 ACTIVE, 2 HALTED, 3 FENCED (R348). -/
def State.chState (s : State) (c : Nat) : Nat := s.get (F.DMX_CHSTAT_STATE c)

/-- The mover that serves channel `c` (R248). -/
def State.moverOf (s : State) (c : Nat) : Nat := s.get F.MAR_QMOVER_MOVER / 2 ^ c % 2

/-- First address of the instance alias (R347). -/
def aliasBase : Nat := 0x1800000000

/-- The window of instance `i` that holds `n` bytes from address `a`: its base and end, and whether it is the AFE results. -/
def State.dmaWindow (s : State) (i a n : Nat) : Option (Nat × Nat × Bool) :=
  let heap := dramBase + s.get (F.INS_HEAPBASE_BASE i) * 4096
  let bufs := ((List.range 16).filter (fun r => s.flag (F.ACQ_RCFG_VALID r) && s.get (F.ACQ_RCFG_OWNER r) == i)).map (fun r =>
    let b := dramBase + s.get (F.MAR_RBUF_BASE r) * 4096
    (b, b + s.get (F.ACQ_RBUF_SIZE r) * 65536, false))
  ([(aliasBase, aliasBase + s.dataShare i, false), (heap, heap + s.get (F.INS_HEAP_SIZE i) * 1048576, false)] ++ bufs ++
    [(0x01810010, 0x01810050, true)]).find? (fun w => decide (w.1 ≤ a) && decide (a + n ≤ w.2.1))

/-- An address lies in a recorder buffer of some recorder. -/
def State.inRecBuffer (s : State) (a : Nat) : Bool :=
  (List.range 16).any (fun r => s.flag (F.ACQ_RCFG_VALID r) && decide (dramBase + s.get (F.MAR_RBUF_BASE r) * 4096 ≤ a) &&
    decide (a < dramBase + s.get (F.MAR_RBUF_BASE r) * 4096 + s.get (F.ACQ_RBUF_SIZE r) * 65536))

/-- Read AFE result words: a result latches its quality word (R304). -/
def State.readAfe : Nat → State → Nat → State × Bytes
  | 0, s, _ => (s, [])
  | n + 1, s, a =>
    let s := if a < 0x01810030 then s.latchRq ((a - 0x01810010) / 4) else s
    let r := State.readAfe n s (a + 4)
    (r.1, leBytes 4 (s.loadWord a).toNat ++ r.2)

/-- Read `n` bytes from `a` for instance `i`. What a recorder buffer holds is a free value: the manual gives its blocks on the link
only. -/
def State.dmaRead (s : State) (i a n : Nat) : State × Bytes :=
  if a < dramBase then s.readAfe (n / 4) a
  else if aliasBase ≤ a then (s, s.rdN (s.dataAt i (a - aliasBase)) n)
  else
    let d := s.draw
    if s.inRecBuffer a then (d.1, (List.range n).map (fun k => Config.recBuffer d.2 (a + k))) else (s, s.rdN a n)

/-- Write bytes to `a` for instance `i`. -/
def State.dmaWrite (s : State) (i a : Nat) (b : Bytes) : State :=
  if aliasBase ≤ a then s.dataPut i (a - aliasBase) b else s.wrN a b

/-! ## Descriptors (R346) -/

/-- A descriptor as the registers of its channel hold it. -/
structure Desc where
  src   : Nat
  dst   : Nat
  count : Nat
  op    : Nat
  outward : Bool
  stamp : Bool
  tag   : Word
  eoc   : Bool
  link  : Nat

/-- The descriptor in the registers of a channel (R361). COUNT 0 is 16 MiB. -/
def State.regDesc (s : State) (c : Nat) : Desc :=
  let w := s.get (F.DMX_CHCNT_CNT c)
  let l := s.get (F.DMX_CHLINK_LO c)
  { src := s.get (F.DMX_CHSRC_LO c) + 2 ^ 32 * s.get (F.DMX_CHSRC_HI c),
    dst := s.get (F.DMX_CHDST_LO c) + 2 ^ 32 * s.get (F.DMX_CHDST_HI c),
    count := if w % 2 ^ 24 = 0 then 2 ^ 24 else w % 2 ^ 24, op := w / 2 ^ 24 % 4, outward := bit w 26, stamp := bit w 27,
    tag := BitVec.ofNat 32 (s.get (F.DMX_CHTAG_TAG c)), eoc := bit l 0,
    link := (l + 2 ^ 32 * s.get (F.DMX_CHLINK_HI c)) / 32 * 32 }

/-- Put the 32 bytes of a descriptor in the registers of its channel. -/
def State.putDesc (s : State) (c : Nat) (b : Bytes) : State :=
  let w := fun i => leAt b (4 * i) 4
  (((((((s.put (F.DMX_CHSRC_LO c) (w 0)).put (F.DMX_CHSRC_HI c) (w 1)).put (F.DMX_CHDST_LO c) (w 2)).put
    (F.DMX_CHDST_HI c) (w 3)).put (F.DMX_CHCNT_CNT c) (w 4)).put (F.DMX_CHTAG_TAG c) (w 5)).put
    (F.DMX_CHLINK_LO c) (w 6)).put (F.DMX_CHLINK_HI c) (w 7)

/-- A source or destination range that the mode may touch in its window (R347). -/
def State.rangeOk (s : State) (i a n : Nat) (outward source : Bool) : Bool :=
  let lo := if outward && source then a / 64 * 64 else a
  let hi := if outward && source then roundUp (a + n) 64 else a + n
  match s.dmaWindow i a n with
  | none => false
  | some w => decide (w.1 ≤ lo) && decide (hi ≤ w.2.1) &&
      (!w.2.2 || (source && !outward && a % 4 == 0 && n % 4 == 0))

/-- The descriptor names only what its channel may name, with operands that R346 allows. -/
def State.descOk (s : State) (c : Nat) (d : Desc) : Bool :=
  let i := s.qOwner c
  if d.op = 0 then s.rangeOk i d.src d.count d.outward true && s.rangeOk i d.dst d.count d.outward false
  else if d.op = 1 then
    s.rangeOk i d.src d.count d.outward true && decide (60 ≤ d.count) && decide (d.count ≤ 1524) && decide (d.dst % 32 ≤ 17)
  else if d.op = 2 then s.rangeOk i d.dst d.count d.outward false
  else false

/-! ## Completion (R349) -/

/-- Write a completion record into the ring of queue `c` and advance QCRWR. -/
def State.record (s : State) (c status : Nat) (lost : Bool) (port bytes : Nat) (stamp tag : Word) : State :=
  let wr := s.get (F.DMX_QCRWR_WR c)
  let o := s.get (F.DMX_QCRBASE_OFS c) * 64 + 16 * (wr % 2 ^ s.get (F.DMX_QCRBASE_LDEPTH c))
  let s := s.dataPut (s.qOwner c) o
    (leBytes 4 (status + 2 ^ 8 * ofBool lost + 2 ^ 9 * port) ++ leBytes 4 bytes ++ leBytes 4 stamp.toNat ++ leBytes 4 tag.toNat)
  let s := s.put (F.DMX_QCRWR_WR c) (wr + 1)
  if status = 1 then s.count (F.DMX_QCNT_ABORTS c) else s

/-- The mover loses its grant when the channel that holds it ends (R352); the time it was held is busy time (R362). -/
def State.dropGrant (s : State) (c : Nat) : State :=
  let m := s.moverOf c
  let a := Sp.get ArbS.init s.ins.arbs m
  if a.owner = some c then
    let s := s.setIns { s.ins with arbs := Sp.put ArbS.init s.ins.arbs m { a with owner := none } }
    s.setMar { s.mar with busy := Sp.put 0 s.mar.busy m (Sp.get 0 s.mar.busy m + (s.now - a.at_)) }
  else s

/-- Note bytes that a queue submits or moves in the decision period (R248). -/
def State.noteSubmit (s : State) (c n : Nat) : State :=
  s.setMar { s.mar with bytes := Sp.put 0 s.mar.bytes c (Sp.get 0 s.mar.bytes c + n) }

/-- Note bytes moved. -/
def State.noteMoved (s : State) (c n : Nat) : State :=
  s.setMar { s.mar with moved := Sp.put 0 s.mar.moved c (Sp.get 0 s.mar.moved c + n) }

/-! ## The work of a channel (R348 to R350) -/

/-- What a channel takes up next: the descriptor in its registers, the one at an address, or the next submission. -/
inductive Work where
  | regs
  | at_ (a : Nat)
  | next

/-- The frame of a transmit descriptor as it leaves by a port, with the port's own source address (R108). -/
def State.dmaFrame (s : State) (c : Nat) (d : Desc) (b : Bytes) (q : Nat) (red : Option RedS) : TxFrame :=
  { queue := s.txQueue q b (d.dst / 256 % 8), len := b.length + 4 + (if red.isSome then 6 else 0), src := s.macOfPort q,
    body := .dma (b.take 6 ++ s.macOfPort q ++ b.drop 12), red := red, stamp := if d.stamp then some d.tag else none, chan := some c }

/-- Send the frame of a transmit descriptor (R346, R265): on both ports of a PRP or HSR pair. -/
def State.dmaTransmit (s : State) (c : Nat) (d : Desc) (b : Bytes) : State :=
  s.sendPaired (d.dst % 32) (s.dmaFrame c d b)

/-- Start the descriptor in the registers: a transmit frame goes to its port, a receive descriptor waits for a frame. -/
def State.beginDesc (s : State) (c : Nat) (d : Desc) : State :=
  let x := s.chan c
  let s := ((s.put (F.DMX_CHSTAT_STATE c) 1).put (F.DMX_CHSTAT_CHIDLE c) 0).put (F.DMX_CHCTL_START c) 0
  let s := s.setChan c { x with rx := none, since := some s.ins.order, stampLost := false, busErr := false, moved := 0, head := [] }
  let s := s.setIns { s.ins with order := s.ins.order + 1 }
  if d.op = 1 then
    let r := s.dmaRead (s.qOwner c) d.src d.count
    r.1.dmaTransmit c d r.2
  else s

/-- The link word of the descriptor just ended, read once more (R350). -/
def State.linkWord (s : State) (c : Nat) : Nat := match (s.chan c).tail with
  | none => s.get (F.DMX_CHLINK_LO c) + 2 ^ 32 * s.get (F.DMX_CHLINK_HI c)
  | some a => leNat (s.dmaRead (s.qOwner c) (a + 24) 8).2

/-- Bytes that the descriptor at an address submits (R248). -/
def State.noteAt (s : State) (c a : Nat) : State :=
  let n := leAt (s.dmaRead (s.qOwner c) (a + 16) 3).2 0 3
  s.noteSubmit c (if n = 0 then 2 ^ 24 else n)

/-- Where the channel goes after the descriptor in its registers (R349, R350). CHAIN = 0 follows no link. -/
def State.follow (s : State) (c : Nat) : State × Work :=
  let d := s.regDesc c
  if !d.eoc then (if s.flag (F.DMX_CHCTL_CHAIN c) then (s.noteAt c d.link, .at_ d.link) else (s, .next))
  else
    let w := s.linkWord c
    let a := w % 2 ^ 40 / 32 * 32
    if s.flag (F.DMX_CHCTL_CHAIN c) && !bit w 0 then (s.noteAt c a, .at_ a)
    else (s.put (F.DMX_CHSTAT_CHIDLE c) 1, .next)

/-- Take up work: a descriptor that names anything outside its windows completes at once with status 0x03 (R347). -/
def State.chRun : Nat → State → Nat → Work → State
  | 0, s, _, _ => s
  | n + 1, s, c, w =>
    match w with
    | .next => match (s.chan c).subs with
      | [] => s.put (F.DMX_CHSTAT_STATE c) 0
      | d :: r =>
        let s := (s.setChan c { s.chan c with subs := r }).put (F.DMX_QSTAT_DEPTH c) r.length
        State.chRun n s c (.at_ (32 * d.toNat))
    | .at_ a =>
      let i := s.qOwner c
      if s.rangeOk i a 32 false true && decide (dramBase ≤ a) then
        let r := s.dmaRead i a 32
        State.chRun n ((r.1.putDesc c r.2).setChan c { r.1.chan c with tail := some a }) c .regs
      else
        let f := s.draw
        State.chRun n (f.1.record c 3 false 0 0 0 (Config.lostTag f.2)) c .next
    | .regs =>
      let d := s.regDesc c
      if s.descOk c d then s.beginDesc c d
      else
        let r := (s.record c 3 false 0 0 0 d.tag).follow c
        State.chRun n r.1 c r.2

/-- Descriptors that one step takes up at most: a chain of refused descriptors that runs on goes on with the next step. -/
def chFuel : Nat := 64

/-- CHANNEL_START (R348, R349): from IDLE, when the queue has an owner. -/
def State.startChannel (s : State) (c : Nat) : State :=
  if s.chState c = 0 then
    if s.qOwner c = 0 then s.count (F.DMX_QCNT_REFUSED c)
    else
      let s := s.noteSubmit c (s.regDesc c).count
      (s.setChan c { s.chan c with tail := none }).chRun chFuel c .regs
  else s

/-- CHANNEL_START. -/
def execChannelStart (c : Nat) (s : State) : Out State := .next (s.startChannel c)

/-- TAG of the descriptor at an address, as far as its queue may read it. -/
def State.tagAt (s : State) (c a : Nat) : State × Word :=
  if s.rangeOk (s.qOwner c) a 32 false true && decide (dramBase ≤ a) then
    let r := s.dmaRead (s.qOwner c) a 32
    (r.1, BitVec.ofNat 32 (leAt r.2 20 4))
  else
    let f := s.draw
    (f.1, Config.lostTag f.2)

/-- A push (R349, R339): ignored and counted when the queue is full or has no owner; refused with status 0x03 when it is fenced. -/
def State.pushDesc (s : State) (q : Nat) (desc : Word) : State :=
  let x := s.chan q
  if s.qOwner q = 0 then s.count (F.DMX_QCNT_REFUSED q)
  else if s.flag (F.DMX_QSTAT_FENCED q) then
    let r := s.tagAt q (32 * desc.toNat)
    (r.1.count (F.DMX_QCNT_REFUSED q)).record q 3 false 0 0 0 r.2
  else if 16 ≤ x.subs.length then s.count (F.DMX_QCNT_REFUSED q)
  else
    let s := s.noteAt q (32 * desc.toNat)
    let s := (s.setChan q { x with subs := x.subs ++ [desc] }).put (F.DMX_QSTAT_DEPTH q) (x.subs.length + 1)
    if s.chState q = 0 then s.chRun chFuel q .next else s

/-- QUEUE_PUSH. -/
def execQueuePush (q : Nat) (desc : Word) (s : State) : Out State := .next (s.pushDesc q desc)

/-- A doorbell (R350): only on an IDLE channel with CHIDLE = 1. -/
def State.ringDoorbell (s : State) (c : Nat) : State :=
  if s.chState c = 0 ∧ s.flag (F.DMX_CHSTAT_CHIDLE c) = true then
    let w := s.linkWord c
    let a := w % 2 ^ 40 / 32 * 32
    if bit w 0 then s else (s.noteAt c a).chRun chFuel c (.at_ a)
  else s

/-- CHANNEL_DOORBELL. -/
def execChannelDoorbell (c : Nat) (s : State) : Out State := .next (s.ringDoorbell c)

/-! ## The end of a descriptor (R349, R339) -/

/-- The frame of a transmit descriptor still waits in a port's queue. -/
def State.txWaits (s : State) (c p : Nat) : Bool :=
  let qs := match s.pairPeer p with
    | none => [p]
    | some q => [p, q]
  qs.any (fun q => (s.port q).txq.any (fun f => f.chan == some c))

/-- A receive descriptor at the head takes a frame, without its FCS, that the port delivers to its queue (R346). -/
def State.dmaReceive (s : State) (q : Nat) (b : Bytes) (port : Nat) (stamp : Word) : State :=
  let x := s.chan q
  if s.chState q = 1 ∧ (s.regDesc q).op = 2 ∧ x.rx.isNone then s.setChan q { x with rx := some (b, port, stamp) }
  else s.count (F.DMX_QCNT2_RXNODESC q)

/-- Show how far the descriptor has come: SRC, DST and COUNT move with the bytes (R351, R361). -/
def State.moveOn (s : State) (c : Nat) (d : Desc) (n : Nat) : State :=
  let src := if d.op = 2 then d.src else d.src + n
  let dst := if d.op = 1 then d.dst else d.dst + n
  let s := (s.put (F.DMX_CHSRC_LO c) src).put (F.DMX_CHSRC_HI c) (src / 2 ^ 32)
  let s := (s.put (F.DMX_CHDST_LO c) dst).put (F.DMX_CHDST_HI c) (dst / 2 ^ 32)
  s.put (F.DMX_CHCNT_CNT c) (s.get (F.DMX_CHCNT_CNT c) / 2 ^ 24 * 2 ^ 24 + (d.count - n))

/-- Move the first `n` bytes of what the descriptor in the registers still has to move. -/
def State.moveBytes (s : State) (c n : Nat) : State :=
  let d := s.regDesc c
  let i := s.qOwner c
  let x := s.chan c
  let s := if d.op = 0 then
      let r := s.dmaRead i d.src n
      r.1.dmaWrite i d.dst r.2
    else if d.op = 2 then
      let b := (x.rx.getD ([], 0, 0)).1
      s.dmaWrite i d.dst (slice b x.moved n)
    else s
  let s := (s.moveOn c d n).noteMoved c n
  s.setChan c { s.chan c with moved := x.moved + n }

/-- After the record of a descriptor: the grant is dropped, then the chain goes on; under a reset it does not (R339). -/
def State.afterDesc (s : State) (c : Nat) (w : State × Work) : State :=
  let t := w.1.dropGrant c
  if (s.chan c).draining then
    ((t.setChan c { t.chan c with draining := false, rx := none }).put (F.DMX_CHSTAT_STATE c) 3)
  else t.chRun chFuel c w.2

/-- The descriptor in the registers of an ACTIVE channel ends (R349). A receive descriptor ends once it has a frame, a transmit
descriptor once its frame has left. -/
def State.endDesc (s : State) (c : Nat) : State :=
  let d := s.regDesc c
  let x := s.chan c
  if s.chState c ≠ 1 then s
  else if !s.descOk c d ∧ x.moved = 0 then s.chRun chFuel c .regs
  else if d.op = 1 then
    if s.txWaits c (d.dst % 32) then s
    else
      let s := s.moveBytes c d.count
      let s := s.record c 0 (s.chan c).stampLost (d.dst % 32) (s.chan c).moved 0 d.tag
      s.afterDesc c (s.follow c)
  else if d.op = 2 then match x.rx with
    | none => s
    | some (b, p, st) =>
      let s := s.moveBytes c (Nat.min d.count (b.length - x.moved))
      let s := s.record c (if x.moved + d.count < b.length then 5 else 0) false p b.length st d.tag
      s.afterDesc c (s.follow c)
  else
    let s := s.moveBytes c d.count
    let s := s.record c 0 false 0 (s.chan c).moved 0 d.tag
    s.afterDesc c (s.follow c)

/-! ## Bus errors and aborts (R351) -/

/-- Take back the frame of a transmit descriptor from the queues where it waits. -/
def State.unsend (s : State) (c p : Nat) : State :=
  let qs := match s.pairPeer p with
    | none => [p]
    | some q => [p, q]
  s.each qs (fun s q => s.setPort q { s.port q with txq := (s.port q).txq.filter (fun f => f.chan != some c) })

/-- BUS_ERROR: only a channel that transfers can meet one. What had been moved stays moved. -/
def execBusError (c addr : Nat) (write : Bool) (moved : Nat) (s : State) : Out State :=
  .next (if s.chState c = 1 then
    let d := s.regDesc c
    let n := Nat.min moved d.count
    let s := if d.op = 1 then
        let r := s.dmaRead (s.qOwner c) d.src n
        (r.1.setChan c { r.1.chan c with head := (r.1.chan c).head ++ r.2 }).unsend c (d.dst % 32)
      else s
    let s := s.moveBytes c n
    let s := (s.put (F.DMX_CHSTAT_STATE c) 2).put (F.DMX_CHSTAT_ERR c) 1
    let s := (s.putB (F.DMX_CHSTAT_ERRDIR c) write).put (F.DMX_CHERRA_LO c) addr
    let s := (s.put (F.DMX_CHERRA_HI c) (addr / 2 ^ 32)).setChan c { s.chan c with busErr := true }
    ((s.raiseI 0x1201 (s.qOwner c) c).count (F.DMX_QCNT2_ERRS c)).dropGrant c
  else s)

/-- ERRCLR. -/
def State.clearErr (s : State) (c : Nat) : State := s.put (F.DMX_CHSTAT_ERR c) 0

/-- ERRCLR. -/
def execErrclr (c : Nat) (s : State) : Out State := .next (s.clearErr c)

/-- RESUME: ignored and counted while ERR = 1; a HALTED channel goes on from the latched state. -/
def State.resumeChan (s : State) (c : Nat) : State :=
  if s.flag (F.DMX_CHSTAT_ERR c) then s.count (F.DMX_QCNT_REFUSED c)
  else if s.chState c = 2 then
    let d := s.regDesc c
    let s := (s.put (F.DMX_CHSTAT_STATE c) 1).setChan c { s.chan c with busErr := false, since := some s.ins.order }
    let s := s.setIns { s.ins with order := s.ins.order + 1 }
    if d.op = 1 then
      let r := s.dmaRead (s.qOwner c) d.src d.count
      r.1.dmaTransmit c d ((r.1.chan c).head ++ r.2)
    else s
  else s

/-- CHANNEL_RESUME. -/
def execChannelResume (c : Nat) (s : State) : Out State := .next (s.resumeChan c)

/-- End the descriptor of a channel with a status, without following its chain; the next submission is taken (R351). -/
def State.cutDesc (s : State) (c status : Nat) : State :=
  let d := s.regDesc c
  let s := s.unsend c (d.dst % 32)
  let port := if d.op = 1 then d.dst % 32 else ((s.chan c).rx.getD ([], 0, 0)).2.1
  let s := s.record c status false (if d.op = 0 then 0 else port) (s.chan c).moved 0 d.tag
  s.setChan c { s.chan c with rx := none, busErr := false, head := [] }

/-- ABORT (R351): ignored and counted while ERR = 1. Software stops a running descriptor where it stands: how far it had come is a
free value. -/
def State.abortChan (s : State) (c : Nat) : State :=
  if s.flag (F.DMX_CHSTAT_ERR c) then s.count (F.DMX_QCNT_REFUSED c)
  else if s.chState c = 2 then ((s.cutDesc c 2).dropGrant c).chRun chFuel c .next
  else if s.chState c = 1 then
    let d := s.regDesc c
    let f := s.draw
    let most := if d.op = 0 then d.count else match (s.chan c).rx with
      | none => 0
      | some r => Nat.min d.count (r.1.length - (s.chan c).moved)
    let s := f.1.moveBytes c (Config.abortedAt f.2 % (most + 1))
    s.afterDesc c (s.cutDesc c 4, .next)
  else s

/-- CHANNEL_ABORT. -/
def execChannelAbort (c : Nat) (s : State) : Out State := .next (s.abortChan c)

/-! ## Instance reset (R339, R357) -/

/-- Fence the queues of an instance in reset; queued submissions are returned with status 0x01, a channel that holds its mover's grant
runs on to the end of its descriptor, and every other is cut with status 0x01. -/
def State.fenceQueues (s : State) (i : Nat) : State :=
  s.each (s.queuesOf i) (fun s q =>
    let s := s.put (F.DMX_QSTAT_FENCED q) 1
    let subs := (s.chan q).subs
    let s := s.each subs (fun s d => let r := s.tagAt q (32 * d.toNat); r.1.record q 1 false 0 0 0 r.2)
    let s := (s.setChan q { s.chan q with subs := [] }).put (F.DMX_QSTAT_DEPTH q) 0
    let s := if subs.isEmpty then s else s.raiseI 0x1202 i q
    let own := (Sp.get ArbS.init s.ins.arbs (s.moverOf q)).owner == some q
    if s.chState q = 1 ∧ own then s.setChan q { s.chan q with draining := true, since := none }
    else
      let s := if s.chState q = 1 ∨ s.chState q = 2 then
          (s.cutDesc q 1).put (F.DMX_CHSTAT_ERR q) 0
        else s
      s.put (F.DMX_CHSTAT_STATE q) 3)

/-- Every channel of an instance in reset has ended its descriptor. -/
def State.drained (s : State) (i : Nat) : Bool := (s.queuesOf i).all (fun q => !(s.chan q).draining)

/-- The end of the reset (R348): the channels leave FENCED, and their registers with I in their Cleared by column are reset. -/
def State.unfenceQueues (s : State) (i : Nat) : State :=
  s.each (s.queuesOf i) (fun s q =>
    let s := (s.put (F.DMX_QSTAT_FENCED q) 0).put (F.DMX_CHSTAT_STATE q) 0
    s.setChan q { ChanS.init with subs := [] })

/-! ## Arbiters (R352 to R354) -/

/-- A requester is masked: its owner is RESETTING or FAULTED, or its island is powered down in Park. -/
def State.masked (s : State) (arb r : Nat) : Bool :=
  if arb < 2 then let st := s.instState (s.qOwner r); st == 3 || st == 4
  else decide (2 ≤ s.get F.PWR_STATE) && decide (r < 4)

/-- PRIO of a requester. -/
def State.prioOf (s : State) (arb r : Nat) : Nat :=
  if arb < 2 then s.get (F.DMX_CHCTL_PRIO r) else if r = 8 then 0 else s.get (F.MEM_ARBPRIO r)

/-- The requesters that may be granted. -/
def State.requesters (s : State) (arb : Nat) (reqs : List Nat) : List Nat :=
  if arb < 2 then reqs.filter (fun c => decide (c < 32) && s.chState c == 1 && s.moverOf c == arb && !s.masked arb c &&
    !((s.regDesc c).op == 2 && (s.chan c).rx.isNone))
  else reqs.filter (fun k => decide (k < 9) && !s.masked arb k)

/-- Since when a requester waits, as a place in the order of happenings. -/
def State.waitSince (s : State) (arb r : Nat) : Nat :=
  if arb < 2 then (s.chan r).since.getD s.ins.order
  else Sp.get s.ins.order (Sp.get ArbS.init s.ins.arbs arb).since r

/-- The best requester by a preference, ties to the lower number. -/
def bestBy (better : Nat → Nat → Bool) : List Nat → Option Nat
  | [] => none
  | r :: l => match bestBy better l with
    | none => some r
    | some b => if better r b || (!better b r && decide (r < b)) then some r else some b

/-- The arbiter's choice: by PRIO, then the longest waiting, then the lower number; on a free turn the longest waiting. -/
def State.choose (s : State) (arb : Nat) (free : Bool) (l : List Nat) : Option Nat :=
  bestBy (fun a b =>
    let older := decide (s.waitSince arb a < s.waitSince arb b)
    if free then older
    else decide (s.prioOf arb b < s.prioOf arb a) || (s.prioOf arb a == s.prioOf arb b && older)) l

/-- NFREE of an arbiter. -/
def State.nfree (s : State) (arb : Nat) : Nat := if arb < 2 then s.get (F.DMX_ARB_NFREE arb) else s.get F.MEM_ARB_NFREE

/-- One grant decision (R352). A mover's arbiter decides only while no channel holds its mover; a decision of the DRAM arbiter says that
the burst before it has ended. Answers the requester granted. -/
def State.grant (s : State) (arb : Nat) (reqs : List Nat) : State × Option Nat :=
  let a := Sp.get ArbS.init s.ins.arbs arb
  if arb < 2 ∧ a.owner.isSome then (s, none)
  else
    -- masked requesters wait anew, and clients not seen before wait from now
    let s := if arb < 2 then s.each (reqs.filter (fun c => s.masked arb c)) (fun s c => s.setChan c { s.chan c with since := none })
      else s
    let l := s.requesters arb reqs
    let since := if arb < 2 then [] else sortBy (fun e => e.1) (l.eraseDups.map (fun r => (r, Sp.get s.ins.order a.since r)))
    let n := a.grants + 1
    let s1 := s.setIns { s.ins with arbs := Sp.put ArbS.init s.ins.arbs arb { a with since := since } }
    match s1.choose arb (n % s.nfree arb == 0) l with
    | none => (s1, none)
    | some r =>
      let arbs := Sp.put ArbS.init s1.ins.arbs arb
        { grants := n, owner := some r, since := since.filter (fun e => e.1 != r), at_ := s.now }
      let s := s1.setIns { s1.ins with order := s1.ins.order + 1, arbs := arbs }
      (if arb < 2 then s.setChan r { s.chan r with since := none } else s, some r)

end Sys2Proof.Machine
end

