-- ==== Sys2Proof/Machine/Resources.lean ====
section
/-!
DEFINITION. What an instance owns: its state, quotas, heap, queues, mailbox and semaphores (R333 to R338, R340 to R345). Readings and
choices are in log entry 30.
-/
namespace Sys2Proof.Machine

/-! ## States (R335) -/

/-- INS_ISTAT.STATE: 0 ABSENT, 1 DECLARED, 2 RUNNING, 3 RESETTING, 4 FAULTED, 5 WAITING. A change raises event 0x1301. -/
def State.instTo (s : State) (i st : Nat) : State :=
  if s.instState i = st then s else (s.put (F.INS_ISTAT_STATE i) st).raiseI 0x1301 i st

/-! ## Quotas (R338) -/

/-- A new value of a quota may stand: it does not rise beyond what is free. -/
def State.quotaOk (s : State) (i code new : Nat) : Bool := decide (new ≤ s.quotaOf i code + s.poolFree code)

/-- Write INS_QUOTA (register 0) or INS_QUOTA2 (register 1). A depth outside 1 to 16 is refused as a whole, too: DESIGN
CHOICE (log entry 30). -/
def State.writeQuota (s : State) (i reg : Nat) (v : Word) : State :=
  if reg = 0 then
    let d := (F.INS_QUOTA_DRAM i).part v
    let q := (F.INS_QUOTA_QUEUES i).part v
    let m := (F.INS_QUOTA_SEMS i).part v
    if s.quotaOk i 1 d && s.quotaOk i 2 q && s.quotaOk i 3 m then
      (((s.put (F.INS_QUOTA_DRAM i) d).put (F.INS_QUOTA_QUEUES i) q).put (F.INS_QUOTA_SEMS i) m).showUse i
    else s.count F.INS_CNT_QREFUSE
  else
    let d := (F.INS_QUOTA2_MBDEPTH i).part v
    if 1 ≤ d ∧ d ≤ 16 then (s.put (F.INS_QUOTA2_MBDEPTH i) d).showUse i else s.count F.INS_CNT_QREFUSE

/-- QUOTA_WRITE (R338). -/
def execQuotaWrite (inst reg : Nat) (val : Word) (s : State) : Out State := .next (s.writeQuota inst reg val)

/-! ## The heap (R334) -/

/-- Regions of DRAM in use, less the heap of instance `i`. -/
def State.dramTaken (s : State) (i : Nat) : List (Nat × Nat) := s.dramUsed (fun _ => true) (· != i)

/-- Apply a heap size: bytes up to the smaller size are kept, the new ones read 0; a heap that cannot grow where it lies moves. -/
def State.applyHeap (s : State) (i size : Nat) : State :=
  let old := s.get (F.INS_HEAP_SIZE i)
  let base := s.get (F.INS_HEAPBASE_BASE i)
  let taken := s.dramTaken i
  let stays := old != 0 && decide (base + size * 256 ≤ 2097152) &&
    taken.all (fun r => decide (base + size * 256 ≤ r.1) || decide (r.2 ≤ base))
  let place := if size = 0 then some 0 else if stays then some base else firstFree taken (size * 256)
  match place with
  | none => s
  | some b =>
    let a0 := dramBase + base * 4096
    let a1 := dramBase + b * 4096
    let keep := Nat.min old size * 1048576
    let kept := s.mem.filter (fun c => decide (a0 ≤ c.1) && decide (c.1 < a0 + keep))
    let s := (s.zeroMem a0 (a0 + old * 1048576)).zeroMem a1 (a1 + size * 1048576)
    let s := kept.foldl (fun s c => s.wr (c.1 - a0 + a1) c.2) s
    ((s.put (F.INS_HEAP_SIZE i) size).put (F.INS_HEAPBASE_BASE i) b).showUse i

/-- Marshalling places the heaps that POOL declares, in the order of the instances. -/
def State.placeHeaps (s : State) : State :=
  let l := (allInsts.map (fun i => (i, s.get (F.INS_HEAP_SIZE i)))).filter (fun e => e.2 != 0)
  let s := s.each l (fun s e => s.put (F.INS_HEAP_SIZE e.1) 0)
  s.each l (fun s e => s.applyHeap e.1 e.2)

/-- A heap size that waits is applied once no channel of the instance is ACTIVE. -/
def State.heapTry (s : State) (i : Nat) : State :=
  match (s.inst i).heapWait with
  | none => s
  | some size =>
    if (s.queuesOf i).any (fun c => s.chState c == 1) then s
    else (s.setInst i { s.inst i with heapWait := none }).applyHeap i size

/-- Write INS_HEAP.SIZE: a growth beyond the DRAM quota is refused (R338). -/
def State.writeHeap (s : State) (i size : Nat) : State :=
  if s.get (F.INS_HEAP_SIZE i) < size ∧ s.get (F.INS_QUOTA_DRAM i) < s.dramUse i size then s
  else (s.setInst i { s.inst i with heapWait := some size }).heapTry i

/-- HEAP_SIZE_WRITE (R334). -/
def execHeapSizeWrite (inst size : Nat) (s : State) : Out State := .next (s.writeHeap inst size)

/-- DESCRIPTOR_COMPLETE (R349, R334). -/
def execDescriptorComplete (c : Nat) (s : State) : Out State := .next ((s.endDesc c).heapTry (s.qOwner c))

/-! ## Queues (R345) -/

/-- PRIO that marshalling gives a channel: the weight of an S instance, POOL's declaration for a P instance (R248, R352). -/
def State.givePrio (s : State) (q : Nat) : State :=
  match s.decl (s.qOwner q) with
  | none => s
  | some d => s.put (F.DMX_CHCTL_PRIO q) (if d.supervisory then s.get (F.MAR_IDMAW_WEIGHT d.inst) else d.prio)

/-- Write INS_QOWN: while the queue is unowned or its owner is DECLARED, with its channel IDLE, under the new owner's quota. -/
def State.writeOwner (s : State) (q owner : Nat) : State :=
  let old := s.qOwner q
  if (old = 0 ∨ s.instState old = 1) ∧ s.chState q = 0 ∧
      (owner = 0 ∨ owner = old ∨ (s.queuesOf owner).length < s.get (F.INS_QUOTA_QUEUES owner)) then
    (((s.put (F.INS_QOWN_OWNER q) owner).givePrio q).showUse old).showUse owner
  else s

/-- QUEUE_OWNER_WRITE (R345, R338). -/
def execQueueOwnerWrite (q owner : Nat) (s : State) : Out State := .next (s.writeOwner q owner)

/-! ## Mailboxes (R340, R341, R360) -/

/-- Show the mailbox of the instance whose task runs on platform `pf` in its local page. -/
def State.showMailbox (s : State) (pf : Nat) : State :=
  match (s.pf pf).cur with
  | none => s
  | some r =>
    let x := s.inst r.l.inst
    let m := x.inbox.headD { op := 0, data := [] }
    let s := (s.put (F.LCL_MB_STAT_INCNT pf) x.inbox.length).put (F.LCL_MB_STAT_OUTCNT pf) x.outbox.length
    let s := (s.putB (F.LCL_MB_STAT_DOOR pf) x.door).putB (F.LCL_MB_STAT_OFULL pf) x.oful
    let s := (s.put (F.LCL_MB_INHDR_OP pf) m.op).put (F.LCL_MB_INHDR_LEN pf) m.data.length
    s.each (List.range 16) (fun s k => s.put (F.LCL_MB_IN pf k) (leAt m.data (4 * k) 4))

/-- Show the mailbox of an instance where its task runs. -/
def State.showMail (s : State) (i : Nat) : State :=
  s.each (List.range 24) (fun s p => match (s.pf p).cur with
    | none => s
    | some r => if r.l.inst = i then s.showMailbox p else s)

/-- Event 0x1304, at most once per second per instance and direction. -/
def State.mbEvent (s : State) (i dir : Nat) : State :=
  let x := s.inst i
  let due := match x.mbAt.find? (fun e => e.1 == dir) with
    | none => true
    | some e => decide (e.2 + 1000000000 ≤ s.now)
  if due then (s.setInst i { x with mbAt := (x.mbAt.filter (fun e => e.1 != dir)) ++ [(dir, s.now)] }).raiseI 0x1304 i dir else s

/-- The state refuses class 0x7 messages (R335); a target that is no instance is not declared. -/
def State.mbClosed (s : State) (i : Nat) : Bool :=
  let st := s.instState i
  !allInsts.contains i || st == 0 || st == 3 || st == 4

/-- Refuse a class 0x7 message. -/
def State.mbRefuse (s : State) (h : Hdr) : State :=
  let s := (if allInsts.contains h.tgt then s.count (F.INS_MBCNT_IREFUSED h.tgt) else s).mbEvent h.tgt 0
  s.send { cls := 8, last := true, reply := true, err := true, src := h.tgt, tgt := 0, op := 0x00FF, tag := h.tag,
           payload := [] }

/-- MAILBOX_TO_INSTANCE (R340): only the manager sends class 0x7. -/
def execMailboxToInstance (h : Hdr) (op : Nat) (payload : Bytes) (s : State) : Out State :=
  .next (s.receive 7 h (fun s =>
    let i := h.tgt
    let x := s.inst i
    if h.src ≠ 0 ∨ s.mbClosed i = true ∨ s.get (F.INS_QUOTA2_MBDEPTH i) ≤ x.inbox.length then s.mbRefuse h
    else
      ((s.setInst i { x with inbox := x.inbox ++ [{ op := op, data := payload }], door := true }).showUse i).showMail i))

/-- MAILBOX_DOORBELL (R340). -/
def execMailboxDoorbell (h : Hdr) (s : State) : Out State :=
  .next (s.receive 7 h (fun s =>
    if h.src ≠ 0 ∨ s.mbClosed h.tgt = true then s.mbRefuse h
    else (s.setInst h.tgt { s.inst h.tgt with door := true }).showMail h.tgt))

/-- Free the head of an inbound ring (R341). -/
def State.mbPop (s : State) (i : Nat) : State :=
  ((s.setInst i { s.inst i with inbox := (s.inst i).inbox.tail }).showUse i).showMail i

/-- MAILBOX_POP: by the running task. -/
def execMailboxPop (pf : Nat) (s : State) : Out State :=
  .next (match (s.pf pf).cur with
    | none => s
    | some r => (s.coreActs pf).mbPop r.l.inst)

/-- Push a message into an outbound ring (R341): it goes to the link as a class 0x8 message and keeps its entry until it is
acknowledged. -/
def State.mbPush (s : State) (i op : Nat) (data : Bytes) : State :=
  let x := s.inst i
  if s.get (F.INS_QUOTA2_MBDEPTH i) ≤ x.outbox.length then
    (((s.setInst i { x with oful := true }).count (F.INS_MBCNT_OFULLS i)).mbEvent i 1).showMail i
  else
    let s := s.setInst i { x with outbox := x.outbox ++ [{ op := op, data := data }] }
    ((s.send { cls := 8, last := true, reply := false, err := false, src := i, tgt := 0, op := op, tag := 0,
               payload := data }).showUse i).showMail i

/-- MAILBOX_PUSH: by the running task, which has written the staging area. OP outside 0x0001 to 0x00FE or LEN outside 1 to 64 sends
nothing: DESIGN CHOICE (log entry 30). -/
def execMailboxPush (pf op len : Nat) (staging : Bytes) (t : Nat) (s : State) : Out State :=
  let s := s.advance t
  .next (match (s.pf pf).cur with
    | none => s
    | some r =>
      let s := (s.coreActs pf).each (List.range 16) (fun s k => s.put (F.LCL_MB_OUT pf k) (leAt staging (4 * k) 4))
      if 1 ≤ op ∧ op ≤ 0xFE ∧ 1 ≤ len ∧ len ≤ 64 then s.mbPush r.l.inst op ((staging ++ zeros 64).take len) else s)

/-- The link acknowledges a class 0x8 message: its outbound entry is freed (R341). -/
def State.mbFreed (s : State) (m : Msg) : State :=
  if m.cls ≠ 8 ∨ m.reply then s
  else
    let x := s.inst m.src
    match x.outbox with
    | [] => s
    | e :: r => if e = { op := m.op, data := m.payload } then
        ((s.setInst m.src { x with outbox := r }).showUse m.src).showMail m.src
      else s

/-! ## Semaphores (R342 to R344) -/

/-- The word that a try returns (R343). -/
def tryWord (got broken quota : Bool) (holder : Nat) : Nat :=
  ofBool got + 2 * ofBool broken + 4 * ofBool quota + 256 * holder

/-- Try a semaphore: the state after it and the word returned. -/
def State.semTry (s : State) (who n : Nat) : State × Nat :=
  let h := s.get (F.INS_SEM_HOLDER n)
  let broken := s.flag (F.INS_SEM_BROKEN n)
  if h = who then (s, tryWord true broken false who)
  else if h ≠ 0xFF then (s, tryWord false broken false h)
  else if 1 ≤ who ∧ who ≤ 63 ∧ s.get (F.INS_QUOTA_SEMS who) ≤ (s.semsOf who).length then
    (s, tryWord false broken true 0xFF)
  else
    let s := s.put (F.INS_SEM_HOLDER n) who
    (if 1 ≤ who ∧ who ≤ 63 then s.showUse who else s, tryWord true broken false who)

/-- SEMAPHORE_TRY: the word returned shows in the TRY field that was read, the manager's or that of the instance's platform. -/
def execSemaphoreTry (who : Holder) (n : Nat) (s : State) : Out State :=
  let r := s.semTry who n
  .next (if who = 0 then r.1.put (F.INS_SEM_TRY n) r.2
    else r.1.each (List.range 24) (fun s p => match (s.pf p).cur with
      | none => s
      | some x => if x.l.inst = who then s.put (F.LCL_SEM_TRY p n) r.2 else s))

/-- Release a semaphore: only its holder can. -/
def State.semRelease (s : State) (who n : Nat) (clear : Bool) : State :=
  if s.get (F.INS_SEM_HOLDER n) = who ∧ who ≠ 0xFF then
    let s := s.put (F.INS_SEM_HOLDER n) 0xFF
    let s := if clear then s.put (F.INS_SEM_BROKEN n) 0 else s
    if 1 ≤ who ∧ who ≤ 63 then s.showUse who else s
  else s

/-- SEMAPHORE_RELEASE (R343). -/
def execSemaphoreRelease (who : Holder) (n : Nat) (clearBroken : Bool) (s : State) : Out State :=
  .next (s.semRelease who n clearBroken)

/-- Release broken one semaphore (R344). -/
def State.semBreak (s : State) (n : Nat) : State :=
  let who := s.get (F.INS_SEM_HOLDER n)
  let s := (s.put (F.INS_SEM_HOLDER n) 0xFF).put (F.INS_SEM_BROKEN n) 1
  let s := s.raiseI 0x1303 (if 1 ≤ who ∧ who ≤ 63 then who else 0xFF) n
  if 1 ≤ who ∧ who ≤ 63 then s.showUse who else s

/-- Every semaphore of a holder is released broken. -/
def State.semBreakAll (s : State) (who : Nat) : State := s.each (s.semsOf who) State.semBreak

end Sys2Proof.Machine
end

