-- ==== Sys2Proof/Machine/Marshalling.lean ====
section
/-!
DEFINITION. Marshalling: layout, measurements, figures, shares, placement, restarts and shunts (R236 to R255). Readings and choices are
in log entry 31.
-/
namespace Sys2Proof.Machine

/-! ## Layout inside an instance (R237, R210, R212) -/

/-- Offset of the commit block. -/
def commitAt (d : InstDecl) : Nat := roundUp (ringEnd d) 64

/-- Offset of the checkpoint region. -/
def ckptAt (d : InstDecl) : Nat := commitAt d + 64

/-- Offset of the initialised data. -/
def initAt (d : InstDecl) : Nat := ckptAt d + roundUp d.ckpt 64

/-- Code and data shares as placed: whole 4 KiB. -/
def codeLen (d : InstDecl) : Nat := roundUp d.code 4096
def dataLen (d : InstDecl) : Nat := roundUp d.data 4096

/-- Ring inputs in ascending order with the offsets of their rings: (input, LDEPTH, offset). -/
def ringPlaces : Nat → List (Nat × Nat) → List (Nat × Nat × Nat)
  | _, [] => []
  | o, (r, l) :: t => (r, l, o) :: ringPlaces (o + 0x40 + 8 * 2 ^ l) t

/-- The rings of an instance. -/
def ringsAt (d : InstDecl) : List (Nat × Nat × Nat) := ringPlaces 0x2000 (sortBy (fun r => r.1) d.rings)

/-- A task-table entry (R211). -/
def taskBytes (t : TaskDecl) : Bytes :=
  leBytes 4 t.entry ++ leBytes 4 t.budget ++ leBytes 4 (t.deadline + 2 ^ 24 * t.cls + 2 ^ 31 * ofBool t.valid) ++ leBytes 4 t.stack

/-- The header of an instance on a platform (R210), less its directory and task table. -/
def headBytes (d : InstDecl) (pf : Nat) : Bytes :=
  leBytes 4 (d.inst + 2 ^ 8 * ofBool d.supervisory + 2 ^ 16 * pf) ++ leBytes 4 (codeLen d) ++ leBytes 4 (dataLen d) ++
  leBytes 4 (ckptAt d) ++ leBytes 4 d.ckpt ++ leBytes 4 (commitAt d) ++ leBytes 4 0x2000

/-- The lane that feeds ring input `r` of instance `i`, if any. -/
def State.feeder (s : State) (i r : Nat) : Option Nat :=
  (List.range 4096).find? (fun l => s.flag (F.FCH_LCFG_VALID l) &&
    (List.range 4).any (fun w => s.get (F.FCH_LDEST_LO l w) == 2 ^ 14 + i * 256 + r || s.get (F.FCH_LDEST_HI l w) == 2 ^ 14 + i * 256 + r))

/-- The first words of a ring (R212): empty. -/
def State.ringHead (s : State) (i r ldepth : Nat) : Bytes :=
  match s.feeder i r with
  | none => leBytes 4 ldepth ++ zeros 60
  | some l =>
    let g := s.get (F.FCH_LCFG_FG l)
    leBytes 4 (ldepth + 2 ^ 16 * l + 2 ^ 28 * s.get (F.FCH_FG_CTRL_TB g)) ++ zeros 8 ++ leBytes 4 g ++ zeros 48

/-- Write the header and the ring headers of an instance at a place. -/
def State.writeHeader (s : State) (d : InstDecl) (p : Place) : State :=
  let b := tcmBase p.pf + 0x80000 + p.data
  let s := s.wrN b (headBytes d p.pf)
  let s := (ringsAt d).foldl (fun s r => (s.wrLe (b + 0x400 + 4 * r.1) 4 r.2.2).wrN (b + r.2.2) (s.ringHead d.inst r.1 r.2.1)) s
  (List.zip (List.range d.tasks.length) d.tasks).foldl (fun s t => s.wrN (b + 0x1000 + 16 * t.1) (taskBytes t.2)) s

/-- Load the master image of an instance at a place (R237): its code, its initialised data, its header and its rings, the rest 0. -/
def State.loadImage (s : State) (d : InstDecl) (p : Place) : State :=
  let c := tcmBase p.pf + p.code
  let b := tcmBase p.pf + 0x80000 + p.data
  let s := (s.zeroMem c (c + codeLen d)).zeroMem b (b + dataLen d)
  let s := (s.wrN c (d.codeImage.take (codeLen d))).wrN (b + initAt d) (d.dataImage.take (dataLen d - initAt d))
  let s := s.setInst d.inst { s.inst d.inst with ringFrom := [] }
  s.writeHeader d p

/-- The newest complete snapshot of an instance (R226, R245). -/
def InstS.snapshot (x : InstS) : Option Snap := match x.staged with
  | some p => some p
  | none => x.mram

/-- Write the checkpoint region at a place. -/
def State.loadCkpt (s : State) (d : InstDecl) (p : Place) (b : Bytes) : State :=
  s.wrN (tcmBase p.pf + 0x80000 + p.data + ckptAt d) (b.take d.ckpt)

/-! ## Measurements and figures (R238 to R240, R244, R253) -/

/-- The step of a contention level. -/
def clStep (cl : Nat) : Nat := Nat.min (cl / 50) 16

/-- Key of a task's measurements. -/
def measKey (i t : Nat) : Nat := 256 * i + t

/-- A task of an instance as declared. -/
def State.taskDecl (s : State) (i t : Nat) : Option TaskDecl := match s.decl i with
  | none => none
  | some d => d.tasks[t]?

/-- P999 (R239) with the task's BUDGET: MAXC until 1,000 runs; then the upper edge of the bin, rounded down. -/
def Meas.p999 (m : Meas) (budget : Nat) : Nat :=
  if m.runs < 1000 then m.maxc
  else match (List.range 128).find? (fun b => decide (999 * m.runs ≤
      1000 * sumN ((m.hist.filter (fun e => decide (e.1 ≤ b))).map (fun e => e.2)))) with
    | none => m.maxc
    | some b => (b + 1) * budget / 128

/-- FIG of a task (R240). -/
def State.fig (s : State) (d : InstDecl) (t : Nat) (k : TaskDecl) : Nat :=
  if !d.supervisory then k.wcet
  else
    let m := s.meas (measKey d.inst t)
    if m.runs = 0 then k.budget
    else
      let v := Nat.max m.himax (m.p999 k.budget)
      if clStep (s.get F.MAR_CL_NOW) ≤ m.histep then v
      else if m.histep < 8 then Nat.min (cdiv (v * s.get (F.MAR_IGUARD_GUARD d.inst)) 10) (k.deadline * 1200)
      else v

/-- Show the figures of the task that MAR_MSEL selects. -/
def State.showMeas (s : State) : State :=
  let i := s.get F.MAR_MSEL_INST
  let t := s.get F.MAR_MSEL_TASK
  let m := s.meas (measKey i t)
  let r : Nat × Nat × Nat := match s.decl i with
    | none => (0, 0, 0)
    | some d => match d.tasks[t]? with
      | none => (0, 0, 0)
      | some k => (m.p999 k.budget, s.fig d t k, if d.supervisory then 0 else k.wcet / 8)
  let s := ((s.put F.MAR_MEAS0_MAXC m.maxc).put F.MAR_MEAS1_P999 r.1).put F.MAR_MEAS2_HIMAX m.himax
  let s := ((s.put F.MAR_MEAS3_FIG r.2.1).put F.MAR_MEAS4_HISTEP m.histep).put F.MAR_MEAS4_WCET r.2.2
  (s.put F.MAR_MEAS5_DTCMAX m.dtc).put F.MAR_MEAS6_RUNS m.runs

/-- Enter a run of TILE clocks at a contention level (R239), with the alarm of R244; `dtc` is the time to the ECALL, if it is entered. -/
def State.enterRun (s : State) (i t clocks cl : Nat) (dtc : Option Nat) : State :=
  let k := measKey i t
  let m := s.meas k
  let budget := match s.taskDecl i t with
    | none => 0
    | some x => x.budget
  let bin := if budget = 0 then 128 else Nat.min (clocks * 128 / budget) 128
  let st := clStep cl
  let fresh := m.runs == 0 || decide (m.histep < st)
  let m' : Meas := { m with
    runs := Nat.min (m.runs + 1) (2 ^ 32 - 1), maxc := Nat.max m.maxc clocks,
    hist := Sp.put 0 m.hist bin (Sp.get 0 m.hist bin + 1),
    histep := if fresh then st else m.histep,
    himax := if fresh then clocks else if st = m.histep then Nat.max m.himax clocks else m.himax,
    dtc := Nat.max m.dtc (dtc.getD 0) }
  let s := s.setMeas k m'
  let s := match s.decl i with
    | none => s
    | some d =>
      let w := match d.tasks[t]? with
        | none => 0
        | some x => x.wcet
      if !d.supervisory ∧ w < clocks then
        let s := s.count F.MAR_CNT2_ALARMS
        let due := match s.mar.alarmAt.find? (fun (e : Nat × Nat) => e.1 == k) with
          | none => true
          | some e => decide (e.2 + 1000000000 ≤ s.now)
        if due then
          let s := s.raiseI 0x0B04 i (256 * i + t)
          s.setMar { s.mar with alarmAt := (k, s.now) :: s.mar.alarmAt.filter (fun e => e.1 != k) }
        else s
      else s
  s.showMeas

/-- Clear the figures of a task. -/
def State.clearMeas (s : State) (i t : Nat) : State := (s.setMeas (measKey i t) Meas.init).showMeas

/-- MEASUREMENT_CLEAR (R239, R253): a write of MAR_MSEL with CLR. -/
def execMeasurementClear (task inst : Nat) (s : State) : Out State :=
  .next (((s.put F.MAR_MSEL_TASK task).put F.MAR_MSEL_INST inst).clearMeas inst task)

/-! ## Shares (R241) -/

/-- Departures of the active bank that launch a task of an instance: (time after the boundary, task). -/
def State.launchesOf (s : State) (i : Nat) : List (Nat × Nat) :=
  (validSlots (s.bank s.activeBank)).flatMap (fun e =>
    if e.2.action = 1 ∧ e.2.param % 64 = i then (List.range (e.2.rept + 1)).map (fun k => (depTime e.2 k, e.2.param / 256 % 256))
    else [])

/-- Launches per cycle of a task. -/
def State.launchCount (s : State) (i t : Nat) : Nat :=
  sumN ((validSlots (s.bank s.activeBank)).map (fun e =>
    if e.2.action = 1 ∧ e.2.param % 64 = i ∧ e.2.param / 256 % 256 = t then e.2.rept + 1 else 0))

/-- Valid tasks of an instance with their numbers. -/
def validTasks (d : InstDecl) : List (Nat × TaskDecl) :=
  (List.zip (List.range d.tasks.length) d.tasks).filter (fun t => t.2.valid)

/-- 32 × the snapshot clocks of an instance in a cycle: one snapshot falls in every 20 ms begun, none where nothing is launched and so
nothing commits (R226). -/
def State.snapClocks32 (s : State) (d : InstDecl) : Nat :=
  if (validTasks d).any (fun t => decide (0 < s.launchCount d.inst t.1)) then d.ckpt * Nat.max 1 (cdiv (s.get F.TTB_CYCLE) 20000) else 0

/-- SHMAX and SHMIN in force (R247). -/
def State.shareBounds (s : State) (i : Nat) : Nat × Nat :=
  let lo := s.get (F.MAR_IBOUND_SHMIN i)
  let hi := s.get (F.MAR_IBOUND_SHMAX i)
  if hi < lo then (hi, hi) else (lo, hi)

/-- The share of an instance and whether the clamp to SHMAX lowered it. -/
def State.shareOf (s : State) (d : InstDecl) : Nat × Bool :=
  let work := sumN ((validTasks d).map (fun t => s.fig d t.1 t.2 * s.launchCount d.inst t.1))
  let v := cdiv (8 * (32 * work + s.snapClocks32 d)) (s.get F.TTB_CYCLE * 1200)
  if d.supervisory then
    let b := s.shareBounds d.inst
    (clampN b.1 b.2 v, decide (b.2 < v))
  else (v, false)

/-- The share with which an instance is placed outside activation and a B reset: that of a P instance is decided with its platform, that
of an S instance only every PERIOD (R236). -/
def State.shareNow (s : State) (d : InstDecl) : Nat × Bool :=
  if d.supervisory then (s.get (F.MAR_IPLACE_SHARE d.inst), s.flag (F.MAR_IPLACE_CAPPED d.inst)) else s.shareOf d

/-! ## Placement (R242, R243) -/

/-- The place where an instance now lies. -/
def State.placeNow (s : State) (i : Nat) : Place :=
  let p := s.placeOf i
  { inst := i, pf := p, code := Sp.get 0 (s.pf p).code i, data := Sp.get 0 (s.pf p).data i }

/-- Every place that TCM space is taken for: the declared instances, the target of a shunt, and restarts under way. -/
def State.places (s : State) : List Place :=
  (s.declared.filter (fun d => s.instState d.inst != 0)).map (fun d => s.placeNow d.inst) ++
  (match s.mar.shunt with
    | none => []
    | some h => [{ inst := h.inst, pf := h.target, code := h.code, data := h.data }]) ++ s.mar.copying ++ s.mar.mapWait

/-- The lowest 4 KiB place of `n` bytes in a memory of `cap` bytes, among the stretches taken. -/
def fitIn (cap n : Nat) (taken : List (Nat × Nat)) : Option Nat :=
  lowest ((0 :: taken.map (fun r => r.1 + r.2)).filter (fun b => decide (b + n ≤ cap) &&
    taken.all (fun r => decide (b + n ≤ r.1) || decide (r.1 + r.2 ≤ b))))

/-- Each class A launch of `x` comes at least DEADLINE + 2 µs after every launch of `y` (test 5). -/
def State.aheadOf (s : State) (x y : InstDecl) : Bool :=
  let cyc := s.cycleNs
  let ls := s.launchesOf y.inst
  (s.launchesOf x.inst).all (fun a => match x.tasks[a.2]? with
    | none => true
    | some k =>
      if k.cls ≠ 0 ∨ !k.valid then true
      else ls.all (fun b => match y.tasks[b.2]? with
        | none => true
        | some q => !q.valid || decide (q.deadline * 1000 + 2000 ≤ (a.1 + cyc - b.1) % cyc)))

/-- Test 5 for two instances of one platform. -/
def State.noWait (s : State) (x y : InstDecl) : Bool := s.aheadOf x y && s.aheadOf y x

/-- Sum of the shares of some instances. -/
def State.sharesOf (s : State) (l : List Nat) : Nat := sumN (l.map (fun i => s.get (F.MAR_IPLACE_SHARE i)))

/-- The tests of R242 but role for instance `d` with a share, on platform `pf` among the places `ps`: the relocation bases when they
pass. -/
def State.testPlace (s : State) (ps : List Place) (d : InstDecl) (share pf : Nat) : Option Place :=
  let here := ps.filter (fun p => p.pf == pf && p.inst != d.inst)
  let ds := here.filterMap (fun p => s.decl p.inst)
  if 100 * (s.sharesOf (here.map (fun p => p.inst)).eraseDups + share) ≤ s.get F.MAR_CTRL_CAP * 256 ∧
      ds.all (fun x => x.tb == d.tb && s.noWait x d) = true ∧
      (!d.supervisory || bit (s.get (F.MAR_IPFMASK_ALLOW d.inst)) pf) = true then
    let taken := ps.filter (fun p => p.pf == pf)
    match fitIn 0x20000 (codeLen d) (taken.map (fun p => (p.code, match s.decl p.inst with
            | none => 0
            | some x => codeLen x))),
          fitIn 0x80000 (dataLen d) (taken.map (fun p => (p.data, match s.decl p.inst with
            | none => 0
            | some x => dataLen x))) with
    | some c, some b => some { inst := d.inst, pf := pf, code := c, data := b }
    | _, _ => none
  else none

/-- PFM_PCTRL.ROLE: 0 active, 1 spare, 2 quarantined, 3 unused. -/
def State.roleOf (s : State) (p : Nat) : Nat := s.get (F.PFM_PCTRL_ROLE p)

/-- The lowest active platform that passes. -/
def State.findPlace (s : State) (ps : List Place) (d : InstDecl) (share : Nat) : Option Place :=
  ((List.range 24).filter (fun p => s.roleOf p == 0)).findSome? (fun p => s.testPlace ps d share p)

/-- The rank of R243: P by its most demanding class, then S. -/
def placeRank (d : InstDecl) : Nat :=
  if d.supervisory then 3
  else
    let cs := (d.tasks.filter (fun t => t.valid)).map (fun t => t.cls)
    if cs.contains 0 then 0 else if cs.contains 1 then 1 else 2

/-- Instances in the order of placement. -/
def placeOrder (l : List InstDecl) : List InstDecl := sortBy (fun d => placeRank d * 64 + d.inst) l

/-- Show PLOAD of every platform, PFM_SPARE and QMASK (R254, R233). -/
def State.showLoads (s : State) : State :=
  let ps := s.places
  let s := s.each (List.range 24) (fun s p =>
    let l := ((ps.filter (fun x => x.pf == p)).map (fun x => x.inst)).eraseDups
    let a := l.any (fun i => match s.decl i with
      | none => false
      | some d => (validTasks d).any (fun t => t.2.cls == 0))
    ((s.put (F.MAR_PLOAD_RES p) (s.sharesOf l)).put (F.MAR_PLOAD_NINST p) l.length).putB (F.MAR_PLOAD_HASA p) a)
  let m := fun (r : Nat) => sumN (((List.range 24).filter (fun p => s.roleOf p == r)).map (fun p => 2 ^ p))
  (s.put F.PFM_SPARE (m 1)).put F.PFM_GSTAT_QMASK (m 2)

/-- Put an instance at a place: the map, the relocation, the platform's time base. -/
def State.setPlace (s : State) (d : InstDecl) (p : Place) : State :=
  let s := (s.put (F.MAR_IPLACE_PF d.inst) p.pf).putB (F.MAR_IPLACE_CLASS d.inst) d.supervisory
  let x := s.pf p.pf
  (s.setPf p.pf { x with code := Sp.put 0 x.code d.inst p.code, data := Sp.put 0 x.data d.inst p.data }).put
    (F.PFM_PCTRL_TB p.pf) d.tb

/-- Forget an instance's relocation on a platform. -/
def State.freePlace (s : State) (i pf : Nat) : State :=
  let x := s.pf pf
  s.setPf pf { x with code := Sp.put 0 x.code i 0, data := Sp.put 0 x.data i 0 }

/-- Store a share. -/
def State.setShare (s : State) (i : Nat) (v : Nat × Bool) : State :=
  (s.put (F.MAR_IPLACE_SHARE i) v.1).putB (F.MAR_IPLACE_CAPPED i) v.2

/-- Place instances one by one on active platforms (R243) with the shares that `share` decides: the places found, and those that fit
nowhere. -/
def State.placeEach (share : State → InstDecl → Nat × Bool) (s : State) : List Place → List InstDecl → State × List Place × List InstDecl
  | ps, [] => (s, ps, [])
  | ps, d :: r =>
    let v := share s d
    match s.findPlace ps d v.1 with
    | none => let t := State.placeEach share s ps r; (t.1, t.2.1, d :: t.2.2)
    | some p => State.placeEach share (s.setShare d.inst v) (ps ++ [p]) r

/-- Placement at activation and at a B reset (R243): none when an instance fits nowhere. -/
def State.placeAll (s : State) : Option State :=
  let r := State.placeEach State.shareOf s [] (placeOrder s.declared)
  if r.2.2.isEmpty then
    some (r.2.1.foldl (fun s p => match s.decl p.inst with
      | none => s
      | some d => (s.setPlace d p).loadImage d p) r.1)
  else none

/-- Place every recorder buffer in DRAM (R236, R254): one after the other above the system area. -/
def State.placeBuffers (s : State) : State :=
  ((List.range 16).filter (fun r => s.flag (F.ACQ_RCFG_VALID r))).foldl (fun (a : State × Nat) r =>
    let n := a.1.get (F.ACQ_RBUF_SIZE r) * 16
    (((a.1.put (F.MAR_RBUF_BASE r) a.2).put (F.MAR_RBUF_BANKS r) (Config.banksOf a.2 n).toNat), a.2 + n)) (s, 131072) |>.1

/-- The instances that take TCM space on a platform. -/
def State.declsOn (s : State) (p : Nat) : List InstDecl :=
  ((s.places.filter (fun x => x.pf == p)).map (fun x => x.inst)).eraseDups.filterMap s.decl

/-- Some of the instances of a platform make test 5 fail for another (R242). -/
def State.await (s : State) (ds : List InstDecl) : Bool := ds.any (fun x => ds.any (fun y => x.inst != y.inst && !s.aheadOf x y))

/-- Show which platforms fail test 5 in the active bank (R242). -/
def State.showAwait (s : State) : State :=
  s.put F.MAR_AWAIT_PFMASK (sumN (((List.range 24).filter (fun p => s.await (s.declsOn p))).map (fun p => 2 ^ p)))

/-! ## Shunts (R249 to R251) -/

/-- An instance has a task running or queued on a platform. -/
def State.hasTask (s : State) (i : Nat) : Bool :=
  (s.taskOf i).isSome || (List.range 24).any (fun p => (s.pf p).lq.any (fun l => l.inst == i))

/-- The end of a shunt on the map: MOVING, SHUNTING and LASTRES. -/
def State.shuntOff (s : State) (h : Shunt) (res : Nat) : State :=
  let s := (s.setMar { s.mar with shunt := none }).put (F.MAR_IPLACE_MOVING h.inst) 0
  ((s.put F.MAR_STATUS_SHUNTING 0).put (F.MAR_ISHUNT_LASTRES h.inst) res).showLoads

/-- Abandon a shunt (R250, R251): with event 0x0B03 or without. `res` is 2 at the cutoff and 3 otherwise. -/
def State.shuntAbandon (s : State) (res : Nat) (event : Bool) : State :=
  match s.mar.shunt with
  | none => s
  | some h =>
    let i := h.inst
    let s := (s.shuntOff h res).count F.MAR_CNT_ABANDONS
    let s := if event then s.raiseI 0x0B03 i h.target else s
    let n := Nat.min (s.get (F.MAR_ISHUNT_ATTEMPTS i) + 1) 15
    let s := s.put (F.MAR_ISHUNT_ATTEMPTS i) n
    let s := if s.get F.MAR_CTRL2_ABNMAX ≤ n then s.put (F.MAR_IGUARD_STUCK i) 1 else s
    let back := s.get F.MAR_CTRL_BACKOFF * 10000000 * 2 ^ (n - 1)
    s.setMar { s.mar with retryAt := Sp.put 0 s.mar.retryAt i (s.now + back) }

/-- Start a shunt to a place (R249). -/
def State.shuntStart (s : State) (p : Place) : State :=
  let i := p.inst
  let s := s.setMar { s.mar with shunt := some { inst := i, source := s.placeOf i, target := p.pf, copied := 0, marked := [],
                                                 startNs := s.tbNs s.ttbTb, code := p.code, data := p.data } }
  let s := ((s.put (F.MAR_IPLACE_MOVING i) 1).put F.MAR_STATUS_SHUNTING 1).put F.MAR_STATUS_SINST i
  ((s.put F.MAR_STATUS_STGT p.pf).put (F.MAR_ISHUNT_LASTTGT i) p.pf).showLoads

/-- Copy bytes `o` to `o + n` of an instance's image, its code share before its data share, to the target of its shunt. -/
def State.shuntCopy (s : State) (h : Shunt) (d : InstDecl) (o n : Nat) : State :=
  let c := codeLen d
  let n1 := Nat.min n (c - o)
  let n2 := Nat.min (n - n1) (c + dataLen d - Nat.max o c)
  let s := s.wrN (tcmBase h.target + h.code + o) (s.rdN (s.codeOn h.source h.inst o) n1)
  s.wrN (tcmBase h.target + 0x80000 + h.data + (Nat.max o c - c)) (s.rdN (s.dataOn h.source h.inst (Nat.max o c - c)) n2)

/-- One burst of up to 4 KiB when client 8 is granted: only while no task of the instance runs; marked blocks follow the first copy. -/
def State.shuntBurst (s : State) : State :=
  match s.mar.shunt with
  | none => s
  | some h => match s.decl h.inst with
    | none => s
    | some d =>
      if (s.taskOf h.inst).isSome then s
      else
        let all := codeLen d + dataLen d
        if h.copied < all then
          let s := s.shuntCopy h d h.copied (Nat.min 4096 (all - h.copied))
          s.setMar { s.mar with shunt := some { h with copied := Nat.min all (h.copied + 4096) } }
        else
          let s := (h.marked.take 4).foldl (fun s b => s.shuntCopy h d (codeLen d + 1024 * b) 1024) s
          s.setMar { s.mar with shunt := some { h with marked := h.marked.drop 4 } }

/-- GRANT_DECISION (R352, R354, R249): a grant of DRAM to client 8 lets a shunt copy. -/
def execGrantDecision (arb : Nat) (reqs : List Nat) (s : State) : Out State :=
  let r := s.grant arb reqs
  .next (if arb = 2 ∧ r.2 = some 8 then r.1.shuntBurst else r.1)

/-- The switch of a shunt (R249): the map names the target. -/
def State.shuntSwitch (s : State) (h : Shunt) : State :=
  match s.decl h.inst with
  | none => s
  | some d =>
    let p : Place := { inst := h.inst, pf := h.target, code := h.code, data := h.data }
    let s := ((s.shuntOff h 1).freePlace h.inst h.source).setPlace d p
    let s := s.wrN (tcmBase p.pf + 0x80000 + p.data) (headBytes d p.pf)
    let s := (((s.count F.MAR_CNT_SHUNTS).raiseI 0x0B02 h.inst h.target).showLoads).showAwait
    (s.put (F.MAR_ISHUNT_ATTEMPTS h.inst) 0).put (F.MAR_IGUARD_STUCK h.inst) 0

/-- A launch departure of instance `i` at base time `dep` before it is served (R249 to R251): a shunt of the instance switches, or is
abandoned at its cutoff. -/
def State.shuntAtLaunch (s : State) (i dep : Nat) : State :=
  match s.mar.shunt, s.decl i with
  | some h, some d =>
    if h.inst ≠ i then s
    else if codeLen d + dataLen d ≤ h.copied ∧ h.marked.isEmpty ∧ !s.hasTask i then s.shuntSwitch h
    else if h.startNs + s.get F.MAR_CTRL2_CUTOFF * s.cycleNs ≤ dep then s.shuntAbandon 2 true
    else s
  | _, _ => s

/-! ## Restarts (R245, R246, R251) -/

/-- A restart begins (R245, R246): on the lowest spare at the relocation of the failed platform, or without a spare on active platforms
one by one, where an instance that fits nowhere stays stopped. -/
def State.restartBegin (s : State) (e : Restart) : State :=
  let dst := (List.range 24).find? (fun q => s.roleOf q == 1)
  let s := s.setMar { s.mar with begun := some { e with spare := dst } }
  let ds := placeOrder (e.insts.filterMap (fun p => s.decl p.inst))
  match dst with
  | some q =>
    let tb := (ds.map (fun d => d.tb)).headD 0
    let s := ((s.put (F.PFM_PCTRL_ROLE q) 0).put (F.PFM_PCTRL_TB q) tb).put (F.PFM_PSTAT_STATE q) 0
    (s.setMar { s.mar with copying := e.insts.map (fun p => { p with pf := q }) }).showLoads
  | none =>
    let s := s.put F.MAR_STATUS_NOSPARE 1
    let here := s.places.filter (fun x => x.pf != e.pf)
    let t := State.placeEach State.shareNow s here ds
    let s := t.2.2.foldl (fun s d => s.setInst d.inst { s.inst d.inst with stranded := true }) t.1
    (s.setMar { s.mar with copying := t.2.1.drop here.length }).showLoads

/-- Begin the restarts that wait, as long as none is under way: one that has nothing to copy leaves the next its turn. -/
def State.restartRun : Nat → State → State
  | 0, s => s
  | n + 1, s =>
    match s.mar.restart with
    | [] => s
    | e :: r =>
      if !s.mar.copying.isEmpty then s
      else
        let s := s.setMar { s.mar with restart := r }
        State.restartRun n (if e.insts.isEmpty then s else s.restartBegin e)

/-- Begin the next restart that waits. -/
def State.restartNext (s : State) : State := State.restartRun s.mar.restart.length s

/-- A restart goes back to the queue when one that comes before it was called for in the same instant (R251); its spare is a spare
again. -/
def State.restartBack (s : State) (p : Nat) : State :=
  match s.mar.begun with
  | none => s
  | some e =>
    if e.since = s.now ∧ p < e.pf ∧ !s.mar.copying.isEmpty then
      let s := match e.spare with
        | none => s
        | some q => s.put (F.PFM_PCTRL_ROLE q) 1
      s.setMar { s.mar with restart := { e with spare := none } :: s.mar.restart, begun := none, copying := [] }
    else s

/-- Queue the restart of a quarantined platform's instances, platforms of one instant in ascending order (R251). -/
def State.restartQueue (s : State) (p : Nat) (is : List Place) : State :=
  if is.isEmpty then s
  else
    let s := s.restartBack p
    let later := fun (x : Restart) => x.since == s.now && decide (p < x.pf)
    let before := s.mar.restart.takeWhile (fun x => !later x)
    let after := s.mar.restart.dropWhile (fun x => !later x)
    (s.setMar { s.mar with restart := before ++ [{ since := s.now, pf := p, insts := is, spare := none }] ++ after }).restartNext

/-- The images of a restart have been copied (R245 steps 2 to 4): each instance's master image, its checkpoint region from its newest
complete snapshot, its header and empty rings; the map takes effect at the next boundary. A bad master image fails (R355). -/
def State.restartDone (s : State) : State :=
  let good := s.mar.copying.filter (fun p => !(s.inst p.inst).imageBad)
  let s := good.foldl (fun s p => match s.decl p.inst with
    | none => s
    | some d =>
      let s := s.loadImage d p
      match (s.inst p.inst).snapshot with
      | none => s
      | some x => s.loadCkpt d p x.ckpt) s
  (s.setMar { s.mar with copying := [], mapWait := s.mar.mapWait ++ good }).restartNext

/-- SPARE_RESTART_COMPLETE (R245). -/
def execSpareRestartComplete (t : Nat) (s : State) : Out State :=
  let s := s.advance t
  .next (if s.mar.copying.isEmpty then s else s.restartDone)

/-- Publication of a restarted instance goes on where its snapshot left it; without one it starts cold (R263). -/
def State.pubFromSnap (s : State) (i : Nat) : State := match (s.inst i).snapshot with
  | none => s.pubCold i
  | some x => (s.pubRestore i x.pub).pubResume i

/-- The map of restarts takes effect at a boundary (R245, R336). -/
def State.mapEffect (s : State) : State :=
  let l := s.mar.mapWait
  let s := s.setMar { s.mar with mapWait := [] }
  let s := l.foldl (fun s p => match s.decl p.inst with
    | none => s
    | some d =>
      let i := p.inst
      let s := (s.freePlace i (s.placeOf i)).setPlace d p
      let s := (s.put (F.PFM_IFLAG_QUAR i) 0).raiseI 0x0B01 i p.pf
      let s := s.count F.MAR_CNT2_RESTARTS
      if s.instState i = 5 then (s.pubFromSnap i).instTo i 2 else s) s
  if l.isEmpty then s else s.showLoads.showAwait

/-- Shares that wait take effect at a boundary (R241). -/
def State.sharesEffect (s : State) : State :=
  let l := s.mar.shareWait
  if l.isEmpty then s
  else (l.foldl (fun s e => s.setShare e.1 e.2) (s.setMar { s.mar with shareWait := [] })).showLoads

/-! ## The decision period (R248) -/

/-- The S instances of the active rulebook. -/
def State.sInsts (s : State) : List InstDecl := s.declared.filter (fun d => d.supervisory && s.instState d.inst != 0)

/-- The share an instance is to have. -/
def State.plannedShare (s : State) (i : Nat) : Nat := match s.mar.shareWait.find? (fun e => e.1 == i) with
  | none => s.get (F.MAR_IPLACE_SHARE i)
  | some e => e.2.1

/-- Shares planned on a platform. -/
def State.plannedLoad (s : State) (p : Nat) : Nat :=
  sumN (((s.places.filter (fun x => x.pf == p)).map (fun x => x.inst)).eraseDups.map s.plannedShare)

/-- The S instances of a platform that may move (R248). -/
def State.movers (s : State) (p : Nat) : List InstDecl :=
  s.sInsts.filter (fun d => s.placeOf d.inst == p && s.flag (F.MAR_IGUARD_SHUNTEN d.inst) && !s.flag (F.MAR_IGUARD_STUCK d.inst))

/-- Moving instance `d` off a platform of MAR_AWAIT helps to clear its failure (R242): `d` has a part in it, and it ends once the S
instances that may move and have a part in it are gone. -/
def State.clearsAwait (s : State) (p : Nat) (d : InstDecl) : Bool :=
  let ds := s.declsOn p
  let part := fun (x : InstDecl) => ds.any (fun y => x.inst != y.inst && !s.noWait x y)
  part d && !s.await (ds.filter (fun x => !((s.movers p).any (fun y => y.inst == x.inst) && part x)))

/-- The S instance that a platform would move: the smallest image of those that may move. -/
def State.moverChoice (s : State) (p : Nat) : Option InstDecl :=
  let past := decide (s.get F.MAR_CTRL_CAP * 256 < 100 * s.plannedLoad p)
  let l := (s.movers p).filter (fun d => past || !bit (s.get (F.MAR_IPFMASK_ALLOW d.inst)) p ||
    (bit (s.get F.MAR_AWAIT_PFMASK) p && s.clearsAwait p d))
  (sortBy (fun d => (codeLen d + dataLen d) * 64 + d.inst) l).head?

/-- The target of a shunt: the active platform with the most free share that passes R242, ties to the lower number. -/
def State.shuntTarget (s : State) (d : InstDecl) : Option Place :=
  let ps := s.places
  let here := s.placeOf d.inst
  let l := ((List.range 24).filter (fun p => s.roleOf p == 0 && p != here)).filterMap (fun p => s.testPlace ps d (s.plannedShare d.inst) p)
  (sortBy (fun x => s.plannedLoad x.pf * 32 + x.pf) l).head?

/-- Step 2: at most one shunt. -/
def State.chooseShunt (s : State) : State :=
  if s.mar.shunt.isSome then s
  else match ((List.range 24).filter (fun p => s.roleOf p == 0)).findSome? (fun p => match s.moverChoice p with
      | none => none
      | some d => if s.now < Sp.get 0 s.mar.retryAt d.inst then none else s.shuntTarget d) with
    | none => s
    | some p => s.shuntStart p

/-- Bytes that an instance's queues submitted in the period. -/
def State.bytesOf (s : State) (i : Nat) : Nat := sumN ((s.queuesOf i).map (fun q => Sp.get 0 s.mar.bytes q))

/-- Step 3: weights of the S instances and PRIO of their channels. -/
def State.setWeights (s : State) : State :=
  let bmax := maxN (s.sInsts.map (fun d => s.bytesOf d.inst))
  s.sInsts.foldl (fun s d =>
    let hi := s.get (F.MAR_IDMAW_WMAX d.inst)
    let lo := Nat.min (s.get (F.MAR_IDMAW_WMIN d.inst)) hi
    let w := if bmax = 0 then lo else lo + (hi - lo) * s.bytesOf d.inst / bmax
    let s := s.put (F.MAR_IDMAW_WEIGHT d.inst) w
    s.each (s.queuesOf d.inst) State.givePrio) s

/-- Step 4: rebind the idle S queue that moved the most bytes from the busier mover. -/
def State.rebind (s : State) : State :=
  let b0 := Sp.get 0 s.mar.busy 0
  let b1 := Sp.get 0 s.mar.busy 1
  let from_ := if 125 * b1 < 100 * b0 then some 0 else if 125 * b0 < 100 * b1 then some 1 else none
  match from_ with
  | none => s
  | some m =>
    let l := (List.range 32).filter (fun q => s.moverOf q == m && s.chState q == 0 && (s.chan q).subs.isEmpty &&
      (match s.decl (s.qOwner q) with
        | none => false
        | some d => d.supervisory))
    match bestBy (fun a b => decide (Sp.get 0 s.mar.moved b < Sp.get 0 s.mar.moved a)) l with
    | none => s
    | some q =>
      let v := s.get F.MAR_QMOVER_MOVER
      s.put F.MAR_QMOVER_MOVER (if m = 0 then v + 2 ^ q else v - 2 ^ q)

/-- The busy time of grants still held is charged to the period that ends (R248, R362). -/
def State.chargeGrants (s : State) : State :=
  s.each [0, 1] (fun s m =>
    let a := Sp.get ArbS.init s.ins.arbs m
    if a.owner.isSome then
      let s := s.setIns { s.ins with arbs := Sp.put ArbS.init s.ins.arbs m { a with at_ := s.now } }
      s.setMar { s.mar with busy := Sp.put 0 s.mar.busy m (Sp.get 0 s.mar.busy m + (s.now - a.at_)) }
    else s)

/-- DECISION_PERIOD: the current contention level shows; BUSY of the movers shows the period that ends. -/
def execDecisionPeriod (cl t : Nat) (s : State) : Out State :=
  let s := s.advance t
  .next (if !s.active || decide (2 ≤ s.get F.PWR_STATE) then s
    else
      let s := ((s.put F.MAR_CL_NOW cl).peak F.MAR_CL_PEAK cl).chargeGrants
      let ns := s.get F.MAR_CTRL_PERIOD * 1000000
      let s := s.each [0, 1] (fun s m => s.put (F.DMX_ARB_BUSY m) (Nat.min (Sp.get 0 s.mar.busy m * 65536 / Nat.max ns 1) 65535))
      let s := if s.flag F.MAR_CTRL_ADAPT then
          let s := s.setMar { s.mar with shareWait := s.sInsts.map (fun d => (d.inst, s.shareOf d)) }
          s.chooseShunt.setWeights.rebind
        else s
      (s.setMar { s.mar with bytes := [], moved := [], busy := [] }).showMeas)

/-! ## Bounds (R247, R250, R251) -/

/-- Write MAR_IBOUND (0), MAR_IGUARD (1) or MAR_IPFMASK (2) of an instance; there is no page of instance 0 (R255). -/
def State.writeBound (s : State) (i reg : Nat) (v : Word) : State :=
  if i = 0 then s else
  let s := if reg = 0 then
      let s := (s.put (F.MAR_IBOUND_SHMIN i) ((F.MAR_IBOUND_SHMIN i).part v)).put (F.MAR_IBOUND_SHMAX i) ((F.MAR_IBOUND_SHMAX i).part v)
      match s.decl i with
      | none => s
      | some d =>
        if d.supervisory ∧ (s.shareBounds i).2 < s.get (F.MAR_IPLACE_SHARE i) then
          s.setMar { s.mar with shareWait := (s.mar.shareWait.filter (fun e => e.1 != i)) ++ [(i, s.shareOf d)] }
        else s
    else if reg = 1 then
      let g := (F.MAR_IGUARD_GUARD i).part v
      let s := if 10 ≤ g ∧ g ≤ 40 then s.put (F.MAR_IGUARD_GUARD i) g else s
      s.put (F.MAR_IGUARD_SHUNTEN i) ((F.MAR_IGUARD_SHUNTEN i).part v)
    else s.put (F.MAR_IPFMASK_ALLOW i) ((F.MAR_IPFMASK_ALLOW i).part v)
  (((s.put (F.MAR_ISHUNT_ATTEMPTS i) 0).put (F.MAR_IGUARD_STUCK i) 0).setMar
    { s.mar with retryAt := Sp.put 0 s.mar.retryAt i 0 }).showMeas

/-- BOUND_WRITE. -/
def execBoundWrite (inst reg : Nat) (val : Word) (s : State) : Out State := .next (s.writeBound inst reg val)

end Sys2Proof.Machine
end

