-- ==== Sys2Proof/Machine/Departures.lean ====
section
/-!
DEFINITION. Timetable departures (R142 to R149, R153): what every departure does, and the departures of the AFE, frame marks,
recorders and SV templates.
-/
namespace Sys2Proof.Machine

/-- Trip bits of an instance reach its drives (R103). -/
def State.tripBits (s : State) (i : Nat) (w : Word) : State :=
  s.each [0, 1] (fun s d =>
    if s.get (F.PRT_TRIP_OWNER d) = i then (s.putB (F.PRT_TRIP_CMD d) (bit w.toNat (s.get (F.PRT_TRIP_OUTBIT d)))).driveTrip d
    else s)

/-- The first departure served after a take (R394): the trip drives take the checkpointed bits and the resumption frames leave. -/
def State.takeFirst (s : State) : State :=
  if s.tok.resume then
    let s := s.setTok { s.tok with resume := false }
    let s := s.pInstances.foldl (fun s d => s.tripBits d.inst (s.inst d.inst).trip) s
    s.driveTrips.resumeFrames
  else s

/-- The time of departure `k` of a slot in this cycle, in ns of the timetable's base (R143). -/
def State.depNs (s : State) (v : SlotV) (k : Nat) : Nat := s.ttb.cyc * s.cycleNs + depTime v k

/-- The timetable's base is within 8 ns of a time: a departure reaches its targets then (R146). -/
def State.onTime (s : State) (dep : Nat) : Bool := decide (((s.tbNs s.ttbTb : Int) - dep).natAbs ≤ 8)

/-- What every departure does: departure `k` of slot `slot` leaves, if the slot of the active bank has it, its time has come and the cycle has
not seen it yet. Answers the slot, the departure time in ns of the timetable's base, and the cycle. -/
def State.depart (s : State) (slot k action : Nat) : Option (SlotV × Nat × State) :=
  let v := s.slotV s.activeBank slot
  if s.flag F.TTB_STATUS_RUN && v.valid && v.action == action && decide (k ≤ v.rept) && !s.ttb.served.contains (slot, k) &&
      s.onTime (s.depNs v k) then
    let s := s.setTtb { s.ttb with served := s.ttb.served ++ [(slot, k)] }
    some (v, s.depNs v k, (s.put F.TTB_STATUS_LAST slot).takeFirst)
  else none

/-- The units that TARGET and PARAM bit 0 name. -/
def SlotV.units (v : SlotV) (n : Nat) : List Nat := (maskBits n v.target).map (fun i => if bit v.param 0 then 32 + i else i)

/-- STREAM and TILE are powered (R153), and no Park waits for the tasks to end (R229). -/
def State.awake (s : State) : Bool := decide (s.get F.PWR_STATE < 2) && !s.power.parkWait

/-- START_AFE_CONVERSION (R295). -/
def execStartAfeConversion (slot k t : Nat) (s : State) : Out State :=
  let s := s.advance t
  .next (match s.depart slot k 0x02 with
    | none => s
    | some (v, dep, s) => (maskBits 8 v.target).foldl (fun s c => s.afeConvert c t dep) s)

/-- FRAME_MARK (R197). -/
def execFrameMark (slot k t : Nat) (s : State) : Out State :=
  let s := s.advance t
  .next (match s.depart slot k 0x03 with
    | none => s
    | some (v, dep, s) => if s.chainOn then (v.units 32).foldl (fun s g => s.closeFrame g dep) s else s)

/-- ARM_RECORDER (R282). -/
def execArmRecorder (slot k t : Nat) (s : State) : Out State :=
  let s := s.advance t
  .next (match s.depart slot k 0x04 with
    | none => s
    | some (v, _, s) => (maskBits 16 v.target).foldl State.recArm s)

/-- DISARM_RECORDER (R282, R287). -/
def execDisarmRecorder (slot k t : Nat) (s : State) : Out State :=
  let s := s.advance t
  .next (match s.depart slot k 0x05 with
    | none => s
    | some (v, _, s) => (maskBits 16 v.target).foldl State.recDisarm s)

/-- TRIGGER_RECORDER (R283): T is the departure time, on the recorder's base. -/
def execTriggerRecorder (slot k t : Nat) (s : State) : Out State :=
  let s := s.advance t
  .next (match s.depart slot k 0x06 with
    | none => s
    | some (v, dep, s) => (maskBits 16 v.target).foldl (fun s r =>
        let at_ : Int := if s.get (F.ACQ_RCFG_TB r) = s.ttbTb then dep else s.recNow r
        s.trigger r { code := 6, detail := 0, t := at_, tidx := 0, frac := 0 }) s)

/-- SV_RELEASE (R264). -/
def execSvRelease (slot k t : Nat) (s : State) : Out State :=
  let s := s.advance t
  .next (match s.depart slot k 0x09 with
    | none => s
    | some (v, dep, s) => if s.publishing then (v.units 32).foldl (fun s p => s.svReleaseOne p dep) s else s)

end Sys2Proof.Machine
end

