-- ==== Sys2Proof/Machine/Park.lean ====
section
/-!
DEFINITION. Park takes effect (R57, R229, R282, R328): what stops when STREAM and TILE are powered down. Readings and choices are in log
entry 38.
-/
namespace Sys2Proof.Machine

/-- Work that Park waits for: a running task (R229), a logic cycle that will commit (R328). -/
def State.working (s : State) : Bool :=
  (List.range 24).any (fun p => (s.pf p).cur.isSome) || (s.lge.cyc.isSome && !s.lge.paused)

/-- Park takes effect: the shunt ends without an event, recording, ingress and the halt exchange stop, waiting launches are dropped, the
TCMs lose their content, the trip drives open. -/
def State.enterPark (s : State) : State :=
  let s := s.setPower { s.power with parkWait := false }
  let s := (s.shuntAbandon 3 false).recPark
  let s := s.put F.PWR_STATE 2
  let s := s.each (List.range 24) (fun s p =>
    let s := s.setPf p { s.pf p with cur := none, lq := [], phq := [], stalled := none, copyEnd := 0 }
    if s.roleOf p = 2 then s else (s.put (F.PFM_PSTAT_STATE p) 5).put (F.PFM_PSTAT_LQ p) 0)
  let s := s.setSvi { s.svi with urgent := [], normal := [] }
  let s := s.setHlx { s.hlx with open_ := none }
  let s := s.setLge { s.lge with cyc := none, paused := false }
  (s.zeroMem 0x20000000 0x21800000).driveTrips

/-- Park is asked for: it takes effect once nothing runs any more. -/
def State.askPark (s : State) : State :=
  if 2 ≤ s.get F.PWR_STATE then s
  else if s.working then s.setPower { s.power with parkWait := true } else s.enterPark

/-- After something ended: a Park that waited takes effect. -/
def State.parkDue (s : State) : State := if s.power.parkWait && !s.working then s.enterPark else s

end Sys2Proof.Machine
end

