-- ==== Sys2Proof/Machine/Instances.lean ====
section
/-!
DEFINITION. Tasks as their platforms hold them, and the life of an instance: start, reset, restart, fault (R208, R211, R219, R335 to R339,
R357). Readings and choices are in log entry 33.
-/
namespace Sys2Proof.Machine

/-! ## The running task (R208, R219, R235) -/

/-- MPU regions of a launch: 0 to 3 as the module sets them, then those of the declaration, in task addresses (R207, R208). -/
def regionsOf (d : InstDecl) : List Mpu :=
  [{ base := 0, len := codeLen d, r := true, w := false, x := true },
   { base := 0x100000, len := 0x2000, r := true, w := false, x := false },
   { base := 0x102000, len := ringEnd d - 0x2000, r := true, w := false, x := false },
   { base := 0x100000 + ringEnd d, len := dataLen d - ringEnd d, r := true, w := true, x := false }] ++ d.mpu.take 12

/-- The task address of an access. -/
def accAddr : TaskAcc → Nat
  | .fetch a => a
  | .load a => a
  | .store a _ => a

/-- A region permits an access. -/
def accPermitted (x : TaskAcc) (m : Mpu) : Bool := match x with
  | .fetch _ => m.x
  | .load _ => m.r
  | .store _ _ => m.w

/-- The RISC-V exception cause of an access fault (R207; PRESUMED, log entry 34). -/
def accCause : TaskAcc → Nat
  | .fetch _ => 1
  | .load _ => 5
  | .store _ _ => 7

/-- The local page of a task (R207), which lies outside the MPU check (R208). -/
def inLocal (a : Nat) : Bool := decide (0x200000 ≤ a) && decide (a < 0x201000)

/-- A region contains a task address. -/
def Mpu.contains (m : Mpu) (a : Nat) : Bool := decide (m.base ≤ a) && decide (a < m.base + m.len)

/-- An access to the windows is allowed (R207, R208): it lies in one of them, which regions 0 to 3 make up, and every region that contains
it permits it. -/
def mayAccess (l : List Mpu) (x : TaskAcc) : Bool :=
  (l.take 4).any (fun m => m.contains (accAddr x)) && (l.filter (fun m => m.contains (accAddr x))).all (accPermitted x)

/-- The accesses that a task has made, in order: stores take effect in its data window, and the first access that is not allowed is an
access fault, whose cause is answered. -/
def State.runAccs (r : Running) : State → List TaskAcc → State × Option Nat
  | s, [] => (s, none)
  | s, x :: l =>
    if inLocal (accAddr x) then State.runAccs r s l
    else if mayAccess r.mpu x then match x with
      | .store a b => State.runAccs r (s.dataPut r.l.inst (a - 0x100000) [b]) l
      | _ => State.runAccs r s l
    else (s, some (accCause x))

/-! ## The core pair (R206, R209, R219, R232) -/

/-- `cycle` of a running task (R209): TILE clocks from its first instruction. -/
def State.cycleCsr (s : State) (r : Running) : Nat := (s.now - r.first) * 12 / 10

/-- `time` and `timeh` of a platform (R209): the low 64 bits of its base, to within 8 ns. The base's steps show at once (R229). -/
def State.timeCsr (s : State) (p : Nat) : Nat :=
  (((s.tbNs (s.get (F.PFM_PCTRL_TB p)) + Config.timeSkew p s.now % 17 : Nat) : Int) - 8).toNat % 2 ^ 64

/-- What the running task of a platform reads from a CSR: cycle, time, cycleh and timeh (R209) and the floating-point status fcsr, by
their RISC-V numbers (PRESUMED, log entry 34); none that R206 to R209 do not describe. -/
def State.csr (s : State) (p n : Nat) : Option Word := match (s.pf p).cur with
  | none => none
  | some r =>
    if n = 0x003 then some r.core.fcsr
    else if n = 0xC00 then some (BitVec.ofNat 32 (s.cycleCsr r))
    else if n = 0xC01 then some (BitVec.ofNat 32 (s.timeCsr p))
    else if n = 0xC80 then some (BitVec.ofNat 32 (s.cycleCsr r / 2 ^ 32))
    else if n = 0xC81 then some (BitVec.ofNat 32 (s.timeCsr p / 2 ^ 32))
    else none

/-- The integer registers of a launch (R219): sp is x2 and a0 to a5 are x10 to x15; the others are 0. -/
def launchRegs (k : TaskDecl) (l : Launch) : List Word :=
  [0, 0, BitVec.ofNat 32 k.stack, 0, 0, 0, 0, 0, 0, 0, BitVec.ofNat 32 l.task, BitVec.ofNat 32 l.inst, wrapNs l.dep,
   BitVec.ofNat 32 l.cyc, BitVec.ofNat 32 l.k, BitVec.ofNat 32 l.epoch] ++ List.replicate 16 0

/-- The core at a launch (R219). -/
def launchCore (k : TaskDecl) (l : Launch) : CoreS :=
  { pc := BitVec.ofNat 32 k.entry, x := launchRegs k l, f := List.replicate 32 0, fcsr := 0 }

/-- STATE shows whether the first instruction has come by now. -/
def State.showCore (s : State) (p : Nat) : State := match (s.pf p).cur with
  | none => s
  | some r => if r.first ≤ s.now then s.coreActs p else s

/-- TILE clocks that a platform spent (R232). -/
def State.busy (s : State) (p n : Nat) : State := s.stat (F.PFM_BUSY_LO p) (F.PFM_BUSY_LIVE p) n

/-- The registers of the local page that a launch resets (R235, R360). -/
def localFields (p : Nat) : List Fld :=
  [F.LCL_PHQ_PUSH_DESC p, F.LCL_PHQ_STAT_PEND p, F.LCL_PHQ_STAT_BUSY p, F.LCL_RECTRIG_REC p] ++
  (List.range 16).map (F.LCL_MB_OUT p)

/-- The local page when no task runs: nothing shows. -/
def State.clearLocal (s : State) (p : Nat) : State :=
  s.clearAll (localFields p ++ [F.LCL_MB_STAT_INCNT p, F.LCL_MB_STAT_OUTCNT p, F.LCL_MB_STAT_DOOR p, F.LCL_MB_STAT_OFULL p,
    F.LCL_MB_INHDR_OP p, F.LCL_MB_INHDR_LEN p] ++ (List.range 16).map (F.LCL_MB_IN p))

/-- The task of a platform ends or is stopped: the core and the phasor queue are idle. -/
def State.endTask (s : State) (p : Nat) : State :=
  let s := s.setPf p { s.pf p with cur := none, phq := [], stalled := none }
  let s := ((s.put (F.PFM_PSTAT_STATE p) 0).put (F.PFM_PSTAT_INST p) 0).put (F.PFM_PSTAT_TASK p) 0
  s.clearLocal p

/-- Start a task (R219): relocation and regions, registers, ENTRY; its first instruction comes within 400 ns. -/
def State.startTask (s : State) (p : Nat) (l : Launch) (t : Nat) : State :=
  match s.decl l.inst, s.taskDecl l.inst l.task with
  | some d, some k =>
    let f := (s.clearLocal p).draw
    let s := f.1
    let s := s.setPf p { s.pf p with cur := some { l := l, start := t, first := t + Config.launchDelay f.2 % 401, core := launchCore k l,
                                                   mpu := regionsOf d, overran := false, ending := none },
                                     phq := [], stalled := none }
    let s := ((s.put (F.PFM_PSTAT_STATE p) 1).put (F.PFM_PSTAT_INST p) l.inst).put (F.PFM_PSTAT_TASK p) l.task
    (s.stat (F.PFM_LAUNCH_LO p) (F.PFM_LAUNCH_LIVE p) 1).showMailbox p
  | _, _ => s

/-- Count a launch that is not served (R153, R211, R220). -/
def State.missed (s : State) : State := s.count F.TTB_CNT2_MISSED

/-! ## Start (R336, R76) -/

/-- A new start of an instance: its commits so far count no more. -/
def State.freshInst (s : State) (i : Nat) : State :=
  s.setInst i { s.inst i with trip := 0, fault := false, committed := false, snapAt := none }

/-- The lanes that an instance owns (R180). -/
def State.ownedLanes (s : State) (i : Nat) : List Nat := s.validLanes.filter (fun l => s.get (F.FCH_LCFG_OWNER l) == i)

/-- The lanes of an owner in reset are held until it runs again (R200). -/
def State.laneOwner (s : State) (i : Nat) (on : Bool) : State :=
  (s.ownedLanes i).foldl (fun s l => s.setLane l { s.lane l with ownerReset := on }) s

/-- The counters of the lanes that an instance owns, which its reset clears (R12, R205). -/
def State.laneCounts (s : State) (i : Nat) : List Fld := (s.ownedLanes i).flatMap (fun l => [F.FCH_LCNT_SAT l, F.FCH_LCNT_FRSHORT l])

/-- A cold start. -/
def State.startCold (s : State) (i : Nat) : State :=
  let s := ((s.freshInst i).laneOwner i false).dropWrites (some i)
  (s.setInst i { s.inst i with staged := none, prior := none, mram := none }).pubCold i |>.instTo i 2

/-- A warm start from an image (R226, R263, R394): the checkpoint region, the publication state, the trip and fault-detector bits. -/
def State.startWarm (s : State) (i : Nat) (x : Snap) : State :=
  match s.decl i with
  | none => s
  | some d =>
    let s := s.loadCkpt d (s.placeNow i) x.ckpt
    let s := s.setInst i { s.inst i with trip := x.trip, fault := x.fault, committed := false, snapAt := none }
    (((s.laneOwner i false).pubRestore i x.pub).pubResume i).instTo i 2

/-- An instance is left out of the restarts to come, or only of those whose quarantine falls in this instant (R357). -/
def State.leaveRestart (s : State) (i : Nat) (nowOnly : Bool) : State :=
  let hit := fun (e : Restart) => !nowOnly || e.since == s.now
  let cur := match s.mar.begun with
    | none => !nowOnly
    | some e => hit e
  s.setMar { s.mar with restart := s.mar.restart.map (fun e => if hit e then { e with insts := e.insts.filter (fun p => p.inst != i) } else e),
                        copying := if cur then s.mar.copying.filter (fun p => p.inst != i) else s.mar.copying,
                        mapWait := if nowOnly then s.mar.mapWait else s.mar.mapWait.filter (fun p => p.inst != i) }

/-- An instance whose platform is quarantined is placed again before it starts (R357), but for one that a restart found no place for, which
stays stopped (R246). Answers whether it has a place. -/
def State.placeAgain (s : State) (i : Nat) : State × Bool :=
  match s.decl i with
  | none => (s, false)
  | some d =>
    if s.roleOf (s.placeOf i) = 0 then (s, true)
    else if (s.inst i).stranded then (s, false)
    else
      let v := s.shareNow d
      match s.findPlace (s.places.filter (fun p => p.inst != i)) d v.1 with
      | none => (s, false)
      | some p =>
        let s := (((s.leaveRestart i false).freePlace i (s.placeOf i)).setShare i v).setPlace d p
        ((s.loadImage d p).showLoads, true)

/-- A command that R336 does not list is ignored and counted (R337). -/
def State.badCmd (s : State) : State := s.count F.INS_CNT_BADCMD

/-- START. -/
def State.startInst (s : State) (i : Nat) : State :=
  if s.instState i = 1 ∨ s.instState i = 4 then
    let r := s.placeAgain i
    if r.2 then r.1.startCold i else r.1
  else s.badCmd

/-- INSTANCE_START (R336). -/
def execInstanceStart (inst : Nat) (s : State) : Out State := .next (s.startInst inst)

/-! ## Reset (R339) -/

/-- The registers of an instance with I in their Cleared by column (R234, R255). -/
def instFields (i : Nat) : List Fld :=
  [F.PFM_IFLAG_OVR i, F.PFM_IFLAG_DLSTOP i, F.PFM_IFLAG_TRAP i, F.PFM_IFLAG_QUAR i, F.PFM_IFLAG_TRAPCAUSE i, F.PFM_IFLAG_LASTTASK i,
   F.MAR_IPLACE_MOVING i, F.MAR_IBOUND_SHMIN i, F.MAR_IBOUND_SHMAX i, F.MAR_IGUARD_GUARD i, F.MAR_IGUARD_SHUNTEN i,
   F.MAR_IGUARD_STUCK i, F.MAR_IPFMASK_ALLOW i, F.MAR_IDMAW_WMIN i, F.MAR_IDMAW_WMAX i, F.MAR_IDMAW_WEIGHT i,
   F.MAR_ISHUNT_ATTEMPTS i, F.MAR_ISHUNT_LASTTGT i, F.MAR_ISHUNT_LASTRES i]

/-- The registers of channel `c` with I in their Cleared by column (R361). -/
def chanFields (c : Nat) : List Fld :=
  [F.DMX_CHSRC_LO c, F.DMX_CHSRC_HI c, F.DMX_CHDST_LO c, F.DMX_CHDST_HI c, F.DMX_CHCNT_CNT c, F.DMX_CHTAG_TAG c, F.DMX_CHLINK_LO c,
   F.DMX_CHLINK_HI c, F.DMX_CHCTL_START c, F.DMX_CHCTL_CHAIN c, F.DMX_CHCTL_DOORBELL c, F.DMX_CHCTL_RESUME c, F.DMX_CHCTL_ABORT c,
   F.DMX_CHCTL_ERRCLR c, F.DMX_CHSTAT_CHIDLE c, F.DMX_CHSTAT_ERR c, F.DMX_CHSTAT_ERRDIR c, F.DMX_CHERRA_LO c, F.DMX_CHERRA_HI c,
   F.DMX_QSTAT_DEPTH c, F.DMX_QCRWR_WR c]

/-- The trip drives of an owner in reset are forced open until its next commit (R104). -/
def State.tripOwner (s : State) (i : Nat) (on : Bool) : State :=
  s.each [0, 1] (fun s d => if s.get (F.PRT_TRIP_OWNER d) = i then (s.setTrip d { s.trip d with ownerReset := on }).driveTrip d else s)

/-- Discard the task of a platform without a commit (R227, R229): its clocks are spent (R232), its launch has a record in the digest
(R272), and points deferred to its end come due (R270). It enters no measurement: R239 names other ends. -/
def State.dropTask (s : State) (p : Nat) : State := match (s.pf p).cur with
  | none => s.endTask p
  | some r =>
    let x := s.inst r.l.inst
    (((s.busy p (s.cycleCsr r)).digestNote r.l false x.trip x.fault []).endTask p).pubTaskEnd r.l.inst

/-- Stop the task of an instance at once, without commit and without event 0x0A02 (R229). -/
def State.stopTaskOf (s : State) (i : Nat) : State :=
  s.each (List.range 24) (fun s p => match (s.pf p).cur with
    | none => s
    | some r => if r.l.inst = i then s.dropTask p else s)

/-- Empty both rings of a mailbox. -/
def State.mbEmpty (s : State) (i : Nat) : State :=
  (s.setInst i { s.inst i with inbox := [], outbox := [], door := false, oful := false }).showUse i

/-- The bounds of an instance as POOL declares them (R255): an instance reset rebuilds them. -/
def State.poolBounds (s : State) (i : Nat) : State := match s.rbk.active with
  | none => s
  | some d => (d.sets.filter (fun e => decide (0x01601000 + 32 * i ≤ e.1) && decide (e.1 < 0x01601020 + 32 * i))).foldl
      (fun s e => s.storeWord e.1 e.2) s

/-- The figures of an instance's tasks are cleared with the measurement window (R239, R253). -/
def State.measEmpty (s : State) (i : Nat) : State :=
  (s.setMar { s.mar with meas := s.mar.meas.filter (fun e => e.1 / 256 != i) }).showMeas

/-- Steps 1 to 3 of an instance reset, which ends as `goal` says: 1 DECLARED, 2 RUNNING, 4 FAULTED. -/
def State.resetInst (s : State) (i goal : Nat) : State :=
  let s := match s.mar.shunt with
    | none => s
    | some h => if h.inst = i then s.shuntAbandon 3 true else s
  let s := s.leaveRestart i true
  let s := (s.setInst i { s.inst i with goal := goal }).instTo i 3
  let s := ((s.fenceQueues i).stopTaskOf i).tripOwner i true
  let s := ((s.laneOwner i true).recOwnerReset i).pubReset i
  let s := s.clearAll (s.laneCounts i)
  let s := ((s.semBreakAll i).mbEmpty i).dropWrites (some i)
  let s := s.setInst i { s.inst i with staged := none, prior := none, mram := none, trip := 0, fault := false, committed := false, snapAt := none }
  let traps := [F.PFM_IFLAG_TRAP i, F.PFM_IFLAG_TRAPCAUSE i, F.PFM_IFLAG_LASTTASK i]
  let s := s.clearAll (if goal = 4 then (instFields i).filter (fun f => !traps.contains f) else instFields i)
  (((s.poolBounds i).measEmpty i).fzRefresh).showLoads

/-- RESET and RESTART. -/
def State.resetCmd (s : State) (i goal : Nat) : State :=
  if s.instState i = 2 ∨ s.instState i = 4 ∨ s.instState i = 5 then s.resetInst i goal else s.badCmd

/-- INSTANCE_RESET (R336, R339). -/
def execInstanceReset (inst t : Nat) (s : State) : Out State := .next (((s.advance t).resetCmd inst 1).parkDue)

/-- INSTANCE_RESTART (R336, R339). -/
def execInstanceRestart (inst t : Nat) (s : State) : Out State := .next (((s.advance t).resetCmd inst 2).parkDue)

/-- Step 5: the TCM region from the master image, the heap zeroed and placed anew, and the registers that I clears. -/
def State.renewInst (s : State) (i : Nat) : State :=
  let qs := s.queuesOf i
  let s := qs.foldl (fun s c => s.clearAll (chanFields c)) (s.unfenceQueues i)
  let size := s.get (F.INS_HEAP_SIZE i)
  let base := dramBase + s.get (F.INS_HEAPBASE_BASE i) * 4096
  let s := if size = 0 then s else s.zeroMem base (base + size * 1048576)
  let s := (s.clear (F.INS_HEAPBASE_BASE i)).put (F.INS_HEAP_SIZE i) 0
  let s := (s.setInst i { s.inst i with heapWait := none }).applyHeap i size
  match s.decl i with
  | none => s
  | some d => if s.roleOf (s.placeOf i) = 0 && !(s.inst i).imageBad then s.loadImage d (s.placeNow i) else s

/-- INSTANCE_RESET_COMPLETE (R339 steps 4 to 6): once every channel has ended its descriptor. -/
def execInstanceResetComplete (inst : Nat) (s : State) : Out State :=
  .next (if s.instState inst = 3 ∧ s.drained inst then
    let g := (s.inst inst).goal
    let s := s.renewInst inst
    if g = 2 then
      let r := s.placeAgain inst
      if r.2 then r.1.startCold inst else r.1.instTo inst 1
    else s.instTo inst g
  else s)

end Sys2Proof.Machine
end

