-- ==== Sys2Proof/Machine/Phasor.lean ====
section
/-!
DEFINITION. The phasor unit (R214 to R218). Readings and choices are in log entry 32.
-/
namespace Sys2Proof.Machine

/-! ## Descriptors and records (R215, R217) -/

/-- A phasor descriptor. -/
structure PDesc where
  op    : Nat
  nsel  : Nat
  count : Nat
  hmask : Nat
  src   : Nat
  endLo : Nat
  dst   : Nat
  param : Nat
  shift : Nat

/-- The descriptor at a data-window offset. -/
def State.pdesc (s : State) (i o : Nat) : PDesc :=
  let w := fun k => s.dword i (o + 4 * k)
  { op := w 0 % 16, nsel := w 0 / 16 % 16, count := w 0 / 256 % 256, hmask := w 0 / 65536, src := w 1, endLo := w 2, dst := w 3,
    param := w 4, shift := w 5 % 32 }

/-- N of a descriptor. -/
def PDesc.n (d : PDesc) : Nat := nOf d.nsel

/-- The harmonics of OP 0x1. -/
def PDesc.harmonics (d : PDesc) : List Nat := maskBits 16 d.hmask

/-- Records per unit of COUNT (R216). -/
def PDesc.perUnit (d : PDesc) : Nat := if d.op = 1 then d.harmonics.length else if d.op = 3 then 3 else 1

/-- The fields of word 0 are in range: ERR 0x01 otherwise. -/
def PDesc.ok (d : PDesc) : Bool :=
  decide (1 ≤ d.op) && decide (d.op ≤ 5) && decide (d.nsel < 6) && decide (1 ≤ d.count) && decide (d.count ≤ 32) &&
  (d.op != 2 || d.hmask == 2)

/-- Every offset lies in the data window: ERR 0x02 otherwise. -/
def PDesc.inside (d : PDesc) (share : Nat) : Bool :=
  decide (d.dst + 16 * d.perUnit * d.count ≤ share) &&
  (d.op != 3 || decide (d.src + 48 * d.count ≤ share)) && (d.op != 5 || decide (d.src + 32 * d.count ≤ share))

/-- TILE clocks of a descriptor (R218). -/
def PDesc.clocks (d : PDesc) : Nat :=
  if d.op = 1 then 16 + d.count * d.harmonics.length * (d.n / 4 + 6)
  else if d.op = 2 then 16 + d.count * (d.n / 8 + 6)
  else if d.op = 3 then 16 + 12 * d.count
  else if d.op = 4 then 16 + d.count * (d.n / 8 + 24)
  else 16 + 28 * d.count

/-- One result: value before saturation, bits 28:0 of the qualifier, LOWDIV, NOTREADY. -/
structure PRes where
  re  : Int
  im  : Int
  sat : Bool
  q   : Nat
  low : Bool
  nr  : Bool

/-- Merge qualifiers as R199 merges ingress bits; FGSTATE is that of the first of the list. -/
def mergeQuals (l : List Nat) : Nat :=
  let bits := l.foldl (fun a q => a ||| (q / 4 % 2 ^ 25)) 0
  let v := if l.any (fun q => q % 4 == 1 || q % 4 == 2) then 1 else if l.any (fun q => q % 4 == 3) then 3 else 0
  v + 4 * bits + 2 ^ 27 * (l.headD 0 / 2 ^ 27 % 4)

/-- Validity invalid. -/
def invalidQ (q : Nat) : Nat := q / 4 * 4 + 1

/-- SHIFT of every OP but 0x5: to the right, rounded to nearest. -/
def shiftRight (d : PDesc) (v : Int) : Int := rdiv v (2 ^ d.shift)

/-- A result of a sum after rounding: SHIFT and saturation (R216). -/
def PDesc.finish (d : PDesc) (re im : Int) (q : Nat) : PRes :=
  let a := if d.op = 5 then re * (2 ^ d.shift : Nat) else shiftRight d re
  let b := if d.op = 5 then im * (2 ^ d.shift : Nat) else shiftRight d im
  { re := satS 32 a, im := satS 32 b, sat := satS 32 a != a || satS 32 b != b, q := q, low := false, nr := false }

/-- A result without value. -/
def emptyRes (q : Nat) (low nr : Bool) : PRes := { re := 0, im := 0, sat := false, q := invalidQ q, low := low, nr := nr }

/-- Write a result record (R217). -/
def State.putRes (s : State) (i o endLo : Nat) (r : PRes) : State :=
  let q := r.q % 2 ^ 29 + 2 ^ 29 * ofBool r.sat + 2 ^ 30 * ofBool r.low + 2 ^ 31 * ofBool r.nr
  s.dataPut i o (leBytes 4 (wrapN 32 r.re) ++ leBytes 4 (wrapN 32 r.im) ++ leBytes 4 q ++ leBytes 4 endLo)

/-! ## Ring elements (R212) -/

/-- The elements END − j of ring input `r`, j from 0 to `n` − 1: value and qualifier, and whether all were written. The whole index is the
one nearest the highest index written. -/
def State.ringElems (s : State) (i r endLo n : Nat) : List (Int × Nat) × Int × Bool :=
  let o := s.ringOfs i r
  let wr : Nat := s.dword i (o + 4) + 2 ^ 32 * s.dword i (o + 8)
  let e : Int := (wr : Int) + signedN 32 (wrapN 32 ((endLo : Int) - wr))
  let d := 2 ^ (s.dword i o % 16)
  let at_ := fun (j : Nat) =>
    let a := o + 0x40 + 8 * wrapN 32 (e - j) % (8 * d)
    (signedN 32 (s.dword i a), s.dword i (a + 4))
  let ready := match (s.inst i).ringFrom.find? (fun x => x.1 == r) with
    | none => false
    | some x => decide (o ≠ 0) && decide ((x.2 : Int) ≤ e - (n - 1 : Nat)) && decide (e ≤ wr)
  if o = 0 then ([], e, false) else ((List.range n).map at_, e, ready)

/-- Σ x(END − j) e^(−i2πh(END − j)/N) in fixed point. -/
def dftSum (n h : Nat) (e : Int) (xs : List (Int × Nat)) : Int × Int :=
  (List.zip (List.range xs.length) xs).foldl (fun (a : Int × Int) p =>
    let k := ((h : Int) * (e - p.1) % n).toNat
    (a.1 + p.2.1 * cosFx n k, a.2 - p.2.1 * sinFx n k)) (0, 0)

/-- One harmonic of OP 0x1, or OP 0x2 with its own scale. -/
def PDesc.dft (d : PDesc) (h scale : Nat) (e : Int) (xs : List (Int × Nat)) (q : Nat) : PRes :=
  if h = 0 then d.finish (rdiv (xs.foldl (fun a x => a + x.1) 0) d.n) 0 q
  else
    let t := dftSum d.n h e xs
    d.finish (fxRound (rdiv (scale * t.1) d.n)) (fxRound (rdiv (scale * t.2) d.n)) q

/-- The results of one channel of OP 0x1, 0x2 and 0x4. -/
def State.ringUnit (s : State) (i : Nat) (d : PDesc) (r : Nat) : List PRes :=
  let n := if d.op = 2 then d.n / 2 else d.n
  let (xs, e, ok) := s.ringElems i r d.endLo n
  let q := mergeQuals (xs.map (fun x => x.2))
  if !ok then List.replicate d.perUnit (emptyRes q false true)
  else if d.op = 4 then
    [d.finish (isqrt (sumN (xs.map (fun x => x.1.natAbs * x.1.natAbs)) / d.n)) 0 q]
  else if d.op = 2 then [d.dft 1 4 e xs q]
  else d.harmonics.map (fun h => d.dft h 2 e xs q)

/-! ## Records as operands (OP 0x3, 0x5) -/

/-- A record at an offset: (re, im) and qualifier. -/
def State.inRec (s : State) (i o : Nat) : (Int × Int) × Nat :=
  ((signedN 32 (s.dword i o), signedN 32 (s.dword i (o + 4))), s.dword i (o + 8))

/-- A pair in fixed point. -/
def fxPair (x : Int × Int) : Int × Int := (x.1 * fxOne, x.2 * fxOne)

/-- Sequence components of one set: zero, positive, negative. -/
def State.seqUnit (s : State) (i : Nat) (d : PDesc) (p : Nat) : List PRes :=
  let a := s.inRec i (d.src + 48 * p)
  let b := s.inRec i (d.src + 48 * p + 16)
  let c := s.inRec i (d.src + 48 * p + 32)
  let q := mergeQuals [a.2, b.2, c.2]
  let pos := posSeq (fxPair a.1) (fxPair b.1) (fxPair c.1)
  let neg := posSeq (fxPair a.1) (fxPair c.1) (fxPair b.1)
  [d.finish (rdiv (a.1.1 + b.1.1 + c.1.1) 3) (rdiv (a.1.2 + b.1.2 + c.1.2) 3) q,
   d.finish (fxRound pos.1) (fxRound pos.2) q, d.finish (fxRound neg.1) (fxRound neg.2) q]

/-- The impedance quotient of one pair. A current of 0 that PARAM accepts has no stated quotient: a free value. -/
def State.divUnit (s : State) (i : Nat) (d : PDesc) (p : Nat) : State × List PRes :=
  let v := s.inRec i (d.src + 32 * p)
  let c := s.inRec i (d.src + 32 * p + 16)
  let q := mergeQuals [v.2, c.2]
  let m := c.1.1.natAbs * c.1.1.natAbs + c.1.2.natAbs * c.1.2.natAbs
  if m < d.param * d.param then (s, [emptyRes q true false])
  else if m = 0 then
    let f := s.draw
    let z := Config.quotientByZero f.2
    (f.1, [{ re := z.1.toInt, im := z.2.1.toInt, sat := z.2.2, q := q, low := false, nr := false }])
  else (s, [d.finish (rdiv (v.1.1 * c.1.1 + v.1.2 * c.1.2) m) (rdiv (v.1.2 * c.1.1 - v.1.1 * c.1.2) m) q])

/-- The results of unit `p` of a descriptor. -/
def State.phasorUnit (s : State) (i : Nat) (d : PDesc) (p : Nat) : State × List PRes :=
  if d.op = 3 then (s, s.seqUnit i d p)
  else if d.op = 5 then s.divUnit i d p
  else (s, s.ringUnit i d (d.src % 256 + p))

/-- Compute and write every record of a descriptor, unit by unit. Answers whether one is marked NOTREADY. -/
def State.phasorRun (s : State) (i : Nat) (d : PDesc) : State × Bool :=
  (List.range d.count).foldl (fun (a : State × Bool) p =>
    let r := a.1.phasorUnit i d p
    let o := d.dst + 16 * d.perUnit * p
    ((List.zip (List.range r.2.length) r.2).foldl (fun s x => s.putRes i (o + 16 * x.1) d.endLo x.2) r.1,
     a.2 || r.2.any (fun x => x.nr))) (s, false)

/-- Execute the descriptor at offset `o`: its records, then STATUS. One that does not lie in the data window has no place for either. -/
def State.phasorExec (s : State) (i o : Nat) : State :=
  if s.dataShare i < o + 32 then s else
  let d := s.pdesc i o
  let r : State × Nat × Nat :=
    if !d.ok then let f := s.draw; (f.1, 1, (Config.badClocks f.2).toNat)
    else if !d.inside (s.dataShare i) then (s, 2, d.clocks)
    else let x := s.phasorRun i d; (x.1, if x.2 then 3 else 0, d.clocks)
  r.1.dataPut i (o + 24) (leBytes 4 (1 + 2 ^ 8 * r.2.1 + 2 ^ 16 * (r.2.2 % 2 ^ 16)))

/-! ## The queue (R214, R235) -/

/-- Show the queue of a platform in its local page. -/
def State.showPhq (s : State) (p : Nat) : State :=
  let n := (s.pf p).phq.length
  ((s.put (F.LCL_PHQ_STAT_PEND p) n).putB (F.LCL_PHQ_STAT_BUSY p) (decide (0 < n))).peak (F.PFM_PHQ_PEAK p) n

/-- A push by the running task of a platform: a full queue stalls the core. -/
def State.phqPush (s : State) (p : Nat) (ofs : Nat) : State :=
  let x := s.pf p
  let s := s.put (F.LCL_PHQ_PUSH_DESC p) ofs
  if x.phq.length < 16 then (s.setPf p { x with phq := x.phq ++ [ofs] }).showPhq p
  else s.setPf p { x with stalled := some ofs }

/-- The task of a platform runs and its core is not stalled. -/
def State.coreRuns (s : State) (p : Nat) : Option Running :=
  if (s.pf p).stalled.isSome then none
  else match (s.pf p).cur with
    | none => none
    | some r => if r.ending.isSome then none else some r

/-- PHASOR_DESCRIPTOR_DONE (R215 to R218): the descriptor in progress ends, and a stalled push enters. -/
def execPhasorDescriptorDone (pf : Nat) (s : State) : Out State :=
  .next (match (s.pf pf).cur, (s.pf pf).phq with
    | some r, o :: rest =>
      let s := s.phasorExec r.l.inst o
      let x := s.pf pf
      let s := match x.stalled with
        | none => s.setPf pf { x with phq := rest }
        | some d => s.setPf pf { x with phq := rest ++ [d], stalled := none }
      s.showPhq pf
    | _, _ => s)

end Sys2Proof.Machine
end

