-- ==== Sys2Proof/Machine/Platforms.lean ====
section
/-!
DEFINITION. Launches, ends of tasks, commits, quarantine and ECC errors (R148, R207 to R211, R219 to R229, R355). Readings and choices
are in log entry 34.
-/
namespace Sys2Proof.Machine

/-! ## Ends of a task (R222, R223) -/

/-- Set a flag of an instance with its task. -/
def State.iflag (s : State) (f : Nat → Fld) (l : Launch) : State := (s.put (f l.inst) 1).put (F.PFM_IFLAG_LASTTASK l.inst) l.task

/-- A run ends without a commit: the digest's record, the figures of the run (R239), the time spent. -/
def State.endRun (s : State) (p : Nat) (r : Running) (clocks cl : Nat) (dtc : Option Nat) : State :=
  let x := s.inst r.l.inst
  ((s.digestNote r.l false x.trip x.fault []).enterRun r.l.inst r.l.task clocks cl dtc).busy p clocks

/-- A task ends by a trap (R223): the instance moves to its faulted state. -/
def State.trapTask (s : State) (p : Nat) (r : Running) (cause clocks cl : Nat) (dtc : Option Nat) : State :=
  let s := ((s.count (F.PFM_PCNT1_TRAPS p)).iflag F.PFM_IFLAG_TRAP r.l).put (F.PFM_IFLAG_TRAPCAUSE r.l.inst) cause
  ((s.endRun p r clocks cl dtc).endTask p).resetInst r.l.inst 4

/-- An access fault outside the commands that end a task (R207): the clocks are those since its first instruction, and its CL is the
current one (DESIGN CHOICE, log entry 34). -/
def State.accessFault (s : State) (p : Nat) (r : Running) (cause : Nat) : State :=
  s.trapTask p r cause (s.cycleCsr r) (s.get F.MAR_CL_NOW) none

/-! ## Launches (R219, R220, R153) -/

/-- A launch starts (R219). An ENTRY that the task may not execute is an access fault of its first fetch (R208). -/
def State.startLaunch (s : State) (p : Nat) (l : Launch) : State :=
  let s := s.startTask p l s.now
  match (s.pf p).cur with
  | none => s
  | some r => if mayAccess r.mpu (.fetch r.core.pc.toNat) then s else s.accessFault p r 1

/-- Show the launch queue. -/
def State.showLq (s : State) (p : Nat) : State := s.put (F.PFM_PSTAT_LQ p) (s.pf p).lq.length

/-- The spacing rule of a platform (R148): the raw time at which a launch reaches it. -/
def State.spaced (s : State) (slot p t : Nat) : State × Nat :=
  let last := s.ttb.lastDep.find? (fun e => e.1 == p)
  let near := match last with
    | none => false
    | some e => decide (t < e.2 + 1000)
  let at_ := match last with
    | none => t
    | some e => if near then e.2 + 1000 else t
  let s := s.setTtb { s.ttb with lastDep := (s.ttb.lastDep.filter (fun e => e.1 != p)) ++ [(p, at_)] }
  (if near then (s.count F.TTB_CNT_SPACING).raise 0x0703 slot else s, at_)

/-- The launch can be served at all: its instance runs on an active platform that it has not left, and its task exists (R153, R211, R227). -/
def State.launchable (s : State) (i t : Nat) : Bool :=
  s.instState i == 2 && s.roleOf (s.placeOf i) == 0 && !s.flag (F.PFM_IFLAG_QUAR i) && (match s.taskDecl i t with
    | none => false
    | some k => k.valid)

/-- A launch reaches its platform at raw time `at_`. One that the spacing rule delays waits with the launches of the queue. -/
def State.launch (s : State) (p : Nat) (l : Launch) (at_ : Nat) : State :=
  let x := s.pf p
  let own := match x.cur with
    | none => false
    | some r => r.l.inst == l.inst
  if own || decide (l.dead ≤ at_) then s.missed
  else if x.cur.isNone && x.lq.isEmpty && decide (x.copyEnd ≤ s.now) && decide (at_ ≤ s.now) then s.startLaunch p l
  else if x.lq.length < 8 then (s.setPf p { x with lq := x.lq ++ [l] }).showLq p
  else s.missed

/-- LAUNCH_TASK (R144, R219): the departure reaches the platform that hosts the instance. -/
def execLaunchTask (slot k t : Nat) (s : State) : Out State :=
  let s := s.advance t
  .next (match s.depart slot k 0x01 with
    | none => s
    | some (v, dep, s) =>
      let i := v.param % 64
      let task := v.param / 256 % 256
      if !s.awake then s
      else
        let s := s.shuntAtLaunch i dep
        if !s.launchable i task then s.missed
        else
          let p := s.placeOf i
          let r := s.spaced slot p t
          let dl := match s.taskDecl i task with
            | none => 0
            | some d => d.deadline
          r.1.launch p { inst := i, task := task, dep := dep, raw := r.2, cyc := s.ttb.cyc, k := k, epoch := s.epoch s.ttbTb,
                         dead := t + dl * 1000 } r.2)

/-- Serve the launch queue until a launch starts: those whose deadline has passed, or that can no longer be served, are missed; one that
the spacing rule delays waits for its time. -/
def State.serveLq : Nat → State → Nat → State
  | 0, s, _ => s
  | n + 1, s, p =>
    match (s.pf p).lq with
    | [] => s
    | l :: rest =>
      if s.now < l.raw then s
      else
        let s := (s.setPf p { s.pf p with lq := rest }).showLq p
        if l.dead ≤ s.now ∨ !s.launchable l.inst l.task then State.serveLq n s.missed p else s.startLaunch p l

/-- LAUNCH_QUEUE_SERVED (R220): the platform is free for the next waiting launch. -/
def execLaunchQueueServed (pf t : Nat) (s : State) : Out State :=
  let s := s.advance t
  .next (if (s.pf pf).cur.isNone ∧ (s.pf pf).copyEnd ≤ s.now ∧ s.awake ∧ !s.rbk.flushing then State.serveLq 8 s pf else s)

/-- Time from the departure to now on the timetable's base; none when the base has stepped since (R239). -/
def State.toEcall (s : State) (r : Running) : Option Nat :=
  if s.epoch s.ttbTb = r.l.epoch then some (s.tbNs s.ttbTb - r.l.dep) else none

/-- Stop a task at its deadline (R222). -/
def State.stopAtDeadline (s : State) (p : Nat) (r : Running) (clocks cl : Nat) : State :=
  let s := (s.raiseI 0x0A02 r.l.inst p).count (F.PFM_PCNT0_DLSTOP p)
  let s := (s.iflag F.PFM_IFLAG_DLSTOP r.l).endRun p r clocks cl none
  (s.endTask p).pubTaskEnd r.l.inst

/-- The task of a platform has committed but for its effects: the deadline stops it no more (R223, R225). -/
def Running.settled (r : Running) : Bool := match r.ending with
  | none => false
  | some e => !e.waits

/-- BUDGET_OVERRUN (R222): none once the ECALL has retired with nothing to wait for (R229). -/
def execBudgetOverrun (pf : Nat) (s : State) : Out State :=
  .next (match (s.pf pf).cur with
    | none => s
    | some r =>
      if r.overran || r.settled then s
      else
        let s := ((s.coreActs pf).setPf pf { s.pf pf with cur := some { r with overran := true } }).raiseI 0x0A01 r.l.inst pf
        let s := (s.count (F.PFM_PCNT0_OVERRUN pf)).put (F.PFM_LASTOVR_INST pf) r.l.inst
        (s.put (F.PFM_LASTOVR_TASK pf) r.l.task).iflag F.PFM_IFLAG_OVR r.l)

/-- The task's accesses, then `f`: an access fault among them ends the task instead (R207, R223). -/
def State.afterAccs (s : State) (p : Nat) (r : Running) (accs : List TaskAcc) (clocks cl : Nat) (f : State → State) : State :=
  let a := s.runAccs r accs
  match a.2 with
  | some c => a.1.trapTask p r c clocks cl none
  | none => f a.1

/-- The accesses of a task up to its ECALL. -/
def Running.accs (r : Running) (l : List TaskAcc) : List TaskAcc := if r.ending.isSome then [] else l

/-- DEADLINE (R222). -/
def execDeadline (pf clocks cl : Nat) (accs : List TaskAcc) (t : Nat) (s : State) : Out State :=
  let s := s.advance t
  .next (State.parkDue (match (s.pf pf).cur with
    | none => s
    | some r => if r.settled || decide (s.now < r.l.dead) then s
                else s.afterAccs pf r (r.accs accs) clocks cl (fun s => s.stopAtDeadline pf r clocks cl)))

/-- TRAP (R223). -/
def execTrap (pf cause clocks cl : Nat) (accs : List TaskAcc) (t : Nat) (s : State) : Out State :=
  let s := s.advance t
  .next (State.parkDue (match s.coreRuns pf with
    | none => s
    | some r => if r.l.dead ≤ s.now then (s.runAccs r accs).1.stopAtDeadline pf r clocks cl
                else s.afterAccs pf r accs clocks cl (fun s => s.trapTask pf r cause clocks cl none)))

/-- The running task's accesses, then `f`, in the midst of the task: an access fault among them ends it instead. -/
def State.accsNow (s : State) (p : Nat) (r : Running) (accs : List TaskAcc) (f : State → State) : State :=
  let a := (s.coreActs p).runAccs r accs
  match a.2 with
  | some c => a.1.accessFault p r c
  | none => f a.1

/-- PHASOR_PUSH (R214): by the running task, after its accesses up to then. -/
def execPhasorPush (pf : Nat) (ofs : Word) (accs : List TaskAcc) (s : State) : Out State :=
  .next (match s.coreRuns pf with
    | none => s
    | some r => s.accsNow pf r accs (fun s => s.phqPush pf ofs.toNat))

/-- The commit waits for the phasor queue; its block is read at the ECALL (R223, R224). -/
def State.beginCommit (s : State) (p : Nat) (r : Running) (clocks cl : Nat) : State :=
  let e : Ending := { clocks := clocks, cl := cl, at_ := s.now, waits := !(s.pf p).phq.isEmpty,
                      block := s.rdN (s.dataAt r.l.inst (s.commitOfs r.l.inst)) 32, dtc := s.toEcall r }
  (s.setPf p { s.pf p with cur := some { r with ending := some e } }).put (F.PFM_PSTAT_STATE p) 3

/-- ECALL (R223). The cause of a trap by ECALL is that of an environment call from user mode, 8. In the clock of the deadline the
deadline wins (R229). -/
def execEcall (pf a7 clocks cl : Nat) (accs : List TaskAcc) (t : Nat) (s : State) : Out State :=
  let s := s.advance t
  .next (State.parkDue (match s.coreRuns pf with
    | none => s
    | some r =>
      if r.l.dead ≤ s.now then (s.runAccs r accs).1.stopAtDeadline pf r clocks cl
      else s.afterAccs pf r accs clocks cl (fun s =>
        if a7 = 0 then s.beginCommit pf r clocks cl
        else if a7 = 1 then ((s.endRun pf r clocks cl (s.toEcall r)).endTask pf).pubTaskEnd r.l.inst
        else s.trapTask pf r 8 clocks cl (s.toEcall r))))

/-! ## The commit (R224 to R226) -/

/-- The checkpoint snapshot (R226): at the first commit at least 20 ms after the last one; the platform starts no task until the copy ends. -/
def State.snapshotAt (s : State) (p i : Nat) : State :=
  let x := s.inst i
  let due := match x.snapAt with
    | none => true
    | some a => decide (a + 20000000 ≤ s.now)
  match s.decl i with
  | none => s
  | some d =>
    if !due then s
    else
      let snap : Snap := { ckpt := s.rdN (s.dataAt i (ckptAt d)) d.ckpt, pub := s.pubStateOf i, trip := x.trip, fault := x.fault,
                           dhash := d.dhash, at_ := s.now }
      let n := cdiv d.ckpt 32
      let s := s.setInst i { x with snapAt := some s.now, staged := some snap, prior := x.staged }
      (s.setPf p { s.pf p with copyEnd := s.now + cdiv (n * 10) 12 }).busy p n

/-- The effects of a commit. -/
def State.commitTask (s : State) (p : Nat) (r : Running) (e : Ending) : State :=
  let i := r.l.inst
  let w := fun k => leAt e.block (4 * k) 4
  let trip : Word := BitVec.ofNat 32 (w 0)
  let fault := bit (w 1) 0
  let dl := match s.taskDecl i r.l.task with
    | none => 0
    | some d => d.deadline
  let s := (s.setInst i { s.inst i with trip := trip, fault := fault, committed := true }).tripBits i trip
  let s := (s.tripOwner i false).fzRefresh
  let c := s.pubCommit i (w 2 + 2 ^ 32 * w 3) r.l.dep dl
  let s := c.1.digestNote r.l true trip fault c.2
  let clocks := e.clocks + (if e.waits then (s.now - e.at_) * 12 / 10 else 0)
  let s := (s.enterRun i r.l.task clocks e.cl e.dtc).busy p clocks
  ((s.snapshotAt p i).endTask p).pubTaskEnd i

/-- COMMIT (R224): once the phasor queue is empty. A commit that waits past the deadline is stopped (R222, R223). -/
def execCommit (pf t : Nat) (s : State) : Out State :=
  let s := s.advance t
  .next (State.parkDue (match (s.pf pf).cur with
    | none => s
    | some r => match r.ending with
      | none => s
      | some e =>
        if e.waits && decide (r.l.dead ≤ s.now) then s.stopAtDeadline pf r (e.clocks + (s.now - e.at_) * 12 / 10) e.cl
        else if (s.pf pf).phq.isEmpty then s.commitTask pf r e
        else s))

/-! ## Quarantine (R227, R251) -/

/-- A shunt whose source or target is quarantined is abandoned (R251). -/
def State.shuntQuar (s : State) (p : Nat) : State := match s.mar.shunt with
  | none => s
  | some h => if h.source = p then s.shuntAbandon 3 false else if h.target = p then s.shuntAbandon 3 true else s

/-- The instances that lie on a platform. -/
def State.instsOn (s : State) (p : Nat) : List Nat :=
  (s.declared.filter (fun d => s.instState d.inst != 0 && s.placeOf d.inst == p)).map (fun d => d.inst)

/-- Quarantine a platform: 1 lockstep, 2 ECC. Every instance that lies on it is restarted, whatever its state (R245). -/
def State.quarantine (s : State) (p cause : Nat) : State :=
  if s.roleOf p = 2 then s
  else
    let s := (s.dropTask p).countN F.TTB_CNT2_MISSED (s.pf p).lq.length
    let s := (s.setPf p { s.pf p with lq := [] }).showLq p
    let s := ((s.put (F.PFM_PCTRL_ROLE p) 2).put (F.PFM_PSTAT_STATE p) 6).put (F.PFM_PSTAT_QCAUSE p) cause
    let s := (s.raise 0x0A03 (p + cause * 256)).shuntQuar p
    let is := (s.instsOn p).filter (fun i => s.instState i != 5)
    let s := (is.filter (fun i => s.instState i == 2)).foldl (fun s i =>
      ((s.instTo i 5).put (F.PFM_IFLAG_QUAR i) 1).semBreakAll i) s
    -- a restart that had this platform for its target starts again
    let mine := (s.mar.copying ++ s.mar.mapWait).filter (fun x => x.pf == p)
    let s := s.setMar { s.mar with copying := s.mar.copying.filter (fun x => x.pf != p), mapWait := s.mar.mapWait.filter (fun x => x.pf != p) }
    (s.showLoads.restartQueue p (is.map s.placeNow ++ mine.filter (fun x => !is.contains x.inst))).showLoads

/-- LOCKSTEP_MISMATCH (R227). -/
def execLockstepMismatch (pf t : Nat) (s : State) : Out State := .next (State.parkDue ((s.advance t).quarantine pf 1))

/-! ## ECC errors (R228, R355) -/

/-- CORRECTABLE_ECC_ERROR. -/
def execCorrectableEccError (memory pf : Nat) (s : State) : Out State :=
  let s := if memory = 3 ∨ memory = 4 then s.count (F.PFM_PCNT1_CECC pf) else s
  .next ((s.count F.MEM_ECC_CECC).raise 0x1101 (memory % 256 + pf % 256 * 256))

/-- Mark block `n` of a list bad. -/
def markBad (l : List RBlk) (n : Nat) : List RBlk := match l[n]? with
  | none => l
  | some b => l.set n { b with bad := true }

/-- The recorder whose buffer holds a DRAM address. -/
def State.bufferAt (s : State) (a : Nat) : Option Nat :=
  (List.range 16).find? (fun r => s.flag (F.ACQ_RCFG_VALID r) && decide (dramBase + s.get (F.MAR_RBUF_BASE r) * 4096 ≤ a) &&
    decide (a < dramBase + s.get (F.MAR_RBUF_BASE r) * 4096 + s.get (F.ACQ_RBUF_SIZE r) * 65536))

/-- A DRAM address lies in the history buffer. -/
def State.inHistory (s : State) (a : Nat) : Bool :=
  s.flag F.ACQ_CTRL_HEN && decide (dramBase + dramSize - s.get F.ACQ_CTRL_HSIZE * 67108864 ≤ a) && decide (a < dramBase + dramSize)

/-- What an uncorrectable error in field DRAM spoils, but for a mover's read (R351, R355). -/
def State.dramError (s : State) (a : Nat) : State :=
  let x := Config.systemArea a
  if x.1 = 1 then s.setInst x.2 { s.inst x.2 with imageBad := true }
  else if x.1 = 2 then
    let s := s.settleWrites.dropWrites (some x.2)
    s.setInst x.2 { s.inst x.2 with staged := (s.inst x.2).prior, prior := none }
  else if x.1 = 3 then
    let s := s.settleWrites.dropWrites none
    s.setLge { s.lge with retStaged := s.lge.retPrior, retPrior := none }
  else match s.bufferAt a with
    | some r => let x := s.recd r; s.setRecd r { x with blocks := markBad x.blocks (Config.blockAt a) }
    | none => if s.inHistory a then s.setAcq { s.acq with history := markBad s.acq.history (Config.blockAt a) } else s

/-- UNCORRECTABLE_ECC_ERROR (R227, R355). -/
def execUncorrectableEccError (memory pf addr t : Nat) (s : State) : Out State :=
  let s := s.advance t
  let s := (s.count F.MEM_ECC_UECC).put F.MEM_ECCADDR_LO addr
  let s := s.put F.MEM_ECCADDR_HI (addr / 2 ^ 32 % 256 + memory % 256 * 256)
  let tell := fun (s : State) => s.raise 0x1102 (memory % 256 + pf % 256 * 256)
  .next (State.parkDue (if memory = 3 ∨ memory = 4 then
      if s.roleOf pf = 2 then tell s else tell ((s.put (F.PFM_QADDR_ADDR pf) addr).quarantine pf 2)
    else if memory = 1 then (tell s).dramError addr
    else tell s))

end Sys2Proof.Machine
end

