-- ==== Sys2Proof/Machine/Logic.lean ====
section
/-!
DEFINITION. The logic engine: cycles, modes, restarts, RETAIN, program exchange (R145, R305 to R320, R328 to R330, R342, R392). What
Othan block code computes is a constant of Config: the manual gives its container only. Readings and choices are in log entry 35.
-/
namespace Sys2Proof.Machine

/-- Write `b` into a byte string at offset `o`, within its length. -/
def patch (m : Bytes) (o : Nat) (b : Bytes) : Bytes :=
  let b := b.take (m.length - o)
  m.take o ++ b ++ m.drop (o + b.length)

/-! ## Modes (R315, R316) -/

/-- LGE_STATUS.MODE: 0 Stop, 1 Run, 2 Hold. -/
def State.lgMode (s : State) : Nat := s.get F.LGE_STATUS_MODE

/-- Change the mode, with its event. -/
def State.lgTo (s : State) (m : Nat) : State := if s.lgMode = m then s else (s.put F.LGE_STATUS_MODE m).raise 0x0D01 m

/-- The engine's code as a holder (R29, R342). -/
def lgHolder : Nat := 0x41

/-- Hold is permitted (R312, R316). -/
def State.mayHold (s : State) : Bool := match s.lge.prog with
  | none => false
  | some p => p.holdEn && !s.twinMode

/-! ## Instance memory and RETAIN (R313, R317 to R319) -/

/-- The type of an instance. -/
def Prog.typeOf (p : Prog) (f : LInst) : LType := p.types.getD f.type { hash := 0, kind := 0, size := 0 }

/-- The RETAIN image of an instance memory. -/
def retainOf (p : Prog) (m : Bytes) : RetImg :=
  { parts := p.fbs.map (fun f => (f.path, (p.typeOf f).hash, slice m (f.ofs + f.retOfs) f.retLen)) }

/-- The RETAIN image of a program whose bytes are `b` (R392). -/
def splitRetain (p : Prog) : List LInst → Bytes → List (Bytes × Nat × Bytes)
  | [], _ => []
  | f :: r, b => (f.path, (p.typeOf f).hash, fitTo f.retLen (b.take f.retLen)) :: splitRetain p r (b.drop f.retLen)

/-- The RETAIN range that an image holds of an instance: that of the same PATH and TYPEHASH (R76, R320). -/
def RetImg.range (b : RetImg) (p : Prog) (f : LInst) : Option Bytes :=
  (b.parts.find? (fun x => x.1 == f.path && x.2.1 == (p.typeOf f).hash && x.2.2.length == f.retLen)).map (fun x => x.2.2)

/-- The data of an instance of a standard type after a warm restart (R318): the timers at rest, an edge detector with its present input. -/
def LType.warm (t : LType) (input : Bool) (d : Bytes) : Bytes :=
  if 1 ≤ t.kind ∧ t.kind ≤ 3 then patch (patch d (Config.stdElapsed t.hash) (zeros 8)) (Config.stdQ t.hash) [0#8]
  else if t.kind = 4 ∨ t.kind = 5 then patch d (Config.stdPrev t.hash) [BitVec.ofNat 8 (ofBool input)]
  else d

/-- The data of a matched instance of a standard type after an exchange (R318): a timer whose PT is below its elapsed time has ended; an
edge detector keeps its stored input. -/
def LType.exchanged (t : LType) (d : Bytes) : Bytes :=
  if 1 ≤ t.kind ∧ t.kind ≤ 3 ∧ leAt d (Config.stdPt t.hash) 8 < leAt d (Config.stdElapsed t.hash) 8 then
    patch d (Config.stdQ t.hash) [BitVec.ofNat 8 (ofBool (t.kind == 1))]
  else d

/-- The data of one instance after a warm restart (R317): its initial data, its RETAIN range restored, a standard type as R318 has it. -/
def warmData (p : Prog) (b : RetImg) (draw : Nat) (e : Nat × LInst) : Bytes :=
  let t := p.typeOf e.2
  let d := slice p.init e.2.ofs t.size
  t.warm (Config.edgeInput draw e.1) (match b.range p e.2 with
    | none => d
    | some r => patch d e.2.retOfs r)

/-- Instance memory after a warm restart (R317). -/
def warmMem (p : Prog) (b : RetImg) (draw : Nat) : Bytes :=
  (List.zip (List.range p.fbs.length) p.fbs).foldl (fun m e => patch m e.2.ofs (warmData p b draw e)) (fitTo p.instLen p.init)

/-- The newest valid RETAIN image of the engine's own: staged, or in MRAM. -/
def State.newestRetain (s : State) : Option RetImg := match s.lge.retStaged with
  | some b => some b
  | none => s.lge.retMram

/-- The RETAIN image in the mirror of a standby (R392). -/
def State.mirrorRetain (s : State) : Option RetImg :=
  s.lge.prog.map (fun p => { parts := splitRetain p p.fbs (fitTo p.retLen s.tok.mirror) })

/-- Show what the program declares (R329). -/
def State.showProg (s : State) : State :=
  let s := s.putB F.LGE_STATUS_LOADED s.lge.prog.isSome
  match s.lge.prog with
  | none => (((s.put F.LGE_USE_INSTKIB 0).put F.LGE_USE_RETKIB 0).put F.LGE_PROGID_LO 0).put F.LGE_PROGID_HI 0
  | some p => (((s.put F.LGE_USE_INSTKIB (cdiv p.instLen 1024)).put F.LGE_USE_RETKIB (cdiv p.retLen 1024)).put
      F.LGE_PROGID_LO p.progId).put F.LGE_PROGID_HI (p.progId / 2 ^ 32)

/-- A restart has been done: its kind is reported to the next cycle (1 cold, 2 warm, 3 exchange). -/
def State.lgReport (s : State) (k : Nat) : State :=
  (s.setLge { s.lge with report := k, restart := 0, since := 0, fresh := true }).put F.LGE_STATUS_LASTRST k

/-- Restart the engine, warm from a RETAIN image when there is one (R317). -/
def State.lgRestart (s : State) (ret : Option RetImg) : State := match s.lge.prog with
  | none => s
  | some p =>
    match ret with
    | none => (s.setLge { s.lge with mem := fitTo p.instLen p.init, cyc := none, paused := false, step := false }).lgReport 1
    | some b =>
      let d := s.draw
      (d.1.setLge { d.1.lge with mem := warmMem p b d.2, cyc := none, paused := false, step := false }).lgReport 2

/-- Load a program and restart it; the mode after is Run with RUNONLOAD, otherwise Stop (R317). -/
def State.lgLoad (s : State) (p : Option Prog) (ret : Option RetImg) : State :=
  let s := ((s.setLge { s.lge with prog := p, xchg := none, cmd := 0, hold := false, skips := 0, cyc := none }).showProg).lgRestart ret
  match p with
  | none => s
  | some p => s.lgTo (ofBool p.runOnLoad)

/-- The data of an old instance that matches a new one by path and type hash (R320). -/
def matchOf (old new : Prog) (f : LInst) : Option (LInst × Nat) :=
  match new.types[f.type]? with
  | none => none
  | some t => match old.fbs.find? (fun g => g.path == f.path && (match old.types[g.type]? with
      | none => false
      | some u => u.hash == t.hash)) with
    | none => none
    | some g => some (g, t.size)

/-- Instance memory after an exchange (R320): the data of the matched instances at their new places, the others' initial data. -/
def exchangedMem (old new : Prog) (mem : Bytes) : Bytes :=
  new.fbs.foldl (fun m f => match matchOf old new f with
    | none => m
    | some g => patch m f.ofs ((new.typeOf f).exchanged (slice mem g.1.ofs g.2))) (fitTo new.instLen new.init)

/-- The online program exchange (R320). -/
def State.lgExchange (s : State) (new : Prog) : State :=
  let m := match s.lge.prog with
    | none => fitTo new.instLen new.init
    | some old => exchangedMem old new s.lge.mem
  let s := (s.setLge { s.lge with prog := some new, mem := m, xchg := none, report := 3 }).showProg
  (s.put F.LGE_STATUS_LASTRST 3).raise 0x0D03 new.progId

/-! ## The input image (R308) -/

/-- TRIP and FAULTDET of the last commit of an instance whose ECALL came before now. -/
def State.instOut (s : State) (i : Nat) : Bytes :=
  let held := leBytes 4 (s.inst i).trip.toNat ++ leBytes 4 (ofBool (s.inst i).fault)
  match s.taskOf i with
  | none => held
  | some r => match r.ending with
    | none => held
    | some e => if e.waits then held else slice e.block 0 4 ++ leBytes 4 (leAt e.block 4 4 % 2)

/-- The input image of a departure. -/
def State.inputImage (s : State) (dep cyc credit : Nat) : Bytes :=
  fitTo 0xC40 s.hlx.done ++ (zeros 8 ++ (List.range 63).flatMap (fun i => s.instOut (i + 1))) ++
  (List.range 64).flatMap (fun n => leBytes 4 (s.get (F.LGE_CMDW n))) ++
  leBytes 8 cyc ++ leBytes 4 (wrapNs dep).toNat ++ leBytes 1 (s.epoch s.ttbTb) ++ leBytes 1 s.lge.report ++ zeros 2 ++ leBytes 4 credit

/-- FRESH of every halt counts from the image latched now (R308). -/
def State.unfresh (s : State) : State :=
  let d := fitTo 0xC40 s.hlx.done
  let s := s.setHlx { s.hlx with done := patch d 0xC00 ((slice d 0xC00 64).map (fun b => b &&& 0x0F#8)) }
  s.each (List.range 64) (fun s h => s.put (F.HLX_HSTAT_STATUS h) (s.get (F.HLX_HSTAT_STATUS h) % 16))

/-! ## Halts: outputs, images, dropout (R308, R315, R322, R326, R328) -/

/-- The valid halts in ascending order. -/
def State.validHalts (s : State) : List Nat := (List.range 64).filter (fun h => s.flag (F.HLX_HCFG_VALID h))

/-- HLX_OK of a halt. -/
def State.haltOk (s : State) (h : Nat) : Bool := bit (s.get (if h < 32 then F.HLX_OK_LO else F.HLX_OK_HI)) (h % 32)

/-- Set it. -/
def State.setHaltOk (s : State) (h : Nat) (b : Bool) : State := s.putBit (if h < 32 then F.HLX_OK_LO else F.HLX_OK_HI) (h % 32) b

/-- The SAFE values of a halt. -/
def State.safeOf (s : State) (h : Nat) : Nat := s.get (F.HLX_HSAFE_LO h) + 2 ^ 32 * s.get (F.HLX_HSAFE_HI h)

/-- The outputs sent to a halt: SAFE in Stop, otherwise the committed output image (R315). -/
def State.outOf (s : State) (h : Nat) : Nat := if s.lgMode = 0 then s.safeOf h else leAt (fitTo 0x300 s.lge.out) (8 * h) 8

/-- A halt at the end of an exchange: dropout. -/
def State.haltEnd (s : State) (h : Nat) : State :=
  let x := s.halt h
  if x.replied then s
  else
    let s := s.setHalt h { x with miss := Nat.min (x.miss + 1) 255, good := 0 }
    if s.haltOk h && decide (s.get F.HLX_CTRL_DROPCNT ≤ (s.halt h).miss) then
      ((s.setHaltOk h false).raise 0x0E01 h).count (F.HLX_HCNT_DROPS h)
    else s

/-- The status byte of a halt (R308); FRESH stays until a logic cycle latches it. -/
def State.haltStatus (s : State) (h : Nat) : Nat :=
  let old := s.get (F.HLX_HSTAT_STATUS h)
  old / 2 % 8 * 2 + ofBool (s.haltOk h) + 16 * ofBool ((s.halt h).replied || bit old 4)

/-- The completed image as the logic engine latches it. -/
def State.haltImage (s : State) : Bytes :=
  let hs := (List.range 64).map s.halt
  hs.flatMap (fun x => leBytes 8 x.inp) ++ hs.flatMap (fun x => (List.range 8).flatMap (fun n => leBytes 4 (x.ai.getD n 0).toNat)) ++
  hs.flatMap (fun x => fitTo 8 x.aq) ++ (List.range 64).map (fun h => BitVec.ofNat 8 (s.get (F.HLX_HSTAT_STATUS h)))

/-- Complete the exchange's image. -/
def State.haltComplete (s : State) : State :=
  let s := s.each s.validHalts State.haltEnd
  let s := s.each s.validHalts (fun s h => s.put (F.HLX_HSTAT_STATUS h) (s.haltStatus h))
  s.setHlx { s.hlx with open_ := none, done := s.haltImage }

/-- The image of a window that has closed by raw time `t` is complete (R322). -/
def State.windowDue (s : State) (t : Nat) : State := match s.hlx.open_ with
  | none => s
  | some c => if c ≤ t then s.haltComplete else s

/-- A request with other outputs (R323). -/
def withOutputs (b : Bytes) (out : Nat) : Bytes :=
  let c := b.take 12 ++ beBytes 8 out ++ slice b 20 18
  c ++ beBytes 4 (crc32 c).toNat ++ b.drop 42

/-- A commit at the instant of an exchange departure: the requests that wait carry the new outputs (R328). -/
def State.freshOutputs (s : State) : State :=
  if s.hlx.startAt = some s.now then
    s.setPorts (Sp.mapv PortS.init (fun x => { x with txq := x.txq.map (fun f => match f.body with
      | .halt h b => { f with body := .halt h (withOutputs b (s.outOf h)) }
      | _ => f) }) s.ports)
  else s

/-! ## Cycles (R145, R307, R310, R311) -/

/-- The logic cycle length in ns. -/
def State.lgCycleNs (s : State) : Nat := match s.lge.prog with
  | none => 0
  | some p => p.ratio * s.cycleNs

/-- A departure that finds the previous cycle not yet committed (R311). DESIGN CHOICE (log entry 35): no register of the engine has the
SKIPPED of R311, so it is a count of its own. -/
def State.lgSkip (s : State) : State :=
  let n := s.lge.skips + 1
  let s := (s.setLge { s.lge with skips := n, skipped := Nat.min (s.lge.skipped + 1) 0xFFFF, since := s.lge.since + 1 }).count F.LGE_CNT_OVERRUN
  let s := s.raise 0x0D02 n
  if s.get F.LGE_CTRL_STOPOVR ≠ 0 ∧ s.get F.LGE_CTRL_STOPOVR ≤ n then s.lgTo 0 else s

/-- A cycle starts: the image is latched with the time credited (R308, R310). -/
def State.lgStart (s : State) (dep t : Nat) : State :=
  let c := s.ttb.cyc
  let n := if s.lge.fresh then 1 else s.lge.since + 1
  let im := s.inputImage dep c (s.lgCycleNs / 1000 * n)
  (s.setLge { s.lge with image := im, cyc := some (dep, t, c), since := 0, fresh := false, report := 0 }).unfresh

/-- A restart or exchange that waits for a logic departure (R317, R320). -/
def State.lgWaiting (s : State) : State :=
  let s := match s.lge.xchg with
    | none => s
    | some p => s.lgExchange p
  if s.lge.restart = 1 then (s.lgRestart none).lgTo 1
  else if s.lge.restart = 2 then (s.lgRestart s.newestRetain).lgTo 1
  else s

/-- LOGIC_CYCLE_START (R145, R307). -/
def execLogicCycleStart (slot k t : Nat) (s : State) : Out State :=
  let s := s.advance t
  .next (match s.depart slot k 0x07 with
    | none => s
    | some (_, dep, s) => match s.lge.prog with
      | none => s
      | some p =>
        if !s.awake || s.standby || s.ttb.cyc % Nat.max p.ratio 1 != 0 || s.lgMode == 2 then s
        else if s.lge.cyc.isSome then s.lgSkip
        else
          let s := (s.windowDue s.now).lgWaiting
          if s.lgMode = 1 then s.lgStart dep t else s.setLge { s.lge with since := s.lge.since + 1 })

/-! ## RETAIN to a standby (R392) -/

/-- The 64-byte lines of an image. -/
def linesOf (b : Bytes) : Nat := cdiv b.length 64

/-- One line, filled with zeros. -/
def lineAt (b : Bytes) (n : Nat) : Bytes := fitTo 64 (slice b (64 * n) 64)

/-- Runs of adjacent lines, at most 21 each: (first, count). -/
def runsOf : List Nat → List (Nat × Nat)
  | [] => []
  | n :: r => match runsOf r with
    | [] => [(n, 1)]
    | (f, c) :: q => if f = n + 1 ∧ c < 21 then (n, c + 1) :: q else (n, 1) :: (f, c) :: q

/-- Send lines of an image for a logic cycle; the last frame carries LAST. -/
def State.sendLines (s : State) (cyc : Nat) (b : Bytes) (l : List Nat) : State :=
  let rs := runsOf l
  (List.zip (List.range rs.length) rs).foldl (fun s x =>
    s.plSend 0x13 (x.1 + 1 == rs.length) (beBytes 8 cyc ++ beBytes 4 x.2.1 ++ beBytes 2 x.2.2 ++ zeros 2 ++
      (List.range x.2.2).flatMap (fun k => lineAt b (x.2.1 + k)))) s

/-- After a commit the holder sends the lines that changed; above 64 KiB the whole image over the following cycles, 64 KiB in each. -/
def State.streamRetain (s : State) (cyc : Nat) (b : Bytes) : State :=
  if s.heldPos.isNone || !s.redundant then s
  else
    let all := List.range (linesOf b)
    let ch := all.filter (fun n => lineAt s.tok.lastRet n != lineAt b n || decide (s.tok.lastRet.length ≤ 64 * n))
    let from_ := match s.tok.sendFrom with
      | some f => some f
      | none => if 1024 < ch.length then some 0 else none
    match from_ with
    | none =>
      let s := s.sendLines cyc b ch
      s.setTok { s.tok with lastRet := b }
    | some f =>
      let s := s.sendLines cyc b (all.filter (fun n => (decide (f ≤ n) && decide (n < f + 1024)) || (decide (n < f) && ch.contains n)))
      s.setTok { s.tok with lastRet := b, sendFrom := if f + 1024 < linesOf b then some (f + 1024) else none }

/-! ## The commit (R307, R309, R319, R342) -/

/-- The semaphores that the LOGIC section names are held while the output image is written; one held elsewhere is waited for in vain. -/
def State.lgSems (s : State) (p : Prog) : State :=
  let s := p.sems.foldl (fun s n =>
    if s.get (F.INS_SEM_HOLDER n) = 0xFF ∨ s.get (F.INS_SEM_HOLDER n) = lgHolder then (s.semTry lgHolder n).1
    else s.setLge { s.lge with semWait := s.lge.semWait + 1 }) s
  p.sems.foldl (fun s n => s.semRelease lgHolder n false) s

/-- Stage the RETAIN image at the first commit at least 20 ms after the last one staged. -/
def State.stageRetain (s : State) : State :=
  let due := match s.lge.stagedAt with
    | none => true
    | some a => decide (a + 20000000 ≤ s.now)
  if due then s.setLge { s.lge with retPrior := s.lge.retStaged, retStaged := s.lge.retCommit, stagedAt := some s.now } else s

/-- Apply a mode command that waited for the commit. -/
def State.lgCommand (s : State) : State :=
  let c := s.lge.cmd
  let s := s.setLge { s.lge with cmd := 0 }
  if c = 1 then s.lgTo 1 else if c = 2 then s.lgTo 0 else s

/-- A REAL times 2^SCALE, rounded and saturated to 32 bits (R313); its 32 bits are those of IEEE 754 binary32. DESIGN CHOICE (log entry 35):
PRESUMED format, ties away from zero. -/
def realScaled (w scale : Nat) : Int :=
  let e := w / 2 ^ 23 % 256
  let m := w % 2 ^ 23
  let sgn : Int := if bit w 31 then -1 else 1
  if e = 255 then (if m = 0 then satS 32 (sgn * 2 ^ 40) else signedN 32 (Config.realNan (BitVec.ofNat 32 w)).toNat)
  else
    let mant : Int := (if e = 0 then m else m + 2 ^ 23 : Nat)
    let up := Nat.max e 1 + scale
    satS 32 (sgn * (if 150 ≤ up then mant * 2 ^ (up - 150) else rdivAway mant (2 ^ (150 - up))))

/-- The value that is recorded of a variable (R313). PRESUMED (log entry 35): BOOL takes a byte, INT two, DINT and REAL four. -/
def Prog.varValue (p : Prog) (mem : Bytes) (v : LVar) : Int :=
  let o := (match p.fbs[v.fb]? with
    | none => 0
    | some f => f.ofs) + v.ofs
  if v.type = 0 then ofBool (leAt mem o 1 != 0)
  else if v.type = 1 then signedN 16 (leAt mem o 2)
  else if v.type = 2 then signedN 32 (leAt mem o 4)
  else realScaled (leAt mem o 4) v.scale

/-- The write of the output image gives every recorder channel of a logic variable a sample (R280, R289): at the departure of the cycle, with its
number. DESIGN CHOICE (log entry 23): no bit of the qualifier is set. -/
def State.recVars (s : State) (p : Prog) (dep cyc : Nat) : State :=
  s.each ((List.range 16).filter (fun r => s.flag (F.ACQ_RCFG_VALID r))) (fun s r =>
    s.each ((s.recChans r).filter (fun c => s.get (F.ACQ_CH_KIND r c) == 3)) (fun s c => match p.vars[s.get (F.ACQ_CH_ID r c)]? with
      | none => s
      | some v => s.recSample r c { time := dep, value := p.varValue s.lge.mem v, qual := 0, idx := cyc, epoch := s.epoch s.ttbTb, dcorr := 0 }))

/-- LOGIC_COMMIT (R307): the output image is written. -/
def execLogicCommit (clocks t : Nat) (s : State) : Out State :=
  let s := s.advance t
  .next (State.parkDue (match s.lge.prog, s.lge.cyc with
    | some p, some c =>
      if s.lge.paused then s
      else
        let r := Config.blockRun p s.lge.mem s.lge.image
        let mem := fitTo p.instLen r.1
        let out := fitTo 0x300 r.2
        let s := s.lgSems p
        let s := s.setLge { s.lge with mem := mem, out := out, cyc := none, skips := 0, step := false, retCommit := some (retainOf p mem) }
        let s := s.each (List.range 64) (fun s n => s.put (F.LGE_REPW n) (leAt out (0x200 + 4 * n) 4))
        let s := s.recVars p c.1 c.2.2
        let e := Nat.min (cdiv clocks 2400) 0xFFFF
        let s := ((s.put F.LGE_EXEC_LAST e).peak F.LGE_EXEC_PEAK e).put F.LGE_CYC_CYCLES (s.get F.LGE_CYC_CYCLES + 1)
        ((s.stageRetain).streamRetain (c.2.2 / Nat.max p.ratio 1) (retainOf p mem).bytes).lgCommand.freshOutputs
    | _, _ => s))

/-- A cycle ends without a commit: what it left in instance memory is open (R311, R316, R344). -/
def State.lgAbandon (s : State) : State := match s.lge.prog with
  | none => s
  | some p =>
    let d := s.draw
    let s := d.1.setLge { d.1.lge with mem := fitTo p.instLen (Config.abortedMem d.2 p d.1.lge.mem), cyc := none, paused := false,
                                       step := false, hold := false, cmd := 0, skips := 0 }
    (s.semBreakAll lgHolder).lgTo 0

/-- LOGIC_CYCLE_ABORT (R311): a cycle still running 4 × L after its departure. -/
def execLogicCycleAbort (t : Nat) (s : State) : Out State :=
  let s := s.advance t
  .next (State.parkDue (match s.lge.cyc with
    | none => s
    | some c => if !s.lge.paused ∧ c.2.1 + 4 * s.lgCycleNs ≤ s.now then s.lgAbandon else s))

/-! ## Commands (R316) -/

/-- RUN: after the commit of the cycle in progress, or at once. -/
def State.lgRun (s : State) : State :=
  if s.lge.prog.isNone then s
  else if s.lge.cyc.isSome then s.setLge { s.lge with cmd := 1 } else s.lgTo 1

/-- STOP: in Hold the cycle is abandoned, paused or in a STEP. -/
def State.lgStop (s : State) : State :=
  if s.lge.cyc.isSome then (if s.lgMode = 2 then s.lgAbandon else s.setLge { s.lge with cmd := 2 }) else s.lgTo 0

/-- HOLD. -/
def State.lgHold (s : State) : State := if s.mayHold then s.setLge { s.lge with hold := true } else s.count F.LGE_CNT_REFUSED

/-- CONTINUE in Hold. -/
def State.lgContinue (s : State) : State :=
  if s.lgMode = 2 then (s.setLge { s.lge with paused := false, hold := false, step := false, fresh := true, since := 0 }).lgTo 1 else s

/-- STEP in Hold. -/
def State.lgStep (s : State) : State :=
  if s.lgMode = 2 ∧ s.lge.paused then s.setLge { s.lge with paused := false, step := true } else s

/-- COLD or WARM at the next logic departure. -/
def State.lgAskRestart (s : State) (k : Nat) : State := if s.lge.prog.isNone then s else s.setLge { s.lge with restart := k }

/-- LOGIC_RUN. -/
def execLogicRun (s : State) : Out State := .next s.lgRun
/-- LOGIC_STOP. -/
def execLogicStop (s : State) : Out State := .next s.lgStop
/-- LOGIC_HOLD. -/
def execLogicHold (s : State) : Out State := .next s.lgHold
/-- LOGIC_CONTINUE. -/
def execLogicContinue (s : State) : Out State := .next s.lgContinue
/-- LOGIC_STEP. -/
def execLogicStep (s : State) : Out State := .next s.lgStep
/-- LOGIC_COLD (R317). -/
def execLogicCold (s : State) : Out State := .next (s.lgAskRestart 1)
/-- LOGIC_WARM (R317). -/
def execLogicWarm (s : State) : Out State := .next (s.lgAskRestart 2)

/-- The cycle pauses at a code offset: Hold, whatever ends it, leaves the next cycle with a credit of L (R310). -/
def State.lgPause (s : State) (pc : Nat) : State :=
  ((s.setLge { s.lge with paused := true, hold := false, step := false, fresh := true }).put F.LGE_HOLDPC_PC pc).lgTo 2

/-- CYCLE_PAUSE (R316): a running cycle reaches a block boundary with HOLD asked, or ends its step. -/
def execCyclePause (pc : Nat) (s : State) : Out State :=
  .next (if s.lge.cyc.isSome && !s.lge.paused && (s.lge.hold || s.lge.step) then s.lgPause pc else s)

/-- BREAKPOINT_HIT (R316): execution reaches an enabled breakpoint where Hold is permitted. -/
def execBreakpointHit (n : Nat) (s : State) : Out State :=
  .next (if s.lge.cyc.isSome && !s.lge.paused && s.flag (F.LGE_BP_EN n) && s.mayHold then
    (s.lgPause (s.get (F.LGE_BP_ADDR n))).put F.LGE_STATUS_BPHIT (n + 16)
  else s)

end Sys2Proof.Machine
end

