-- ==== Sys2Proof/Machine/Halts.lean ====
section
/-!
DEFINITION. The halt exchange: requests, replies, images, dropout and return (R321 to R328, R331, R332, R283 code 5). Readings and choices
are in log entry 36.
-/
namespace Sys2Proof.Machine

/-- Requests are sent (R321): always in Single mode, by the holder in Pair mode, by the holder of position A in Twin-plus-spare mode. -/
def State.sendsRequests (s : State) : Bool := s.gateFor false

/-! ## Requests (R322, R323) -/

/-- The nominal interval between exchanges in µs: the cycle over the exchange departures of the active bank. -/
def State.haltInterval (s : State) : Nat :=
  s.get F.TTB_CYCLE / Nat.max 1 (sumN ((validSlots (s.bank s.activeBank)).map (fun e => if e.2.action = 8 then e.2.rept + 1 else 0)))

/-- The payload of a request. -/
def State.haltRequest (s : State) (h : Nat) : Bytes :=
  let m := s.lgMode
  let flags := ofBool (m == 1) + 2 * ofBool (m == 0) + 4 * ofBool (m == 2) + 8 * ofBool (!s.hlx.begun)
  let b := [0x01, 0x01, BitVec.ofNat 8 h, BitVec.ofNat 8 flags] ++ beBytes 2 (s.get F.HLX_SEQ) ++
    [BitVec.ofNat 8 (s.get (F.HLX_HCFG_WDMISS h)), 0] ++ beBytes 4 s.haltInterval ++ beBytes 8 (s.outOf h) ++ beBytes 8 (s.safeOf h) ++
    leBytes 4 (s.get F.HLX_RDA_LO) ++ leBytes 2 (s.get F.HLX_RDA_HI) ++ beBytes 4 s.ttb.cyc
  b ++ beBytes 4 (crc32 b).toNat ++ zeros 4

/-- A request as it leaves by a port. -/
def State.haltFrame (s : State) (h : Nat) (b : Bytes) (p : Nat) (red : Option RedS) : TxFrame :=
  { queue := 6, len := if red.isSome then 70 else 64, src := s.macOfPort p, body := .halt h b, red := red, stamp := none, chan := none }

/-- Send a request, on both ports of a pair with one sequence number (R265, R321). -/
def State.sendRequest (s : State) (h : Nat) : State :=
  s.sendPaired (s.get (F.HLX_HCFG_PORT h)) (s.haltFrame h (s.haltRequest h))

/-! ## Exchanges (R322) -/

/-- Every valid halt has replied. -/
def State.allReplied (s : State) : Bool := s.validHalts.all (fun h => (s.halt h).replied)

/-- HALT_EXCHANGE_START (R144, R322). -/
def execHaltExchangeStart (slot k t : Nat) (s : State) : Out State :=
  let s := s.advance t
  .next (match s.depart slot k 0x08 with
    | none => s
    | some (_, _, s) =>
      if !s.awake then s
      else
      let s := s.windowDue (t - 1)
      if s.hlx.open_.isSome then s.count F.HLX_CNT_SKIPPED
      else
        let s := s.put F.HLX_SEQ (s.get F.HLX_SEQ + 1)
        let s := s.each s.validHalts (fun s h => s.setHalt h { s.halt h with replied := false })
        let s := if s.sendsRequests then
            let s := s.each s.validHalts State.sendRequest
            s.setHlx { s.hlx with begun := true }
          else s
        let s := s.setHlx { s.hlx with open_ := some (t + s.get F.HLX_CTRL_REPLYWIN * 1000), startAt := some t }
        if s.allReplied then s.haltComplete else s)

/-! ## Replies (R324, R326, R283) -/

/-- An edge of an input triggers the recorders that name it. -/
def State.haltEdges (s : State) (h old new : Nat) (t : Int) : State :=
  s.each (List.range 16) (fun s r => s.each (List.range 4) (fun s j =>
    let n := s.get (F.ACQ_RHALT_INPUT r j)
    let e := s.get (F.ACQ_RHALT_EDGE r j)
    if s.get (F.ACQ_RHALT_HALT r j) = h ∧ ((bit e 0 ∧ !bit old n ∧ bit new n) ∨ (bit e 1 ∧ bit old n ∧ !bit new n)) then
      let at_ : Int := t + (s.recNow r - (s.tbNs (s.get F.HLX_CTRL_TB) : Int))
      s.trigger r { code := 5, detail := h * 256 + n, t := at_, tidx := 0, frac := 0 }
    else s))

/-- A valid reply. -/
def State.haltValid (s : State) (h p : Nat) (b : Bytes) (capture : Nat) : State :=
  let x := s.halt h
  let inp := beAt b 8 8
  let age := beAt b 6 2
  let time := s.tbAt (s.get F.HLX_CTRL_TB) (s.rxStamp p capture) - age * 1000
  let x' : HaltS := { inp := inp, ai := (List.range 8).map (fun n => BitVec.ofNat 32 (beAt b (16 + 4 * n) 4)), aq := slice b 48 8,
                      miss := 0, good := if x.replied then x.good else Nat.min (x.good + 1) 15, replied := true, time := time }
  let s := s.setHalt h x'
  let s := (s.put (F.HLX_HSTAT_STATUS h) (s.get (F.HLX_HSTAT_STATUS h) / 16 * 16 + ofBool (s.haltOk h) + beAt b 3 1 % 8 * 2)).put
    (F.HLX_HSTAT_AGE h) age
  let s := if !s.haltOk h && decide (s.get F.HLX_CTRL_RETCNT ≤ x'.good) then (s.setHaltOk h true).raise 0x0E02 h else s
  let s := if x.ai.isEmpty then s else s.haltEdges h x.inp inp time
  if s.allReplied then s.haltComplete else s

/-- The reply window is open: a reply at the instant it closes is inside it (R328). -/
def State.windowOpen (s : State) : Bool := match s.hlx.open_ with
  | none => false
  | some c => decide (s.now ≤ c)

/-- A frame of EtherType 0x88B5 that is no pair-link frame arrives (R324); `capture` is its raw ingress capture. -/
def State.haltReply (s : State) (p : Nat) (b : Bytes) (capture : Nat) : State :=
  if !s.active || s.parked then s
  else
    let h := beAt b 2 1
    let good := decide (60 ≤ b.length) && beAt b 0 1 == 1 && beAt b 1 1 == 2 && decide (h < 64) && s.flag (F.HLX_HCFG_VALID h) &&
      beAt b 56 4 == (crc32 (b.take 56)).toNat
    if !good then s.count F.HLX_CNT_BADREP
    else if !s.windowOpen || beAt b 4 2 != s.get F.HLX_SEQ then s.count (F.HLX_HCNT_LATE h)
    else s.haltValid h p b capture

/-- HALT_REPLY (R324). -/
def execHaltReply (port : Nat) (payload : Bytes) (t : Nat) (s : State) : Out State := .next ((s.advance t).haltReply port payload t)

/-- REPLY_WINDOW_CLOSE (R322). -/
def execReplyWindowClose (t : Nat) (s : State) : Out State :=
  let s := s.advance t
  .next (s.windowDue s.now)

end Sys2Proof.Machine
end

