-- ==== Sys2Proof/Machine/Sections.lean ====
section
/-!
DEFINITION. The sections of a rulebook: what each declares, the registers it sets, and the checks of R66, R67, R73 (13 to 17) and of
activation. A section whose layout the manual gives is parsed here; the bodies of the others are parsed by `Config.sectionDecl` (log
entry 37).
-/
namespace Sys2Proof.Machine

/-- A rulebook that declares nothing. -/
def Decl.none_ : Decl :=
  { sets := [], insts := [], active := [], spare := [], coefBank := 0, coefs := [], ttbBank := 0, prog := none, masks := [],
    crossing := [] }

/-! ## The layouts the manual gives -/

/-- The words of a body, as settings of the registers from `base` up. -/
def wordsAt (base : Nat) (b : Bytes) : List (Nat × Word) :=
  (List.range (b.length / 4)).map (fun i => (base + 4 * i, BitVec.ofNat 32 (leAt b (4 * i) 4)))

/-- FILTERS (R202): 4,096 lane records, then 16 freeze-set records. -/
def filtersDecl (b : Bytes) : Option Decl :=
  if b.length = 262400 then
    some { Decl.none_ with sets := wordsAt 0x01410000 (b.take 262144) ++ wordsAt 0x01400100 (b.drop 262144) }
  else none

/-- FGROUPS (R202): 64 group records. -/
def fgroupsDecl (b : Bytes) : Option Decl :=
  if b.length = 4096 then some { Decl.none_ with sets := wordsAt 0x01401000 b } else none

/-- The sets of a bank image (R202): `n` sets; none unless they fill it exactly and hold legal values. -/
def coefSets : Nat → Bytes → Option (List CoefSet)
  | 0, b => if b = [] then some [] else none
  | n + 1, b =>
    let taps := leAt b 0 1
    let body := slice b 4 (4 * taps)
    let words := (List.range taps).map (fun i => signedN 32 (leAt body (4 * i) 4))
    if b.length < 4 + 4 * taps ∨ taps < 1 ∨ 128 < taps ∨ leAt b 1 1 ≠ 0 ∨
        words.any (fun w => decide (w < -8388608) || decide (8388607 < w)) then none
    else match coefSets n (b.drop (4 + 4 * taps)) with
      | none => none
      | some r => some ({ gd := leAt b 2 2, h := words } :: r)

/-- A bank image (R202). -/
def coefBankOf (b : Bytes) : Option (List CoefSet) :=
  let n := leAt b 0 4
  if b.length < 4 ∨ n < 1 ∨ 256 < n then none else coefSets n (b.drop 4)

/-- COEFF (R202). Bytes 1 to 3 of its header have no meaning given. -/
def coeffDecl (b : Bytes) : Option Decl :=
  let len0 := leAt b 4 4
  match coefBankOf (slice b 8 len0), coefBankOf (b.drop (8 + len0)) with
  | some x, some y => if b.length < 8 ∨ 1 < leAt b 0 1 then none
    else some { Decl.none_ with coefBank := leAt b 0 1, coefs := [x, y] }
  | _, _ => none

/-- A LOGIC body or amendment (R305, R312, R313). -/
def progOf (b : Bytes) : Option Prog :=
  let f := fun (o n : Nat) => leAt b o n
  let codeLen := f 16 4
  let nType := f 20 4
  let nInst := f 24 4
  let instLen := f 28 4
  let retLen := f 32 4
  let nVar := f 36 4
  let strLen := f 48 4
  let oType := 64 + roundUp codeLen 8
  let oInst := oType + 16 * nType
  let oVar := oInst + 32 * nInst
  let oStr := oVar + 8 * nVar
  let oInit := oStr + roundUp strLen 8
  let strs := slice b oStr strLen
  let types := (List.range nType).map (fun i =>
    let o := oType + 16 * i
    { hash := f o 8, kind := f (o + 8) 2, size := f (o + 12) 4 : LType })
  let fbs := (List.range nInst).map (fun i =>
    let o := oInst + 32 * i
    { path := slice strs (f o 4) (f (o + 4) 2), type := f (o + 6) 2, ofs := f (o + 8) 4, retOfs := f (o + 12) 4,
      retLen := f (o + 16) 4 : LInst })
  let vars := (List.range nVar).map (fun i =>
    let o := oVar + 8 * i
    { fb := f o 2, type := f (o + 2) 1, scale := f (o + 3) 1, ofs := f (o + 4) 4 : LVar })
  let headOk := f 0 4 == 0x5A474F42 && f 4 2 == 1 && decide (f 8 4 < 4) && allZero (slice b 52 12)
  let limits := decide (codeLen ≤ 2097152) && decide (nType ≤ 1024) && decide (nInst ≤ 8192) && decide (instLen ≤ 4194304) &&
    decide (retLen ≤ 1048576) && decide (nVar ≤ 8192) && decide (strLen ≤ 524288)
  if !(headOk && limits && b.length == oInit + instLen) then none
  else
    let pathsOk := (List.range nInst).all (fun i =>
      let o := oInst + 32 * i
      decide (1 ≤ f (o + 4) 2) && decide (f (o + 4) 2 ≤ 1024) && decide (f o 4 + f (o + 4) 2 ≤ strLen))
    let typesOk := types.all (fun t => decide (t.kind ≤ 6))
    let fbsOk := fbs.all (fun x => match types[x.type]? with
      | none => false
      | some t => decide (x.ofs + t.size ≤ instLen) && decide (x.retOfs + x.retLen ≤ t.size))
    let varsOk := vars.all (fun v => decide (v.fb < nInst) && decide (v.type ≤ 3) && decide (v.scale ≤ 31))
    let retOk := sumN (fbs.map (fun x => x.retLen)) == retLen
    if pathsOk && typesOk && fbsOk && varsOk && retOk && decide ((fbs.map (fun x => x.path)).Nodup) then
      some { ratio := f 6 2, runOnLoad := bit (f 8 4) 0, holdEn := bit (f 8 4) 1, wcet := f 12 4, progId := f 40 8,
             code := slice b 64 codeLen, types := types, fbs := fbs, vars := vars, instLen := instLen, retLen := retLen,
             init := slice b oInit instLen, sems := Config.progSems b }
    else none

/-- A whole bank of slots, the body of a TIMETABLE amendment (R151, R157): 512 slots of 32 bytes. -/
def bankOf (b : Bytes) : Option (List SlotV) :=
  if b.length = 16384 then some ((List.range 512).map (fun i => slotOfBytes (slice b (32 * i) 32))) else none

/-! ## Sections whose layout the manual leaves out -/

/-- The registers a section may set: those of its owning chapter (R26, R66). -/
def sectRegs (type a : Nat) : Bool :=
  let within := fun (lo hi : Nat) => decide (lo ≤ a) && decide (a < hi)
  if type = 0x01 then within 0x01100000 0x01200000
  else if type = 0x02 then within 0x01200000 0x01210000
  else if type = 0x04 then within 0x01600000 0x01700000 || within 0x01A00000 0x01D00000
  else if type = 0x05 then within 0x01300000 0x01400000
  else if type = 0x09 then within 0x01210000 0x01300000
  else if type = 0x0A ∨ type = 0x0B then within 0x01700000 0x01800000
  else if type = 0x0D then within 0x01910000 0x01A00000
  else if type = 0x0E then within 0x01800000 0x01900000
  else if type = 0x0F then within 0x01D00000 0x01E00000
  else false

/-- A declaration kept to what its section type may declare (R66). -/
def Decl.within (type : Nat) (d : Decl) : Decl :=
  { Decl.none_ with
    sets := d.sets.filter (fun e => sectRegs type e.1),
    insts := if type = 0x04 then d.insts else [],
    active := if type = 0x03 then d.active else [],
    spare := if type = 0x03 then d.spare else [],
    ttbBank := if type = 0x09 then d.ttbBank % 2 else 0,
    masks := if type = 0x0E then d.masks else [] }

/-- What a section declares; none where its body does not parse in its layout (check 13). SVER is 1 where the manual gives one. -/
def sectDecl (type sver : Nat) (b : Bytes) : Option Decl :=
  if type = 0x06 ∨ type = 0x07 ∨ type = 0x08 ∨ type = 0x0C then
    if sver ≠ 1 then none
    else if type = 0x06 then filtersDecl b
    else if type = 0x07 then coeffDecl b
    else if type = 0x08 then fgroupsDecl b
    else match progOf b with
      | none => none
      | some p => some { Decl.none_ with prog := some p }
  else if type = 0x10 then
    if crossingShape b then some { Decl.none_ with crossing := crossEntries b } else none
  else match Config.sectionDecl type sver b with
    | none => none
    | some d => some (d.within type)

/-- Two sections together. -/
def Decl.add (d x : Decl) : Decl :=
  { sets := d.sets ++ x.sets, insts := d.insts ++ x.insts, active := d.active ++ x.active, spare := d.spare ++ x.spare,
    coefBank := d.coefBank + x.coefBank, coefs := d.coefs ++ x.coefs, ttbBank := d.ttbBank + x.ttbBank,
    prog := match x.prog with
      | none => d.prog
      | some p => some p,
    masks := d.masks ++ x.masks, crossing := d.crossing ++ x.crossing }

/-- What the sections of a body declare together; none where one does not parse. -/
def declOf (body : Bytes) : List Sect → Option Decl
  | [] => some Decl.none_
  | x :: r => match sectDecl x.type x.sver (sectBody body x), declOf body r with
    | some d, some e => some (d.add e)
    | _, _ => none

/-! ## What a declaration sets -/

/-- Write a word of a declaration: the settings of R11, and no other field. A transmit threshold is rounded and clamped as every written
value, and shows store-and-forward (R107). -/
def State.setWord (s : State) (a : Nat) (v : Word) : State :=
  let s := s.setFields a v
  match startPort a with
  | none => s
  | some p => s.writeTxthr p v

/-- Set words of a declaration. -/
def State.setWords (s : State) (l : List (Nat × Word)) : State := s.each l (fun s e => s.setWord e.1 e.2)

/-- The exact-match entry of an address with a destination, if there is one. -/
def State.exmOf (s : State) (lo hi dest : Nat) : Option Nat :=
  (List.range 1024).find? (fun i => s.flag (F.PRT_EXM_VALID i) && s.get (F.PRT_EXM_ADDR_LO i) == lo &&
    s.get (F.PRT_EXM_ADDR_HI i) == hi && s.get (F.PRT_EXM_DEST i) == dest)

/-- Give an address an exact-match entry (R91): an entry with the destination takes both port sets. Answers whether one was free. -/
def State.addExm (s : State) (lo hi ports dest : Nat) : State × Bool :=
  match s.exmOf lo hi dest with
  | some i => (s.put (F.PRT_EXM_PORTS i) (s.get (F.PRT_EXM_PORTS i) ||| ports), true)
  | none => match (List.range 1024).find? (fun i => !s.flag (F.PRT_EXM_VALID i)) with
    | none => (s, false)
    | some i => (((((s.put (F.PRT_EXM_ADDR_LO i) lo).put (F.PRT_EXM_ADDR_HI i) hi).put (F.PRT_EXM_VALID i) 1).put
        (F.PRT_EXM_PORTS i) ports).put (F.PRT_EXM_DEST i) dest, true)

/-- The addresses that the loader enters of itself (R91): those of the subscriptions, and that of the pair links, whose frames the
halt exchange and the pair-link controller share an EtherType with (R90, R383). An address of 0 names no group. -/
def State.exmSources (s : State) : List (Nat × Nat × Nat × Nat) :=
  (s.subs.filter (fun i => decide (s.get (F.SVI_SUB_KIND i) < 2))).map (fun i =>
    (s.get (F.SVI_SUB_DA_LO i), s.get (F.SVI_SUB_DA_HI i), s.get (F.SVI_SUB_PORTS i), 0)) ++
  (if s.get F.TOK_PLADDR_LO + s.get F.TOK_PLADDR_HI = 0 then []
   else [(s.get F.TOK_PLADDR_LO, s.get F.TOK_PLADDR_HI, 0x30000, 3)])

/-- Fill the exact-match table. -/
def State.fillExm (s : State) : State × Bool :=
  s.exmSources.foldl (fun a e => let r := a.1.addExm e.1 e.2.1 e.2.2.1 e.2.2.2; (r.1, a.2 && r.2)) (s, true)

/-- The quotas and the hash of an instance (R333, R359). -/
def State.declInst (s : State) (d : InstDecl) : State :=
  let i := d.inst
  let s := (((s.put (F.INS_QUOTA_DRAM i) d.qDram).put (F.INS_QUOTA_QUEUES i) d.qQueues).put (F.INS_QUOTA_SEMS i) d.qSems).put
    (F.INS_QUOTA2_MBDEPTH i) d.qMb
  (s.put (F.INS_DHASH_LO i) (d.dhash % 2 ^ 32)).put (F.INS_DHASH_HI i) (d.dhash / 2 ^ 32)

/-- The roles of the platforms (R245, PFM_PCTRL.ROLE): a quarantine outlasts a B reset. -/
def State.setRoles (s : State) (d : Decl) : State :=
  s.each (List.range 24) (fun s p =>
    if s.get (F.PFM_PCTRL_ROLE p) = 2 then s.put (F.PFM_PSTAT_STATE p) 6
    else s.put (F.PFM_PCTRL_ROLE p) (if d.active.contains p then 0 else if d.spare.contains p then 1 else 3))

/-- The registers as a declaration sets them. -/
def State.applyDecl (s : State) (d : Decl) : State :=
  let s := (s.setWords d.sets).setRoles d
  let s := s.each d.insts State.declInst
  let s := s.fillExm.1
  let s := (s.setFch { s.fch with banks := d.coefs }).put F.FCH_BANK_ACTIVE d.coefBank
  (s.put F.TTB_BANK_SEL_ACTIVE d.ttbBank).setAcq { s.acq with masks := d.masks }

/-- A module on which a declaration can be judged: every setting at its reset value, and what the declaration sets. -/
def State.scratch (s : State) (d : Decl) : State :=
  let s := (s.clearKind .b).setRbk { s.rbk with active := some d }
  s.applyDecl d

/-! ## Check 13: ranges and limits -/

/-- A field within a stated range. -/
def State.inRange (s : State) (f : Fld) (lo hi : Nat) : Bool := decide (lo ≤ s.get f) && decide (s.get f ≤ hi)

/-- Ports within their encodings and the PHY types of R85 (R107, R109). The threshold is judged as the section gives it. -/
def State.portsOk (s : State) (d : Decl) : Bool :=
  d.sets.all (fun e => (startPort e.1).isNone || (decide (64 ≤ e.2.toNat % 2048) && decide (e.2.toNat % 2048 ≤ 1536))) &&
  (List.range 18).all (fun p =>
    s.inRange (F.PRT_CTRL_MODE p) 0 5 && s.inRange (F.PRT_CTRL_PAIR p) 0 2 &&
    (s.get (F.PRT_CTRL_MODE p) != 5 || decide (12 ≤ p)) &&
    (!s.flag (F.PRT_CTRL_AN p) || s.get (F.PRT_CTRL_MODE p) == 2 || s.get (F.PRT_CTRL_MODE p) == 3) &&
    (decide (p < 16) || ((s.get (F.PRT_CTRL_MODE p) == 0 || s.get (F.PRT_CTRL_MODE p) == 5) && !s.flag (F.PRT_CTRL_PAUSE_EN p)))) &&
  (List.range 4).all (fun f => s.get (F.PRT_FTCTRL_RATE f) == 3 || s.inRange (F.PRT_FTCTRL_DSLEN f) 2 255)

/-- Time bases and TOUT within their encodings and ranges (R136, R137). -/
def State.basesOk (s : State) : Bool :=
  (List.range 4).all (fun b =>
    s.inRange (F.TSU_TB_CTRL_SRC b) 0 3 && s.inRange (F.TSU_TB_STEPTHR b) 1 1000000 && s.inRange (F.TSU_TB_PTP_PROFILE b) 0 2) &&
  (List.range 18).all (fun p => s.inRange (F.TSU_PORT_CTRL_TCPEER p) 0 15) &&
  s.inRange F.TSU_TOUT_CTRL_MODE 0 2 && s.inRange F.TSU_TOUT_CTRL_WIDTH 1 50000

/-- Subscriptions within their ranges, and the frame rates of R159 within 2,500,000 a second. -/
def State.streamsOk (s : State) : Bool :=
  s.inRange F.SVI_CTRL_DUPAGE 10 1000 &&
  s.subs.all (fun i =>
    s.inRange (F.SVI_SUB_KIND i) 0 2 && s.inRange (F.SVI_SUB_NASDU i) 1 (if s.get (F.SVI_SUB_KIND i) = 2 then 1 else 8) &&
    s.inRange (F.SVI_SUB_NCH i) 1 32 &&
    s.inRange (F.SVI_SUB_RATE i) 960 19200 && s.inRange (F.SVI_SUB_MUDELAY i) 0 10000000 && s.inRange (F.SVI_SUB_DUE i) 0 10000 &&
    s.inRange (F.SVI_SUB_RESTCNT i) 1 255 && s.inRange (F.SVI_SUB_LOSSCNT i) 1 65535 &&
    (s.get (F.SVI_SUB_KIND i) == 2 || s.inRange (F.SVI_SUB_SVIDLEN i) 1 129)) &&
  -- 840 is a multiple of 1 to 8
  decide (sumN (s.subs.map (fun i => 840 * s.get (F.SVI_SUB_RATE i) / s.get (F.SVI_SUB_NASDU i))) ≤ 840 * 2500000)

/-- One destination entry of a lane (R196). -/
def destOk (v : Nat) : Bool :=
  let kind := v / 2 ^ 14
  let ix := v % 2 ^ 14
  if kind = 0 then ix == 0 else if kind = 1 then decide (1 ≤ ix / 256) else if kind = 2 then decide (ix / 4096 = 0)
  else ix / 32 % 8 == 0

/-- A multiple of every RATIO, 1 to 64. -/
def ratioUnit : Nat := (List.range 64).foldl (fun a i => Nat.lcm a (i + 1)) 1

/-- The cost of a lane (R181) in units of MAC/s / (100 × `ratioUnit`), so that none of it is rounded, with its tap count in the two banks; G
is N × FMAX or DCRATE. -/
def State.laneCost (s : State) (l : Nat) : Nat :=
  let g := s.get (F.FCH_LCFG_FG l)
  let rate := s.laneRate l
  let taps := Nat.max (s.coefOf l 0).h.length (s.coefOf l 1).h.length
  let out := if s.fgMode g = 3 then 100 * s.get (F.FCH_FG_DCRATE g) else s.fgN g * s.get (F.FCH_FG_RANGE_FMAX g)
  ratioUnit * (800 * rate + 4 * out) + ratioUnit / Nat.max 1 (s.get (F.FCH_LCIC_RATIO l)) * (200 * taps * rate)

/-- The cost of all lanes in the same unit. -/
def State.chainCost (s : State) : Nat := sumN (s.validLanes.map s.laneCost)

/-- Groups within their ranges (R204). -/
def State.fgroupsOk (s : State) : Bool :=
  (List.range 64).all (fun g =>
    s.inRange (F.FCH_FG_CTRL_NSEL g) 0 5 && s.inRange (F.FCH_FG_CTRL_LOCKCYC g) 1 15 &&
    s.inRange (F.FCH_FG_RANGE_FMIN g) 1000 7500 && s.inRange (F.FCH_FG_RANGE_FMAX g) (s.get (F.FCH_FG_RANGE_FMIN g)) 7500 &&
    s.inRange (F.FCH_FG_HOLD_LAG g) 0 10000 && s.inRange (F.FCH_FG_DCRATE g) 960 19200)

/-- Lanes within their ranges, and the cost of R181. -/
def State.filtersOk (s : State) : Bool :=
  s.validLanes.all (fun l =>
    s.inRange (F.FCH_LCFG_OWNER l) 1 63 && s.inRange (F.FCH_LDC_CORNER l) 1 500 && s.inRange (F.FCH_LCIC_ORDER l) 1 5 &&
    s.inRange (F.FCH_LCIC_RATIO l) 1 64 && s.inRange (F.FCH_LFIR_FADE l) 0 256 && (s.dests l).all destOk) &&
  decide (s.chainCost ≤ ratioUnit * 100 * 12800000000)

/-- The range of BUDGET, the limits of classes B and C, and WCET (R211, R221, R240). -/
def taskOk (sup : Bool) (t : TaskDecl) : Bool :=
  decide (t.cls ≤ 2) && decide (1 ≤ t.budget) && decide (t.budget ≤ t.deadline * 1200) && (sup || (decide (1 ≤ t.wcet) && decide (t.wcet ≤ t.budget))) &&
  (t.cls == 0 || decide (t.deadline ≤ if t.cls = 1 then 1500 else 15000))

/-- The history ring in MiB (R293, R333). -/
def State.ringMiB (s : State) : Nat := if s.flag F.ACQ_CTRL_HEN then s.get F.ACQ_CTRL_HSIZE * 64 else 0

/-- POOL within its limits (R46, R212, R221, R237, R333, R361). -/
def State.poolOk (s : State) (d : Decl) : Bool :=
  d.insts.all (fun x =>
    decide (1 ≤ x.inst) && decide (x.inst ≤ 63) && x.tasks.all (fun t => !t.valid || taskOk x.supervisory t) &&
    decide (codeLen x + dataLen x ≤ 458752) && decide (x.ckpt ≤ 65536) && decide (initAt x ≤ dataLen x) &&
    x.rings.all (fun r => decide (r.1 < 256) && decide (6 ≤ r.2) && decide (r.2 ≤ 12)) && decide ((x.rings.map (fun r => r.1)).Nodup) &&
    decide (1 ≤ x.qMb) && decide (x.qMb ≤ 16) && decide (x.qQueues ≤ 31) && decide (x.qSems ≤ 255) && decide (x.tb < 4)) &&
  (List.range 64).all (fun i => s.inRange (F.MAR_IBOUND_SHMIN i) 0 256 && s.inRange (F.MAR_IBOUND_SHMAX i) 0 256 &&
    s.inRange (F.MAR_IGUARD_GUARD i) 10 40) &&
  decide ((d.insts.map (fun x => x.inst)).Nodup) &&
  decide (sumN (d.insts.map (fun x => x.qDram)) + 512 + s.ringMiB ≤ 8192) &&
  decide (sumN (d.insts.map (fun x => x.qQueues)) ≤ 32) && decide (sumN (d.insts.map (fun x => x.qSems)) ≤ 256) &&
  decide (sumN (d.insts.map (fun x => x.ckpt)) + 32768 + (match d.prog with
    | none => 0
    | some p => p.retLen) ≤ 2516582) &&
  (List.range 32).all (fun q => s.inRange (F.DMX_QCRBASE_LDEPTH q) 4 12) &&
  s.inRange F.MAR_CTRL_CAP 50 95 && s.inRange F.MAR_CTRL_PERIOD 10 250 && s.inRange F.MAR_CTRL_BACKOFF 1 255 &&
  s.inRange F.MAR_CTRL2_CUTOFF 1 255 && s.inRange F.MAR_CTRL2_ABNMAX 1 15

/-- Valid GOOSE templates and valid SV templates. -/
def State.gooseValid (s : State) : List Nat := (List.range 512).filter (fun t => s.flag (F.PUB_GCFG_VALID t))
def State.svValid (s : State) : List Nat := (List.range 64).filter (fun t => s.flag (F.PUB_SCFG_VALID t))

/-- Curves within their ranges (R262). -/
def State.curvesOk (s : State) : Bool :=
  (List.range 64).all (fun c =>
    s.inRange (F.PUB_CURVE_MININT c) 250 1000000 && s.inRange (F.PUB_CURVE_T0 c) 1 60000 &&
    decide (s.get (F.PUB_CURVE_MININT c) ≤ 1000 * s.get (F.PUB_CURVE_T0 c)))

/-- Templates within their ranges (R257 to R264). -/
def State.publishOk (s : State) : Bool :=
  s.gooseValid.all (fun t =>
    s.inRange (F.PUB_GCFG_OWNER t) 1 63 && s.inRange (F.PUB_GCFG_BUF t) 0 63 && s.inRange (F.PUB_GCFG_AUTH t) 0 2 &&
    s.inRange (F.PUB_GPORTS_MIRROR t) 0 2 && s.inRange (F.PUB_GDATA_ALEN t) 1 1400 && s.inRange (F.PUB_GDATA_NQ t) 0 32 &&
    s.get (F.PUB_GBUF_BUFOFS t) % 8 == 0 && (s.qslots t).all (fun q => decide (q < s.get (F.PUB_GDATA_ALEN t)))) &&
  s.svValid.all (fun t =>
    s.inRange (F.PUB_SCFG_NCH t) 1 32 && s.inRange (F.PUB_SCFG_NASDU t) 1 8 && s.inRange (F.PUB_SRATE_RATE t) 960 19200 &&
    s.inRange (F.PUB_SCFG_AUTH t) 0 2 && s.inRange (F.PUB_SPORTS_MIRROR t) 0 2)

/-- The valid recorders. -/
def State.recsValid (s : State) : List Nat := (List.range 16).filter (fun r => s.flag (F.ACQ_RCFG_VALID r))

/-- Recorders, masks and history within their ranges (R281 to R286, R293, R303). -/
def State.recordersOk (s : State) : Bool :=
  s.recsValid.all (fun r =>
    s.inRange (F.ACQ_RCFG_OWNER r) 1 63 && s.inRange (F.ACQ_RCFG_NCH r) 1 256 && s.inRange (F.ACQ_RTIME_PRE r) 0 2000 &&
    s.inRange (F.ACQ_RTIME_POST r) 0 60000 && s.inRange (F.ACQ_RHOLD_HTIME r) 0 60000) &&
  (List.range 64).all (fun m => s.get (F.ACQ_MCFG_ACTION m) == 0 ||
    (s.inRange (F.ACQ_MCFG_ACTION m) 1 2 && s.inRange (F.ACQ_MCFG_MINVIOL m) 1 255)) &&
  s.inRange F.ACQ_CTRL_HSIZE 0 96

/-- Halts within their ranges (R323, R330). -/
def State.haltsOk (s : State) : Bool :=
  s.inRange F.HLX_CTRL_REPLYWIN 50 10000 && s.inRange F.HLX_CTRL_DROPCNT 1 255 && s.inRange F.HLX_CTRL_RETCNT 1 15 &&
  s.validHalts.all (fun h => s.inRange (F.HLX_HCFG_WDMISS h) 3 255)

/-- REDUNDANCY within its encodings; the lease is checked at activation (R385, R400). -/
def State.tokOk (s : State) : Bool :=
  s.inRange F.TOK_CTRL_MODE 0 2 && s.inRange F.TOK_CTRL_POSITION 0 2 && s.inRange F.TOK_CTRL_GUARD 1 255 &&
  s.inRange F.TOK_CTRL_LINKLAT 1 255

/-- WCET of a program at most 80 % of its cycle, L × 1,200 clocks (R314). -/
def progFits (cycleUs : Nat) (p : Prog) : Bool := decide (100 * p.wcet ≤ 80 * (p.ratio * cycleUs * 1200))

/-- The sections in order of their types, each with its verdict. -/
def failing (l : List (Nat × Bool)) : Option Nat := (l.find? (fun e => !e.2)).map (fun e => e.1)

/-- Check 13 after parsing: the first section with a value or a count out of range. -/
def State.rangeFail (s : State) (d : Decl) : Option Nat :=
  failing [(0x01, s.portsOk d), (0x02, s.basesOk),
    (0x03, d.active.all (fun p => decide (p < 24)) && d.spare.all (fun p => decide (p < 24)) && decide ((d.active ++ d.spare).Nodup)),
    (0x04, s.poolOk d), (0x05, s.streamsOk), (0x06, s.filtersOk), (0x08, s.fgroupsOk),
    (0x09, s.inRange F.TTB_CYCLE 125 1000000 && paramsOk (s.bank 0) && paramsOk (s.bank 1)), (0x0A, s.publishOk),
    (0x0B, s.curvesOk), (0x0C, match d.prog with
      | none => true
      | some p => progFits (s.get F.TTB_CYCLE) p),
    (0x0D, s.haltsOk), (0x0E, s.recordersOk), (0x0F, s.tokOk)]

/-! ## Checks 15 and 16 -/

/-- The instances with a class A task. -/
def classA (d : Decl) : List Nat :=
  (d.insts.filter (fun x => x.tasks.any (fun t => t.valid && t.cls == 0))).map (fun x => x.inst)

/-- The groups that feed an instance: those of the lanes that write a ring of it. -/
def State.groupsOf (s : State) (i : Nat) : List Nat :=
  ((s.validLanes.filter (fun l => (s.ringsOf l).any (fun r => r.1 == i))).map (fun l => s.get (F.FCH_LCFG_FG l))).eraseDups

/-- The departures of a bank: (ns after the boundary, slot). -/
def markTimes (l : List SlotV) (g : Nat) : List Nat :=
  (departures l (fun v => v.action == 0x03 && (unitsOf v).contains (0x300 + g))).map (fun x => x.1)

/-- Every launch of a class A task comes 1 µs to 2 µs after a mark of every group that feeds it (R231). -/
def State.launchesOk (s : State) (d : Decl) (l : List SlotV) : Bool :=
  (validSlots l).all (fun e =>
    let v := e.2
    let i := v.param % 64
    let t := v.param / 256 % 256
    let isA := match d.insts.find? (fun x => x.inst == i) with
      | none => false
      | some x => match x.tasks[t]? with
        | none => false
        | some k => k.valid && k.cls == 0
    v.action != 0x01 || !isA ||
    (s.groupsOf i).all (fun g =>
      let ms := markTimes l g
      (List.range (v.rept + 1)).all (fun k => ms.any (fun m => decide (m + 1000 ≤ depTime v k) && decide (depTime v k ≤ m + 2000)))))

/-- The class A constraints of R221, R231 and R93: the section that breaks one. -/
def State.classAFail (s : State) (d : Decl) : Option Nat :=
  let as := classA d
  let lanes := s.validLanes.filter (fun l => (s.ringsOf l).any (fun r => as.contains r.1))
  failing [
    (0x04, d.insts.all (fun x => x.tasks.all (fun t =>
      !t.valid || t.cls != 0 || (decide (t.deadline ≤ 100) && decide (t.budget ≤ 120000))))),
    (0x05, lanes.all (fun l => s.flag (F.SVI_SUB_URGENT (s.get (F.FCH_LCFG_STREAM l)))) &&
      decide ((s.subs.filter (fun i => s.flag (F.SVI_SUB_URGENT i))).length ≤ 48)),
    (0x08, as.all (fun i => (s.groupsOf i).all (fun g => s.get (F.FCH_FG_HOLD_LAG g) == 20))),
    (0x09, s.launchesOk d (s.bank 0) && s.launchesOk d (s.bank 1)),
    (0x01, (s.gooseValid.filter (fun t => s.flag (F.PUB_GCFG_URGENT t))).all (fun t =>
      (maskBits 16 (s.get (F.PUB_GPORTS_PORTS t))).all (fun p =>
        !s.flag (F.PRT_CTRL_PAUSE_EN p) && decide (2 ≤ s.get (F.PRT_CTRL_MODE p)))))]

/-- The switch-over gap in ms, rounded up (R395): (LEASE + GUARD)(1 + 200 ppm) + LINKLAT + 18 ms. -/
def State.gapMs (s : State) : Nat :=
  cdiv ((s.leaseNs + s.guardNs) * 1000200 + (s.linklatNs + 18000000) * 1000000) (1000000 * 1000000)

/-- Check 16: TALMIN ≥ G + T0 for every GOOSE template in a redundant mode (R395). -/
def State.talOk (s : State) : Bool :=
  !s.redundant || s.gooseValid.all (fun t =>
    decide (s.gapMs + s.get (F.PUB_CURVE_T0 (s.get (F.PUB_GDATA_CURVE t))) ≤ s.get (F.PUB_GTAL_TALMIN t)))

end Sys2Proof.Machine
end

