-- ==== Sys2Proof/Machine/Resets.lean ====
section
/-!
DEFINITION. What each reset kind does to the state (R12, R53, R56, R59, R76): the register fields by their Cleared by column, the rest by
the retention table. Readings and choices are in log entry 39.
-/
namespace Sys2Proof.Machine

/-! ## Status (R36) -/

/-- A register word as little-endian bytes. -/
def State.regBytes (s : State) (f : Fld) : Bytes := leBytes 4 (s.loadWord f.addr).toNat

/-- The payload of the status message. -/
def State.statusBytes (s : State) : Bytes :=
  s.regBytes F.PWR_STAGE ++ s.regBytes F.PWR_STATE ++ s.regBytes F.PWR_CAUSE_KIND ++ s.regBytes F.XNG_STATUS_UP ++
  s.regBytes F.RBK_STATUS_ACTIVE ++ s.regBytes F.RBK_SERIAL ++ s.activeDigest ++
  (if s.flag F.TTB_STATUS_RUN then s.regBytes F.TTB_CYCNUM_LO_CYCLO else zeros 4) ++ zeros 4

/-- Send it. -/
def State.sendStatus (s : State) : State := s.send (stMsg 1 0x0001 s.statusBytes)

/-- A change of PWR_STAGE since `old` is reported at once. -/
def State.reportStage (s old : State) : State :=
  if s.loadWord F.PWR_STAGE.addr = old.loadWord F.PWR_STAGE.addr then s else s.sendStatus

/-! ## The store (R43) -/

/-- The capacitance of the store in µF. -/
def storeUf : Nat := 500 + Config.hucCapacitor

/-- The hold-up load in mW (R44: at most 40 W). -/
def holdUpLoad : Nat := Nat.min 40000 Config.holdUpLoad

/-- The store's voltage in mV now: in Hold-up the load draws constant power, V² = V₀² − 2 P t / C, down to the floor of 44 V; otherwise
0.5 A charge it, V = V₀ + 0.5 A t / C, up to 60 V. -/
def State.storeLevel (s : State) : Nat :=
  let v := s.power.store
  let d := s.now - s.power.storeAt
  if s.flag F.PWR_STATE_HOLDUP then Nat.max (Nat.min v 44000) (isqrt (v ^ 2 - 2 * holdUpLoad * d / storeUf))
  else Nat.min 60000 (v + d / (2 * storeUf))

/-- Show the store: its voltage in units of 50 mV, and whether it is at 58 V or more. -/
def State.showStore (s : State) : State :=
  (s.put F.PWR_STATE_STORE (s.storeLevel / 50)).putB F.PWR_STATE_HUC_OK (decide (58000 ≤ s.storeLevel))

/-- The store is at `v` mV now. -/
def State.storeIs (s : State) (v : Nat) : State := s.setPower { s.power with store := v, storeAt := s.now }

/-! ## The host die (R111, R405) -/

/-- The host-die pages of R111. -/
def hostAddr (a : Nat) : Bool := decide (0x03000000 ≤ a) && decide (a < 0x04000000)

/-- The host die resets: its pages take their reset values, its ports and local queue are empty, READY is low. In Hold-up it stays
suspended (R405). -/
def State.hostReset (s : State) : State :=
  let s := s.setRegs (s.regs.filter (fun e => !hostAddr (e.1 / 64)))
  let s := s.setPorts (s.ports.filter (fun e => decide (e.1 < 0x20)))
  s.setHost { HostS.init with resets := s.host.resets + 1, hlResets := s.host.hlResets,
                              suspended := s.host.suspended && s.flag F.PWR_STATE_HOLDUP }

/-- A reset notice, or READY = 0 in a status message, or the link going down: the host die drives READY low (R405); suspended in Hold-up it
holds the pin. -/
def State.hostNotReady (s : State) : State :=
  if s.host.suspended then s else s.setHost { s.host with ready := false }

/-! ## Kinds -/

/-- PWR_CAUSE.KIND (R62). -/
def kindCode : Kind → Nat
  | .p => 1 | .w => 2 | .m => 3 | .b => 4 | .i => 5

/-- Kind `k` is stronger than what is in progress, or as strong (R56). DESIGN CHOICE (log entry 40): a start-up that has stopped in a
failed stage (R50) is still the reset in progress; the manual does not say when a reset that never reaches READY ends. -/
def State.outranks (s : State) (k : Kind) : Bool := match s.power.kind with
  | none => true
  | some j => decide (kindCode k ≤ kindCode j)

/-- Write PWR_CAUSE. -/
def State.cause (s : State) (k : Kind) (src wdog : Nat) : State :=
  ((s.put F.PWR_CAUSE_KIND (kindCode k)).put F.PWR_CAUSE_SOURCE src).put F.PWR_CAUSE_WDOG wdog

/-! ## What a reset leaves (R59) -/

/-- Images of an instance: voided by P; by W those in DRAM are lost; kept by M and B. -/
def keepImages (k : Kind) (x : InstS) : InstS :=
  if k = .p then InstS.init
  else if k = .w then { InstS.init with mram := x.mram }
  else { InstS.init with mram := x.mram, staged := x.staged, prior := x.prior }

/-- The link after a P, W or M reset: SEQ numbers start again, what waited is lost but for the event records. An M reset leaves a link
that was down to its retries (R34). -/
def State.linkReset (s : State) (k : Kind) : State :=
  let l := s.link
  s.setLink { LinkS.init with evq := l.evq, evSince := l.evSince, order := l.order, mirror := l.mirror, line := l.line, wire := l.wire,
                              trained := l.trained && k == .m }

/-- A link-control message that the field end sends ahead of all other traffic (R35): it is on the line at once. -/
def State.notice (s : State) (op : Nat) (payload : Bytes) : State :=
  let c := s.ctx 0
  let s := s.setCtx 0 { c with next := c.next + 1 }
  s.setLink { s.link with line := some { seq := c.next, msg := stMsg 0 op payload, sent := true, resends := 0, again := false },
                          wire := (stMsg 0 op payload).octets c.next }

/-- The loader after a P, W or M reset: what MRAM holds. -/
def State.rbkReset (s : State) : State :=
  s.setRbk { RbkS.init with slotA := s.rbk.slotA, slotB := s.rbk.slotB, ptr := s.rbk.ptr, pending := s.rbk.pending }

/-- RETAIN after a reset: voided by P; W keeps what MRAM holds, M also what was staged in DRAM. -/
def State.lgeReset (s : State) (k : Kind) : State :=
  s.setLge (if k = .p then LgeS.init
    else if k = .w then { LgeS.init with retMram := s.lge.retMram }
    else { LgeS.init with retMram := s.lge.retMram, retStaged := s.lge.retStaged, retPrior := s.lge.retPrior })

/-- Field DRAM and TCMs: lost by P and W; by M the TCMs are zeroed. -/
def State.memReset (s : State) (k : Kind) : State :=
  if k = .m then s.zeroMem 0x20000000 0x21800000 else s.setMem []

/-- Time bases: lost by P and W, kept by M; the TIN receiver starts again at each (R112, R123). -/
def State.tbReset (s : State) (k : Kind) : State := (if k = .m then s else s.setTbs []).setTin TinS.init

/-- Acquisition after a P, W or M reset: M keeps field DRAM, so the history, the blocks of the recorders and the old exports (R59). -/
def State.acqReset (s : State) (k : Kind) : State :=
  let kept := if k = .m then
      { AcqS.init with history := s.acq.history, blockNo := s.acq.blockNo, oldExp := s.acq.oldExp,
                       recs := Sp.mapv RecS.init (fun x => { RecS.init with blocks := x.blocks }) s.acq.recs }
    else AcqS.init
  s.setAcq { kept with page := s.acq.page }

/-- The units whose records start again. -/
def State.unitsReset (s : State) (k : Kind) : State :=
  let s := s.setPorts (s.ports.filter (fun e => decide (0x20 ≤ e.1)))
  let s := (s.setTrips []).setTtb TtbS.init
  let s := ((s.setSvi SviS.init).setFch FchS.init).setPfs []
  let s := ((s.setMar MarS.init).setPub PubS.init).acqReset k
  let s := (s.setHlx HlxS.init).setIns { InsS.init with insts := Sp.mapv InstS.init (keepImages k) s.ins.insts }
  s.setTok TokS.init

/-- Supply state after a reset: what does not depend on the start-up. -/
def State.powerReset (s : State) (k : Kind) : State :=
  let p := s.power
  s.setPower { PowerS.init with powered := true, vin := p.vin, store := p.store, storeAt := p.storeAt, kind := some k, rstHeld := p.rstHeld, stopMarker := p.stopMarker,
                                ckptDigest := if k = .p then none else p.ckptDigest, voided := if k = .p then false else p.voided,
                                wdEvent := p.wdEvent }

/-- The registers after a reset; VIN and the store are measured again, and Hold-up goes on. -/
def State.regsReset (s : State) (k : Kind) : State :=
  let h := s.get F.PWR_STATE_HOLDUP
  let s := s.clearKind k
  let s := ((s.put F.PWR_STATE_VIN (s.power.vin / 50)).put F.PWR_STATE_HOLDUP h).showStore
  s.setPower { s.power with paused := h != 0 }

/-- A P, W or M reset begins (R53): the drives open, the first stage starts. M starts at stage 0x02. The host die drives READY low on the
notice, or as the link goes down. A load in progress is abandoned with
code 0x13 by M (R80). -/
def State.beginReset (s : State) (k : Kind) (src wdog : Nat) : State :=
  let s := s.settleWrites.rootCut
  let loading := s.get F.RBK_STATUS_LOADST == 1 || s.get F.RBK_STATUS_LOADST == 2
  let s := if s.linkUp ∧ k ≠ .p then s.notice 0x0012 [BitVec.ofNat 8 (kindCode k), BitVec.ofNat 8 src, 0, 0] else s
  let s := s.hostNotReady
  let s := ((s.openTrip 0).openTrip 1)
  let s := (s.powerReset k).regsReset k
  let s := (((s.linkReset k).rbkReset).lgeReset k).memReset k
  let s := (((s.tbReset k).unitsReset k).vaultReset).cause k src wdog
  let s := if k = .m ∧ loading then ((s.put F.RBK_FAIL_CODE 0x13).put F.RBK_FAIL_SLOT (1 - s.rbk.ptr)).raise 0x1502 0x13 else s
  let s := if k = .m then s.put F.PWR_STAGE 2 else s
  s.driveTrips

/-! ## B (R75, R76) -/

/-- Running channels finish, queued descriptors are returned as aborted by reset. -/
def State.dmaB (s : State) : State :=
  let s := s.each allInsts State.fenceQueues
  let s := s.each (List.range 32) (fun s c => if (s.chan c).draining then s.endDesc c else s)
  s.each allInsts State.unfenceQueues

/-- Semaphores are released and marked broken, whoever holds them. -/
def State.semsB (s : State) : State :=
  s.each ((List.range 256).filter (fun n => s.get (F.INS_SEM_HOLDER n) != 0xFF)) State.semBreak

/-- What a B reset clears. It holds the drives, the ports, the time bases and the link. -/
def State.unitsB (s : State) : State :=
  let s := s.setTtb { TtbS.init with startAt := none }
  let s := (s.setSvi { SviS.init with dup := s.svi.dup, win := s.svi.win, count := s.svi.count, loadAt := s.svi.loadAt }).setFch FchS.init
  let s := ((s.setPfs []).setMar { MarS.init with alarmAt := s.mar.alarmAt }).setHlx HlxS.init
  let s := s.setAcq { s.acq with recs := [], openHist := [], conv := [], due := [], convCnt := [], masks := [] }
  let s := s.setTok { s.tok with mirrorCyc := 0, mirrorWhole := 0, prevImages := [], setGot := [], partial_ := [] }
  let s := s.setPub { PubS.init with
    goose := Sp.mapv GooseS.init (fun g => { GooseS.init with frames := g.frames }) s.pub.goose,
    sv := Sp.mapv SvTplS.init (fun g => { SvTplS.init with frames := g.frames }) s.pub.sv, pairSeq := s.pub.pairSeq }
  s.setIns { InsS.init with insts := Sp.mapv InstS.init (keepImages .b) s.ins.insts }

/-- A B reset begins: stage 0x08 only, a change of PWR_STAGE that is reported at once (R36). DESIGN CHOICE (log entry 39):
PWR_CAUSE.SOURCE is then 0; R62 codes SOURCE for P, W and M only. -/
def State.beginB (s₀ : State) : State :=
  let s := s₀
  let s := (s.setPower { s.power with kind := some .b }).setRbk { s.rbk with flushing := false, actWait := none }
  let s := (((s.shuntAbandon 3 false).recBReset).dmaB).semsB
  let s := ((s.clearKind .b).unitsB).showDrift
  let s := s.zeroMem 0x20000000 0x21800000
  ((((s.cause .b 0 0).put F.PWR_STAGE 8).put F.RBK_STATUS_LOADST 4).reportStage s₀).reportRedOf s₀

end Sys2Proof.Machine
end

