-- ==== Sys2Proof/Machine/Rulebook.lean ====
section
/-!
DEFINITION. The rulebook loader: verification (R68, R69, R73), what activation refuses (code 0x14), loading and replay (R78, R79, R83),
the rulebook-chunk messages (R72, R74) and amendments (R81 to R83). Readings and choices are in log entry 37.
-/
namespace Sys2Proof.Machine

/-! ## Slots (R71) -/

/-- Rulebook slot 0 A or 1 B. -/
def State.slotOf (s : State) (n : Nat) : Slot := if n = 0 then s.rbk.slotA else s.rbk.slotB

/-- Store a slot. -/
def State.setSlot (s : State) (n : Nat) (v : Slot) : State :=
  s.setRbk (if n = 0 then { s.rbk with slotA := v } else { s.rbk with slotB := v })

/-- The slot that loading goes to. -/
def State.loadSlot (s : State) : Nat := 1 - s.rbk.ptr

/-- Show what MRAM holds of the slots (R84). -/
def State.showSlots (s : State) : State :=
  (((s.put F.RBK_STATUS_ACTIVE s.rbk.ptr).putB F.RBK_STATUS_VALID_A s.rbk.slotA.valid).putB F.RBK_STATUS_VALID_B
    s.rbk.slotB.valid).putB F.RBK_STATUS_PENDING s.rbk.pending.isSome

/-- Bytes that a journal takes: each record with its CRC. DESIGN CHOICE (log entry 37): the manual does not say what a record takes of the
4 MiB; the model counts its bytes and 4 more for the CRC that R83 stores with it, and JUSE shows them rounded up to KiB. -/
def journalBytes (l : List JRec) : Nat := sumN (l.map (fun r => r.body.length + 4))

/-- Show the use of the active slot's journal. -/
def State.showJournal (s : State) : State := s.put F.RBK_AMD_STAT_JUSE (cdiv (journalBytes (s.slotOf s.rbk.ptr).journal) 1024)

/-- Write RBK_FAIL. -/
def State.failCode (s : State) (code slot sect : Nat) : State :=
  ((s.put F.RBK_FAIL_CODE code).put F.RBK_FAIL_SLOT slot).put F.RBK_FAIL_SECT sect

/-! ## Verification (R68, R69, R73) -/

/-- What verification finds: the failure code and the section concerned, or what the rulebook declares. -/
structure Verdict where
  code : Nat
  sect : Nat
  decl : Option Decl

/-- The plaintext body of an image, or the code of checks 7 to 9. -/
def State.plainBody (s : State) (b : Bytes) : Nat × Bytes :=
  if !imgEnc b then (0, imgBody b)
  else if keyStatus (s.akey (imgKeyslot b)) useWrap false [0] ≠ 0 then (0x07, [])
  else match Config.kwUnwrap (s.keyBytes (imgKeyslot b)) (slice b 48 40) with
    | none => (0x08, [])
    | some k =>
      let key := beBytes 32 k.toNat
      let iv := slice b 32 12
      if gcmTag key iv (b.take 88) (imgBody b) = slice b 88 16 then (0, gcmCrypt key iv (imgBody b)) else (0x09, [])

/-- The first section of a body whose parse fails. -/
def unparsed (body : Bytes) (l : List Sect) : Option Sect :=
  l.find? (fun x => (sectDecl x.type x.sver (sectBody body x)).isNone)

/-- Checks 10 to 17 on a plaintext body. -/
def State.verifyBody (s : State) (n : Nat) (body : Bytes) : Verdict :=
  let l := sections n body
  let cross := match l.find? (fun x => x.type == 0x10) with
    | none => []
    | some x => sectBody body x
  match tableFail n body.length l with
  | some t => ⟨0x0A, t, none⟩
  | none => match l.find? (fun x => (crc32 (sectBody body x)).toNat != x.crc) with
    | some x => ⟨0x0B, x.type, none⟩
    | none => match requiredTypes.find? (fun t => !l.any (fun x => x.type == t)) with
      | some t => ⟨0x0C, t, none⟩
      | none => match unparsed body l, declOf body l with
        | some x, _ => ⟨0x0D, x.type, none⟩
        | none, none => ⟨0x0D, 0, none⟩
        | none, some d =>
          let z := s.scratch d
          match z.rangeFail d with
          | some t => ⟨0x0D, t, none⟩
          | none =>
            if d.spare.isEmpty then ⟨0x0E, 0x0003, none⟩
            else match z.classAFail d with
              | some t => ⟨0x0F, t, none⟩
              | none =>
                if !z.talOk then ⟨0x10, 0x000A, none⟩
                else if !crossingOk cross then ⟨0x11, 0x0010, none⟩
                else ⟨0, 0, some d⟩

/-- Verify an image of which `rx` bytes were received against the TOTLEN of OPEN. -/
def State.verify (s : State) (b : Bytes) (rx openLen : Nat) : Verdict :=
  let hf := headerFail rx openLen b
  if hf ≠ 0 then ⟨hf, 0, none⟩
  else match s.anchor (imgAnchor b) with
    | none => ⟨0x05, 0, none⟩
    | some k =>
      if !Config.ecdsaOk k (imgDigest b) (imgSig b) then ⟨0x06, 0, none⟩
      else
        let p := s.plainBody b
        if p.1 ≠ 0 then ⟨p.1, 0, none⟩ else s.verifyBody (imgNsect b) p.2

/-! ## What activation refuses with code 0x14 -/

/-- The exact-match table holds every address it needs, none with two destinations (R91). -/
def State.exmOk (z : State) : Bool :=
  let on := (List.range 1024).filter (fun i => z.flag (F.PRT_EXM_VALID i))
  let addr := fun (i : Nat) => z.get (F.PRT_EXM_ADDR_LO i) + 2 ^ 32 * z.get (F.PRT_EXM_ADDR_HI i)
  z.fillExm.2 && on.all (fun i => on.all (fun j => addr i != addr j || z.get (F.PRT_EXM_DEST i) == z.get (F.PRT_EXM_DEST j)))

/-- The port addresses (R108): individual, equal inside a pair, else different. -/
def State.addrsOk (z : State) : Bool :=
  let on := (List.range 18).filter (fun p => z.get (F.PRT_CTRL_MODE p) != 0)
  let mac := fun (p : Nat) => leNat (z.macOfPort p)
  on.all (fun p => mac p != 0 && !bit (mac p) 0 && (p ≥ 16 || z.get (F.PRT_CTRL_PAIR p) == 0 || (z.pairPeer p).isSome)) &&
  on.all (fun p => on.all (fun q => p == q || mac p != mac q || z.pairPeer p == some q))

/-- A base follows leaders without end (R115). -/
def State.loops (z : State) : Nat → Nat → Bool
  | 0, _ => true
  | n + 1, b => z.get (F.TSU_TB_CTRL_SRC b) == 3 && State.loops z n (z.get (F.TSU_TB_CTRL_LEADER b))

/-- The values of a base under PTP lie within its profile (R119). -/
def State.profileOk (z : State) (b : Nat) : Bool :=
  let within := fun (f : Fld) (lo hi : Int) => decide (lo ≤ z.getI f) && decide (z.getI f ≤ hi)
  z.get (F.TSU_TB_CTRL_SRC b) != 1 ||
  (within (F.TSU_TB_PTPINT_LOGSYNC b) (-4) 1 && within (F.TSU_TB_PTPINT_LOGANN b) (-3) 3 &&
    within (F.TSU_TB_PTPINT_LOGPDLY b) (-4) 5 && z.inRange (F.TSU_TB_PTPINT_ANNTMO b) 2 255 &&
    (z.get (F.TSU_TB_PTP_PROFILE b) == 0 || z.flag (F.TSU_TB_PTP_P2P b)))

/-- TIMEBASES (R115, R119 to R121). A transparent-clock pair is two PB ports that name each other, with one TCMODE and one STAMPTB. -/
def State.timesOk (z : State) : Bool :=
  let ports := fun (b : Nat) => z.get (F.TSU_TB_PTPPORTS_PORTS b)
  (List.range 4).all (fun b => !z.loops 5 b && z.profileOk b && (List.range 4).all (fun c => b == c || (ports b &&& ports c) == 0)) &&
  (List.range 18).all (fun p => !z.flag (F.TSU_PORT_CTRL_TCEN p) ||
    (let q := z.get (F.TSU_PORT_CTRL_TCPEER p)
     decide (p < 16) && decide (q < 16) && q != p && z.flag (F.TSU_PORT_CTRL_TCEN q) && z.get (F.TSU_PORT_CTRL_TCPEER q) == p &&
     z.get (F.TSU_PORT_CTRL_TCMODE p) == z.get (F.TSU_PORT_CTRL_TCMODE q) &&
     z.get (F.TSU_PORT_CTRL_STAMPTB p) == z.get (F.TSU_PORT_CTRL_STAMPTB q)))

/-- Consecutive renewal departures of a bank lie at most LEASE / 4 apart (R386); without one there is none to count from. -/
def State.renewalsOk (z : State) (l : List SlotV) : Bool :=
  let r := departures l (fun v => v.action == 0x0B)
  !z.redundant || (!r.isEmpty && (gaps z.cycleNs r).all (fun g => decide (4 * g.1 ≤ z.leaseNs)))

/-- A bank holds one logic-cycle slot, without a train (R306). -/
def logicSlotOk (l : List SlotV) : Bool := match (validSlots l).filter (fun e => e.2.action == 0x07) with
  | [e] => e.2.rept == 0
  | _ => false

/-- TIMETABLE (R139, R143, R150, R152, R306, R386): the cycle and both initial banks. -/
def State.tableTimesOk (z : State) : Bool :=
  1000000 % z.get F.TTB_CYCLE == 0 && [0, 1].all (fun b =>
    (checkBank z.cycleNs (z.bank b)).isNone && logicSlotOk (z.bank b) && z.renewalsOk (z.bank b))

/-- The key of a subscription (R158). -/
def State.subKey (z : State) (i : Nat) : List Nat :=
  if z.get (F.SVI_SUB_KIND i) = 2 then [2, z.get (F.SVI_SUB_FTRX i)]
  else [0, z.get (F.SVI_SUB_DA_LO i), z.get (F.SVI_SUB_DA_HI i), z.get (F.SVI_SUB_APPID i), z.get (F.SVI_SUB_SVIDLEN i),
        z.get (F.SVI_SUB_SVIDCRC i), if z.flag (F.SVI_SUB_VIDCHK i) then z.get (F.SVI_SUB_VID i) + 1 else 0]

/-- Every key once. -/
def State.keysOk (z : State) : Bool := decide ((z.subs.map z.subKey).Nodup)

/-- Lanes against their groups and streams (R180). -/
def State.lanesOk (z : State) : Bool :=
  z.validLanes.all (fun l =>
    let g := z.get (F.FCH_LCFG_FG l)
    let tb := z.get (F.FCH_FG_CTRL_TB g)
    let ratio := z.get (F.FCH_LCIC_RATIO l)
    z.get (F.SVI_SUB_TB (z.get (F.FCH_LCFG_STREAM l))) == tb &&
    (if z.fgMode g = 3 then decide (z.get (F.FCH_FG_DCRATE g) * ratio ≤ z.laneRate l)
     else decide (z.fgN g * z.get (F.FCH_FG_RANGE_FMAX g) * ratio ≤ 100 * z.laneRate l)))

/-- Reference lanes belong to their group (R180). -/
def State.refsOk (z : State) : Bool :=
  (List.range 64).all (fun g => (z.refLanes g).all (fun l => z.flag (F.FCH_LCFG_VALID l) && z.get (F.FCH_LCFG_FG l) == g))

/-- The owner is an instance of class S. -/
def isS (d : Decl) (i : Nat) : Bool := d.insts.any (fun x => x.inst == i && x.supervisory)

/-- Releases of an SV template in a cycle of a bank: those of the slots that name it (R144). -/
def releasesOf (l : List SlotV) (v : Nat) : Nat :=
  (departures l (fun x => x.action == 0x09 && (x.units 32).contains v)).length

/-- PUBLISH (R256, R261, R269). -/
def State.templatesOk (z : State) (d : Decl) : Bool :=
  let gs := z.gooseValid
  decide ((gs.map (fun t => (z.get (F.PUB_GCFG_OWNER t), z.get (F.PUB_GCFG_BUF t)))).Nodup) &&
  gs.all (fun t => decide (z.get (F.PUB_GPRE_PRELEN t) + z.get (F.PUB_GDATA_ALEN t) + 34 ≤ 1528)) &&
  decide (((gs.filter (fun t => z.flag (F.PUB_GCFG_URGENT t))).map (fun t => z.get (F.PUB_GCFG_OWNER t))).Nodup) &&
  (!z.twinMode ||
    (gs.all (fun t => !z.flag (F.PUB_GCFG_TWIN t) || !isS d (z.get (F.PUB_GCFG_OWNER t))) &&
      decide (1000 ≤ z.get F.TTB_CYCLE) &&
      z.svValid.all (fun v => !z.flag (F.PUB_SCFG_TWIN v) || [0, 1].all (fun b => decide (releasesOf (z.bank b) v ≤ 64)))))

/-- The length of a logic cycle in µs (R306). -/
def lgCycleOk (cycleUs : Nat) (p : Prog) : Bool := decide (1000 ≤ p.ratio * cycleUs) && decide (p.ratio * cycleUs ≤ 100000)

/-- LOGIC (R306). -/
def State.logicOk (z : State) (d : Decl) : Bool := match d.prog with
  | none => true
  | some p => lgCycleOk (z.get F.TTB_CYCLE) p

/-- The channels of a recorder against their sources (R280). -/
def State.chansOk (z : State) (r : Nat) : Bool :=
  (z.recChans r).all (fun c =>
    let k := z.get (F.ACQ_CH_KIND r c)
    let id := z.get (F.ACQ_CH_ID r c)
    let tb := z.get (F.ACQ_RCFG_TB r)
    if k = 1 then z.flag (F.FCH_LCFG_VALID id) && z.get (F.FCH_FG_CTRL_TB (z.get (F.FCH_LCFG_FG id))) == tb &&
      (z.dests id).contains (0x8000 + 256 * r + c)
    else z.ttbTb == tb)

/-- Destination entries of lanes that name a recorder channel which does not name the lane (R280). -/
def State.laneDestsOk (z : State) : Bool :=
  z.validLanes.all (fun l => (z.dests l).all (fun v =>
    let r := v / 256 % 16
    let c := v % 256
    v / 2 ^ 14 != 2 || (z.flag (F.ACQ_RCFG_VALID r) && decide (c < z.get (F.ACQ_RCFG_NCH r)) &&
      z.get (F.ACQ_CH_KIND r c) == 1 && z.get (F.ACQ_CH_ID r c) == l)))

/-- 100 × `ratio` × TTB_CYCLE × the rate of a channel (R281): N × FMAX or DCRATE, the conversions of the initial active bank, the logic
cycles of `ratio` timetable cycles each. -/
def State.chanRate (z : State) (ratio r c : Nat) : Nat :=
  let id := z.get (F.ACQ_CH_ID r c)
  let cyc := z.get F.TTB_CYCLE
  if z.get (F.ACQ_CH_KIND r c) = 1 then
    let g := z.get (F.FCH_LCFG_FG id)
    ratio * cyc * (if z.fgMode g = 3 then 100 * z.get (F.FCH_FG_DCRATE g) else z.fgN g * z.get (F.FCH_FG_RANGE_FMAX g))
  else if z.get (F.ACQ_CH_KIND r c) = 2 then
    ratio * 100000000 * (departures (z.bank z.activeBank) (fun v => v.action == 0x02 && bit v.target id)).length
  else 100000000

/-- The buffer of a recorder covers PRE at 21 bytes a sample (R281). -/
def State.bufferOk (z : State) (d : Decl) (r : Nat) : Bool :=
  let ratio := match d.prog with
    | none => 1
    | some p => Nat.max 1 p.ratio
  decide (21 * z.get (F.ACQ_RTIME_PRE r) * sumN ((z.recChans r).map (z.chanRate ratio r)) ≤
    z.get (F.ACQ_RBUF_SIZE r) * 65536 * 100000 * ratio * z.get F.TTB_CYCLE)

/-- A mask tests a lane channel of an AC group (R286). -/
def State.maskOk (z : State) (m : Nat) : Bool :=
  let r := z.get (F.ACQ_MCFG_REC m)
  let c := z.get (F.ACQ_MCFG_CHAN m)
  let g := z.get (F.FCH_LCFG_FG (z.get (F.ACQ_CH_ID r c)))
  z.get (F.ACQ_MCFG_ACTION m) == 0 ||
  (z.flag (F.ACQ_RCFG_VALID r) && decide (c < z.get (F.ACQ_RCFG_NCH r)) && z.get (F.ACQ_CH_KIND r c) == 1 &&
    (z.fgMode g == 1 || z.fgMode g == 2))

/-- The heaps, in MiB, and the buffers lie below the history ring (R293). -/
def State.buffersFit (z : State) : Bool :=
  decide (512 + cdiv (sumN (z.recsValid.map (fun r => z.get (F.ACQ_RBUF_SIZE r)))) 16 +
    sumN (allInsts.map (fun i => z.get (F.INS_HEAP_SIZE i))) + z.ringMiB ≤ 8192)

/-- RECORDERS (R280, R281, R286, R293). -/
def State.recsOk (z : State) (d : Decl) : Bool :=
  z.recsValid.all (fun r => z.chansOk r && z.bufferOk d r) && z.laneDestsOk && (List.range 64).all z.maskOk && z.buffersFit

/-- REDUNDANCY (R385): LEASE, and GUARD ≥ 2 × 200 × 10⁻⁶ × LEASE + LINKLAT. -/
def State.leaseOk (z : State) : Bool :=
  z.inRange F.TOK_CTRL_LEASE 2 100 && decide (4 * z.leaseNs + 10000 * z.linklatNs ≤ 10000 * z.guardNs)

/-- POOL (R243, R391): every instance has a place, and the stream of checkpoints its room. -/
def State.placesOk (z : State) : Bool :=
  (!z.redundant || decide (sumN (z.pInstances.map (fun x => x.ckpt)) + 32768 ≤ 4000000)) && z.placeAll.isSome

/-- The section that a subsystem refuses. -/
def State.activationFail (z : State) (d : Decl) : Option Nat :=
  failing [(0x01, z.exmOk && z.addrsOk), (0x02, z.timesOk), (0x09, z.tableTimesOk), (0x05, z.keysOk), (0x06, z.lanesOk),
    (0x08, z.refsOk), (0x0A, z.templatesOk d), (0x0C, z.logicOk d), (0x0E, z.recsOk d), (0x0F, z.leaseOk), (0x04, z.placesOk)]

/-! ## Amendments: contents and effects (R81, R83) -/

/-- The parts of an amendment record (R81). -/
structure Amd where
  base   : Bytes
  aseq   : Nat
  type   : Nat
  target : Nat
  flags  : Nat
  sver   : Nat
  body   : Bytes
  sig    : Bytes

/-- The parts of a record. -/
def amdOf (b : Bytes) : Amd :=
  { base := slice b 4 32, aseq := leAt b 36 4, type := leAt b 40 2, target := leAt b 42 2, flags := leAt b 44 2, sver := leAt b 46 2,
    body := slice b 64 (leAt b 48 4), sig := b.drop (b.length - 64) }

/-- The record has the layout of R81. -/
def amdShape (b : Bytes) : Bool :=
  leAt b 0 4 == 0x5A47414D && b.length == 128 + leAt b 48 4 && allZero (slice b 52 12) && decide (leAt b 44 2 < 2) &&
  (leAt b 40 2 == 0x0009 || leAt b 44 2 == 0) && decide (leAt b 42 2 < (if leAt b 40 2 = 0x0007 ∨ leAt b 40 2 = 0x0009 then 2 else 1))

/-- A program fits beside its exchange: INSTLEN / 19.2 GB/s + WCET ≤ 80 % of L (R314, R320). -/
def exchangeFits (cycleUs : Nat) (p : Prog) : Bool :=
  progFits cycleUs p && decide (100 * (p.instLen + 16 * p.wcet) ≤ 16 * 80 * (p.ratio * cycleUs * 1200))

/-- The register of a curve (R277). -/
def curveAddr (a : Nat) : Bool := decide (0x01701000 ≤ a) && decide (a < 0x01701200)

/-- The settings of a RETRANS amendment: the curves. -/
def curveSets (a : Amd) : Option (List (Nat × Word)) := match sectDecl 0x0B a.sver a.body with
  | none => none
  | some d => some (d.sets.filter (fun e => curveAddr e.1))

/-- The registers that RECORDERS sets, all but those of a history request (R294, R301). -/
def recordersAddr (a : Nat) : Bool := sectRegs 0x0E a && !(decide (0x01800008 ≤ a) && decide (a < 0x01800014))

/-- The settings that a RECORDERS amendment leaves: the section replaced (R81). -/
def State.recordersSet (s : State) (l : List (Nat × Word)) (p : Nat → Bool) : State :=
  (s.resetSets (fun a => recordersAddr a && p a)).setWords (l.filter (fun e => p e.1))

/-- The body of an amendment is valid for its owning subsystem (check 6 of R82). DESIGN CHOICE (log entry 37): SVER of a TIMETABLE amendment
is not looked at; the manual gives the layout of its body (R151) and no SVER for it. -/
def State.amdValid (s : State) (d : Decl) (a : Amd) : Bool :=
  if a.type = 0x0007 then
    match coefBankOf a.body with
    | none => false
    | some l => a.sver == 1 && s.validLanes.all (fun x => decide (s.get (F.FCH_LFIR_SET x) < l.length))
  else if a.type = 0x0009 then (match bankOf a.body with
    | none => false
    | some l => paramsOk l)
  else if a.type = 0x000B then
    match curveSets a with
    | none => false
    | some l => let z := (s.resetSets curveAddr).setWords l; z.curvesOk && z.talOk
  else if a.type = 0x000C then
    match progOf a.body with
    | none => false
    | some p => a.sver == 1 && lgCycleOk (s.get F.TTB_CYCLE) p && exchangeFits (s.get F.TTB_CYCLE) p
  else
    match sectDecl 0x0E a.sver a.body with
    | none => false
    | some x =>
      let z := s.recordersSet x.sets (fun _ => true)
      z.get F.ACQ_CTRL_HEN == s.get F.ACQ_CTRL_HEN && z.get F.ACQ_CTRL_HSIZE == s.get F.ACQ_CTRL_HSIZE && z.recordersOk && z.recsOk d

/-- The bank that an amendment names is in use or locked (check 5): a lane runs its old bank until its labels reach the switch, and in the fade after it (R187). -/
def State.amdTargetUsed (s : State) (a : Amd) : Bool :=
  if a.type = 0x0007 then
    a.target == s.get F.FCH_BANK_ACTIVE || s.validLanes.any (fun l => (s.lane l).bank == a.target || match (s.lane l).fade with
      | none => false
      | some f => f.2 == a.target)
  else if a.type = 0x0009 then s.bankLocked a.target
  else false

/-- Replace a coefficient bank. -/
def State.amdCoeff (s : State) (a : Amd) : State := match coefBankOf a.body with
  | none => s
  | some l => (s.setFch { s.fch with banks := [0, 1].map (fun b => if b = a.target then l else s.fch.banks.getD b []) })

/-- The declared cost of the lanes in million MAC/s (R203). -/
def State.showCost (s : State) : State := s.put F.FCH_LOAD_COST (cdiv s.chainCost (ratioUnit * 100000000))

/-- Replace the curves; a live template keeps its old one to its next state change (R83). -/
def State.amdCurves (s : State) (a : Amd) (live : Bool) : State := match curveSets a with
  | none => s
  | some l =>
    let s := if live then s.setRbk { s.rbk with oldCurve := s.gooseValid.map (fun t => (t, s.curve t)) } else s
    (s.resetSets curveAddr).setWords l

/-- The recorders of `busy` for which a setting must wait: that whose page or channel it is, or that a mask tests now or would test. -/
def State.waitsFor (s : State) (busy : List Nat) (sets : List (Nat × Word)) (a : Nat) : Option Nat := match maskAt a with
  | some m =>
    match busy.find? (fun r => s.maskOf r m) with
    | some r => some r
    | none => busy.find? (fun r => sets.any (fun e => e.1 == a && e.2.toNat % 16 == r))
  | none => busy.find? (fun r => recAddr r a)

/-- The words of a recorder's page and channels. -/
def State.recWords (s : State) (r : Nat) : List Word :=
  (List.range 16).map (fun i => s.loadWord (0x01800400 + 0x40 * r + 4 * i)) ++ (List.range 256).map (fun i => s.loadWord (0x01804000 + 0x400 * r + 4 * i))

/-- An idle or armed recorder has new settings (R83): its buffer is placed anew (R236). DEDUCED (log entry 37): one that was armed starts to fill
its ring again, since READY is to hold what its channels need (R282). -/
def State.recChanged (s : State) (r : Nat) : State :=
  let s := s.placeBuffer r
  if s.recState r = 0 then s else s.recTo r (ofBool (s.flag (F.ACQ_RCFG_VALID r)))

/-- Replace the settings of RECORDERS: at once, but for those of a recorder in POST or HELD, which takes them when its capture is over (R83). -/
def State.amdRecorders (s : State) (a : Amd) (live : Bool) : State := match sectDecl 0x0E a.sver a.body with
  | none => s
  | some d =>
    let busy := if live then (List.range 16).filter (fun r => decide (3 ≤ s.recState r)) else []
    let holder := s.waitsFor busy d.sets
    let of := fun (m : Nat) => holder (0x01800800 + 16 * m)
    let waits := busy.map (fun r =>
      ({ rcd := r, sets := d.sets.filter (fun e => holder e.1 == some r), envs := d.masks.filter (fun x => of x.1 == some r) } : RecAmd))
    let masks := s.acq.masks.filter (fun x => (of x.1).isSome) ++ d.masks.filter (fun x => (of x.1).isNone)
    let z := s.recordersSet d.sets (fun a => (holder a).isNone)
    let changed := (List.range 16).filter (fun r => !busy.contains r && z.recWords r != s.recWords r)
    let z := (z.setAcq { z.acq with masks := masks }).setRbk { z.rbk with recWait := waits }
    ((z.each changed State.recChanged).each (if changed.isEmpty then [] else allInsts) State.showUse).showDrift

/-- The rulebook's LOGIC section is the amendment's. -/
def State.progAmended (s : State) (a : Amd) : State := match s.rbk.active, progOf a.body with
  | some d, some p => s.setRbk { s.rbk with active := some { d with prog := some p } }
  | _, _ => s

/-- Apply an amendment to the running module (R83). -/
def State.amdApply (s : State) (a : Amd) : State :=
  if a.type = 0x0007 then (s.amdCoeff a).showCost
  else if a.type = 0x0009 then
    match bankOf a.body with
    | none => s
    | some l => let s := s.putBank a.target l; if a.flags = 1 then s.bankRequest else s
  else if a.type = 0x000B then s.amdCurves a true
  else if a.type = 0x000C then (s.setLge { s.lge with xchg := progOf a.body }).progAmended a
  else s.amdRecorders a true

/-- Apply an amendment in replay (R83): nothing runs, and a switch is done or not at once. -/
def State.amdReplay (s : State) (a : Amd) : State :=
  if a.type = 0x0007 then s.amdCoeff a
  else if a.type = 0x0009 then
    match bankOf a.body with
    | none => s
    | some l =>
      let s := s.putBank a.target l
      if a.flags = 1 ∧ (checkBank s.cycleNs (s.bank a.target)).isNone then s.put F.TTB_BANK_SEL_ACTIVE a.target else s
  else if a.type = 0x000B then s.amdCurves a false
  else if a.type = 0x000C then s.progAmended a
  else s.amdRecorders a false

/-- Replay a journal up to its first damaged record (R83). -/
def State.replay (s : State) (slot : Nat) : List JRec → State
  | [] => s
  | r :: rest =>
    if crc32 r.body = r.crc then
      let a := amdOf r.body
      State.replay ((s.amdReplay a).put F.RBK_AMD_SEQ_ASEQ a.aseq) slot rest
    else (s.failCode 0x15 slot 0).raise 0x1502 0x15

/-! ## Loading (R59, R76, R78, R112, R155, R243, R317) -/

/-- Source, leader, profile, role and ports of a base's declaration (R112). -/
def State.baseDecl (s : State) (b : Nat) : List Nat :=
  [s.get (F.TSU_TB_CTRL_SRC b), s.get (F.TSU_TB_CTRL_LEADER b), s.get (F.TSU_TB_PTP_PROFILE b), s.get (F.TSU_TB_PTP_ROLE b),
   s.get (F.TSU_TB_PTPPORTS_PORTS b)]

/-- A changed declaration (R112): LOCKED falls to HOLDOVER, a free base to FREE. -/
def State.baseChange (s : State) (b : Nat) : State :=
  let new := s.baseDecl b
  let same := (s.tb b).decl == new
  let s := s.setTb b { s.tb b with decl := new }
  if same then s
  else
    let s := s.setTb b { s.tb b with slave := none }
    let s := if s.tbState b = 2 then s.holdover b else s
    if s.get (F.TSU_TB_CTRL_SRC b) = 0 ∧ s.tbState b ≠ 0 then s.toFree b else s

/-- A follower keeps its leader's time, LOFS seconds on, its frequency and its state (R115). -/
def State.baseFollow (s : State) (b : Nat) : State :=
  if s.get (F.TSU_TB_CTRL_SRC b) = 3 then
    let l := s.get (F.TSU_TB_CTRL_LEADER b)
    let acc := ((s.tb l).acc : Int) + s.getI (F.TSU_TB_LOFS b) * 1000000000 * tbUnit
    let s := s.setTb b { s.tb b with acc := wrapTime acc }
    (s.putI (F.TSU_TB_FREQ b) (s.getI (F.TSU_TB_FREQ l))).put (F.TSU_TB_STATUS_STATE b) (s.tbState l)
  else s

/-- The bases take their declarations; chains of followers are at most three long. -/
def State.loadBases (s : State) : State :=
  let s := s.each (List.range 4) State.baseChange
  s.each [0, 1, 2] (fun s _ => s.each (List.range 4) State.baseFollow)

/-- The logic engine after a load (R76, R317): on a B reset a program that follows none has no instances to match, and starts cold. -/
def State.loadLogic (s : State) (k : Kind) : State :=
  let new := match s.rbk.active with
    | none => none
    | some d => d.prog
  match new with
  | none => s.lgLoad none none
  | some p =>
    if k = .b ∧ s.lge.prog.isSome then
      let s := s.setLge { s.lge with cyc := none, paused := false, cmd := 0, hold := false, step := false, skips := 0, restart := 0,
                                     since := 0, fresh := true }
      (s.lgExchange p).lgTo (ofBool p.runOnLoad)
    else s.lgLoad (some p) (if k = .p ∨ k = .b then none else s.newestRetain)

/-- Start an instance that the rulebook starts of itself: warm from an image of an equal declaration (R76), else cold. -/
def State.autoStart (s : State) (d : InstDecl) : State := match (s.inst d.inst).snapshot with
  | none => s.startCold d.inst
  | some x => if x.dhash = d.dhash then s.startWarm d.inst x else s.startCold d.inst

/-- The instances after a load: those of the rulebook declared, the others discarded; a standby starts none (R391). -/
def State.loadInsts (s : State) : State :=
  let s := s.declared.foldl (fun s d => s.showUse d.inst) s.showPool
  if s.standby then s else (s.declared.filter (fun d => d.autostart)).foldl State.autoStart s

/-- Instances known to the rulebook go to DECLARED, the others to ABSENT. -/
def State.declareInsts (s : State) : State :=
  let is := s.declared.map (fun d => d.inst)
  let s := s.each allInsts (fun s i =>
    let st := if is.contains i then 1 else 0
    if s.instState i = st then s else s.instTo i st)
  let s := s.setIns { s.ins with insts := s.ins.insts.filter (fun e => is.contains e.1) }
  s.setTok { s.tok with images := s.tok.images.filter (fun e => s.declared.any (fun d => d.inst == e.1 && d.dhash == e.2.dhash)) }

/-- The registers that show the active rulebook (R84). -/
def State.showActive (s : State) (img : Bytes) : State :=
  let s := (s.put F.RBK_SERIAL (imgSerial img)).putB F.RBK_STATUS_ENC (imgEnc img)
  s.each (List.range 8) (fun s i => s.put (F.RBK_DIGEST i) (leAt s.rbk.digest (4 * i) 4))

/-- Load a verified slot. -/
def State.install (s₀ : State) (slot : Nat) (k : Kind) (d : Decl) : State :=
  let s := s₀
  let img := (s.slotOf slot).image
  let s := s.setRbk { s.rbk with active := some d, digest := imgDigest img, anchorIdx := imgAnchor img, ptr := slot, pending := none,
                                 amd := [], oldCurve := [], recWait := [] }
  let s := ((s.showActive img).applyDecl d).put F.PWR_STAGE_CFG 1
  let s := s.declareInsts
  let s := ((s.placeAll.getD s).placeBuffers).placeHeaps
  let s := (s.put F.MAR_STATUS_PLACED 1).replay slot (s.slotOf slot).journal
  let s := (((s.showSlots).showJournal).showLoads).showAwait
  let s := ((s.showCost).put F.SVI_STATUS_NSUB s.subs.length).putB F.PUB_STATUS_TWIN s.twinMode
  let s := (s.loadBases).put F.TTB_STATUS_EPOCH (s.epoch s.ttbTb)
  let s := s.each (List.range 4) State.showSdinh
  let s := (s.loadLogic k).loadInsts
  let s := (((s.groupsStart).remapLanes).ingressWait).autoArm
  let s := ((s.showLats).showDrift).fzRefresh
  (s.setTtb { s.ttb with startAt := some (s.nextBoundary (s.tbNs s.ttbTb + 4)), lastAt := s.now }).reportRedOf s₀

/-- A slot fails (R79): it is marked invalid. -/
def State.slotFails (s : State) (slot code sect : Nat) : State :=
  let s := (s.setSlot slot { s.slotOf slot with valid := false }).showSlots
  ((s.failCode code slot sect).put F.RBK_STATUS_LOADST 0xF).raise 0x1502 code

/-- Verify a slot and load it (R78). Answers whether it is loaded. -/
def State.tryLoad (s : State) (slot : Nat) (k : Kind) : State × Bool :=
  if !(s.slotOf slot).valid then (s, false)
  else
    let img := (s.slotOf slot).image
    let v := s.verify img img.length (imgTotlen img)
    match v.decl with
    | none => (s.slotFails slot v.code v.sect, false)
    | some d => match (s.scratch d).activationFail d with
      | some t => (s.slotFails slot 0x14 t, false)
      | none => (s.install slot k d, true)

/-- No rulebook is active (R50, R112): the field functions stay idle, the bases run free. -/
def State.noRulebook (s : State) : State :=
  let s := s.setRbk { s.rbk with active := none, digest := [], pending := none, oldCurve := [], recWait := [] }
  let s := ((s.put F.PWR_STAGE_CFG 0).put F.RBK_SERIAL 0).put F.RBK_STATUS_ENC 0
  let s := s.each (List.range 8) (fun s i => s.put (F.RBK_DIGEST i) 0)
  let s := s.declareInsts
  let s := s.each (List.range 4) (fun s b => if s.tbState b = 0 then s else s.toFree b)
  (s.lgLoad none none).showSlots

/-- Stage 0x08 (R78, R79): the pending slot or the active one, then the other. Answers whether a rulebook is active. DESIGN CHOICE (log entry
37): LOADST is idle after a load that succeeds; the manual does not say when it leaves 0x4. -/
def State.loadStage (s : State) (k : Kind) : State × Bool :=
  let s := s.showSlots
  let n := s.rbk.pending.getD s.rbk.ptr
  let pend := s.rbk.pending.isSome
  let a := (s.put F.RBK_STATUS_LOADST 0).tryLoad n k
  if a.2 then (if pend then a.1.raise 0x1501 n else a.1, true)
  else
    let b := a.1.tryLoad (1 - n) k
    if b.2 then (b.1.raise 0x1503 (1 - n), true) else (b.1.noRulebook, false)

/-! ## Rulebook-chunk messages (R72 to R74, R77, R80) -/

/-- A message that the loader discards (R72). -/
def State.rbkRefuse (s : State) : State := s.count F.RBK_CNT_REFUSED

/-- Take a rulebook-chunk message of the manager. -/
def State.chunk (s : State) (h : Hdr) (act : State → State) : State :=
  s.receive 5 h (fun s => if h.src ≠ 0 then s.rbkRefuse else act s)

/-- OPEN: refused only while an activation is pending (R80). -/
def State.rbkOpen (s : State) (totlen : Nat) : State :=
  if s.rbk.pending.isSome then s.rbkRefuse
  else
    let s := s.setSlot s.loadSlot { image := [], valid := false, journal := [] }
    let s := ((s.setRbk { s.rbk with openLen := totlen }).showSlots).put F.RBK_RXLEN 0
    s.put F.RBK_STATUS_LOADST 1

/-- The load ends with a failure code. -/
def State.loadEnds (s : State) (code : Nat) : State :=
  ((s.failCode code s.loadSlot 0).put F.RBK_STATUS_LOADST 0xF).raise 0x1502 code

/-- DATA. A slot holds 16 MiB: what lies beyond is received and not kept. DESIGN CHOICE (log entry 37): RXLEN, of 25 bits, stays at 0x1FFFFFF
when more bytes are received. -/
def State.rbkData (s : State) (offset : Nat) (b : Bytes) : State :=
  if s.get F.RBK_STATUS_LOADST ≠ 1 then s.rbkRefuse
  else if offset ≠ s.get F.RBK_RXLEN then s.loadEnds 0x12
  else
    let x := s.slotOf s.loadSlot
    (s.setSlot s.loadSlot { x with image := (x.image ++ b).take 16777216 }).put F.RBK_RXLEN (Nat.min (offset + b.length) 0x1FFFFFF)

/-- OPEN_LOAD. -/
def execOpenLoad (h : Hdr) (totlen : Nat) (s : State) : Out State := .next (s.chunk h (fun s => s.rbkOpen totlen))

/-- DATA_CHUNK: 1 to 2,040 bytes, else malformed (R420). -/
def execDataChunk (h : Hdr) (offset : Nat) (bytes : Bytes) (s : State) : Out State :=
  .next (s.receive 5 h (fun s =>
    if bytes.isEmpty || decide (2040 < bytes.length) then s.malformed 5 0x0002
    else if h.src ≠ 0 then s.rbkRefuse else s.rbkData offset bytes))

/-- CLOSE_LOAD. -/
def execCloseLoad (h : Hdr) (s : State) : Out State :=
  .next (s.chunk h (fun s => if s.get F.RBK_STATUS_LOADST = 1 then s.put F.RBK_STATUS_LOADST 2 else s.rbkRefuse))

/-- RULEBOOK_ABORT. DESIGN CHOICE (log entry 37): once verification has ended there is no load left to end; the message is out of turn. -/
def execRulebookAbort (h : Hdr) (s : State) : Out State :=
  .next (s.chunk h (fun s => let st := s.get F.RBK_STATUS_LOADST; if st = 1 ∨ st = 2 then s.loadEnds 0x13 else s.rbkRefuse))

/-- VERIFICATION_COMPLETE (R73). -/
def execVerificationComplete (s : State) : Out State :=
  .next (if s.get F.RBK_STATUS_LOADST = 2 then
    let n := s.loadSlot
    let x := s.slotOf n
    let v := s.verify x.image (s.get F.RBK_RXLEN) s.rbk.openLen
    if v.decl.isSome then (s.setSlot n { x with valid := true }).showSlots.put F.RBK_STATUS_LOADST 3
    else ((s.failCode v.code n v.sect).put F.RBK_STATUS_LOADST 0xF).raise 0x1502 v.code
  else s)

/-- ACTIVATE is refused (R74) and, as every refused chunk message, counted (R84); the load state stands. -/
def State.activateRefused (s : State) (slot : Nat) : State := (s.rbkRefuse.failCode 0x16 (slot % 2) 0).raise 0x1502 0x16

/-- ACTIVATE (R74, R75, R77). -/
def State.rbkActivate (s : State) (slot : Nat) (digest : Bytes) : State :=
  let x := s.slotOf slot
  if s.rbk.pending.isSome ∨ s.power.kind.isSome then s.rbkRefuse
  else if slot = s.loadSlot ∧ x.valid ∧ imgDigest x.image = digest ∧ !(s.redundant && s.heldPos.isSome) then
    let s := ((s.setRbk { s.rbk with pending := some slot }).showSlots).put F.RBK_STATUS_LOADST 4
    if s.active then (s.setRbk { s.rbk with actWait := some slot }).bankIdle else s.beginB
  else s.activateRefused slot

/-- ACTIVATE. -/
def execActivate (h : Hdr) (slot : Nat) (digest : Bytes) (t : Nat) (s : State) : Out State :=
  .next ((s.advance t).chunk h (fun s => s.rbkActivate slot digest))

/-- A standby stages its RETAIN mirror for its MRAM RETAIN buffers (R392). -/
def State.stageMirror (s : State) : State := match s.lge.prog with
  | none => s
  | some _ =>
    if !s.standby ∨ s.tok.mirror = [] then s
    else s.setLge { s.lge with retStaged := s.mirrorRetain, retPrior := none, retCommit := none }

/-- The flush (R46, R75): the RETAIN image of the last commit is staged first; a standby writes its mirror. -/
def State.flushImages (s : State) : State :=
  let s := s.stageMirror
  let stale := s.lge.retCommit.isSome && s.lge.retCommit != s.lge.retStaged
  let s := if stale then s.setLge { s.lge with retPrior := s.lge.retStaged, retStaged := s.lge.retCommit, stagedAt := some s.now } else s
  s.writeImages

/-- ACTIVATION_FLUSH_COMPLETE (R75): every task has ended, and the B reset begins. -/
def execActivationFlushComplete (t : Nat) (s : State) : Out State :=
  let s := s.advance t
  .next (if s.rbk.flushing && !s.working then s.flushImages.beginB else s)

/-! ## Amendment records (R81, R82) -/

/-- The refusal code of a record, 0 when it is applied: the checks of R82 in their order. DESIGN CHOICE (log entry 37): a record whose MAGIC,
reserved bytes, AFLAGS, LENGTH or TARGET breaks the layout of R81 fails check 6; the manual names no check for it. -/
def State.amdCheck (s : State) (d : Decl) (b : Bytes) : Nat :=
  let a := amdOf b
  let sigOk := match s.anchor s.rbk.anchorIdx with
    | none => false
    | some k => Config.ecdsaOk k (sha256 (b.take (b.length - 64))) a.sig
  if a.base ≠ s.rbk.digest then 0x01
  else if a.aseq ≠ s.get F.RBK_AMD_SEQ_ASEQ + 1 then 0x02
  else if !sigOk then 0x03
  else if !amendable a.type then 0x04
  else if s.amdTargetUsed a then 0x05
  else if !(amdShape b && s.amdValid d a) then 0x06
  else if 4194304 < journalBytes (s.slotOf s.rbk.ptr).journal + b.length + 4 then 0x07
  else if s.rbk.actWait.isSome || s.rbk.pending.isSome then 0x08
  else if 4194304 < b.length then 0x09
  else 0

/-- A whole record is refused. -/
def State.amdRefuse (s : State) (code type : Nat) : State :=
  let s := (s.put F.RBK_AMD_STAT_CODE code).put F.RBK_AMD_STAT_SECT type
  (s.rbkRefuse).raise 0x1505 type

/-- A whole record: journalled, applied, counted, or refused. Without an active rulebook there is no digest that BASE could equal. -/
def State.amendment (s : State) (b : Bytes) : State :=
  let a := amdOf b
  match s.rbk.active with
  | none => s.amdRefuse 0x01 a.type
  | some d =>
    let c := s.amdCheck d b
    if c ≠ 0 then s.amdRefuse c a.type
    else
      let x := s.slotOf s.rbk.ptr
      let s := (s.setSlot s.rbk.ptr { x with journal := x.journal ++ [{ body := b, crc := crc32 b }] }).showJournal
      let s := ((s.amdApply a).put F.RBK_AMD_SEQ_ASEQ a.aseq).count F.RBK_CNT_AMDOK
      s.raise 0x1504 a.type

/-- AMENDMENT_RECORD. -/
def execAmendmentRecord (h : Hdr) (payload : Bytes) (t : Nat) (s : State) : Out State :=
  .next ((s.advance t).receive 6 h (fun s =>
    if h.src ≠ 0 then s.rbkRefuse
    else
      let b := s.rbk.amd ++ payload
      if h.last then (s.setRbk { s.rbk with amd := [] }).amendment b else s.setRbk { s.rbk with amd := b }))

end Sys2Proof.Machine
end

