-- ==== Sys2Proof/Machine/IslandWrite.lean ====
section
/-!
DEFINITION. Writes that take effect in the STREAM and TILE islands: the registers whose write does more than their access code says
(R182, R183, R184, R187, R316). In Park they wait in the shadow (R23).
-/
namespace Sys2Proof.Machine

/-- LGE_CMD (R316): its bits in order. -/
def State.lgeCmd (s : State) (v : Nat) : State :=
  let does := fun (n : Nat) (f : State → State) (s : State) => if bit v n then f s else s
  does 6 (fun s => s.lgAskRestart 2) (does 5 (fun s => s.lgAskRestart 1) (does 4 State.lgStep (does 3 State.lgContinue
    (does 2 State.lgHold (does 1 State.lgStop (does 0 State.lgRun s))))))

/-- FCH_BANK.SWITCH. -/
def State.coefRequest (s : State) : State := (s.put F.FCH_BANK_SWITCH 1).put F.FCH_BANK_PENDING 1

/-- A write in STREAM. -/
def State.writeStream (s : State) (a : Nat) (v : Word) : State :=
  if a = F.FCH_BANK_ACTIVE.addr then (if bit v.toNat 1 then s.coefRequest else s)
  else if a = F.FCH_FRZ_REG.addr then (s.storeWord a v).fzRefresh
  else match unitAt 0x01410000 0x40 4096 0x04 a with
    | some l => s.writeDelay l (v.toNat / 256 % 4096) (v.toNat % 256)
    | none => match unitAt 0x01410000 0x40 4096 0x08 a with
      | some l =>
        let s := s.storeWord a (v &&& 0xFEFFFFFF#32)
        if bit v.toNat 24 then s.resetDc l else s
      | none => s.storeWord a v

/-- A write in TILE. -/
def State.writeTile (s : State) (a : Nat) (v : Word) : State :=
  if a = F.LGE_CMD.addr then s.lgeCmd (v.toNat % 128) else s.storeWord a v

/-- A write in one of the two islands. -/
def State.writeIsland (s : State) (a : Nat) (v : Word) : State := match blockOf a with
  | none => s
  | some b => if b.island = .stream then s.writeStream a v else s.writeTile a v

/-- The shadowed writes take effect on wake, in order (R23). -/
def State.unshadow (s : State) : State :=
  let l := s.link.shadow
  l.foldl (fun s e => s.writeIsland e.1 e.2) (s.setLink { s.link with shadow := [] })

end Sys2Proof.Machine
end

