-- ==== Sys2Proof/Machine/Power.lean ====
section
/-!
DEFINITION. Supply, start-up stages, the commands of the supervisor, Park, Doze and the watchdogs (R36, R42 to R62, R405). Readings and
choices are in log entry 40.
-/
namespace Sys2Proof.Machine

/-! ## The link comes up; watchdog 3 (R34, R61) -/

/-- Start the period of watchdog 3: stopped with MGR 0, held while the link is down or in Hold-up; a retrain does not hold it. -/
def State.armWdt3 (s : State) : State :=
  let p := s.get F.PWR_WDT_MGR
  s.setPower { s.power with wdt3 := if p = 0 ∨ !s.flag F.XNG_STATUS_UP ∨ s.flag F.PWR_STATE_HOLDUP then none else some (s.now + p * 100000000) }

/-- The link is up: event 0x0112, the events of watchdogs that wait, the exports that the outage cut. -/
def State.linkComesUp (s : State) : State :=
  let s := (((s.put F.XNG_STATUS_UP 1).put F.XNG_STATUS_TRAIN 0).put F.XNG_STATUS_LANES 15).setLink { s.link with trained := true, fails := 0 }
  let s := s.raise 0x0112 0
  let s := s.power.wdEvent.foldl (fun s n => s.raise 0x0104 n) (s.setPower { s.power with wdEvent := [] })
  (s.reexport).armWdt3

/-! ## Requests for a reset (R53 to R56) -/

/-- An M reset is asked for. A link that was up is up again at once. -/
def State.moduleReset (s : State) (src wdog : Nat) : State :=
  if s.power.powered && s.outranks .m then
    let up := s.flag F.XNG_STATUS_UP
    let r := s.beginReset .m src wdog
    let r := if wdog = 0 then r else r.setPower { r.power with wdEvent := r.power.wdEvent ++ [wdog] }
    (if up then r.linkComesUp else r).reportStage s
  else s

/-- The first W condition that does not hold, as PWR_CAUSE.SOURCE codes it (R54, R62). -/
def State.noWarm (s : State) (wdog : Nat) : Option Nat :=
  if s.power.stopMarker.isNone ∧ wdog = 0 then some 0
  else if !(s.ins.insts.any (fun e => e.2.mram.isSome)) then some 1
  else if s.power.ckptDigest ≠ some (imgDigest (s.slotOf s.rbk.ptr).image) then some 2
  else if s.power.voided then some 3
  else none

/-- The kind of a warm start: W, or P where the W conditions do not hold (R53). -/
def State.warmKind (s : State) (wdog : Nat) : Kind := if (s.settleWrites.noWarm wdog).isSome then .p else .w

/-- A W reset, or a P reset where the W conditions do not hold; a P reset loses the host die (R59). -/
def State.warmReset (s : State) (wdog : Nat) : State :=
  let s := s.settleWrites
  match s.noWarm wdog with
  | some src => (if wdog = 0 then s else s.hostReset).beginReset .p src wdog
  | none => s.beginReset .w (if wdog = 0 then 1 else 2) wdog

/-- A watchdog marked W expires: a request of the kind that the W conditions give (R53, R56). -/
def State.watchdogW (s : State) (n : Nat) : State :=
  if s.power.powered && s.outranks (s.warmKind n) then
    let r := s.warmReset n
    (r.setPower { r.power with wdEvent := r.power.wdEvent ++ [n] }).reportStage s
  else s

/-- The host die is reset by link-control OP 0x0013, unless the link is down (R55, R405). -/
def State.pinToHost (s : State) : State := if s.flag F.XNG_STATUS_UP then (s.notice 0x0013 []).hostReset else s

/-- HRST_N: in Hold-up the reset waits for the recovery (R405). -/
def State.hostPin (s : State) : State :=
  if s.flag F.PWR_STATE_HOLDUP then s.setHost { s.host with resetHeld := true } else s.hostReset

/-- RST_N (R56, R405): an M reset; before the end of stage 0x05 the P or W reset starts again; in stage 0x01 it holds the stage. The
notice of the M reset goes ahead of the host-die reset (R35). -/
def State.rstPin (s : State) : State :=
  if !s.power.powered then s.setPower { s.power with rstHeld := true }
  else
    let early := (s.power.kind == some .p || s.power.kind == some .w) && decide (s.get F.PWR_STAGE ≤ 5)
    if early then
      let held := s.get F.PWR_STAGE == 1
      let r := (s.pinToHost).beginReset (s.power.kind.getD .p) (s.get F.PWR_CAUSE_SOURCE) (s.get F.PWR_CAUSE_WDOG)
      (r.setPower { r.power with rstHeld := r.power.rstHeld || held }).reportStage s
    else if s.outranks .m then
      let r := (if s.flag F.XNG_STATUS_UP then s.hostReset else s).moduleReset 1 0
      if s.flag F.XNG_STATUS_UP then r.send (stMsg 0 0x0013 []) else r
    else s

/-- RST_N_LOW. -/
def execRstNLow (hrst : Bool) (t : Nat) (s : State) : Out State :=
  let s := (s.advance t).rstPin
  .next (if hrst then s.hostPin else s)

/-- HRST_N_LOW. -/
def execHrstNLow (s : State) : Out State := .next s.hostPin

/-- HL_PERST_N: HL resets, and nothing else. -/
def execHlPerstN (s : State) : Out State := .next (s.setHost { s.host with hlResets := s.host.hlResets + 1 })

/-- PLL_LOST_LOCK (R41). -/
def execPllLostLock (isl : Island) (s : State) : Out State := .next (s.raise 0x0201 (islandCode isl))

/-- MODULE_RESET_REQUEST (R35, R55): accepted only from the manager. -/
def execModuleResetRequest (h : Hdr) (s : State) : Out State := .next (if s.linkUp && h.src == 0 then s.moduleReset 2 0 else s)

/-- MANAGER_KEEP_ALIVE (R61): counted, and a new period. -/
def execManagerKeepAlive (h : Hdr) (t : Nat) (s : State) : Out State :=
  let s := s.advance t
  .next (if s.linkUp ∧ h.src < 256 then (s.put F.PWR_WDT_KICKS (s.get F.PWR_WDT_KICKS + 1)).armWdt3 else s)

/-- WATCHDOG_1_EXPIRY. -/
def execWatchdog1Expiry (t : Nat) (s : State) : Out State := .next ((s.advance t).watchdogW 1)

/-- No boundary has come for two cycles while a rulebook is active (R61). -/
def State.boundaryLost (s : State) : Bool :=
  s.active && s.power.kind.isNone && !s.rbk.flushing && decide (s.ttb.lastAt + 2 * s.cycleNs ≤ s.now)

/-- WATCHDOG_2_EXPIRY: no cycle boundary for two cycles. -/
def execWatchdog2Expiry (t : Nat) (s : State) : Out State :=
  let s := s.advance t
  .next (if s.boundaryLost then s.watchdogW 2 else s)

/-- WATCHDOG_3_EXPIRY: the host die restarts, with event 0x0104, and a new period starts. -/
def execWatchdog3Expiry (t : Nat) (s : State) : Out State :=
  let s := s.advance t
  .next (match s.power.wdt3 with
    | none => s
    | some e => if e ≤ s.now then (s.pinToHost.raise 0x0104 3).armWdt3 else s)

/-- A write of PWR_WDT. -/
def State.writeWdt (s : State) (mgr : Nat) : State := (s.put F.PWR_WDT_MGR mgr).armWdt3

/-- PWR_WDT_WRITE. -/
def execPwrWdtWrite (mgr t : Nat) (s : State) : Out State := .next ((s.advance t).writeWdt mgr)

/-! ## Park and wake (R57, R58, R391, R394) -/

/-- A Park command (R56, R57): held in Hold-up. -/
def State.parkCmd (s : State) : State :=
  if !s.ready then s
  else if s.flag F.PWR_STATE_HOLDUP then s.setPower { s.power with parkHeld := true } else s.askPark

/-- The wake starts. -/
def State.wakeStart (s : State) : State :=
  let s := s.setPower { s.power with parkWait := false }
  if s.parked then s.put F.PWR_STATE 3 else s

/-- A WAKE command: a standby stays in Park (R391). -/
def State.wakeCmd (s : State) : State := if s.standby then s else s.wakeStart

/-- The image of an instance goes back into its TCMs, with its newest checkpoint and the publication state in it, from which the
publication of an instance that runs resumes (R275). -/
def State.restoreTcm (s : State) (d : InstDecl) : State :=
  let p := s.placeNow d.inst
  let s := s.loadImage d p
  let runs := s.instState d.inst == 2 || s.instState d.inst == 5
  let s := match (s.inst d.inst).snapshot with
    | none => s
    | some x =>
      if x.dhash ≠ d.dhash then s
      else
        let s := s.loadCkpt d p x.ckpt
        if runs then s.pubRestore d.inst x.pub else s
  if runs then s.pubResume d.inst else s

/-- What starts on a take (R394): each P instance warm from its newest accepted image, else cold, whatever it did before. -/
def State.startTaken (s : State) (d : InstDecl) : State :=
  let st := s.instState d.inst
  if d.supervisory then (if st = 1 ∧ d.autostart then s.startCold d.inst else s)
  else if st = 3 ∨ st = 5 then s
  else match s.tok.images.find? (fun e => e.1 == d.inst) with
    | none => s.startCold d.inst
    | some e => s.startWarm d.inst e.2

/-- The logic engine after a wake: warm (R317), on a take from the mirror (R394). -/
def State.wakeLogic (s : State) (ret : Option RetImg) : State := match s.lge.prog with
  | none => s
  | some p => (s.lgRestart ret).lgTo (ofBool p.runOnLoad)

/-- The wake is complete. -/
def State.wakeEnd (s : State) : State :=
  let s := (s.put F.PWR_STATE 0).unshadow
  let s := s.each (List.range 24) (fun s p => if s.roleOf p = 2 then s else s.put (F.PFM_PSTAT_STATE p) 0)
  let s := s.declared.foldl State.restoreTcm s
  let took := s.tok.taken
  let r := s.declared.foldl State.startTaken s
  let s := if took then r.setTok { r.tok with taken := false, resume := true, images := [], prevImages := [], setGot := [] } else s
  let s := s.wakeLogic (if took then (if s.flag F.TOK_SYNC_RETAIN then s.mirrorRetain else none) else s.newestRetain)
  let s := s.setHlx { s.hlx with begun := false }
  (((((s.ingressWait).groupsStart).remapLanes).autoArm).fzRefresh).driveTrips

/-- PARK. -/
def execPark (key t : Nat) (s : State) : Out State :=
  let s := s.advance t
  .next (if key = 0x5A3C then s.parkCmd else s)

/-- WAKE. -/
def execWake (key t : Nat) (s : State) : Out State :=
  let s := s.advance t
  .next (if key = 0x5A3C then s.wakeCmd else s)

/-- WAKE_COMPLETE. -/
def execWakeComplete (t : Nat) (s : State) : Out State :=
  let s := s.advance t
  .next (if s.get F.PWR_STATE = 3 then s.wakeEnd else s)

/-- MRESET. -/
def execMreset (key t : Nat) (s : State) : Out State :=
  let s := s.advance t
  .next (if key = 0x5A3C then s.moduleReset 2 0 else s)

/-- VOID (R54). -/
def State.voidCmd (s : State) : State := s.setPower { s.power with voided := true }

/-- VOID. -/
def execVoid (key : Nat) (s : State) : Out State := .next (if key = 0x5A3C then s.voidCmd else s)

/-! ## Doze (R57) -/

/-- Show Doze while a platform is gated. -/
def State.showDoze (s : State) : State :=
  if 2 ≤ s.get F.PWR_STATE then s
  else s.putB F.PWR_STATE ((List.range 24).any (fun p => s.get (F.PFM_PSTAT_STATE p) == 4))

/-- DOZE_ENTRY: an idle platform is gated. -/
def execDozeEntry (pf : Nat) (s : State) : Out State :=
  .next (if s.get F.PWR_STATE < 2 ∧ pf < 24 ∧ s.get (F.PFM_PSTAT_STATE pf) = 0 ∧ (s.pf pf).cur.isNone ∧ (s.pf pf).lq = [] then
    (s.put (F.PFM_PSTAT_STATE pf) 4).showDoze
  else s)

/-- DOZE_UNGATE. -/
def execDozeUngate (pf : Nat) (s : State) : Out State :=
  .next (if s.get (F.PFM_PSTAT_STATE pf) = 4 then (s.put (F.PFM_PSTAT_STATE pf) 0).showDoze else s)

/-! ## Supply (R42 to R48) -/

/-- Show VIN, in units of 50 mV. -/
def State.measured (s : State) (vin : Nat) : State :=
  (s.setPower { s.power with vin := vin }).put F.PWR_STATE_VIN (Nat.min (vin / 50) 0xFFF)

/-- POWER_FAIL_WARNING (R45, R56): VIN falls through 14.0 V, and the store is drawn from (R43). -/
def execPowerFailWarning (vin t : Nat) (s : State) : Out State :=
  let s := s.advance t
  .next (if !s.power.powered ∨ s.flag F.PWR_STATE_HOLDUP ∨ 14000 ≤ vin then s
    else
      let s := ((s.measured vin).storeIs s.storeLevel).put F.PWR_STATE_HOLDUP 1
      let s := ((s.raise 0x0101 vin).raise 0x0102 0).setHost { s.host with suspended := true }
      let s := s.showStore
      s.setPower { s.power with wdt3 := none, flushing := s.ready, paused := s.power.paused || !s.ready })

/-- FINAL_FLUSH_COMPLETE (R46). -/
def execFinalFlushComplete (s : State) : Out State :=
  .next (if s.power.flushing then s.flushImages.setPower { s.flushImages.power with flushing := false } else s)

/-- HOLD_UP_LEFT (R48, R56): VIN rises through 16.0 V, and the store is charged again; a paused stage runs again in full, all its attempts
before it. -/
def execHoldUpLeft (vin t : Nat) (s : State) : Out State :=
  let s := s.advance t
  .next (if !s.power.powered ∨ !s.flag F.PWR_STATE_HOLDUP ∨ vin < 16000 then s
    else
      let s := ((((s.measured vin).storeIs s.storeLevel).put F.PWR_STATE_HOLDUP 0).raise 0x0103 0).showStore
      let held := s.power.parkHeld
      let s := if s.power.paused then s.rootCut else s
      let s := (s.setPower { s.power with paused := false, parkHeld := false,
                                          retries := if s.power.paused then 0 else s.power.retries }).armWdt3
      let s := if s.host.resetHeld then
          let r := s.hostReset
          r.setHost { r.host with suspended := true }
        else s
      if held then s.askPark else s)

/-- HOST_DIE_RESUMED (R48): after Hold-up the host die runs on. -/
def execHostDieResumed (s : State) : Out State :=
  .next (if s.flag F.PWR_STATE_HOLDUP then s else s.setHost { s.host with suspended := false })

/-- STORE_CHARGED (R43): the store that charges has reached 58 V. -/
def execStoreCharged (s : State) (t : Nat := 0) : Out State :=
  let s := s.advance t
  .next (if s.power.powered && !s.flag F.PWR_STATE_HOLDUP then (s.storeIs 58000).showStore else s)

/-- What is left without supply: what MRAM, the fuses and the key store hold. DESIGN CHOICE (log entry 40): the store stays at the 44 V at
which the module has stopped drawing from it. -/
def State.powerDown (s : State) : State :=
  let s := s.settleWrites.rootCut.hostReset
  let s := (s.powerReset .w).regsReset .w
  let s := s.setLink { s.link with line := none }
  let s := (((s.put F.PWR_STATE_HOLDUP 0).put F.PWR_STATE_VIN 0).put F.PWR_STATE_STORE 0).put F.PWR_STATE_HUC_OK 0
  let s := ((s.linkReset .w).rbkReset).lgeReset .w
  let s := ((s.memReset .w).tbReset .w).unitsReset .w
  s.setPower { s.power with powered := false, kind := none, paused := false, vin := 0, store := 44000, storeAt := s.now, wdEvent := [] }

/-- ORDERLY_STOP (R48, R56): the drives open before anything else; before READY the module only powers down. -/
def execOrderlyStop (t : Nat) (s : State) : Out State :=
  let s := s.advance t
  .next (if !s.power.powered ∨ !s.flag F.PWR_STATE_HOLDUP then s
    else
      let s := (s.openTrip 0).openTrip 1
      let s := if s.ready then s.setPower { s.power with stopMarker := some s.activeDigest } else s
      s.powerDown)

/-- POWER_UP (R53, R54): VIN rises through 16.0 V. -/
def execPowerUp (vin : Nat) (s : State) : Out State :=
  .next (if s.power.powered ∨ vin < 16000 then s
    else
      let s := s.hostReset
      ((s.setPower { s.power with vin := vin, storeAt := s.now }).warmReset 0).reportStage s)

/-! ## Start-up stages (R49 to R53) -/

/-- The stage after a stage. -/
def nextStage (k : Kind) (st : Nat) : Nat :=
  if k = .m then (if st = 4 then 6 else if st = 8 then 0xF else st + 1) else if st = 8 then 0xF else st + 1

/-- Go to a stage. -/
def State.toStage (s : State) (st : Nat) : State := (s.put F.PWR_STAGE st).setPower { s.power with retries := 0 }

/-- A stage fails (R50). -/
def State.stageFails (s : State) (st : Nat) : State := (s.raise 0x0105 st).put F.PWR_STAGE_FAILED 1

/-- Stage 0x07 (R52, R299, R300, R304): drift corrections of the quantities that did not fail, then the page writes that waited. -/
def State.calibrate (s : State) (e : StageEnd) : State :=
  let a := s.driftOf e.readings
  let d := s.draw
  let s := if e.stampsOk then d.1 else s
  let s := s.setPower { s.power with drift := if a.2 then a.1 else [], stampDraw := if e.stampsOk then some d.2 else none }
  let bad := ofBool (!a.2) + 2 * ofBool (!e.stampsOk) + 4 * ofBool (!e.linkOk)
  let s := if bad = 0 then s else (s.stageFails 7).put F.PWR_STAGE_CALFAIL bad
  ((((s.putB F.AFE_STATUS_CALOK a.2).raise 0x1001 0).showPage).showDrift).showLats

/-- A calibration-page write that came during stage 0x07 is served (R300). -/
def State.heldPage (s : State) : State := match s.acq.pageHeld with
  | none => s
  | some (b, h) => (s.setAcq { s.acq with pageHeld := none }).servePage h b

/-- READY (R51, R54): the stop marker is cleared, the drives may close; a standby parks (R391). -/
def State.readyUp (s : State) : State :=
  let s := ((s.toStage 0xF).put F.PWR_STAGE_READY 1).put F.XNG_STATUS_EARLY 0
  let s := s.setPower { s.power with kind := none, stopMarker := none }
  let s := if 2 ≤ s.get F.PWR_STATE then
      s.each (List.range 24) (fun s p => if s.roleOf p = 2 then s else s.put (F.PFM_PSTAT_STATE p) 5)
    else s
  let s := s.driveTrips
  if s.active && s.standby then s.askPark else s

/-- Each base starts from 0 s in FREE when stage 0x08 of a P or W reset ends (R112). -/
def State.startBases (s : State) : State :=
  s.each (List.range 4) (fun s b => s.setTb b { TbS.init with running := true })

/-- Stage 0x08 ends. -/
def State.lastStage (s : State) (k : Kind) : State :=
  let s := if k = .p ∨ k = .w then s.startBases else s
  let r := s.loadStage k
  (if r.2 then r.1 else r.1.stageFails 8).readyUp

/-- Stage 0x04 has trained the DRAM at its temperature (R149). -/
def State.dramTrained (s : State) (st : Nat) (temp : Int) : State :=
  if st = 4 then (s.putI F.MEM_DTEMP_NOW temp).putI F.MEM_DTEMP_TRAINED temp else s

/-- A stage ends (R49, R50). -/
def State.stageEnd (s : State) (k : Kind) (e : StageEnd) : State :=
  let st := s.get F.PWR_STAGE
  if st = 1 then (if s.power.rstHeld then s else (s.toStage 2).linkComesUp)
  else if st = 6 then
    let r := s.vaultStage e.vaultTest e.badSlots e.entropy
    if r.2 then r.1.toStage 7 else r.1.stageFails 6
  else if st = 7 then ((s.calibrate e).toStage 8).heldPage
  else if st = 8 then s.lastStage k
  else if e.ok then (s.dramTrained st e.temp).toStage (nextStage k st)
  else if (st = 2 ∨ st = 4) ∧ s.power.retries < 3 then s.setPower { s.power with retries := s.power.retries + 1 }
  else s.stageFails st

/-- START_UP_STAGE_END: a module that has stopped in a stage stays there; a paused stage does not end. -/
def execStartUpStageEnd (e : StageEnd) (t : Nat) (s : State) : Out State :=
  let s := s.advance t
  .next (match s.power.kind with
    | none => s
    | some k =>
      if !s.power.powered ∨ s.power.paused ∨ (s.flag F.PWR_STAGE_FAILED ∧ s.get F.PWR_STAGE < 7) then s
      else (s.stageEnd k e).reportStage s)

/-- RST_N_RELEASED: the stage that the pin held goes on. -/
def execRstNReleased (s : State) : Out State :=
  .next (if s.power.rstHeld then
    let r := s.setPower { s.power with rstHeld := false }
    (if r.power.powered ∧ !r.power.paused ∧ r.get F.PWR_STAGE = 1 then (r.toStage 2).linkComesUp else r).reportStage s
  else s)

end Sys2Proof.Machine
end

