-- ==== Sys2Proof/Machine/Boundary.lean ====
section
/-!
DEFINITION. Cycle boundaries and maintenance windows (R75, R140, R141, R149, R152, R154, R187, R245). Readings and choices are in log
entry 41.
-/
namespace Sys2Proof.Machine

/-! ## Boundaries -/

/-- The timetable runs or is to run: a rulebook is active and no activation flush runs. -/
def State.boundaryDue (s : State) : Bool :=
  s.active && !s.rbk.flushing && (s.flag F.TTB_STATUS_RUN || s.ttb.startAt.isSome)

/-- The cycle that begins at this boundary: a boundary is served in the TIME clock in which the base reaches it. -/
def State.cycleNow (s : State) : Nat := (s.tbNs s.ttbTb + 4) / s.cycleNs

/-- The boundary of this cycle is still to be served, and departures may be served from it on (R154). -/
def State.boundaryNew (s : State) (n : Nat) : Bool :=
  if s.flag F.TTB_STATUS_RUN then n != s.ttb.cyc
  else match s.ttb.startAt with
    | none => false
    | some b => decide (b ≤ n * s.cycleNs)

/-- The cycle number is shown (R140, R156). -/
def State.showCycle (s : State) (n : Nat) : State := (s.put F.TTB_CYCNUM_LO_CYCLO n).put F.TTB_CYCNUM_LIVE (n / 2 ^ 32)

/-- The boundary at which cycle `n` begins: the cycle number, the bank switch, the restart map, shares that wait, test 5 of R242 in a
bank that has become active, the coefficient bank switch, then an activation that waits (R75): no further departure is served, and the flush runs. -/
def State.serveBoundary (s : State) (n : Nat) : State :=
  let s := (s.put F.TTB_STATUS_RUN 1).showCycle n
  let s := s.setTtb { s.ttb with cyc := n, startAt := none, served := [], lastAt := s.now }
  let old := s.activeBank
  let s := (s.bankBoundary.mapEffect).sharesEffect
  let s := if s.activeBank = old then s else s.showAwait
  let s := s.coefBoundary (n * s.cycleNs)
  if s.rbk.actWait.isSome then (s.put F.TTB_STATUS_RUN 0).setRbk { s.rbk with flushing := true } else s

/-- CYCLE_BOUNDARY. -/
def execCycleBoundary (t : Nat) (s : State) : Out State :=
  let s := s.advance t
  .next (if s.boundaryDue && s.boundaryNew s.cycleNow then s.serveBoundary s.cycleNow else s)

/-! ## Maintenance windows (R149) -/

/-- DRAM retraining: when the temperature has moved by 10 °C since the last one. -/
def State.retrainDram (s : State) (temp : Int) : State :=
  let s := s.putI F.MEM_DTEMP_NOW temp
  if 10 ≤ (temp - s.getI F.MEM_DTEMP_TRAINED).natAbs then (s.putI F.MEM_DTEMP_TRAINED temp).raise 0x1103 0 else s

/-- MAINTENANCE_WINDOW (R149): retraining and the continuous MRAM writes of R47 take place in a window, whose length in µs is PARAM bits 15:0
(R144). -/
def execMaintenanceWindow (slot k : Nat) (temp : Int) (t : Nat) (s : State) : Out State :=
  let s := s.advance t
  .next (match s.depart slot k 0x0A with
    | none => s
    | some (v, dep, s) =>
      let ns := v.param % 65536 * 1000
      if ns = 0 then s else ((s.setTtb { s.ttb with window := dep + ns }).retrainDram temp).writeWindow ns)

end Sys2Proof.Machine
end

