-- ==== Sys2Proof/Machine/Redundancy.lean ====
section
/-!
DEFINITION. The redundancy controller: renewals, the lease, taking and losing a token, checkpoints and RETAIN of a standby, status (R381
to R399). Readings and choices are in log entry 42.
-/
namespace Sys2Proof.Machine

/-- LEASE + GUARD in raw ns. -/
def State.takeNs (s : State) : Nat := s.leaseNs + s.guardNs

/-! ## Losing a token (R382, R387, R389 to R391) -/

/-- A waiting frame that the gate no longer lets out. -/
def State.gated (s : State) (b : TxBody) : Bool := match b with
  | .goose tpl _ _ _ _ _ _ _ _ _ => !s.gateFor (s.flag (F.PUB_GCFG_TWIN tpl))
  | .sv tpl _ _ => !s.gateFor (s.flag (F.PUB_SCFG_TWIN tpl))
  | .halt _ _ => !s.sendsRequests
  | _ => false

/-- GATED counts the publication frames. -/
def State.countGated (s : State) (b : TxBody) : State := match b with
  | .goose tpl _ _ _ _ _ _ _ _ _ => (s.count F.PUB_CNT_GATED).count (F.PUB_GCNT_GATED tpl)
  | .sv tpl _ _ => (s.count F.PUB_CNT_GATED).count (F.PUB_SCNT_GATED tpl)
  | _ => s

/-- Frames not yet started are discarded when the gate closes. -/
def State.discardGated (s : State) : State :=
  s.each (List.range 18) (fun s p =>
    let q := (s.port p).txq
    let s := (q.filter (fun f => s.gated f.body)).foldl (fun s f => s.countGated f.body) s
    s.setPort p { s.port p with txq := q.filter (fun f => !s.gated f.body) })

/-- The module stops being holder of `p` and becomes a standby: the gate closes, event 0x1602, Park. A wake that a take began ends in
Park. -/
def State.loseToken (s : State) (p : Nat) : State :=
  let s := (s.putBit F.TOK_STATUS_HELD p false).put F.TOK_STATUS_SOLO 0
  let s := s.setTok { s.tok with lease := none, solo := false, takeAt := none, taken := false, resume := false, sendFrom := none, lastRet := [] }
  let s := (s.setPos p { s.pos p with sent := [] }).raise 0x1602 p
  let s := s.driveTrips.discardGated
  if s.get F.PWR_STATE = 3 then s.put F.PWR_STATE 2
  else if s.active then s.askPark else s

/-- LEASE_EXPIRY (R387). -/
def execLeaseExpiry (t : Nat) (s : State) : Out State :=
  let s := s.advance t
  .next (match s.heldPos, s.tok.lease with
    | some p, some e =>
      if s.now < e then s
      else s.reportRed (fun s =>
        let s := (s.loseToken p).count F.TOK_CNT_EXPIRIES
        (s.put F.TOK_STATUS_HEARD 0).setTok { s.tok with heardAt := none })
    | _, _ => s)

/-! ## Renewals (R383, R386, R387) -/

/-- Last RSEQ heard from the holder of a position and its age in µs; of a position held, its own. Never heard: 0 and 0xFFFFFFFF. -/
def State.relayOf (s : State) (p : Nat) : Nat × Nat :=
  let x := s.pos p
  if s.heldPos = some p then (x.mine, (match x.sent.getLast? with
    | none => 0
    | some e => s.since e.2 / 1000))
  else match x.heardAt with
    | none => (0, 0xFFFFFFFF)
    | some a => (x.rseq, Nat.min (s.since a / 1000) 0xFFFFFFFE)

/-- The body of a renew frame. -/
def State.renewBody (s : State) (pos rseq : Nat) : Bytes :=
  let r := fun (p : Nat) => beBytes 4 (s.relayOf p).1 ++ beBytes 4 (s.relayOf p).2
  [BitVec.ofNat 8 pos, 0, 0, 0] ++ beBytes 4 rseq ++ beBytes 4 (s.get F.TOK_TAKESEQ) ++ r 0 ++ r 1

/-- Send the renewal of the position held, or a beacon. In SOLO holding the renewal extends the lease by itself. -/
def State.renew (s : State) : State :=
  let s := s.setTok { s.tok with renewAt := s.now }
  match s.heldPos with
  | none => s.plSend 0x10 false (s.renewBody 0xFF 0)
  | some p =>
    let x := s.pos p
    let n := (x.mine + 1) % 2 ^ 32
    let old := x.sent.filter (fun e => decide (s.since e.2 < s.leaseNs))
    let s := s.setPos p { x with mine := n, sent := old ++ [(n, s.now)] }
    let live := match s.tok.lease with
      | none => false
      | some e => decide (s.now < e)
    let s := if s.tok.solo && live then s.setTok { s.tok with lease := some (s.now + s.leaseNs) } else s
    s.plSend 0x10 false (s.renewBody p n)

/-- TOKEN_RENEWAL: a departure of action 0x0B. -/
def execTokenRenewal (slot k t : Nat) (s : State) : Out State :=
  let s := s.advance t
  .next (match s.depart slot k 0x0B with
    | none => s
    | some (_, _, s) => if s.redundant then s.reportRed State.renew else s)

/-- CATCHUP_RENEWAL: no renewal departure for LEASE / 4. -/
def execCatchupRenewal (t : Nat) (s : State) : Out State :=
  let s := s.advance t
  .next (if s.redundant ∧ s.tok.renewAt + s.leaseNs / 4 ≤ s.now then
    s.reportRed (fun s => s.renew.count F.TOK_CNT2_CATCHUP)
  else s)

/-- A renewal of `p` was heard at raw time `at_`. -/
def State.heardRenewal (s : State) (p rseq at_ : Nat) : State :=
  let x := s.pos p
  let newer := match x.heardAt with
    | none => true
    | some a => decide (a < at_)
  if newer then s.setPos p { x with heardAt := some at_, rseq := rseq } else s

/-- What a renew body relays of the holders (R388, R396); nothing of the position held. -/
def State.heardRelay (s : State) (p : Nat) (e : Nat × Nat) : State :=
  if e.2 = 0xFFFFFFFF ∨ s.heldPos = some p then s else s.heardRenewal p e.1 (s.now - e.2 * 1000)

/-- Two holders of one position (R389): the lower TAKESEQ yields, with equal ones the higher serial number. -/
def State.conflict (s : State) (p takeseq serial : Nat) : State :=
  let mine := s.get F.TOK_TAKESEQ
  if s.heldPos = some p ∧ (mine < takeseq ∨ (mine = takeseq ∧ serial < s.serial)) then s.loseToken p else s

/-- A renew frame: answered on the same link, unless it is a beacon. -/
def State.renewIn (s : State) (tw : Nat) (h : PlHdr) (pos rseq takeseq : Nat) (relay : List (Nat × Nat)) : State :=
  s.plReceive tw 0x10 h (fun s =>
    let s := s.setTok { s.tok with maxTake := Nat.max s.tok.maxTake takeseq }
    let s := (List.zip [0, 1] relay).foldl (fun s e => s.heardRelay e.1 e.2) s
    if 1 < pos then s
    else
      let s := s.heardRenewal pos rseq s.now
      let s := s.plSendOn tw 0x11 ([BitVec.ofNat 8 pos, 0, 0, 0] ++ beBytes 4 rseq)
      s.conflict pos takeseq h.serial)

/-- RENEW_FRAME. -/
def execRenewFrame (tw : Nat) (h : PlHdr) (pos rseq takeseq : Nat) (relay : List (Nat × Nat)) (t : Nat) (s : State) : Out State :=
  .next ((s.advance t).renewIn tw h pos rseq takeseq relay)

/-- An acknowledgement of renewal `rseq` of the position held (R387, R398). -/
def State.acknowledged (s : State) (p rseq : Nat) : State := match s.tok.lease with
  | none => s
  | some e =>
    if e ≤ s.now then s
    else match (s.pos p).sent.find? (fun x => x.1 == rseq) with
      | none => if rseq ≤ (s.pos p).mine then s.count F.TOK_CNT2_LATEACK else s
      | some x =>
        if x.2 + 2 * s.linklatNs < s.now then s.count F.TOK_CNT2_LATEACK
        else s.setTok { s.tok with lease := some (Nat.max e (x.2 + s.leaseNs)) }

/-- An acknowledgement frame. -/
def State.ackIn (s : State) (tw : Nat) (h : PlHdr) (pos rseq : Nat) : State :=
  s.plReceive tw 0x11 h (fun s => if s.heldPos = some pos then s.acknowledged pos rseq else s)

/-- ACKNOWLEDGE_FRAME. -/
def execAcknowledgeFrame (tw : Nat) (h : PlHdr) (pos rseq t : Nat) (s : State) : Out State := .next ((s.advance t).ackIn tw h pos rseq)

/-! ## Taking a token (R388 to R390, R394) -/

/-- The position is one that the mode has (R381). -/
def State.posOk (s : State) (p : Nat) : Bool := s.redundant && (p == 0 || (p == 1 && s.twinMode))

/-- A renewal of `p` has been heard within LEASE + GUARD. -/
def State.recentRenewal (s : State) (p : Nat) : Bool := match (s.pos p).heardAt with
  | none => false
  | some a => decide (s.since a < s.takeNs)

/-- Rank under R388: 0 for the declared position, 1 for the spare; the other active position is not the module's to take. -/
def State.rank (s : State) (p : Nat) : Option Nat :=
  let d := s.get F.TOK_CTRL_POSITION
  if d = p then some 0 else if d = 2 then some 1 else none

/-- The take condition (R388). -/
def State.mayTake (s : State) (p : Nat) : Bool :=
  s.posOk p && s.heldPos.isNone && s.flag F.TOK_STATUS_HEARD &&
  (match (s.pos p).heardAt with
    | some a => decide (s.takeNs ≤ s.since a)
    | none => match s.rank p, s.tok.heardAt with
      | some r, some h => decide ((1 + r) * s.takeNs ≤ s.since h)
      | _, _ => false)

/-- A set of images partly received is dropped for the images before it (R398). -/
def State.wholeSet (s : State) : State :=
  let part := !s.tok.partial_.isEmpty || s.tok.prevImages.any (fun e => !s.tok.setGot.contains e.1)
  s.setTok { s.tok with partial_ := [], setGot := [], prevImages := [],
                        images := if part && !s.tok.setGot.isEmpty then s.tok.prevImages else s.tok.images }

/-- Take position `p` (R389): TAKESEQ, SOLO, the lease, event 0x1601, the wake. -/
def State.takeToken (s : State) (p : Nat) : State :=
  let n := Nat.max s.tok.maxTake (s.get F.TOK_TAKESEQ) + 1
  let s := (s.wholeSet.put F.TOK_TAKESEQ n).putBit F.TOK_STATUS_HELD p true
  let s := (s.put F.TOK_STATUS_SOLO 1).setPos p { s.pos p with mine := (s.pos p).rseq, sent := [] }
  let asleep := decide (2 ≤ s.get F.PWR_STATE)
  let s := s.setTok { s.tok with lease := some (s.now + s.leaseNs), solo := true, takeAt := some s.now, taken := asleep,
                                 resume := !asleep, sendFrom := none, lastRet := [] }
  ((s.raise 0x1601 p).count F.TOK_CNT_TAKES).wakeStart.driveTrips

/-- TOKEN_TAKE (R388); a renewal that arrives in the clock of the take prevents it (R398). -/
def execTokenTake (pos t : Nat) (s : State) (renewal : Bool := false) : Out State :=
  let s := s.advance t
  .next (if s.mayTake pos && !renewal then s.reportRed (fun s => s.takeToken pos) else s)

/-- TOK_CMD.TAKE (R390): refused while a renewal is recent, for a position the mode does not have, and on a holder. -/
def State.takeCmd (s : State) (p : Nat) : State :=
  if !s.posOk p || s.heldPos.isSome || s.recentRenewal p then s.count F.TOK_CNT4_CMDREF else s.reportRed (fun s => s.takeToken p)

/-- TOK_CMD.RELEASE. -/
def State.releaseCmd (s : State) : State := match s.heldPos with
  | none => s.count F.TOK_CNT4_CMDREF
  | some p => s.reportRed (fun s => s.loseToken p)

/-- TAKE. -/
def execTake (key pos t : Nat) (s : State) : Out State :=
  let s := s.advance t
  .next (if key = 0x5A3C then s.takeCmd pos else s)

/-- RELEASE. -/
def execRelease (key t : Nat) (s : State) : Out State :=
  let s := s.advance t
  .next (if key = 0x5A3C then s.releaseCmd else s)

/-! ## Links and peers (R384) -/

/-- A pair link that was up goes down. -/
def State.pairDown (s : State) (tw : Nat) : State :=
  if s.redundant && bit (s.get F.TOK_STATUS_LINKS) tw then
    s.reportRed (fun s => ((s.putBit F.TOK_STATUS_LINKS tw false).raise 0x1603 tw).count F.TOK_CNT3_LINKDN)
  else s

/-- No pair-link frame has arrived on the link for LEASE / 2. -/
def State.pairSilent (s : State) (tw : Nat) : Bool := match (s.port (16 + tw)).heard with
  | none => true
  | some a => decide (s.leaseNs / 2 ≤ s.since a)

/-- PAIR_LINK_DOWN. -/
def execPairLinkDown (tw t : Nat) (s : State) : Out State :=
  let s := s.advance t
  .next (if !s.flag (F.PRT_STATUS_LINK (16 + tw)) || s.pairSilent tw then s.pairDown tw else s)

/-- PORT_LINK_DOWN; the pair link of TW0 or TW1 goes down with its port (R384). -/
def execPortLinkDown (port : Nat) (s : State) : Out State :=
  .next (if port = 16 ∨ port = 17 then (s.portDown port).pairDown (port - 16) else s.portDown port)

/-- PEER_LOST. In Pair mode the one peer is lost on both (R381). -/
def execPeerLost (peer t : Nat) (s : State) : Out State :=
  let s := s.advance t
  let a := Sp.get 0 s.tok.peerAt peer
  .next (if s.redundant && bit (s.get F.TOK_STATUS_PEERS) peer && decide (a + s.takeNs ≤ s.now + 1) then
    s.reportRed (fun s =>
      let gone := if s.twinMode then [peer] else [0, 1]
      (s.each gone (fun s p => s.putBit F.TOK_STATUS_PEERS p false)).raise 0x1604 0)
  else s)

/-! ## Checkpoints (R391, R393) -/

/-- The frames of an image: 1,400 bytes each, LAST on the last. -/
def State.sendImage (s : State) (i dhash period : Nat) (b : Bytes) : State :=
  let n := Nat.max 1 (cdiv b.length 1400)
  s.each (List.range n) (fun s k => s.plSend 0x12 (k + 1 == n)
    ([BitVec.ofNat 8 i, 0, 0, 0] ++ beBytes 8 dhash ++ beBytes 4 period ++ beBytes 4 (1400 * k) ++ beBytes 4 b.length ++
      slice b (1400 * k) 1400))

/-- The newest complete snapshot of an instance, with its last committed TRIP and FAULTDET, is streamed. -/
def State.streamInst (s : State) (d : InstDecl) : State := match (s.inst d.inst).snapshot with
  | none => s
  | some x => s.sendImage d.inst d.dhash s.tok.period
      (Config.ckptImage { x with trip := (s.inst d.inst).trip, fault := (s.inst d.inst).fault })

/-- 20 ms of the raw counter have passed since a raw time, or there is none (R391, R392). -/
def State.due20 (s : State) (last : Option Nat) : Bool := match last with
  | none => true
  | some a => decide (a + 20000000 ≤ s.now)

/-- CHECKPOINT_STREAM: every 20 ms on the raw counter. -/
def execCheckpointStream (t : Nat) (s : State) : Out State :=
  let s := s.advance t
  .next (if s.redundant && s.heldPos.isSome && s.due20 s.tok.streamAt then
    let s := s.setTok { s.tok with period := (s.tok.period + 1) % 2 ^ 32, streamAt := some s.now }
    s.pInstances.foldl State.streamInst s
  else s)

/-- A standby takes the stream of this sender (R393): in Twin-plus-spare mode the holder of A, or of B while A is not held. -/
def State.streamFrom (s : State) (h : PlHdr) : Bool :=
  s.standby && (!s.twinMode || bit h.flags 0 || (bit h.flags 1 && !s.recentRenewal 0))

/-- An image has arrived whole: accepted when POOL declares the instance with its DHASH, and written to the MRAM
buffers. -/
def State.acceptImage (s : State) (i dhash : Nat) (b : Bytes) : State :=
  if s.pInstances.any (fun d => d.inst == i && d.dhash == dhash) then
    let v := Config.ckptSnap b
    let x : Snap := { ckpt := v.1, pub := v.2.1, trip := v.2.2.1, fault := v.2.2.2, dhash := dhash, at_ := s.now }
    let s := s.setTok { s.tok with images := s.tok.images.filter (fun e => e.1 != i) ++ [(i, x)], setGot := s.tok.setGot ++ [i] }
    (s.setInst i { s.inst i with staged := some x, prior := none }).writeNow (.ckpt i x)
  else s.count F.TOK_CNT3_CKPTREJ

/-- A new set begins: the images accepted so far are those before it. -/
def State.newSet (s : State) (period : Nat) : State :=
  if s.tok.period = period then s
  else s.setTok { s.tok with period := period, partial_ := [], setGot := [], prevImages := s.tok.images }

/-- A checkpoint frame: fragments come in order; one that does not fit ends the image in hand. -/
def State.checkpointPart (s : State) (h : PlHdr) (i dhash period offset total : Nat) (image : Bytes) : State :=
  let s := s.newSet period
  let had := match s.tok.partial_.find? (fun e => e.1 == i) with
    | none => []
    | some e => e.2.2
  let rest := s.tok.partial_.filter (fun e => e.1 != i)
  let b := if offset = 0 then image else had ++ image
  let fits := offset == 0 || offset == had.length
  if !fits then s.setTok { s.tok with partial_ := rest }
  else if !bit h.flags 3 then s.setTok { s.tok with partial_ := rest ++ [(i, period, b)] }
  else
    let s := s.setTok { s.tok with partial_ := rest }
    if b.length = total then s.acceptImage i dhash b else s

/-- A checkpoint frame on a link. -/
def State.checkpointIn (s : State) (tw : Nat) (h : PlHdr) (inst dhash period offset total : Nat) (image : Bytes) : State :=
  s.plReceive tw 0x12 h (fun s => if s.streamFrom h then s.checkpointPart h inst dhash period offset total image else s)

/-- CHECKPOINT_FRAME. -/
def execCheckpointFrame (tw : Nat) (h : PlHdr) (inst dhash period offset total : Nat) (image : Bytes) (t : Nat) (s : State) :
    Out State := .next ((s.advance t).checkpointIn tw h inst dhash period offset total image)

/-! ## The RETAIN mirror (R392, R393) -/

/-- Lines `first` up to `first + n` as a mask. -/
def lineMask (first n : Nat) : Nat := (2 ^ n - 1) * 2 ^ first

/-- Bytes of the mirror: 1 MiB. -/
def mirrorSize : Nat := 1048576

/-- Every line of the whole image has arrived since the last gap. -/
def State.mirrorFull (s : State) : Bool := match s.lge.prog with
  | none => false
  | some p => decide (0 < p.retLen) && s.tok.mirrorWhole % 2 ^ cdiv p.retLen 64 == 2 ^ cdiv p.retLen 64 - 1

/-- Lines of a logic cycle are applied; a gap in the cycle numbers ends the validity until the next whole image. -/
def State.retainLines (s : State) (cycle first : Nat) (lines : Bytes) : State :=
  let gap := decide (cycle + 1 ≠ s.tok.mirrorCyc) && decide (cycle ≠ s.tok.mirrorCyc)
  let n := lines.length / 64
  let m := fitTo mirrorSize s.tok.mirror
  let got := (if gap then 0 else s.tok.mirrorWhole) ||| lineMask (Nat.min first 16384) n
  let s := s.setTok { s.tok with mirror := patch m (64 * first) (lines.take (64 * n)), mirrorCyc := cycle + 1, mirrorWhole := got }
  if s.mirrorFull then s.put F.TOK_SYNC_RETAIN 1 else if gap then s.put F.TOK_SYNC_RETAIN 0 else s

/-- A RETAIN frame on a link. -/
def State.retainIn (s : State) (tw : Nat) (h : PlHdr) (cycle first : Nat) (lines : Bytes) : State :=
  s.plReceive tw 0x13 h (fun s => if s.streamFrom h then s.retainLines cycle first lines else s)

/-- RETAIN_FRAME. -/
def execRetainFrame (tw : Nat) (h : PlHdr) (cycle first : Nat) (lines : Bytes) (t : Nat) (s : State) : Out State :=
  .next ((s.advance t).retainIn tw h cycle first lines)

/-- RETAIN_MIRROR_WRITE: every 20 ms. -/
def execRetainMirrorWrite (s : State) (t : Nat := 0) : Out State :=
  let s := s.advance t
  .next (if s.standby && s.due20 s.tok.mirrorAt then
    let s := s.stageMirror.setTok { s.tok with mirrorAt := some s.now }
    match s.lge.retStaged with
    | none => s
    | some b => s.writeNow (.retain b)
  else s)

/-! ## Status (R399) -/

/-- REDUNDANCY_STATUS: every 100 ms. -/
def execRedundancyStatus (t : Nat) (s : State) : Out State := .next (s.advance t).sendRedStatus

end Sys2Proof.Machine
end

