-- ==== Sys2Proof/Machine/Receive.lean ====
section
/-!
DEFINITION. Frames received: checks, the duplicate window, HSR forwarding, filtering, dispatch (R87 to R91, R95, R164, R274, R383). Readings
and choices are in log entry 43.
-/
namespace Sys2Proof.Machine

/-! ## Checks and capture (R87, R106, R125) -/

/-- Raw time at which the start-of-frame delimiter of a frame that ends at `t` passed. -/
def State.captureOf (s : State) (p len t : Nat) : Nat := t - s.lineTime p len

/-- Count a good frame. -/
def State.countRx (s : State) (p len : Nat) : State :=
  if p < 0x20 then
    (s.stat (F.PRT_RXFRM_LO p) (F.PRT_RXFRM_LIVE p) 1).stat (F.PRT_RXOCT_LO p) (F.PRT_RXOCT_LIVE p) len
  else
    (s.stat (F.SBP_RXFRM_LO (hostPage p)) (F.SBP_RXFRM_LIVE (hostPage p)) 1).stat
      (F.SBP_RXOCT_LO (hostPage p)) (F.SBP_RXOCT_LIVE (hostPage p)) len

/-- A frame discarded by R89 or R90. -/
def State.mcDrop (s : State) (p : Nat) : State := s.stat (F.PRT_MCDROP_LO p) (F.PRT_MCDROP_LIVE p) 1

/-! ## Pairs (R88, R164) -/

/-- A PTP frame, which each port takes separately. -/
def isPtp (f : RxFrame) : Bool := f.etherType == 0x88F7

/-- The pair's window has this source and sequence number, not yet too old. -/
def State.inDup (s : State) (k : Nat) (src : Bytes) (seq : Nat) : Bool :=
  (Sp.get [] s.svi.dup k).any (fun e => e.src == src && e.seq == seq && decide (s.since e.at_ ≤ s.get F.SVI_CTRL_DUPAGE * 1000000))

/-- Enter it; a full window loses its oldest entry. -/
def State.enterDup (s : State) (k p : Nat) (src : Bytes) (seq : Nat) : State :=
  s.setSvi { s.svi with dup := Sp.put [] s.svi.dup k (({ src := src, seq := seq, at_ := s.now, port := p } :: Sp.get [] s.svi.dup k).take 2048) }

/-- Two copies that end in one clock (R164): the lower-numbered port's is the one accepted. When the other was taken first, the frame it left in
a queue of the parser takes this copy's port and stamp, and on an HSR pair this copy is the one forwarded. What the other copy has already
done elsewhere stays: DESIGN CHOICE (log entry 43). -/
def State.takeLower (s : State) (p high : Nat) (f : RxFrame) (stamp : Nat) : State :=
  let same := fun (g : RxFrame) => g.src == f.src && g.dst == f.dst && g.body == f.body
  let upd := fun (q : QFrame) => match q.frame with
    | some g => if q.port == high && q.at_ / 4 == s.now / 4 && same g then { q with port := p, stamp := stamp } else q
    | none => q
  let s := s.setSvi { s.svi with urgent := s.svi.urgent.map upd, normal := s.svi.normal.map upd }
  match (s.port p).txq.find? (fun x => match x.body with
      | .fwd g => same g
      | _ => false) with
  | none => s
  | some x => (s.setPort p { s.port p with txq := (s.port p).txq.erase x }).queueTx high { x with body := .fwd f }

/-- The duplicate window of a frame with a sequence number. Answers whether the frame goes on. -/
def State.dupCheck (s : State) (p : Nat) (f : RxFrame) (seq capture : Nat) : State × Bool :=
  let k := s.pairKey p
  if s.inDup k f.src seq then
    let s := s.stat F.SVI_PRPDUP_LO F.SVI_PRPDUP_LIVE 1
    match (Sp.get [] s.svi.dup k).find? (fun e => e.src == f.src && e.seq == seq) with
    | some e => (if p < e.port ∧ e.at_ / 4 = s.now / 4 then s.takeLower p e.port f (s.rxStamp p capture) else s, false)
    | none => (s, false)
  else (s.enterDup k p f.src seq, true)

/-- What a pair makes of a frame. Answers whether it goes on. -/
def State.pairCheck (s : State) (p : Nat) (f : RxFrame) (capture : Nat) : State × Bool :=
  if isPtp f then (s, true)
  else match (if p < 16 then s.get (F.PRT_CTRL_PAIR p) else 0) with
    | 1 => match f.prp with
      | none => (s, true)
      | some g =>
        if !g.ok then (s, true)
        else
          (if g.lan != s.lanOf p then s.count F.SVI_PRPERR else s).dupCheck p f g.seq capture
    | 2 => match f.hsr with
      | none => (s.count F.SVI_OVFL_HSRUNTAG, false)
      | some g => s.dupCheck p f g.seq capture
    | _ => (s, true)

/-- A source address of the module on a pair (R88, R108): the port's own, or in Twin-plus-spare mode, while the module holds a token, the
TWMAC of a twinned template. -/
def State.ownSource (s : State) (p : Nat) (src : Bytes) : Bool :=
  src == s.macOfPort p || (s.twinMode && s.heldPos.isSome && s.twMacs.contains src)

/-- The port is half of an HSR pair. -/
def State.hsrPort (s : State) (p : Nat) : Bool := decide (p < 16) && s.get (F.PRT_CTRL_PAIR p) == 2

/-- An HSR pair forwards what the module did not originate and what is not addressed to it alone, before the filters of R89; a PTP frame
of a transparent-clock port is forwarded by the transparent clock, corrected (R121). -/
def State.hsrForward (s : State) (p : Nat) (f : RxFrame) (capture : Nat) : State :=
  if !s.hsrPort p then s
  else match s.pairPeer p with
    | none => s
    | some q =>
      if s.ownSource p f.src || f.dst == s.macOfPort p then s
      else match f.body with
        | .ptp m => if s.tcEn p then s.tcRelay p m (s.rxStamp p capture) f.src f.len else
          s.queueTx q { queue := 7, len := f.len, src := f.src, body := .fwd f, red := none, stamp := none, chan := none }
        | _ => s.queueTx q { queue := 7, len := f.len, src := f.src, body := .fwd f, red := none, stamp := none, chan := none }

/-! ## Pair-link frames (R383) -/

/-- Bytes of the body of a pair-link frame of a TYPE. -/
def plBodyLen (b : Bytes) : Nat := match beAt b 1 1 with
  | 0x10 => 28
  | 0x11 => 8
  | 0x12 => 24 + Nat.min 1400 (beAt b 36 4 - beAt b 32 4)
  | 0x13 => 16 + 64 * beAt b 28 2
  | _ => 16

/-- The header of a pair-link frame, with its check. -/
def plHdrOf (b : Bytes) : PlHdr :=
  let n := 16 + plBodyLen b
  { ver := beAt b 0 1, from_ := beAt b 2 1, flags := beAt b 3 1, seq := BitVec.ofNat 32 (beAt b 4 4), serial := beAt b 8 8,
    crcOk := decide (n + 4 ≤ b.length) && beAt b n 4 == (crc32 (b.take n)).toNat }

/-- The redundancy controller takes a frame from pair link `tw`. -/
def State.pairFrame (s : State) (tw : Nat) (b : Bytes) : State :=
  let h := plHdrOf b
  let n := fun (o : Nat) => beAt b (16 + o) 4
  match beAt b 1 1 with
  | 0x10 => s.renewIn tw h (beAt b 16 1) (n 4) (n 8) [(n 12, n 16), (n 20, n 24)]
  | 0x11 => s.ackIn tw h (beAt b 16 1) (n 4)
  | 0x12 => s.checkpointIn tw h (beAt b 16 1) (beAt b 20 8) (n 12) (n 16) (n 20) (slice b 40 (plBodyLen b - 24))
  | 0x13 => s.retainIn tw h (beAt b 16 8) (n 8) (slice b 32 (plBodyLen b - 16))
  | 0x14 => s.digestIn tw h (beAt b 16 8) (BitVec.ofNat 64 (beAt b 24 8))
  | _ => s

/-! ## Filtering and dispatch (R89 to R91) -/

/-- The halt exchange takes a payload: pair-link frames of TW0 and TW1 go to the redundancy controller. -/
def State.toHalts (s : State) (p : Nat) (f : RxFrame) (capture : Nat) : State := match f.body with
  | .raw b => if (p = 16 ∨ p = 17) ∧ 0x10 ≤ beAt b 1 1 then s.pairFrame (p - 16) b else s.haltReply p b capture
  | _ => s

/-- The time-stamp unit of the port takes a PTP message; the transparent clock of a port that is not half of an HSR pair forwards it. -/
def State.toTsu (s : State) (p : Nat) (f : RxFrame) (capture : Nat) : State := match f.body with
  | .ptp m => (if s.hsrPort p then s else s.tcRelay p m (s.rxStamp p capture) f.src f.len).ptpMessage p m capture
  | _ => s

/-- Dispatch by EtherType. -/
def State.dispatch (s : State) (p : Nat) (f : RxFrame) (capture : Nat) : State :=
  if f.etherType = 0x88BA then s.classify p f (s.rxStamp p capture)
  else if f.etherType = 0x88F7 then s.toTsu p f capture
  else if f.etherType = 0x88B5 then s.toHalts p f capture
  else s.mcDrop p

/-- The exact-match entry of a destination on a port. -/
def State.exactMatch (s : State) (p : Nat) (dst : Bytes) : Option Nat :=
  (List.range 1024).find? (fun i => s.flag (F.PRT_EXM_VALID i) && bit (s.get (F.PRT_EXM_PORTS i)) p &&
    leBytes 4 (s.get (F.PRT_EXM_ADDR_LO i)) ++ leBytes 2 (s.get (F.PRT_EXM_ADDR_HI i)) == dst)

/-- Deliver to the DEST of an entry. -/
def State.deliver (s : State) (p i : Nat) (f : RxFrame) (capture : Nat) : State :=
  match s.get (F.PRT_EXM_DEST i) with
  | 0 => s.classify p f (s.rxStamp p capture)
  | 1 => s.dmaReceive (s.get (F.PRT_EXM_QUEUE i)) (Config.rxOctets f) p (wrapNs (s.tbAt (s.stampTb p) (s.rxStamp p capture)))
  | 2 => s.toTsu p f capture
  | _ => s.toHalts p f capture

/-- The hash bin of an address is set. -/
def State.hashHit (s : State) (dst : Bytes) : Bool :=
  let bin := (crc32 dst).toNat % 4096
  bit (s.get (F.PRT_HASH_BINS (bin / 32))) (bin % 32)

/-- The steps of R89 after MAC control. -/
def State.filter (s : State) (p : Nat) (f : RxFrame) (capture : Nat) : State :=
  if f.dst = s.macOfPort p then s.dispatch p f capture
  else if f.dst = List.replicate 6 0xFF#8 then (if s.flag (F.PRT_CTRL_BCAST p) then s.dispatch p f capture else s.mcDrop p)
  else match s.exactMatch p f.dst with
    | some i => s.deliver p i f capture
    | none => if s.hashHit f.dst then s.dispatch p f capture else s.mcDrop p

/-- A good frame on a field-die port: the pair, HSR forwarding, then filtering without tag and trailer. -/
def State.takeFrameOn (s : State) (p : Nat) (f : RxFrame) (capture : Nat) : State :=
  let r := s.pairCheck p f capture
  if r.2 then (r.1.hsrForward p f capture).filter p { f with prp := none, hsr := none } capture else r.1

/-- The host die takes a frame of one of its ports: the transparent clock of an SB pair acts on PTP messages (R121, R133). The rest is the
manager's. -/
def State.hostFrame (s : State) (p : Nat) (f : RxFrame) (capture : Nat) : State := match f.body with
  | .ptp m =>
    let st := s.rxStamp p capture
    if s.tcEn p then (s.tcRelay p m st f.src f.len).pdelayTake p (s.tcPeerDelay p) m st else s
  | _ => s

/-- A frame received whole; on MT it marks the end of the carrier (R99). -/
def State.receiveFrame (s : State) (p : Nat) (f : RxFrame) (t : Nat) : State :=
  let s := if p = 0x24 then s.setHost { s.host with carrier := Nat.max s.host.carrier t } else s
  if !s.flag (linkFld p) || s.hostDown p then s
  else if f.len < 64 ∨ 1528 < f.len then s.count (portFld F.PRT_LENERR F.SBP_LENERR p)
  else if !f.fcsOk then s.count (portFld F.PRT_CRCERR F.SBP_CRCERR p)
  else
    let s := s.countRx p f.len
    match f.body with
    | .macControl none => s
    | .macControl (some quanta) => s.pauseFrame p quanta
    | _ => if isHostPort p then s.hostFrame p f (s.captureOf p f.len t) else s.takeFrameOn p f (s.captureOf p f.len t)

/-- FRAME_RECEIVED (R89). -/
def execFrameReceived (port : Nat) (f : RxFrame) (t : Nat) (s : State) : Out State := .next ((s.advance t).receiveFrame port f t)

/-! ## Subscription mirrors (R274) -/

/-- Bytes of the message before the body. -/
def mirrorHeader (queue kind sbport : Nat) (stamp : Word) (n : Nat) : Bytes :=
  [BitVec.ofNat 8 queue, BitVec.ofNat 8 kind, BitVec.ofNat 8 sbport, 0] ++ leBytes 2 n ++ zeros 2 ++ leBytes 4 stamp.toNat

/-- SUBSCRIPTION_MIRROR: only the manager sends it; TGT must own the queue. -/
def execSubscriptionMirror (h : Hdr) (queue kind sbport : Nat) (stamp : Word) (body : Bytes) (s : State) : Out State :=
  .next (s.receive 0xA h (fun s =>
    if body = [] ∨ 2036 < body.length then s.malformed 0xA 0x0001
    else if h.src ≠ 0 ∨ 31 < queue then s
    else if s.qOwner queue ≠ h.tgt then s.count (F.DMX_QCNT_REFUSED queue)
    else s.dmaReceive queue (mirrorHeader queue kind sbport stamp body.length ++ body) 0x1F stamp))

end Sys2Proof.Machine
end

