-- ==== Sys2Proof/Machine/Access.lean ====
section
/-!
DEFINITION. Register accesses: what a write does when it takes effect, what a read returns and latches, posted writes through the
junctions (R11, R19 to R27, R37). Readings and choices are in log entry 44.
-/
namespace Sys2Proof.Machine

/-! ## Addresses -/

/-- First address by which a REGISTER_WRITE of TILE names the local pages: that of platform `p` is 4 KiB from `localBase + 0x1000 p`. -/
def localBase : Nat := 0x00200000

/-- Platform and offset of a local page (R207, R235). -/
def localPage (a : Nat) : Option (Nat × Nat) :=
  if localBase ≤ a ∧ a < localBase + 24 * 0x1000 then some ((a - localBase) / 0x1000, (a - localBase) % 0x1000) else none

/-- Do `f` when a bit is set. -/
def State.onBit (s : State) (v : Word) (i : Nat) (f : State → State) : State := if bit v.toNat i then f s else s

/-- A plain write of some bits of a word. -/
def State.storeBits (s : State) (a : Nat) (v mask : Word) : State := s.storeWord a (v &&& mask)

/-! ## Writes by block -/

/-- PWR_CMD: VOID before the rest; a module reset leaves nothing to park or to wake. -/
def State.writeCmd (s : State) (v : Word) : State :=
  if v.toNat / 2 ^ 16 ≠ 0x5A3C then s
  else
    let s := s.onBit v 3 State.voidCmd
    if bit v.toNat 2 then s.moduleReset 2 0 else (s.onBit v 0 State.parkCmd).onBit v 1 State.wakeCmd

/-- PWR (R62). -/
def State.writePwr (s : State) (a : Nat) (v : Word) : State :=
  if a = F.PWR_CMD_KEY.addr then s.writeCmd v
  else if a = F.PWR_WDT_MGR.addr then s.writeWdt (v.toNat % 256)
  else s.storeWord a v

/-- PRT (R107): PAUSE_EN of TW0 and TW1 stays 0. -/
def State.writePrt (s : State) (a : Nat) (v : Word) : State := match startPort a with
  | some p => s.writeTxthr p v
  | none => if a = (F.PRT_CTRL_MODE 16).addr ∨ a = (F.PRT_CTRL_MODE 17).addr then s.storeBits a v 0xFFFFFFDF#32 else s.storeWord a v

/-- EQ_POP of a stamp page. -/
def State.writePop (s : State) (p : Nat) (v : Word) : State :=
  (s.onBit v 0 (fun s => s.popStamp p true)).onBit v 1 (fun s => s.popStamp p false)

/-- TSU (R123, R138). -/
def State.writeTsu (s : State) (a : Nat) (v : Word) : State := match unitAt 0x01200000 0x100 4 0x30 a with
  | some b => (s.storeBits a v 0x7FFFFFFF#32).onBit v 31 (fun s => s.armSetsec b)
  | none => match unitAt 0x01201000 0x40 18 0x30 a with
    | some p => s.writePop p v
    | none => s.storeWord a v

/-- TTB (R151 to R153, R157): CANCEL acts before SWITCH, which only the manager and the stationmaster may write (R152). -/
def State.writeTtb (s : State) (manager : Bool) (a : Nat) (v : Word) : State :=
  if a = F.TTB_BANK_SEL_SWITCH.addr then
    let s := (s.storeBits a v 0x20#32).onBit v 2 State.bankCancel
    if manager then s.onBit v 1 State.bankRequest else s
  else if 0x01214000 ≤ a ∧ a < 0x0121C000 then
    let o := a - 0x01214000
    s.writeSlot (o / 0x4000) (o % 0x4000 / 32) (o % 32 / 4) v
  else s.storeWord a v

/-- MAR (R239, R250, R254, R255). -/
def State.writeMar (s : State) (a : Nat) (v : Word) : State :=
  if 0x01601000 ≤ a ∧ a < 0x01601020 then s
  else if a = F.MAR_MSEL_CLR.addr then
    ((s.storeBits a v 0x7FFFFFFF#32).showMeas).onBit v 31 (fun s => s.clearMeas (v.toNat / 256 % 64) (v.toNat % 256))
  else match unitAt 0x01601000 0x20 64 0x04 a, unitAt 0x01601000 0x20 64 0x08 a, unitAt 0x01601000 0x20 64 0x0C a with
    | some i, _, _ => s.writeBound i 0 v
    | _, some i, _ => s.writeBound i 1 v
    | _, _, some i => s.writeBound i 2 v
    | _, _, _ => s.storeWord a v

/-- ACQ (R282 to R284, R294, R301, R302): the bits of RCMD in order. -/
def State.writeAcq (s : State) (a : Nat) (v : Word) : State :=
  if a = F.ACQ_HREQ_GO.addr then (s.storeBits a v 0x7FFFFFFF#32).onBit v 31 State.historyReq
  else match unitAt 0x01800400 0x40 16 0x24 a with
    | some r => (((s.onBit v 0 (fun s => s.recArm r)).onBit v 1 (fun s => s.recDisarm r)).onBit v 2 (fun s => s.trigNow r 2 0)).onBit v 3
        (fun s => s.recRelease r)
    | none => s.storeWord a v

/-- INS (R334, R337, R338, R343, R345, R358, R359). INS_ICMD is the manager's alone, and so is INS_SEMn, whose write releases for holder 0. -/
def State.writeIns (s : State) (manager : Bool) (a : Nat) (v : Word) : State :=
  match unitAt 0x01A02000 4 256 0 a with
  | some n => if manager && bit v.toNat 0 then s.semRelease 0 n (bit v.toNat 1) else s
  | none => match unitAt 0x01A02400 4 32 0 a with
    | some q => s.writeOwner q (v.toNat % 64)
    | none =>
      let o := (a - 0x01A00100) % 0x40
      let i := (a - 0x01A00100) / 0x40
      if a < 0x01A00140 ∨ 0x01A01100 ≤ a then s.storeWord a v
      else match o with
        | 0x00 =>
          if !manager then s
          else (((s.onBit v 0 (fun s => s.startInst i)).onBit v 1 (fun s => s.resetCmd i 1)).onBit v 2 (fun s => s.resetCmd i 2)).parkDue
        | 0x08 => s.writeQuota i 0 v
        | 0x0C => s.writeQuota i 1 v
        | 0x14 => s.writeHeap i ((F.INS_HEAP_SIZE i).part v)
        | _ => s.storeWord a v

/-- An arbiter's NFREE outside 2 to 64 is ignored (R352). -/
def State.writeNfree (s : State) (a : Nat) (v : Word) : State :=
  let n := v.toNat % 128
  if 2 ≤ n ∧ n ≤ 64 then s.storeWord a v else s

/-- DMX (R349 to R352, R361): the bits of CHCTL in order, after CHAIN and PRIO. -/
def State.writeDmx (s : State) (a : Nat) (v : Word) : State :=
  match unitAt 0x01B00000 0x80 32 0x20 a, unitAt 0x01B00000 0x80 32 0x30 a with
  | some c, _ =>
    let s := s.storeBits a v 0xFF02#32
    let s := ((s.onBit v 0 (fun s => s.startChannel c)).onBit v 2 (fun s => s.ringDoorbell c)).onBit v 3 (fun s => s.resumeChan c)
    (s.onBit v 4 (fun s => s.abortChan c)).onBit v 5 (fun s => s.clearErr c)
  | _, some q => s.pushDesc q v
  | _, _ => if a = 0x01B01000 ∨ a = 0x01B01004 then s.writeNfree a v else s.storeWord a v

/-- MEM (R352, R354): the priority of client 8 is fixed. -/
def State.writeMem (s : State) (a : Nat) (v : Word) : State :=
  if a = F.MEM_ARB_NFREE.addr then s.writeNfree a v
  else if a = (F.MEM_ARBPRIO 8).addr then s
  else s.storeWord a v

/-- TOK_CMD (R390): TAKE before RELEASE. -/
def State.writeTok (s : State) (a : Nat) (v : Word) : State :=
  if a = F.TOK_CMD_KEY.addr then
    if v.toNat / 2 ^ 16 ≠ 0x5A3C then s
    else (s.onBit v 0 (fun s => s.takeCmd (v.toNat / 16 % 2))).onBit v 1 State.releaseCmd
  else s.storeWord a v

/-- A write of SBP_CTRL or MTP_CTRL: a port whose address is zero or multicast is not enabled, its MODE stays 0 (R108). DESIGN CHOICE (log
entry 6): the same of an SB port whose MODE names no PHY type of R85. -/
def State.writeHostCtrl (s : State) (i a : Nat) (v : Word) : State :=
  let s := s.storeWord a v
  let s := if i = 4 then (if s.hostMacOk 4 || s.get F.MTP_CTRL_MODE == 3 then s else s.put F.MTP_CTRL_MODE 0)
    else if s.portOn (0x20 + i) then s
    else s.put (F.SBP_CTRL_MODE i) 0
  if i < 4 then (s.showLat (0x20 + i)).showSdinh i else s

/-- An SB port may be half of a transparent-clock pair (R133): it and the port that TCPEER names name each other, with the same STAMPTB and
TCMODE. -/
def State.tcMate (s : State) (i : Nat) : Bool :=
  let j := s.get (F.SBP_PORT_CTRL_TCPEER i)
  decide (j < 4) && j != i && s.get (F.SBP_PORT_CTRL_TCPEER j) == i &&
    s.get (F.SBP_PORT_CTRL_STAMPTB j) == s.get (F.SBP_PORT_CTRL_STAMPTB i) && s.get (F.SBP_PORT_CTRL_TCMODE j) == s.get (F.SBP_PORT_CTRL_TCMODE i)

/-- The host die holds TCEN at 0 on every SB port that has no such partner, and step-down follows (R97, R133). -/
def State.holdTcen (s : State) (i : Nat) : State := (if s.tcMate i then s else s.put (F.SBP_PORT_CTRL_TCEN i) 0).showSdinh i

/-- The host die's pages (R111, R133). -/
def State.writeHost (s : State) (a : Nat) (v : Word) : State :=
  match unitAt 0x03000000 0x1000 5 0x08 a, unitAt 0x03000000 0x1000 4 0x430 a, unitAt 0x03000000 0x1000 5 0x00 a with
  | some i, _, _ => s.writeTxthr (0x20 + i) v
  | _, some i, _ => s.writePop (0x20 + i) v
  | _, _, some i => s.writeHostCtrl i a v
  | _, _, _ => if (unitAt 0x03000000 0x1000 4 0x400 a).isSome then (List.range 4).foldl State.holdTcen (s.storeWord a v) else s.storeWord a v

/-- A write in the local page of a platform by its running task (R214, R235, R283, R341, R343, R360). -/
def State.writeLocal (s : State) (p o : Nat) (v : Word) : State := match (s.pf p).cur with
  | none => s
  | some r =>
    let s := s.coreActs p
    let i := r.l.inst
    if o = 0x00 then (if (s.coreRuns p).isSome then s.phqPush p v.toNat else s)
    else if o = 0x10 then s.rectrig p (v.toNat % 65536)
    else if o = 0x20 then
      let s := s.onBit v 16 (fun s => s.setInst i { s.inst i with door := false })
      (s.onBit v 17 (fun s => s.setInst i { s.inst i with oful := false })).showMail i
    else if o = 0x28 then s.onBit v 0 (fun s => s.mbPop i)
    else if o = 0x2C then
      let op := v.toNat % 65536
      let len := v.toNat / 65536 % 128
      let data := (List.range 16).flatMap (fun k => leBytes 4 (s.get (F.LCL_MB_OUT p k)))
      if 1 ≤ op ∧ op ≤ 0xFE ∧ 1 ≤ len ∧ len ≤ 64 then s.mbPush i op (data.take len) else s
    else if 0x140 ≤ o ∧ o < 0x180 ∧ o % 4 = 0 then s.put (F.LCL_MB_OUT p ((o - 0x140) / 4)) v.toNat
    else if 0x400 ≤ o ∧ o < 0x800 ∧ o % 4 = 0 then s.onBit v 0 (fun s => s.semRelease i ((o - 0x400) / 4) (bit v.toNat 1))
    else if 0x800 ≤ o then
      let q := (o - 0x800) / 0x40
      if s.qOwner q = i then s.writeDmx (0x01B00000 + 0x80 * q + o % 0x40) v else s
    else s

/-- The task address of a TCM address when the task's data window begins at `base`; below it lies nothing that the task sees (R207). -/
def taskAddr (base a : Nat) : Nat := if base ≤ a then 0x100000 + (a - base) else 0x300000

/-- The platform of an address in the TCM windows (R206). -/
def pfOfTcm (a : Nat) : Nat := (a - 0x20000000) / 0x100000

/-- The stores that write a word at a TCM address, when the data window of the task begins at `base`. -/
def wordAccs (base a : Nat) (v : Word) : List TaskAcc :=
  (List.range 4).map (fun k => .store (taskAddr base (a + k)) (BitVec.ofNat 8 (v.toNat / 2 ^ (8 * k))))

/-- A store of the running task, named by the platform's TCM window (R206 to R208). One outside its data window, or that its regions do not
allow, is an access fault. -/
def State.writeTcm (s : State) (a : Nat) (v : Word) : State :=
  let p := pfOfTcm a
  match s.coreRuns p with
  | none => s
  | some r =>
    s.accsNow p r (wordAccs (s.dataOn p r.l.inst 0) a v) id

/-! ## A write takes effect (R11, R20, R23) -/

/-- The island is powered down: STREAM and TILE in Park (R57). -/
def State.islandOff (s : State) (i : Island) : Bool := decide (2 ≤ s.get F.PWR_STATE) && (i == .stream || i == .tile)

/-- A write in a block of R26. -/
def State.writeBlock (s : State) (src : Island) (b : Block) (a : Nat) (v : Word) : State :=
  if s.islandOff b.island then s.setLink { s.link with shadow := s.link.shadow ++ [(a, v)] }
  else match b.base with
    | 0x01000000 => s.writePwr a v
    | 0x01100000 => s.writePrt a v
    | 0x01200000 => s.writeTsu a v
    | 0x01210000 => s.writeTtb (src == .aon) a v
    | 0x01300000 => s.writeStream a v
    | 0x01400000 => s.writeStream a v
    | 0x01700000 => s.writeStream a v
    | 0x01500000 => s.writeTile a v
    | 0x01900000 => s.writeTile a v
    | 0x01600000 => s.writeMar a v
    | 0x01800000 => s.writeAcq a v
    | 0x01A00000 => s.writeIns (src == .aon) a v
    | 0x01B00000 => s.writeDmx a v
    | 0x01C00000 => s.writeMem a v
    | 0x01D00000 => s.writeTok a v
    | _ => s.storeWord a v

/-- A write of `src` takes effect. -/
def State.writeEffect (s : State) (src : Island) (a : Nat) (v : Word) : State :=
  if a % 4 ≠ 0 then s
  else if hostAddr a then (if src = .host then s.writeHost a v else s)
  else if inWindow a then (if src = .tile then s.writeTcm a v else s)
  else match (if src = .tile then localPage a else none) with
    | some (p, o) => s.writeLocal p o v
    | none => match blockOf a with
      | none => s
      | some b => s.writeBlock src b a v

/-- The island of an address for a source; the host die is reached by no junction. -/
def islandOf (src : Island) (a : Nat) : Option Island :=
  if hostAddr a ∨ src = .host then (if hostAddr a ∧ src = .host then some .host else none)
  else if inWindow a then (if src = .tile then some .tile else none)
  else match (if src = .tile then localPage a else none) with
    | some (_, o) => some (if o = 0 ∨ (0x140 ≤ o ∧ o < 0x180) then .tile else .memory)
    | none => (blockOf a).map (fun b => b.island)

/-- A write is issued (R20): at once in the writer's own island, else into the junction. -/
def State.issue (s : State) (src : Island) (addr v : Word) (cfg : Option Word) : State := match islandOf src addr.toNat with
  | none => s
  | some dst => if dst = src then s.writeEffect src addr.toNat v else s.post src dst { addr := addr.toNat, val := v, cfg := cfg }

/-- REGISTER_WRITE. -/
def execRegisterWrite (src : Island) (addr val : Word) (s : State) : Out State := .next (s.issue src addr val none)

/-- The head of a junction takes effect. -/
def State.serveJunction (s : State) (src dst : Island) : State := match s.popJunc src dst with
  | none => s
  | some (a, s) => s.writeEffect src a.addr a.val

/-- The order in which the junctions are served in one clock (R25). -/
def serveOrder : List Island := [.aon, .media, .stream, .tile, .memory, .time, .vault]

/-- The field that a hardware update names, in a block of the destination island. -/
def hwField (u : HwUpd) (dst : Island) : Option Fld := match blockOf u.addr.toNat with
  | none => none
  | some b => if b.island = dst then (fieldsAt u.addr.toNat).find? (fun f => f.lo == u.lo) else none

/-- The hardware updates an rw field. -/
def State.hwUpdate (s : State) (dst : Island) (u : HwUpd) : State := match u.kind, hwField u dst with
  | .updates, some f => if f.acc = .rw then s.put f u.value else s
  | _, _ => s

/-- The hardware sets bits of a w1c field, or counts in a counter (R41). -/
def State.hwCount (s : State) (dst : Island) (u : HwUpd) : State := match u.kind, hwField u dst with
  | .sets, some f => if f.acc = .w1c then s.put f (s.get f ||| u.value) else s
  | .counts, some f => s.countN f u.value
  | _, _ => s

/-- JUNCTION_ACCESS_EFFECT (R25): in one clock the junctions are served in the fixed order, so that the write served last holds. A hardware
update of an rw field comes before them: the software value holds. A hardware set and a count come after them: a bit stays set that
software clears, and a counter that software clears reads what was counted. -/
def execJunctionAccessEffect (dst : Island) (srcs : List Island) (s : State) (hw : List HwUpd := []) : Out State :=
  let s := hw.foldl (fun s u => s.hwUpdate dst u) s
  let s := (serveOrder.filter (fun i => srcs.contains i)).foldl (fun s i => s.serveJunction i dst) s
  .next (hw.foldl (fun s u => s.hwCount dst u) s)

/-- JUNCTION_FIFO_DRAIN (R22): an entry of a full FIFO drains. -/
def execJunctionFifoDrain (src dst : Island) (s : State) : Out State :=
  .next (if (s.junc src dst).fifo.length < 8 then s else s.serveJunction src dst)

/-- JUNCTION_HUNG (R24, R61): watchdog 4. -/
def execJunctionHung (src dst : Island) (s : State) : Out State :=
  .next ((s.raise 0x0202 (islandCode src * 256 + islandCode dst)).moduleReset 3 4)

/-! ## Reads (R11, R21, R23) -/

/-- Bytes of a coefficient bank (R202). -/
def bankBytes (l : List CoefSet) : Bytes :=
  leBytes 4 l.length ++ l.flatMap (fun c =>
    [BitVec.ofNat 8 c.h.length, 0] ++ leBytes 2 c.gd ++ c.h.flatMap (fun x => leBytes 4 (wrapN 32 x)))

/-- What a read latches and does beside returning its value: HI parts, base times, AFE results, the remaining lease. -/
def State.readLatch (s : State) (a : Nat) : State :=
  let s := s.latchHi a
  let s := if a = F.PWR_STATE.addr then s.showStore else s
  let s := if (F.AFE_DRIFT_ODRIFT 0).addr ≤ a ∧ a < 0x01810080 then s.showDrift else s
  let s := if 0x01500000 ≤ a ∧ a < 0x01501800 then s.showCore ((a - 0x01500000) / 0x100) else s
  let s := if 0x01100000 ≤ a ∧ a < 0x01112000 then s.showPause ((a - 0x01100000) / 0x1000) else s
  match unitAt 0x01200000 0x100 4 0x08 a with
  | some b => s.latchTb b
  | none =>
    if 0x01D00000 ≤ a ∧ a < 0x01E00000 then s.showSync
    else if (F.AFE_RES_VALUE 0).addr ≤ a ∧ a < 0x01900000 then
      match (List.range 8).find? (fun c => (F.AFE_RES_VALUE c).addr == a) with
      | some c => s.latchRq c
      | none => s
    else s

/-- A register as an island in Park shows it: its shadow, with the writes that wait. -/
def State.shadowed (s : State) (a : Nat) : State :=
  (s.link.shadow.filter (fun e => e.1 == a)).foldl (fun s e => s.storeWord e.1 e.2) s

/-- What the running task of a platform reads in its local page at offset `o` (R360): the registers of a queue that its instance does not own
read 0. A read of LCL_SEMn is a try of its own command. -/
def State.localWord (s : State) (p o : Nat) : Word := match (s.pf p).cur with
  | none => 0
  | some r =>
    if 0x800 ≤ o then
      let q := (o - 0x800) / 0x40
      if s.qOwner q = r.l.inst then s.loadWord (0x01B00000 + 0x80 * q + o % 0x40) else 0
    else s.loadWord (0x100000000 + 0x1000 * p + o)

/-- A read by the manager: the state after it and the value. A read of INS_SEMn tries for holder 0. -/
def State.readWord (s : State) (a : Nat) : State × Word :=
  match unitAt 0x01A02000 4 256 0 a with
  | some n =>
    let r := s.semTry 0 n
    let s := r.1.put (F.INS_SEM_TRY n) r.2
    (s, s.loadWord a)
  | none =>
    if 0x01480000 ≤ a ∧ a < 0x01500000 then
      let o := a - 0x01480000
      (s, BitVec.ofNat 32 (leAt (bankBytes (s.fch.banks.getD (o / 0x40000) [])) (o % 0x40000) 4))
    else match blockOf a with
      | none => (s, 0)
      | some b =>
        if s.islandOff b.island then (s, (s.shadowed a).loadWord a)
        else let s := s.readLatch a; (s, s.loadWord a)

end Sys2Proof.Machine
end

