-- ==== Sys2Proof/Machine/Link.lean ====
section
/-!
DEFINITION. The Yevas link, field end: acknowledgements, resends, retrains, sending, status and configuration messages (R29 to R37, R419,
R420). Readings and choices are in log entry 45.
-/
namespace Sys2Proof.Machine

/-! ## Acknowledgements and resends (R33 to R35) -/

/-- `a` is not after `b` on the circle of sequence numbers. -/
def seqLe (a b : Word) : Bool := decide ((b - a).toNat < 2 ^ 31)

/-- The message has been on the line. -/
def TxEnt.tried (e : TxEnt) : Bool := e.sent || e.again

/-- Every message of a class up to a SEQ is acknowledged. -/
def State.ackClass (s : State) (cls : Nat) (seq : Word) : State :=
  let c := s.ctx cls
  let gone := c.q.filter (fun e => e.tried && seqLe e.seq seq)
  let s := s.setCtx cls { c with q := c.q.filter (fun e => !(e.tried && seqLe e.seq seq)) }
  gone.foldl (fun s e => s.mbFreed e.msg) s

/-- ACKNOWLEDGEMENT. Link control is never acknowledged. -/
def execAcknowledgement (entries : List (Nat × Word)) (s : State) : Out State :=
  .next (if s.linkUp then (entries.filter (fun e => e.1 != 0)).foldl (fun s e => s.ackClass e.1 e.2) s else s)

/-- A retrain starts. -/
def State.retrain (s : State) : State :=
  (s.put F.XNG_STATUS_TRAIN 1).put F.XNG_STATUS_RETRAINS (Nat.min (s.get F.XNG_STATUS_RETRAINS + 1) 0xFF)

/-- Resend a class from a SEQ; a message that eight resends have not brought across makes the link retrain. -/
def State.resendFrom (s : State) (cls : Nat) (seq : Word) : State :=
  let c := s.ctx cls
  let hit := fun (e : TxEnt) => e.sent && seqLe seq e.seq
  if c.q.any (fun e => hit e && decide (8 ≤ e.resends)) then s.retrain
  else s.setCtx cls { c with q := c.q.map (fun e => if hit e then { e with sent := false, again := true } else e),
                             since := if c.q.any (fun e => !e.sent) then c.since else s.link.order }

/-- NEGATIVE_ACKNOWLEDGEMENT. -/
def execNegativeAcknowledgement (cls : Nat) (seq : Word) (s : State) : Out State :=
  .next (if s.linkUp && cls != 0 then s.resendFrom cls seq else s)

/-- ACK_TIMEOUT: from the first message that is not acknowledged. -/
def execAckTimeout (cls : Nat) (s : State) : Out State :=
  .next (if !s.linkUp || cls == 0 then s else match (s.ctx cls).q.find? (fun e => e.sent) with
    | none => s
    | some e => s.resendFrom cls e.seq)

/-- MESSAGE_BAD_FRAMING: octets that are no whole message (R29) are counted, and answered with the expected SEQ of the class that they
name; link control is not resent. -/
def execMessageBadFraming (octets : Bytes) (s : State) : Out State :=
  .next (if !s.linkUp || framed octets then s
    else
      let s := s.count F.XNG_ERRCNT_CRC
      if clsOf octets = 0 then s else s.sendNak (clsOf octets))

/-! ## Retrain, down and up (R34) -/

/-- After a retrain the messages that were out are resent in order. -/
def State.resendAll (s : State) : State :=
  s.setLink { s.link with tx := Sp.mapv ClsTx.init (fun c => { c with q := c.q.map (fun e =>
    if e.sent then { e with sent := false, again := true, resends := 0 } else { e with resends := 0 }) }) s.link.tx }

/-- The messages of a class that have not been on the line are discarded; the next message of the class takes the SEQ of the first of them,
so that the receiver, which takes SEQ in order (R33), misses none. -/
def State.dropClass (s : State) (cls : Nat) : State :=
  let c := s.ctx cls
  s.setCtx cls { c with q := c.q.filter TxEnt.tried,
                        next := match c.q.find? (fun e => !e.tried) with
                          | none => c.next
                          | some e => e.seq }

/-- The waiting mirrors and record blocks are discarded, and link control with them; what has been on the line and is not acknowledged
is kept (R34). -/
def State.dropUnsent (s : State) : State :=
  let s := s.countN F.PUB_CNT2_MIRDROP ((s.ctx 9).q.filter (fun e => !e.tried)).length
  let s := s.each [0, 9, 0xB] State.dropClass
  s.exportsCut

/-- The bases that an SB port disciplines. -/
def State.sbBases (s : State) : List Nat :=
  (List.range 4).filter (fun b => s.get (F.TSU_TB_CTRL_SRC b) == 1 && (match (s.tb b).slave with
    | none => false
    | some p => decide (0x20 ≤ p)))

/-- The link goes down: event 0x0111, READY low, sources through SB ports lost (R132), watchdog 3 held (R61). -/
def State.linkDown (s : State) : State :=
  let s := ((s.put F.XNG_STATUS_UP 0).put F.XNG_STATUS_TRAIN 0).raise 0x0111 0
  let s := (s.dropUnsent).hostNotReady
  let s := (s.sbBases.foldl State.sourceLost s).setHost { (s.sbBases.foldl State.sourceLost s).host with mirrorAt := none }
  s.setPower { s.power with wdt3 := none }

/-- RETRAIN_END: three failures in a row bring the link down, one or two start the next retrain. -/
def execRetrainEnd (lanes : Nat) (s : State) : Out State :=
  .next (if !s.flag F.XNG_STATUS_UP || !s.flag F.XNG_STATUS_TRAIN then s
    else
      let s := (s.put F.XNG_STATUS_LANES lanes).raise 0x0110 (lanes % 16)
      if lanes % 16 = 15 then ((s.put F.XNG_STATUS_TRAIN 0).setLink { s.link with fails := 0 }).resendAll
      else
        let s := s.setLink { s.link with fails := s.link.fails + 1 }
        if 3 ≤ s.link.fails then s.linkDown else s.retrain)

/-- RETRAIN_RETRY: every 100 ms while the link is down. -/
def execRetrainRetry (lanes : Nat) (s : State) : Out State :=
  .next (if s.flag F.XNG_STATUS_UP || !s.link.trained then s
    else
      let s := s.put F.XNG_STATUS_RETRAINS (Nat.min (s.get F.XNG_STATUS_RETRAINS + 1) 0xFF)
      let s := s.put F.XNG_STATUS_LANES lanes
      if lanes % 16 = 15 then s.resendAll.linkComesUp else s)

/-! ## Sending (R32, R40) -/

/-- The classes in their priority. -/
def sendRanks : List Nat := [0x0, 0xF, 0x2, 0xC, 0x9, 0xA, 0x7, 0x8, 0x4, 0x3, 0xD, 0x1, 0x6, 0x5, 0xE, 0xB]

/-- The class has something to send. -/
def State.waits (s : State) (cls : Nat) : Bool := (s.ctx cls).q.any (fun e => !e.sent) || (cls == 2 && !s.link.evq.isEmpty)

/-- Since when. -/
def State.waitsSince (s : State) (cls : Nat) : Nat :=
  if (s.ctx cls).q.any (fun e => !e.sent) then (s.ctx cls).since else s.link.evSince

/-- The class that has waited longest. -/
def State.longest (s : State) (l : List Nat) : Option Nat :=
  l.foldl (fun o c => match o with
    | none => some c
    | some d => if s.waitsSince c < s.waitsSince d then some c else some d) none

/-- The class whose message is sent next: strict priority, and in every eighth message a free turn. -/
def State.nextClass (s : State) : Option Nat :=
  let l := sendRanks.filter s.waits
  if s.link.sends = 7 then s.longest l else l.head?

/-- An event record's bytes. -/
def Event.bytes (e : Event) : Bytes :=
  leBytes 2 e.code ++ [BitVec.ofNat 8 e.inst, BitVec.ofNat 8 e.tb] ++ leBytes 4 e.arg ++ leBytes 4 e.sec ++ leBytes 4 e.ns

/-- The waiting event records become a message, at most 128 of them. -/
def State.packEvents (s : State) : State :=
  let c := s.ctx 2
  if c.q.any (fun e => !e.sent) || s.link.evq.isEmpty then s
  else
    let m := stMsg 2 0x0001 ((s.link.evq.take 128).flatMap Event.bytes)
    let t := s.link.evSince
    let s := s.setLink { s.link with evq := s.link.evq.drop 128, evSince := s.link.order }
    s.setCtx 2 { next := c.next + 1, q := c.q ++ [{ seq := c.next, msg := m, sent := false, resends := 0, again := false }], since := t }

/-- The first message not sent, with those before and after it. -/
def splitUnsent : List TxEnt → Option (List TxEnt × TxEnt × List TxEnt)
  | [] => none
  | e :: r =>
    if e.sent then match splitUnsent r with
      | none => none
      | some (a, x, b) => some (e :: a, x, b)
    else some ([], e, r)

/-- The host die aligns its mirrors (R132): the message holds the base times at the stamp of the OP 0x0020 message before it, which the host
die has stamped as well. -/
def State.hostAligns (s : State) (b : Bytes) : State :=
  let s := match s.host.mirrorAt with
    | none => s
    | some t => s.setHost { s.host with mirror := (List.range 4).map (fun i =>
        { s.mirrorOf i with at_ := t, ns := leAt b (16 * i) 6 * 1000000000 + leAt b (16 * i + 8) 4, epoch := leAt b (16 * i + 12) 1 }) }
  s.setHost { s.host with mirrorAt := some s.link.mirrorAt }

/-- The mirrors run on at the frequencies that a time-status message reports (R132). -/
def State.hostRates (s : State) (b : Bytes) : State :=
  s.setHost { s.host with mirror := (List.range 4).map (fun i => { s.mirrorOf i with freq := signedN 32 (leAt b (12 * i + 4) 4) }) }

/-- The host die sends the PTP message of a time-status message out of the SB port it names (R132). -/
def State.hostPtp (s : State) (b : Bytes) : State :=
  let m := ptpOfOctets (b.drop 8)
  if leAt b 0 1 < 4 then s.queuePtp (0x20 + leAt b 0 1) m (.ptp m) else s

/-- The host die sends a publication mirror out of its SBPORT (R273): an Ethernet copy unchanged, a session-protocol data unit behind the
headers that the manager has configured. R92 lets a frame's source name its queue; that of these frames is not stated: DESIGN CHOICE (log
entry 19), queue 0. -/
def State.hostMirror (s : State) (b : Bytes) : State :=
  let p := 0x20 + leAt b 3 1 % 4
  let body := slice b 8 (leAt b 4 2)
  let f := if leAt b 2 1 = 1 then body else Config.sessionHeaders (leAt b 3 1) body.length ++ body
  s.queueTx p { queue := 0, len := f.length + 4, src := slice f 6 6, body := .dma f, red := none, stamp := none, chan := none }

/-- What the host die does with a message from the field end, as far as it shows: READY follows the status message (R405), the mirrors follow
the time bases, and frames leave by the SB ports (R132, R273). It takes a message once, with its first sending. A suspended host die takes none. -/
def State.hostTakes (s : State) (m : Msg) : State :=
  if s.host.suspended then s
  else if m.cls = 0 ∧ m.op = 0x0020 then s.hostAligns m.payload
  else if m.cls = 1 then s.setHost { s.host with ready := bit (leAt m.payload 0 4) 10 }
  else if m.cls = 9 then s.hostMirror m.payload
  else if m.cls = 0xC ∧ m.op = 0x0001 then s.hostRates m.payload
  else if m.cls = 0xC ∧ m.op = 0x0002 then s.hostPtp m.payload
  else s

/-- Put the next message of a class on the line. -/
def State.sendClass (s : State) (cls : Nat) : State :=
  let s := if cls = 2 then s.packEvents else s
  let c := s.ctx cls
  match splitUnsent c.q with
  | none => s
  | some (before, e, after) =>
    let s := if e.again then s.count F.XNG_ERRCNT_RESENT else s
    let x := { e with sent := true, again := false, resends := if e.again then e.resends + 1 else e.resends }
    let s := s.setCtx cls { c with q := if cls = 0 then before ++ after else before ++ [x] ++ after, since := s.link.order }
    let s := s.setLink { s.link with line := some x, wire := e.msg.octets e.seq,
                                     sends := if s.link.sends = 7 then 0 else s.link.sends + 1, order := s.link.order + 1 }
    if e.again then s else s.hostTakes e.msg

/-- LINK_MESSAGE_SENT. -/
def execLinkMessageSent (s : State) : Out State :=
  .next (if !s.linkUp then s else match s.nextClass with
    | none => s
    | some c => s.sendClass c)

/-! ## Status (R36) -/

/-- STATUS_MESSAGE: every 10 ms. -/
def execStatusMessage (s : State) : Out State := .next (if s.power.powered then s.showStore.sendStatus else s)

/-- HOST_STATUS_MESSAGE: a sign that the host die is up; no register keeps it. -/
def execHostStatusMessage (h : Hdr) (hostState fw : Word) (s : State) : Out State :=
  .next (s.receive 1 h (fun s => s.setHost { s.host with alive := some (hostState, fw) }))

/-! ## Configuration messages (R37, R38) -/

/-- The SEQ of the last configuration write received. -/
def State.noteWrite (s : State) (h : Hdr) : State :=
  if s.linkUp && h.seq == (s.crx 3).expect then s.setLink { s.link with cfgLast := some h.seq } else s

/-- The first entry that is refused, with its status. -/
def State.cfgRefused (s : State) (src : Nat) (l : List (Word × Word)) : Option (Nat × Nat) :=
  ((l.map (fun e => (s.cfgCheck src true e.1, e.1.toNat))).filter (fun e => e.1 != 0)).head?

/-- The entries are issued in order by the stationmaster; a module reset that one of them starts ends the rest. -/
def State.cfgIssue (s : State) (seq : Word) (l : List (Word × Word)) : State :=
  l.foldl (fun s e => if s.power.kind.isNone || s.power.kind == some .b then s.issue .aon e.1 e.2 (some seq) else s) s

/-- CONFIGURATION_WRITE. -/
def execConfigurationWrite (h : Hdr) (entries : List (Word × Word)) (s : State) : Out State :=
  .next ((s.noteWrite h).receive 3 h (fun s =>
    if entries = [] ∨ 256 < entries.length then s.malformed 3 0x0001
    else match s.cfgRefused h.src entries with
      | some (code, a) => s.refuseCfg code a
      | none => s.cfgIssue h.seq entries))

/-- CONFIGURATION_READ: it waits for its fence. -/
def execConfigurationRead (h : Hdr) (addrs : List Word) (s : State) : Out State :=
  .next (s.receive 4 h (fun s =>
    if addrs = [] ∨ 256 < addrs.length then s.malformed 4 0x0001
    else s.setLink { s.link with reads := s.link.reads ++ [{ h := h, addrs := addrs }] }))

/-- Writes of the stationmaster that have not taken effect, by destination. -/
def State.pendingWrites (s : State) (dst : Island) : List Access := (s.junc .aon dst).fifo ++ (s.junc .aon dst).stalled

/-- The fence of a read: its TAG has passed, every write up to it has taken effect, and no earlier write of the stationmaster waits for an
island that it reads (R21). -/
def State.fencePassed (s : State) (r : CfgRead) : Bool :=
  seqLe r.h.tag (s.link.cfgLast.getD 0xFFFFFFFF#32) &&
  [Island.media, .stream, .tile, .memory, .time, .vault].all (fun i => (s.pendingWrites i).all (fun a => match a.cfg with
    | none => true
    | some q => !seqLe q r.h.tag)) &&
  r.addrs.all (fun a => match blockOf a.toNat with
    | none => true
    | some b => b.island == .aon || (s.pendingWrites b.island).isEmpty)

/-- Read the addresses in order: the state after, values and statuses. -/
def State.readAll (s : State) (src : Nat) (l : List Word) : State × Bytes × List Nat :=
  l.foldl (fun r a =>
    let st := r.1.cfgCheck src false a
    if st ≠ 0 then (r.1.put F.XNG_REFUSED_LASTCODE st, r.2.1 ++ zeros 4, r.2.2 ++ [st])
    else
      let v := r.1.readWord a.toNat
      (v.1, r.2.1 ++ leBytes 4 v.2.toNat, r.2.2 ++ [0])) (s, [], [])

/-- CONFIGURATION_READ_SERVED: the read at the head, once its fence has passed. -/
def execConfigurationReadServed (t : Nat) (s : State) : Out State :=
  let s := s.advance t
  .next (match s.link.reads with
    | [] => s
    | r :: rest =>
      if !s.fencePassed r then s
      else
        let s := s.setLink { s.link with reads := rest }
        let x := s.readAll r.h.src r.addrs
        x.1.send (replyMsg 4 0x0001 r.h (x.2.2.any (fun st => st != 0)) (x.2.1 ++ x.2.2.map (BitVec.ofNat 8))))

/-! ## Malformed messages (R35, R371, R420) -/

/-- MALFORMED_MESSAGE: link control counts a framing error, the vault answers with status 0x02, any other class is acknowledged and
discarded. -/
def execMalformedMessage (cls op : Nat) (h : Hdr) (s : State) : Out State :=
  .next (if cls = 0 then (if s.linkUp then s.count F.XNG_ERRCNT_CRC else s)
    else if cls = 0xD then s.vltRequest op h false (fun s => s)
    else (if cls = 3 then s.noteWrite h else s).receive cls h (fun s => s.malformed cls op))

end Sys2Proof.Machine
end

