-- ==== Sys2Proof/Machine/Dispatch.lean ====
section
/-!
DEFINITION. The dispatch: one arm per command, each a direct call of that command's meaning.
-/
namespace Sys2Proof.Machine

/-- The effect of a command on everything but the queue. -/
def exec (i : Instr) (s : State) : Host.Outcome State Fault Refusal :=
  match i with
  | .registerWrite src addr val => Sys2Proof.Machine.execRegisterWrite src addr val s
  | .junctionAccessEffect dst srcs hw => Sys2Proof.Machine.execJunctionAccessEffect dst srcs s hw
  | .junctionFifoDrain src dst => Sys2Proof.Machine.execJunctionFifoDrain src dst s
  | .junctionHung src dst => Sys2Proof.Machine.execJunctionHung src dst s
  | .messageBadFraming octets => Sys2Proof.Machine.execMessageBadFraming octets s
  | .acknowledgement entries => Sys2Proof.Machine.execAcknowledgement entries s
  | .negativeAcknowledgement cls seq => Sys2Proof.Machine.execNegativeAcknowledgement cls seq s
  | .ackTimeout cls => Sys2Proof.Machine.execAckTimeout cls s
  | .retrainEnd lanes => Sys2Proof.Machine.execRetrainEnd lanes s
  | .retrainRetry lanes => Sys2Proof.Machine.execRetrainRetry lanes s
  | .linkMessageSent => Sys2Proof.Machine.execLinkMessageSent s
  | .moduleResetRequest h => Sys2Proof.Machine.execModuleResetRequest h s
  | .managerKeepAlive h t => Sys2Proof.Machine.execManagerKeepAlive h t s
  | .timeBaseMirrorAlignment t => Sys2Proof.Machine.execTimeBaseMirrorAlignment t s
  | .statusMessage => Sys2Proof.Machine.execStatusMessage s
  | .hostStatusMessage h hostState fw => Sys2Proof.Machine.execHostStatusMessage h hostState fw s
  | .configurationWrite h entries => Sys2Proof.Machine.execConfigurationWrite h entries s
  | .configurationRead h addrs => Sys2Proof.Machine.execConfigurationRead h addrs s
  | .configurationReadServed t => Sys2Proof.Machine.execConfigurationReadServed t s
  | .powerFailWarning vin t => Sys2Proof.Machine.execPowerFailWarning vin t s
  | .finalFlushComplete => Sys2Proof.Machine.execFinalFlushComplete s
  | .holdUpLeft vin t => Sys2Proof.Machine.execHoldUpLeft vin t s
  | .orderlyStop t => Sys2Proof.Machine.execOrderlyStop t s
  | .hostDieResumed => Sys2Proof.Machine.execHostDieResumed s
  | .storeCharged t => Sys2Proof.Machine.execStoreCharged s t
  | .powerUp vin => Sys2Proof.Machine.execPowerUp vin s
  | .startUpStageEnd e t => Sys2Proof.Machine.execStartUpStageEnd e t s
  | .rstNLow hrst t => Sys2Proof.Machine.execRstNLow hrst t s
  | .mreset key t => Sys2Proof.Machine.execMreset key t s
  | .park key t => Sys2Proof.Machine.execPark key t s
  | .wake key t => Sys2Proof.Machine.execWake key t s
  | .void key => Sys2Proof.Machine.execVoid key s
  | .wakeComplete t => Sys2Proof.Machine.execWakeComplete t s
  | .dozeEntry pf => Sys2Proof.Machine.execDozeEntry pf s
  | .dozeUngate pf => Sys2Proof.Machine.execDozeUngate pf s
  | .watchdog1Expiry t => Sys2Proof.Machine.execWatchdog1Expiry t s
  | .watchdog2Expiry t => Sys2Proof.Machine.execWatchdog2Expiry t s
  | .watchdog3Expiry t => Sys2Proof.Machine.execWatchdog3Expiry t s
  | .pwrWdtWrite mgr t => Sys2Proof.Machine.execPwrWdtWrite mgr t s
  | .openLoad h totlen => Sys2Proof.Machine.execOpenLoad h totlen s
  | .dataChunk h offset bytes => Sys2Proof.Machine.execDataChunk h offset bytes s
  | .closeLoad h => Sys2Proof.Machine.execCloseLoad h s
  | .activate h slot digest t => Sys2Proof.Machine.execActivate h slot digest t s
  | .rulebookAbort h => Sys2Proof.Machine.execRulebookAbort h s
  | .verificationComplete => Sys2Proof.Machine.execVerificationComplete s
  | .activationFlushComplete t => Sys2Proof.Machine.execActivationFlushComplete t s
  | .amendmentRecord h payload t => Sys2Proof.Machine.execAmendmentRecord h payload t s
  | .frameReceived port f t => Sys2Proof.Machine.execFrameReceived port f t s
  | .pauseFrame port quanta t => Sys2Proof.Machine.execPauseFrame port quanta t s
  | .pauseExpired port t => Sys2Proof.Machine.execPauseExpired port s t
  | .transmitStart port buffered t ftag => Sys2Proof.Machine.execTransmitStart port buffered t s ftag
  | .transmitUnderrun port => Sys2Proof.Machine.execTransmitUnderrun port s
  | .utilisationWindow sb rxBits txBits => Sys2Proof.Machine.execUtilisationWindow sb rxBits txBits s
  | .renegotiationComplete sb => Sys2Proof.Machine.execRenegotiationComplete sb s
  | .collision bits t => Sys2Proof.Machine.execCollision bits s t
  | .rollExpired t => Sys2Proof.Machine.execRollExpired s t
  | .ft3Frame ft ok data t => Sys2Proof.Machine.execFt3Frame ft ok data t s
  | .ft3FrameMissing ft => Sys2Proof.Machine.execFt3FrameMissing ft s
  | .minonExpired drive t => Sys2Proof.Machine.execMinonExpired drive t s
  | .tripOverload drive => Sys2Proof.Machine.execTripOverload drive s
  | .overloadRetry drive overloaded t => Sys2Proof.Machine.execOverloadRetry drive overloaded t s
  | .openLoadFound drive => Sys2Proof.Machine.execOpenLoadFound drive s
  | .openLoadCleared drive => Sys2Proof.Machine.execOpenLoadCleared drive s
  | .portLinkUp port rate => Sys2Proof.Machine.execPortLinkUp port rate s
  | .linkStable port => Sys2Proof.Machine.execLinkStable port s
  | .portLinkDown port => Sys2Proof.Machine.execPortLinkDown port s
  | .statCounterLoRead addr => Sys2Proof.Machine.execStatCounterLoRead addr s
  | .syncTimeout tb => Sys2Proof.Machine.execSyncTimeout tb s
  | .announceReceiptTimeout tb => Sys2Proof.Machine.execAnnounceReceiptTimeout tb s
  | .holdoverExpired tb => Sys2Proof.Machine.execHoldoverExpired tb s
  | .irigFrame good toy yearStart leap qual t => Sys2Proof.Machine.execIrigFrame good toy yearStart leap qual t s
  | .irigFrameMissing => Sys2Proof.Machine.execIrigFrameMissing s
  | .leapSecond ins => Sys2Proof.Machine.execLeapSecond ins s
  | .ppsEdge t => Sys2Proof.Machine.execPpsEdge t s
  | .ppsEdgeMissing => Sys2Proof.Machine.execPpsEdgeMissing s
  | .setsecGo tb => Sys2Proof.Machine.execSetsecGo tb s
  | .toutOutput t => Sys2Proof.Machine.execToutOutput t s
  | .ptpQueuePop port => Sys2Proof.Machine.execPtpQueuePop port s
  | .generalQueuePop port => Sys2Proof.Machine.execGeneralQueuePop port s
  | .tbNsRead tb t => Sys2Proof.Machine.execTbNsRead tb t s
  | .timeStatusMessage => Sys2Proof.Machine.execTimeStatusMessage s
  | .sbPtpFrame h sb stamp m => Sys2Proof.Machine.execSbPtpFrame h sb stamp m s
  | .sbEgressStamp h ftag stamp => Sys2Proof.Machine.execSbEgressStamp h ftag stamp s
  | .cycleBoundary t => Sys2Proof.Machine.execCycleBoundary t s
  | .launchTask slot k t => Sys2Proof.Machine.execLaunchTask slot k t s
  | .launchQueueServed pf t => Sys2Proof.Machine.execLaunchQueueServed pf t s
  | .startAfeConversion slot k t => Sys2Proof.Machine.execStartAfeConversion slot k t s
  | .frameMark slot k t => Sys2Proof.Machine.execFrameMark slot k t s
  | .armRecorder slot k t => Sys2Proof.Machine.execArmRecorder slot k t s
  | .disarmRecorder slot k t => Sys2Proof.Machine.execDisarmRecorder slot k t s
  | .triggerRecorder slot k t => Sys2Proof.Machine.execTriggerRecorder slot k t s
  | .logicCycleStart slot k t => Sys2Proof.Machine.execLogicCycleStart slot k t s
  | .haltExchangeStart slot k t => Sys2Proof.Machine.execHaltExchangeStart slot k t s
  | .svRelease slot k t => Sys2Proof.Machine.execSvRelease slot k t s
  | .maintenanceWindow slot k temp t => Sys2Proof.Machine.execMaintenanceWindow slot k temp t s
  | .tokenRenewal slot k t => Sys2Proof.Machine.execTokenRenewal slot k t s
  | .bankSwitchRequest t => Sys2Proof.Machine.execBankSwitchRequest t s
  | .bankCheckComplete t => Sys2Proof.Machine.execBankCheckComplete t s
  | .bankSwitchCancel switch t => Sys2Proof.Machine.execBankSwitchCancel switch t s
  | .slotWrite bank slot w val => Sys2Proof.Machine.execSlotWrite bank slot w val s
  | .cycnumLoRead => Sys2Proof.Machine.execCycnumLoRead s
  | .frameParse t => Sys2Proof.Machine.execFrameParse t s
  | .sampleDeadline stream t parsing => Sys2Proof.Machine.execSampleDeadline stream t s parsing
  | .loadWindow t => Sys2Proof.Machine.execLoadWindow t s
  | .smpsynchReport stream t => Sys2Proof.Machine.execSmpsynchReport stream t s
  | .laneOutput lane t => Sys2Proof.Machine.execLaneOutput lane t s
  | .coastingHoldExpired fg atPoint => Sys2Proof.Machine.execCoastingHoldExpired fg s atPoint
  | .coeffBankSwitchRequest => Sys2Proof.Machine.execCoeffBankSwitchRequest s
  | .phaseDelayWrite lane int frac => Sys2Proof.Machine.execPhaseDelayWrite lane int frac s
  | .dcrst lane => Sys2Proof.Machine.execDcrst lane s
  | .fgIdxLoRead fg => Sys2Proof.Machine.execFgIdxLoRead fg s
  | .phasorPush pf ofs accs => Sys2Proof.Machine.execPhasorPush pf ofs accs s
  | .phasorDescriptorDone pf => Sys2Proof.Machine.execPhasorDescriptorDone pf s
  | .budgetOverrun pf => Sys2Proof.Machine.execBudgetOverrun pf s
  | .deadline pf clocks cl accs t => Sys2Proof.Machine.execDeadline pf clocks cl accs t s
  | .ecall pf a7 clocks cl accs t => Sys2Proof.Machine.execEcall pf a7 clocks cl accs t s
  | .trap pf cause clocks cl accs t => Sys2Proof.Machine.execTrap pf cause clocks cl accs t s
  | .commit pf t => Sys2Proof.Machine.execCommit pf t s
  | .lockstepMismatch pf t => Sys2Proof.Machine.execLockstepMismatch pf t s
  | .uncorrectableEccError memory pf addr t => Sys2Proof.Machine.execUncorrectableEccError memory pf addr t s
  | .correctableEccError memory pf => Sys2Proof.Machine.execCorrectableEccError memory pf s
  | .spareRestartComplete t => Sys2Proof.Machine.execSpareRestartComplete t s
  | .decisionPeriod cl t => Sys2Proof.Machine.execDecisionPeriod cl t s
  | .measurementClear task inst => Sys2Proof.Machine.execMeasurementClear task inst s
  | .boundWrite inst reg val => Sys2Proof.Machine.execBoundWrite inst reg val s
  | .retransmissionPoint tpl t atCommit => Sys2Proof.Machine.execRetransmissionPoint tpl t s atCommit
  | .digestSend cycle t => Sys2Proof.Machine.execDigestSend cycle t s
  | .digestFrame tw h cycle digest t => Sys2Proof.Machine.execDigestFrame tw h cycle digest t s
  | .digestTimeout cycle => Sys2Proof.Machine.execDigestTimeout cycle s
  | .subscriptionMirror h queue kind sbport stamp body => Sys2Proof.Machine.execSubscriptionMirror h queue kind sbport stamp body s
  | .acqArm rec => Sys2Proof.Machine.execAcqArm rec s
  | .acqDisarm rec => Sys2Proof.Machine.execAcqDisarm rec s
  | .acqTrig rec t => Sys2Proof.Machine.execAcqTrig rec t s
  | .acqRelease rec => Sys2Proof.Machine.execAcqRelease rec s
  | .lclRectrig pf mask t => Sys2Proof.Machine.execLclRectrig pf mask t s
  | .prefillComplete rec => Sys2Proof.Machine.execPrefillComplete rec s
  | .captureWindowEnd rec t => Sys2Proof.Machine.execCaptureWindowEnd rec t s
  | .holdOffEnd rec t => Sys2Proof.Machine.execHoldOffEnd rec t s
  | .exportComplete rec => Sys2Proof.Machine.execExportComplete rec s
  | .historyRequest => Sys2Proof.Machine.execHistoryRequest s
  | .historyRequestComplete => Sys2Proof.Machine.execHistoryRequestComplete s
  | .conversionComplete ch code => Sys2Proof.Machine.execConversionComplete ch code s
  | .afeResRead ch => Sys2Proof.Machine.execAfeResRead ch s
  | .calibrationPageRead h => Sys2Proof.Machine.execCalibrationPageRead h s
  | .calibrationPageWrite h image => Sys2Proof.Machine.execCalibrationPageWrite h image s
  | .calibrationPageWriteComplete t => Sys2Proof.Machine.execCalibrationPageWriteComplete t s
  | .logicCommit clocks t => Sys2Proof.Machine.execLogicCommit clocks t s
  | .logicCycleAbort t => Sys2Proof.Machine.execLogicCycleAbort t s
  | .logicRun => Sys2Proof.Machine.execLogicRun s
  | .logicStop => Sys2Proof.Machine.execLogicStop s
  | .logicHold => Sys2Proof.Machine.execLogicHold s
  | .logicContinue => Sys2Proof.Machine.execLogicContinue s
  | .logicStep => Sys2Proof.Machine.execLogicStep s
  | .logicCold => Sys2Proof.Machine.execLogicCold s
  | .logicWarm => Sys2Proof.Machine.execLogicWarm s
  | .cyclePause pc => Sys2Proof.Machine.execCyclePause pc s
  | .breakpointHit n => Sys2Proof.Machine.execBreakpointHit n s
  | .haltReply port payload t => Sys2Proof.Machine.execHaltReply port payload t s
  | .replyWindowClose t => Sys2Proof.Machine.execReplyWindowClose t s
  | .instanceStart inst => Sys2Proof.Machine.execInstanceStart inst s
  | .instanceReset inst t => Sys2Proof.Machine.execInstanceReset inst t s
  | .instanceRestart inst t => Sys2Proof.Machine.execInstanceRestart inst t s
  | .instanceResetComplete inst => Sys2Proof.Machine.execInstanceResetComplete inst s
  | .quotaWrite inst reg val => Sys2Proof.Machine.execQuotaWrite inst reg val s
  | .heapSizeWrite inst size => Sys2Proof.Machine.execHeapSizeWrite inst size s
  | .queueOwnerWrite q owner => Sys2Proof.Machine.execQueueOwnerWrite q owner s
  | .mailboxToInstance h op payload => Sys2Proof.Machine.execMailboxToInstance h op payload s
  | .mailboxDoorbell h => Sys2Proof.Machine.execMailboxDoorbell h s
  | .mailboxPop pf => Sys2Proof.Machine.execMailboxPop pf s
  | .mailboxPush pf op len staging t => Sys2Proof.Machine.execMailboxPush pf op len staging t s
  | .semaphoreTry who n => Sys2Proof.Machine.execSemaphoreTry who n s
  | .semaphoreRelease who n clearBroken => Sys2Proof.Machine.execSemaphoreRelease who n clearBroken s
  | .channelStart c => Sys2Proof.Machine.execChannelStart c s
  | .queuePush q desc => Sys2Proof.Machine.execQueuePush q desc s
  | .channelDoorbell c => Sys2Proof.Machine.execChannelDoorbell c s
  | .channelResume c => Sys2Proof.Machine.execChannelResume c s
  | .channelAbort c => Sys2Proof.Machine.execChannelAbort c s
  | .errclr c => Sys2Proof.Machine.execErrclr c s
  | .descriptorComplete c => Sys2Proof.Machine.execDescriptorComplete c s
  | .busError c addr write moved => Sys2Proof.Machine.execBusError c addr write moved s
  | .grantDecision arb reqs => Sys2Proof.Machine.execGrantDecision arb reqs s
  | .keyinfo h slot => Sys2Proof.Machine.execKeyinfo h slot s
  | .importKey h slot wslot use alg attest kcv wrapped => Sys2Proof.Machine.execImportKey h slot wslot use alg attest kcv wrapped s
  | .vaultCommit h slot => Sys2Proof.Machine.execVaultCommit h slot s
  | .vaultCancel h slot => Sys2Proof.Machine.execVaultCancel h slot s
  | .erase h slot => Sys2Proof.Machine.execErase h slot s
  | .derive h sslot tslot use alg attest salt info => Sys2Proof.Machine.execDerive h sslot tslot use alg attest salt info s
  | .mac h slot iv data => Sys2Proof.Machine.execMac h slot iv data s
  | .verify h slot iv dataTag => Sys2Proof.Machine.execVerify h slot iv dataTag s
  | .encrypt h slot aad plain => Sys2Proof.Machine.execEncrypt h slot aad plain s
  | .decrypt h slot iv aad cipher gtag => Sys2Proof.Machine.execDecrypt h slot iv aad cipher gtag s
  | .anchor h idx key sig => Sys2Proof.Machine.execAnchor h idx key sig s
  | .attest h slot nonce => Sys2Proof.Machine.execAttest h slot nonce s
  | .selftest h => Sys2Proof.Machine.execSelftest h s
  | .selftestComplete firstFail badSlots => Sys2Proof.Machine.execSelftestComplete firstFail badSlots s
  | .catchupRenewal t => Sys2Proof.Machine.execCatchupRenewal t s
  | .renewFrame tw h pos rseq takeseq relay t => Sys2Proof.Machine.execRenewFrame tw h pos rseq takeseq relay t s
  | .acknowledgeFrame tw h pos rseq t => Sys2Proof.Machine.execAcknowledgeFrame tw h pos rseq t s
  | .checkpointFrame tw h inst dhash period offset total image t => Sys2Proof.Machine.execCheckpointFrame tw h inst dhash period offset total image t s
  | .retainFrame tw h cycle first lines t => Sys2Proof.Machine.execRetainFrame tw h cycle first lines t s
  | .leaseExpiry t => Sys2Proof.Machine.execLeaseExpiry t s
  | .tokenTake pos t renewal => Sys2Proof.Machine.execTokenTake pos t s renewal
  | .take key pos t => Sys2Proof.Machine.execTake key pos t s
  | .release key t => Sys2Proof.Machine.execRelease key t s
  | .pairLinkDown tw t => Sys2Proof.Machine.execPairLinkDown tw t s
  | .peerLost peer t => Sys2Proof.Machine.execPeerLost peer t s
  | .checkpointStream t => Sys2Proof.Machine.execCheckpointStream t s
  | .retainMirrorWrite t => Sys2Proof.Machine.execRetainMirrorWrite s t
  | .redundancyStatus t => Sys2Proof.Machine.execRedundancyStatus t s
  | .hrstNLow => Sys2Proof.Machine.execHrstNLow s
  | .hlPerstN => Sys2Proof.Machine.execHlPerstN s
  | .pllLostLock isl => Sys2Proof.Machine.execPllLostLock isl s
  | .syncTransmission tb kind => Sys2Proof.Machine.execSyncTransmission tb kind s
  | .malformedMessage cls op h => Sys2Proof.Machine.execMalformedMessage cls op h s
  | .transmitBufferHalfFull sb => Sys2Proof.Machine.execTransmitBufferHalfFull sb s
  | .rstNReleased => Sys2Proof.Machine.execRstNReleased s

end Sys2Proof.Machine
end

