-- ==== Sys2Proof/Machine/Step.lean ====
section
/-!
DEFINITION. The step of the block: the command at the front of the queue, or one clock of the TIME island while none waits.
-/
namespace Sys2Proof.Machine

/-- The period of the TIME island's clock in ns (R19: 250 MHz). -/
def timeClock : Nat := 4

/-- The idle step: one TIME clock passes and the time bases run on. DESIGN CHOICE (log entry 20): no other time-driven
effect takes place by itself; each is a command with its own instant. -/
def State.idle (s : State) : State := s.advance (s.now + timeClock)

/-- Take the command at the front of the queue and run it on the rest; with an empty queue, idle. -/
def step (s : State) : Host.Outcome State Fault Refusal :=
  match s.pending with
  | [] => .next s.idle
  | c :: rest => exec c (s.setPending rest)

/-- `s` with the command that a word spells in front of its queue; no word spells one (log entry 21). -/
def State.withFetchWord (s : State) (nbits w : Nat) : State :=
  match decodeTableWord nbits w with
  | none => s
  | some c => s.setPending (c :: s.pending)

end Sys2Proof.Machine
end

