-- ==== Sys2Proof/Safety.lean ====
section
/-!
DEFINITION. What the claims call a sound state, and the words they use for what a command leaves alone.
-/
namespace Sys2Proof.Machine

/-- Memory holds its canonical form: addresses rise strictly and no listed byte is 0. -/
def Memory.wf (m : List Host.Cell) : Bool := Sp.wf 0#8 m

/-- A sound state: memory and the register table hold their canonical form, and the MRAM event log has at most the 65,536 records
of R356. -/
def State.Sound (s : State) : Prop :=
  Memory.wf s.mem = true ∧ Sp.rising none s.regs = true ∧ s.log.length ≤ 65536

/-- The event log of `t` is that of `s` with records added, the oldest dropped beyond 65,536. -/
def LogGrows (s t : State) : Prop := ∃ es : List Event, t.log = keepLast 65536 (s.log ++ es)

/-- Every register field reads in `t` as in `s`, but those listed. -/
def RegsBut (l : List Fld) (s t : State) : Prop := ∀ f : Fld, (∀ g ∈ l, g.key ≠ f.key) → t.get f = s.get f

/-- A message of class `cls` with header `h` comes over a link that is up, in its turn, and may be acted on (R30, R31, R33). -/
def State.inTurn (s : State) (cls : Nat) (h : Hdr) : Bool :=
  s.linkUp && (!s.flag F.XNG_STATUS_EARLY || earlyClass cls) && h.seq == (s.crx cls).expect

/-- The state in which such a message is acted on: it is acknowledged, and the next SEQ is expected (R33). -/
def State.took (s : State) (cls : Nat) (h : Hdr) : State :=
  (s.setCrx cls { expect := h.seq + 1, taken := true }).sendAck cls h.seq

end Sys2Proof.Machine
end

