-- ==== Sys2Proof/Certificates/Slice0/Obligations.lean ====
section
/-!
DEFINITION. The statements for the provers. A statement about a command says, under conditions on the state and the operands alone, which
next state the command answers, written in the updates of Machine/Ops.lean: what the expression does not name stays as it was.
`s.advance t` is the state when raw time has reached `t`; `s.took c h` is the state in which a message of class `c` has been
acknowledged.
-/
open Sys2Proof Sys2Proof.Machine

/-! ## The step, the invariants, the reset -/

/-- The step takes the command at the front of the queue and runs it on the queue's rest. -/
def Obligations.StepRunsTheFrontCommand : Prop :=
  ∀ (s : State) (c : Instr) (rest : List Instr), s.pending = c :: rest → step s = exec c (s.setPending rest)

/-- Every command at every state answers a next state, and leaves the queue of waiting commands alone. -/
def Obligations.EveryCommandAnswersANextState : Prop :=
  ∀ (c : Instr) (s : State), ∃ t, exec c s = .next t ∧ t.pending = s.pending

/-- Every step from a sound state leads to a sound state: memory and the register table keep their canonical form, and the event log
keeps within the 65,536 records of R356. -/
def Obligations.EveryStepKeepsASoundState : Prop :=
  ∀ s t : State, s.Sound → step s = .next t → t.Sound

/-- No step takes back the raw TIME counter (R385: it counts from power-up and is never set).

R59, R356: no command and no reset of any kind removes or changes a record of the MRAM event log, but that the oldest records make
room for new ones beyond 65,536. -/
def Obligations.TimeAndLogOnlyGrow : Prop :=
  (∀ s t : State, step s = .next t → s.now ≤ t.now) ∧
  (∀ s t : State, s.Sound → step s = .next t → LogGrows s t)

/-- The state after reset is sound.

What R49, R53 and R62 say of the state right after reset: stage 0x01 of a P reset, not READY, no rulebook active, the raw counter at 0,
both drives open, and nothing waits. The contents of MRAM are the model's choice (log entry 2) and not part of it. -/
def Obligations.ResetIsSoundAndAtStageOne : Prop :=
  (State.reset.Sound) ∧
  (State.reset.get F.PWR_STAGE = 0x01 ∧ State.reset.ready = false ∧ State.reset.active = false ∧ State.reset.linkUp = false ∧
  State.reset.get F.PWR_CAUSE_KIND = 1 ∧ State.reset.power.kind = some .p ∧ State.reset.pending = [] ∧ State.reset.now = 0 ∧
  (∀ a, State.reset.rd a = 0) ∧
  ∀ f : Fld, f.key ≠ F.PWR_CAUSE_KIND.key → State.reset.get f = f.reset)

/-- A stored byte reads back, every other byte reads as before, and nothing but memory changes.

R8: bytes written from an address upward lie in order, and no byte outside them changes.

R8: a little-endian number of `n` bytes is its value modulo 2^(8n). -/
def Obligations.StoredBytesReadBack : Prop :=
  (∀ (s : State) (a : Nat) (b : Byte), s.Sound →
    (s.wr a b).rd a = b ∧ (∀ x, x ≠ a → (s.wr a b).rd x = s.rd x) ∧ s.wr a b = s.setMem (s.wr a b).mem) ∧
  (∀ (s : State) (a : Nat) (b : Bytes), s.Sound →
    (s.wrN a b).rdN a b.length = b ∧ ∀ x, (x < a ∨ a + b.length ≤ x) → (s.wrN a b).rd x = s.rd x) ∧
  (∀ (n v : Nat), leNat (leBytes n v) = v % 256 ^ n ∧ (leBytes n v).length = n)

/-- R10, R12: a stored field reads back within its width, and no other field changes.

R11: what a write does to a field, by its access code. A counter's or peak's field of more than one bit is cleared by a 1 in any of
them (R39, R41).

R12: a reset kind returns to its reset value exactly the fields whose Cleared by column names the kind. -/
def Obligations.FieldsFollowTheirColumns : Prop :=
  (∀ (s : State) (f : Fld) (v : Nat), s.Sound →
    (s.put f v).get f = v % 2 ^ f.width ∧ RegsBut [f] s (s.put f v) ∧ (s.put f v) = s.setRegs (s.put f v).regs) ∧
  (∀ (s : State) (v : Word) (f : Fld), s.Sound → f.lo < 32 →
    (s.storeFld v f).get f = (match f.acc with
      | .rw => v.toNat / 2 ^ f.lo % 2 ^ f.width
      | .rwl => if s.active then s.get f else v.toNat / 2 ^ f.lo % 2 ^ f.width
      | .w1c => if v.toNat / 2 ^ f.lo % 2 ^ f.width = 0 then s.get f else 0
      | .w1s => (s.get f ||| v.toNat / 2 ^ f.lo % 2 ^ f.width) % 2 ^ f.width
      | .ro => s.get f
      | .wo => s.get f) ∧
    RegsBut [f] s (s.storeFld v f) ∧ s.storeFld v f = s.setRegs (s.storeFld v f).regs) ∧
  (∀ (s : State) (k : Kind) (f : Fld), s.Sound → fieldOfKey f.key = some f →
    (s.clearKind k).get f = if f.clearedBy k then f.reset else s.get f)

/-- R41: a counter counts up to its width and stays there; nothing but its field, the event log, the link's event queue and the host
die's event queue can change.

R40: an event is logged with its code, instance and argument and the time of its base; where the link drops its record and XNG_REFUSED.EVLOST
reaches 0xFFFF by that, event 0x01FF with the register's address is logged behind it (R39, R41). Which base an event names is the model's
choice (log entry 7). -/
def Obligations.CountersAndEvents : Prop :=
  (∀ (s : State) (f : Fld), s.Sound → s.get f < 2 ^ f.width → f.key ≠ F.XNG_REFUSED_EVLOST.key →
    (s.count f).get f = Nat.min (s.get f + 1) (2 ^ f.width - 1) ∧
    RegsBut [f, F.XNG_REFUSED_EVLOST] s (s.count f) ∧
    s.count f = (((s.setRegs (s.count f).regs).setLog (s.count f).log).setLink (s.count f).link).setHost (s.count f).host) ∧
  (∀ (s : State) (b code i arg : Nat), s.Sound →
    let e : Event := { code := code, inst := i, tb := b, arg := arg % 2 ^ 32, sec := s.tbNs b / 1000000000 % 2 ^ 32, ns := s.tbNs b % 1000000000 }
    let c := s.get F.TTB_CTRL_TB
    let f : Event := { code := 0x01FF, inst := 0xFF, tb := c, arg := 0x01E00008, sec := s.tbNs c / 1000000000 % 2 ^ 32, ns := s.tbNs c % 1000000000 }
    ((s.linkUp = true ∨ s.link.evq.length < 1024 ∨ s.get F.XNG_REFUSED_EVLOST ≠ 0xFFFE) →
      (s.raiseOn b code i arg).log = keepLast 65536 (s.log ++ [e])) ∧
    (s.linkUp = false → 1024 ≤ s.link.evq.length →
      (s.raiseOn b code i arg).get F.XNG_REFUSED_EVLOST = Nat.min (s.get F.XNG_REFUSED_EVLOST + 1) 0xFFFF ∧
      (s.get F.XNG_REFUSED_EVLOST = 0xFFFE → (s.raiseOn b code i arg).log = keepLast 65536 (keepLast 65536 (s.log ++ [e]) ++ [f]))) ∧
    RegsBut [F.XNG_REFUSED_EVLOST] s (s.raiseOn b code i arg) ∧
    s.raiseOn b code i arg = ((s.setRegs (s.raiseOn b code i arg).regs).setLog (s.raiseOn b code i arg).log).setLink
      (s.raiseOn b code i arg).link)

/-- R112, R385: as raw time goes on to `t`, each base that runs advances by the time passed at its rate, and nothing else changes; an
instant that has passed changes nothing. That time wraps with the 48 bits of the seconds is the model's choice (log entry 15).

With no command waiting the block idles one clock of the TIME island, 4 ns (R19). That nothing else happens is the model's choice (log
entry 20). -/
def Obligations.TimeGoesOn : Prop :=
  ((∀ (s : State) (t : Nat), t ≤ s.now → s.advance t = s) ∧
  ∀ (s : State) (t : Nat), s.now < t →
    s.advance t = (s.setTbs (s.advance t).tbs).setNow t ∧
    ∀ b, (s.advance t).tb b = if b < 4 ∧ (s.tb b).running then
        { s.tb b with acc :=
          (((s.tb b).acc + (t - s.now) * (65536000000 + s.getI (F.TSU_TB_FREQ b))) % (2 ^ 48 * 1000000000 * 65536000000)).toNat }
      else s.tb b) ∧
  (∀ s : State, s.pending = [] → step s = .next (s.advance (s.now + 4)))

/-! ## Register accesses and the Yevas link (R20 to R38) -/

/-- R20, R26: a write of a register in the writer's own island takes effect at once; a write that reaches another island enters the
junction's FIFO; a write of no register changes nothing.

R21, R25: the oldest access of a junction takes effect first, and of several junctions that of the earlier island in R19's table; in the same clock
a hardware update of an rw field comes before the accesses, and a hardware set of a w1c field and a count come after them; a junction that hangs raises event 0x0202 and starts an M reset of source 3, watchdog 4 (R24, R61). -/
def Obligations.RegisterAccessesCrossJunctions : Prop :=
  (∀ (s : State) (src : Island) (a v : Word),
    (islandOf src a.toNat = none → exec (.registerWrite src a v) s = .next s) ∧
    (islandOf src a.toNat = some src → exec (.registerWrite src a v) s = .next (s.writeEffect src a.toNat v)) ∧
    ∀ dst, islandOf src a.toNat = some dst → dst ≠ src → (s.junc src dst).stalled = [] → (s.junc src dst).fifo.length < 8 →
      exec (.registerWrite src a v) s = .next (s.setJunc src dst
        { fifo := (s.junc src dst).fifo ++ [{ addr := a.toNat, val := v, cfg := none }], stalled := [] })) ∧
  (∀ (s : State) (dst : Island),
    (∀ src a r, src ≠ .host → (s.junc src dst).fifo = a :: r → (s.junc src dst).stalled = [] →
      exec (.junctionAccessEffect dst [src] []) s = .next ((s.setJunc src dst { fifo := r, stalled := [] }).writeEffect src a.addr a.val)) ∧
    (∀ x y, exec (.junctionAccessEffect dst [x, y] []) s = exec (.junctionAccessEffect dst [y, x] []) s) ∧
    (∀ x y u, x ≠ .host → y ≠ .host → islandNo x < islandNo y → exec (.junctionAccessEffect dst [x] []) s = .next u →
      exec (.junctionAccessEffect dst [y, x] []) s = exec (.junctionAccessEffect dst [y] []) u) ∧
    (∀ srcs h f, hwField h dst = some f →
      (h.kind = .updates → f.acc = .rw →
        exec (.junctionAccessEffect dst srcs [h]) s = exec (.junctionAccessEffect dst srcs []) (s.put f h.value)) ∧
      (∀ w, exec (.junctionAccessEffect dst srcs []) s = .next w →
        (h.kind = .sets → f.acc = .w1c → exec (.junctionAccessEffect dst srcs [h]) s = .next (w.put f (w.get f ||| h.value))) ∧
        (h.kind = .counts → exec (.junctionAccessEffect dst srcs [h]) s = .next (w.countN f h.value)))) ∧
    ∀ src, exec (.junctionHung src dst) s = .next ((s.raise 0x0202 (256 * islandNo src + islandNo dst)).moduleReset 3 4))

/-- R22: when the FIFO is full the next access waits behind it, and when an entry drains, the first access that waits follows; the accesses
that wait are those that waited before, in order, and none is dropped. -/
def Obligations.FullJunctionStallsAndDropsNothing : Prop :=
  ∀ (s : State) (src dst : Island), (s.junc src dst).fifo.length = 8 →
    (∀ a v : Word, islandOf src a.toNat = some dst → dst ≠ src →
      ∃ t, exec (.registerWrite src a v) s = .next t ∧ (t.junc src dst).fifo = (s.junc src dst).fifo ∧
        (t.junc src dst).stalled = (s.junc src dst).stalled ++ [{ addr := a.toNat, val := v, cfg := none }] ∧
        (∀ i j, (i, j) ≠ (src, dst) → t.junc i j = s.junc i j) ∧ t = s.setLink t.link) ∧
    (∀ a r, (s.junc src dst).fifo = a :: r →
      ∃ u, exec (.junctionFifoDrain src dst) s = .next (u.writeEffect src a.addr a.val) ∧
        (u.junc src dst).fifo ++ (u.junc src dst).stalled = r ++ (s.junc src dst).stalled ∧
        (u.junc src dst).fifo.length = Nat.min 8 (7 + (s.junc src dst).stalled.length) ∧
        (∀ i j, (i, j) ≠ (src, dst) → u.junc i j = s.junc i j) ∧ u = s.setLink u.link)

/-- R33, R34: what becomes of a message of any class by its SEQ: in its turn it is acknowledged and acted on, a duplicate is acknowledged
again, a message ahead is answered with the expected SEQ, and a link that is down takes nothing.

R31: before READY the field end discards a message of a class marked No, counts it in XNG_REFUSED.EARLY, and raises event 0x0116 once
per start-up; the command that carries it has no other effect than the acknowledgement of R33.

R29: the octets of a message of at most 2,048 bytes of payload are well framed, 20 more than its payload, and give back its class, operation, header fields
and payload. -/
def Obligations.MessagesAreTakenInOrder : Prop :=
  (∀ (s : State) (cls : Nat) (h : Hdr) (act : State → State),
    (s.inTurn cls h = true → s.receive cls h act = act (s.took cls h)) ∧
    (s.linkUp = false → s.receive cls h act = s) ∧
    (s.linkUp = true → h.seq ≠ (s.crx cls).expect → 2 ^ 31 < ((s.crx cls).expect - h.seq).toNat → s.receive cls h act = s.sendNak cls) ∧
    (s.linkUp = true → (s.crx cls).taken = true → h.seq ≠ (s.crx cls).expect → ((s.crx cls).expect - h.seq).toNat ≤ 2 ^ 31 →
      s.receive cls h act = s.sendAck cls ((s.crx cls).expect - 1))) ∧
  (∀ (m : Msg) (q : Word), m.cls < 16 → m.src < 256 → m.tgt < 256 → m.op < 65536 → m.payload.length ≤ 2048 → let b := m.octets q
    framed b = true ∧ b.length = 20 + m.payload.length ∧ clsOf b = m.cls ∧ opOf b = m.op ∧ payloadOf b = m.payload ∧
    hdrOf b = { seq := q, src := m.src, tgt := m.tgt, last := m.last, tag := m.tag } ∧
    ((b.take 2).map BitVec.toNat = [16 + m.cls, ofBool m.last + 2 * ofBool m.reply + 4 * ofBool m.err])) ∧
  (∀ (s : State) (cls : Nat) (h : Hdr) (act : State → State), s.linkUp = true → s.flag F.XNG_STATUS_EARLY = true →
    cls ∉ [0, 1, 2, 0xE] → h.seq = (s.crx cls).expect →
    s.receive cls h act = (if s.link.earlyRaised then (s.took cls h).count F.XNG_REFUSED_EARLY
      else (((s.took cls h).count F.XNG_REFUSED_EARLY).setLink
        { ((s.took cls h).count F.XNG_REFUSED_EARLY).link with earlyRaised := true }).raise 0x0116 cls))

/-- R33 to R35: an acknowledgement takes what has been on the line up to its SEQ out of its class, and leaves the rest in order; a negative
acknowledgement and a timeout mark what was sent from a SEQ on for resending. Nothing of this while the link is down, and link control
is neither acknowledged nor resent. Octets that are no whole message (R29) are counted, and answered with the expected SEQ of the class that they
name, unless it is link control.

R34: a retrain that brings up all four lanes ends, with event 0x0110, and what was out is resent; the third that fails in a row brings
the link down; the retry of every 100 ms brings it up again. -/
def Obligations.AcknowledgementsResendsAndRetrains : Prop :=
  (∀ (s : State) (cls : Nat) (q : Word),
    (s.linkUp = true → cls ≠ 0 → (∀ e ∈ (s.ctx cls).q, e.msg.cls ≠ 8) → exec (.acknowledgement [(cls, q)]) s = .next (s.setCtx cls { s.ctx cls with
      q := (s.ctx cls).q.filter (fun e => !((e.sent || e.again) && decide ((q - e.seq).toNat < 2 ^ 31))) })) ∧
    (∀ e m r, s.linkUp = true → (s.ctx 8).q = [e] → e.sent = true → e.seq = q → e.msg.cls = 8 → e.msg.reply = false →
      (s.inst e.msg.src).outbox = m :: r → m = { op := e.msg.op, data := e.msg.payload } →
      exec (.acknowledgement [(8, q)]) s = .next ((((s.setCtx 8 { s.ctx 8 with q := [] }).setInst e.msg.src
        { s.inst e.msg.src with outbox := r }).showUse e.msg.src).showMail e.msg.src)) ∧
    (s.linkUp = true → cls ≠ 0 → (∀ e ∈ (s.ctx cls).q, e.resends < 8) → (∃ e ∈ (s.ctx cls).q, e.sent = false) →
      exec (.negativeAcknowledgement cls q) s = .next (s.setCtx cls { s.ctx cls with q := (s.ctx cls).q.map (fun e =>
        if e.sent && decide ((e.seq - q).toNat < 2 ^ 31) then { e with sent := false, again := true } else e) })) ∧
    (∀ e ∈ (s.ctx cls).q.find? (fun e => e.sent),
      exec (.ackTimeout cls) s = exec (.negativeAcknowledgement cls e.seq) s) ∧
    (s.linkUp = true → cls ≠ 0 → (∃ e ∈ (s.ctx cls).q, e.sent = true ∧ (e.seq - q).toNat < 2 ^ 31 ∧ 8 ≤ e.resends) →
      exec (.negativeAcknowledgement cls q) s = .next ((s.put F.XNG_STATUS_TRAIN 1).put F.XNG_STATUS_RETRAINS
        (Nat.min (s.get F.XNG_STATUS_RETRAINS + 1) 0xFF))) ∧
    ((s.linkUp = false ∨ cls = 0) → exec (.acknowledgement [(cls, q)]) s = .next s ∧ exec (.negativeAcknowledgement cls q) s = .next s ∧
      exec (.ackTimeout cls) s = .next s) ∧
    (∀ e r u, exec (.acknowledgement [e]) s = .next u → exec (.acknowledgement (e :: r)) s = exec (.acknowledgement r) u) ∧
    ∀ b : Bytes,
      (s.linkUp = true → framed b = false → clsOf b ≠ 0 → exec (.messageBadFraming b) s = .next ((s.count F.XNG_ERRCNT_CRC).sendNak (clsOf b))) ∧
      (s.linkUp = true → framed b = false → clsOf b = 0 → exec (.messageBadFraming b) s = .next (s.count F.XNG_ERRCNT_CRC)) ∧
      ((s.linkUp = false ∨ framed b = true) → exec (.messageBadFraming b) s = .next s)) ∧
  (∀ (s : State) (lanes : Nat),
    (s.flag F.XNG_STATUS_UP = true → s.flag F.XNG_STATUS_TRAIN = true →
      let u := (s.put F.XNG_STATUS_LANES lanes).raise 0x0110 (lanes % 16)
      (lanes % 16 = 15 → exec (.retrainEnd lanes) s = .next ((u.put F.XNG_STATUS_TRAIN 0).setLink { u.link with fails := 0 }).resendAll) ∧
      (lanes % 16 ≠ 15 → 2 ≤ u.link.fails →
        exec (.retrainEnd lanes) s = .next (u.setLink { u.link with fails := u.link.fails + 1 }).linkDown) ∧
      (lanes % 16 ≠ 15 → u.link.fails < 2 →
        exec (.retrainEnd lanes) s = .next (u.setLink { u.link with fails := u.link.fails + 1 }).retrain)) ∧
    (s.flag F.XNG_STATUS_UP = false → s.link.trained = true → lanes % 16 = 15 →
      exec (.retrainRetry lanes) s = .next
        (((s.put F.XNG_STATUS_RETRAINS (Nat.min (s.get F.XNG_STATUS_RETRAINS + 1) 0xFF)).put F.XNG_STATUS_LANES lanes).resendAll.linkComesUp)) ∧
    (s.flag F.XNG_STATUS_UP = false ∨ s.flag F.XNG_STATUS_TRAIN = false → exec (.retrainEnd lanes) s = .next s) ∧
    (s.flag F.XNG_STATUS_UP = true → exec (.retrainRetry lanes) s = .next s))

/-- R32: of the classes that have something to send, the first in the order 0, F, 2, C, 9, A, 7, 8, 4, 3, D, 1, 6, 5, E, B sends, but for every
eighth message, which is that of the class that has waited longest; the message on the line is the first of its class that has not been
sent, in the octets of R29. It stays in its class as sent, but for link control (R35); a resending is counted in XNG_ERRCNT.RESENT, and the host
die acts on the first sending only. -/
def Obligations.LinkSendsByPriority : Prop :=
  ∀ (s : State), s.linkUp = true →
    (∀ c b e r, (s.ctx c).q = b ++ e :: r → (∀ x ∈ b, x.sent = true) → e.sent = false → c ∈ sendRanks →
      (s.link.sends < 7 ∧ (∀ d ∈ sendRanks.takeWhile (fun x => x != c), s.waits d = false) ∨
       s.link.sends = 7 ∧ ∀ d ∈ sendRanks, d ≠ c → s.waits d = true → s.waitsSince c < s.waitsSince d) →
      let w := if e.again then s.count F.XNG_ERRCNT_RESENT else s
      let x := { e with sent := true, again := false, resends := if e.again then e.resends + 1 else e.resends }
      let v := w.setCtx c { s.ctx c with q := if c = 0 then b ++ r else b ++ x :: r, since := w.link.order }
      let u := v.setLink { v.link with line := some x, wire := e.msg.octets e.seq, sends := (s.link.sends + 1) % 8, order := w.link.order + 1 }
      exec .linkMessageSent s = .next (if e.again then u else u.hostTakes e.msg)) ∧
    ((∀ c ∈ sendRanks, s.waits c = false) → exec .linkMessageSent s = .next s)

/-- R36: while the module is powered, a status message carries PWR_STAGE, PWR_STATE, PWR_CAUSE, XNG_STATUS, RBK_STATUS and RBK_SERIAL, the
digest of the active rulebook or zeros, TTB_CYCNUM_LO or 0 while no departure is served, and four zero bytes; without power none is sent. A host
status message that comes in its turn leaves the host state and firmware version, and no register. That they are kept at all is the model's
choice (log entry 45).

R35, R55: a module reset request of the manager over a link that carries messages starts an M reset of source 2, where none stronger is in progress;
the reset shows in PWR_STAGE 0x02 and in KIND 3 and SOURCE 2 of PWR_CAUSE. One from another source, or over a link that carries nothing, does
nothing.

R61: a manager keep-alive counts in PWR_WDT.KICKS and starts a new period of watchdog 3, MGR times 100 ms, none with MGR 0 or in Hold-up.

R35, R132: a mirror alignment sends for each base the time noted at the previous one, with EPOCH and STATE as they are now, and notes the base times
of its own instant for the next. -/
def Obligations.LinkControlMessages : Prop :=
  ∀ (s : State) (h : Hdr) (hs fw : Word) (t : Nat),
    let a := s.advance t
    let m := s.showStore
    let w := fun (f : Fld) => leBytes 4 (m.loadWord f.addr).toNat
    let e := fun b => s.link.mirror.getD b (0, 0)
    let p := a.send (stMsg 0 0x0020 ((List.range 4).flatMap (fun b => leBytes 6 (e b).1 ++ zeros 2 ++ leBytes 4 (e b).2 ++
      leBytes 1 (a.get (F.TSU_TB_STATUS_EPOCH b)) ++ leBytes 1 (a.get (F.TSU_TB_STATUS_STATE b)) ++ zeros 2)))
    let k := a.put F.PWR_WDT_KICKS (a.get F.PWR_WDT_KICKS + 1)
    (s.power.powered = true → exec .statusMessage s = .next (m.send (stMsg 1 0x0001 (w F.PWR_STAGE ++ w F.PWR_STATE ++ w F.PWR_CAUSE_KIND ++
      w F.XNG_STATUS_UP ++ w F.RBK_STATUS_ACTIVE ++ w F.RBK_SERIAL ++ (if m.active then m.rbk.digest else zeros 32) ++
      (if m.flag F.TTB_STATUS_RUN then w F.TTB_CYCNUM_LO_CYCLO else zeros 4) ++ zeros 4)))) ∧
    (s.power.powered = false → exec .statusMessage s = .next s) ∧
    (s.inTurn 1 h = true → exec (.hostStatusMessage h hs fw) s = .next ((s.took 1 h).setHost { (s.took 1 h).host with alive := some (hs, fw) })) ∧
    (s.linkUp = true → h.src = 0 → exec (.moduleResetRequest h) s = .next (s.moduleReset 2 0)) ∧
    ((s.linkUp = false ∨ h.src ≠ 0) → exec (.moduleResetRequest h) s = .next s) ∧
    (s.Sound → s.power.powered = true → s.power.kind ≠ some .p → s.power.kind ≠ some .w →
      (s.moduleReset 2 0).power.kind = some .m ∧ (s.moduleReset 2 0).get F.PWR_STAGE = 0x02 ∧ (s.moduleReset 2 0).get F.PWR_CAUSE_KIND = 3 ∧
      (s.moduleReset 2 0).get F.PWR_CAUSE_SOURCE = 2) ∧
    (a.linkUp = true → h.src < 256 → exec (.managerKeepAlive h t) s = .next k.armWdt3) ∧
    ((a.linkUp = false ∨ 256 ≤ h.src) → exec (.managerKeepAlive h t) s = .next a) ∧
    (∀ v : State, v.flag F.XNG_STATUS_UP = true → v.armWdt3 = v.setPower { v.power with
      wdt3 := if v.get F.PWR_WDT_MGR = 0 ∨ v.flag F.PWR_STATE_HOLDUP = true then none else some (v.now + v.get F.PWR_WDT_MGR * 100000000) }) ∧
    exec (.timeBaseMirrorAlignment t) s = .next (p.setLink { p.link with
      mirror := (List.range 4).map (fun b => (p.tbNs b / 1000000000, p.tbNs b % 1000000000)), mirrorAt := p.now })

/-- R37, R38: a configuration write of 1 to 256 entries, none of which is refused, is issued entry by entry in payload order, as a write of the
stationmaster (R20, R21), as long as no reset but B is in progress; one with a refused entry executes none, and leaves the first refused
entry's code in LASTCODE and event 0x0114 with the code and address. A message of another source is refused with 0x06, an address that is no multiple
of 4 with 0x03, one in a memory window with 0x04.

A read of 1 to 256 addresses waits behind the reads before it; the read at the head is served once its fence has passed, and its reply carries REPLY,
its TAG, a value and a status for each address, the value 0 for one refused, and ERR when any is.

R420: a payload of no entries or too many is malformed: counted in XNG_BADMSG, with LASTCODE 0x07 and event 0x0114 that names class and OP; and
so is any other malformed message but link control, which counts as a framing error (R35), and a vault request, which is answered (R371). -/
def Obligations.ConfigurationMessages : Prop :=
  ∀ (s : State) (h : Hdr) (w : List (Word × Word)) (l : List Word),
    let n := s.noteWrite h
    let b := n.took 3 h
    (n.inTurn 3 h = true → w ≠ [] → w.length ≤ 256 → (∀ e ∈ w, b.cfgCheck h.src true e.1 = 0) →
      exec (.configurationWrite h w) s = .next (b.cfgIssue h.seq w)) ∧
    (∀ (u : State) e r, (u.power.kind = none ∨ u.power.kind = some .b) →
      u.cfgIssue h.seq (e :: r) = (u.issue .aon e.1 e.2 (some h.seq)).cfgIssue h.seq r) ∧
    (∀ p e r, w = p ++ e :: r → n.inTurn 3 h = true → w.length ≤ 256 → (∀ x ∈ p, b.cfgCheck h.src true x.1 = 0) →
      b.cfgCheck h.src true e.1 ≠ 0 → let c := b.cfgCheck h.src true e.1;
      exec (.configurationWrite h w) s = .next ((b.put F.XNG_REFUSED_LASTCODE c).raise 0x0114 (c * 2 ^ 24 + e.1.toNat % 2 ^ 24))) ∧
    (∀ (u : State) src wr (x : Word), (src ≠ 0 → u.cfgCheck src wr x = 6) ∧ (x.toNat % 4 ≠ 0 → u.cfgCheck 0 wr x = 3) ∧
      (x.toNat % 4 = 0 → 0x20000000 ≤ x.toNat → x.toNat < 0x21800000 → u.cfgCheck 0 wr x = 4)) ∧
    (n.inTurn 3 h = true → (w = [] ∨ 256 < w.length) → exec (.configurationWrite h w) s = .next (b.malformed 3 0x0001)) ∧
    (s.inTurn 4 h = true → l ≠ [] → l.length ≤ 256 → exec (.configurationRead h l) s = .next
      ((s.took 4 h).setLink { (s.took 4 h).link with reads := (s.took 4 h).link.reads ++ [{ h := h, addrs := l }] })) ∧
    (s.inTurn 4 h = true → (l = [] ∨ 256 < l.length) → exec (.configurationRead h l) s = .next ((s.took 4 h).malformed 4 0x0001)) ∧
    (∀ t r rest, (s.advance t).link.reads = r :: rest →
      let a := (s.advance t).setLink { (s.advance t).link with reads := rest }
      let x := a.readAll r.h.src r.addrs
      ((s.advance t).fencePassed r = true → exec (.configurationReadServed t) s = .next (x.1.send
        { cls := 4, last := true, reply := true, err := x.2.2.any (fun st => st != 0), src := 0x40, tgt := r.h.src, op := 0x0001, tag := r.h.tag,
          payload := x.2.1 ++ x.2.2.map (BitVec.ofNat 8) })) ∧
      ((s.advance t).fencePassed r = false → exec (.configurationReadServed t) s = .next (s.advance t))) ∧
    (∀ (u : State) src x, (u.cfgCheck src false x = 0 →
        u.readAll src [x] = ((u.readWord x.toNat).1, leBytes 4 (u.readWord x.toNat).2.toNat, [0])) ∧
      (u.cfgCheck src false x ≠ 0 →
        u.readAll src [x] = (u.put F.XNG_REFUSED_LASTCODE (u.cfgCheck src false x), [0, 0, 0, 0], [u.cfgCheck src false x]))) ∧
    (∀ t, (s.advance t).link.reads = [] → exec (.configurationReadServed t) s = .next (s.advance t)) ∧
    (∀ cls op, cls ≠ 0 → cls ≠ 3 → cls ≠ 0xD → s.inTurn cls h = true →
      exec (.malformedMessage cls op h) s = .next ((s.took cls h).malformed cls op)) ∧
    (∀ op, n.inTurn 3 h = true → exec (.malformedMessage 3 op h) s = .next (b.malformed 3 op)) ∧
    (∀ op, s.linkUp = true → exec (.malformedMessage 0 op h) s = .next (s.count F.XNG_ERRCNT_CRC)) ∧
    (∀ op, s.inTurn 0xD h = true → h.src = 0 → exec (.malformedMessage 0xD op h) s = .next ((s.took 0xD h).vltReply op h 0x02 [])) ∧
    (∀ (u : State) cls op, u.malformed cls op = ((u.count F.XNG_BADMSG_COUNT).put F.XNG_REFUSED_LASTCODE 7).raise 0x0114
      (7 * 2 ^ 24 + (cls % 16 * 2 ^ 16 + op % 2 ^ 16) % 2 ^ 24))

/-! ## Supply, start-up, resets, Park and watchdogs (R42 to R62) -/

/-- R45, R56: VIN falling through 14.0 V enters Hold-up, with events 0x0101 and 0x0102, the host die suspended, watchdog 3 held, and the final
flush begun once READY; before READY the start-up pauses instead. R48, R56: VIN rising through 16.0 V leaves it, with event 0x0103 and a new period of
watchdog 3; a paused stage runs again with all its attempts, a Park command and a host-die reset held in Hold-up are carried out.

R43, R46, R48: the store that charges is at 58 V; the final flush that ends has written the staged images; after Hold-up the host die runs on; the
orderly stop opens both drives first, writes the stop marker with the digest of the active rulebook once READY, and powers down. HUC_OK shows whether the store
is at 58 V or more, STORE its voltage in units of 50 mV (R62).

R53, R54: supply that returns starts a W reset when the stop marker is there, a checkpoint is valid, its digest is that of the active slot and VOID has not been
written since, and a P reset with the first condition that fails otherwise. -/
def Obligations.SupplyEvents : Prop :=
  (∀ (s : State) (vin t : Nat),
    let a := s.advance t
    let m := (a.setPower { a.power with vin := vin, store := a.storeLevel, storeAt := a.now }).put F.PWR_STATE_VIN (Nat.min (vin / 50) 0xFFF)
    let b := ((m.put F.PWR_STATE_HOLDUP 1).raise 0x0101 vin).raise 0x0102 0
    let c := (b.setHost { b.host with suspended := true }).showStore
    (a.power.powered = true → a.flag F.PWR_STATE_HOLDUP = false → vin < 14000 →
      exec (.powerFailWarning vin t) s = .next (c.setPower
        { c.power with wdt3 := none, flushing := c.ready, paused := c.power.paused || !c.ready })) ∧
    ((a.power.powered = false ∨ a.flag F.PWR_STATE_HOLDUP = true ∨ 14000 ≤ vin) → exec (.powerFailWarning vin t) s = .next a) ∧
    (a.power.powered = true → a.flag F.PWR_STATE_HOLDUP = true → 16000 ≤ vin →
      let e := ((m.put F.PWR_STATE_HOLDUP 0).raise 0x0103 0).showStore
      let f := if e.power.paused then e.rootCut else e
      let g := (f.setPower { f.power with paused := false, parkHeld := false, retries := if f.power.paused then 0 else f.power.retries }).armWdt3
      let i := if g.host.resetHeld then g.hostReset.setHost { g.hostReset.host with suspended := true } else g
      exec (.holdUpLeft vin t) s = .next (if e.power.parkHeld then i.askPark else i)) ∧
    ((a.power.powered = false ∨ a.flag F.PWR_STATE_HOLDUP = false ∨ vin < 16000) → exec (.holdUpLeft vin t) s = .next a) ∧
    (a.power.powered = true → a.flag F.PWR_STATE_HOLDUP = false → exec (.storeCharged t) s =
      .next (a.setPower { a.power with store := 58000, storeAt := a.now }).showStore) ∧
    ((a.power.powered = false ∨ a.flag F.PWR_STATE_HOLDUP = true) → exec (.storeCharged t) s = .next a) ∧
    (let u := (a.openTrip 0).openTrip 1;
      a.power.powered = true → a.flag F.PWR_STATE_HOLDUP = true →
      (u.ready = true → exec (.orderlyStop t) s =
        .next (u.setPower { u.power with stopMarker := some (if u.active then u.rbk.digest else zeros 32) }).powerDown) ∧
      (u.ready = false → exec (.orderlyStop t) s = .next u.powerDown)) ∧
    ((a.power.powered = false ∨ a.flag F.PWR_STATE_HOLDUP = false) → exec (.orderlyStop t) s = .next a)) ∧
  (∀ (s : State) (vin : Nat),
    (s.Sound → s.showStore.get F.PWR_STATE_STORE = s.storeLevel / 50 % 2 ^ 12 ∧ (s.showStore.flag F.PWR_STATE_HUC_OK = true ↔ 58000 ≤ s.storeLevel)) ∧
    (s.powerDown.power.powered = false ∧ s.powerDown.power.stopMarker = s.power.stopMarker) ∧
    (s.flag F.PWR_STATE_HOLDUP = false → exec .hostDieResumed s = .next (s.setHost { s.host with suspended := false })) ∧
    (s.flag F.PWR_STATE_HOLDUP = true → exec .hostDieResumed s = .next s) ∧
    (s.power.flushing = true →
      exec .finalFlushComplete s = .next (s.flushImages.setPower { s.flushImages.power with flushing := false })) ∧
    (s.power.flushing = false → exec .finalFlushComplete s = .next s) ∧
    (s.power.powered = false → 16000 ≤ vin →
      let h := s.hostReset
      let u := h.setPower { h.power with vin := vin, storeAt := h.now }
      exec (.powerUp vin) s = .next ((u.warmReset 0).reportStage h)) ∧
    ((s.power.powered = true ∨ vin < 16000) → exec (.powerUp vin) s = .next s) ∧
    (let v := s.settleWrites;
      (v.noWarm 0 = none ↔ v.power.stopMarker.isSome = true ∧ v.ins.insts.any (fun e => e.2.mram.isSome) = true ∧
        v.power.ckptDigest = some (imgDigest (v.slotOf v.rbk.ptr).image) ∧ v.power.voided = false) ∧
      (v.noWarm 0 = none → s.warmReset 0 = v.beginReset .w 1 0) ∧
      ∀ c, v.noWarm 0 = some c → s.warmReset 0 = v.beginReset .p c 0))

/-- R49 to R53: the stage in progress ends and the next begins, and a change of PWR_STAGE is reported at once (R36). Stage 0x01 brings the link up, and ends only
when RST_N does not hold it; a stage 0x02 to 0x05 that fails stops the start-up in it, with event 0x0105 and FAILED, stages 0x02 and 0x04 after three more
attempts; stage 0x04 records the temperature of its training (R149); stage 0x06 fails with the vault's tests (R378); stage 0x07 goes on
whatever the calibration finds; stage 0x08 starts the time bases after a P or W (R112), loads the rulebook and leads to READY, with event 0x0105 when no
rulebook loads. An M reset leaves out stage 0x05. Nothing ends while the module is paused, stopped or not starting. At READY the stop marker is cleared (R54). -/
def Obligations.StartUpStagesFollowEachOther : Prop :=
  (∀ (s : State) (k : Kind) (e : StageEnd) (t : Nat),
    let a := s.advance t
    (a.power.kind = none → exec (.startUpStageEnd e t) s = .next a) ∧
    (a.power.kind = some k → (a.power.powered = false ∨ a.power.paused = true ∨ (a.flag F.PWR_STAGE_FAILED = true ∧ a.get F.PWR_STAGE < 7)) →
      exec (.startUpStageEnd e t) s = .next a) ∧
    (a.power.kind = some k → a.power.powered = true → a.power.paused = false → (a.flag F.PWR_STAGE_FAILED = false ∨ 7 ≤ a.get F.PWR_STAGE) →
      (a.get F.PWR_STAGE = 1 → a.power.rstHeld = false →
        exec (.startUpStageEnd e t) s = .next ((a.toStage 2).linkComesUp.reportStage a)) ∧
      (a.get F.PWR_STAGE = 1 → a.power.rstHeld = true → exec (.startUpStageEnd e t) s = .next a) ∧
      (∀ st ∈ [2, 3, 4, 5], a.get F.PWR_STAGE = st → e.ok = true →
        exec (.startUpStageEnd e t) s = .next (((a.dramTrained st e.temp).toStage (if k = .m ∧ st = 4 then 6 else st + 1)).reportStage a)) ∧
      (∀ st ∈ [2, 4], a.get F.PWR_STAGE = st → e.ok = false → a.power.retries < 3 →
        exec (.startUpStageEnd e t) s = .next (a.setPower { a.power with retries := a.power.retries + 1 })) ∧
      (∀ st ∈ [2, 3, 4, 5], a.get F.PWR_STAGE = st → e.ok = false → (st = 3 ∨ st = 5 ∨ 3 ≤ a.power.retries) →
        exec (.startUpStageEnd e t) s = .next (((a.raise 0x0105 st).put F.PWR_STAGE_FAILED 1).reportStage a)) ∧
      (a.get F.PWR_STAGE = 6 → let r := a.vaultStage e.vaultTest e.badSlots e.entropy
        (r.2 = true → exec (.startUpStageEnd e t) s = .next ((r.1.toStage 7).reportStage a)) ∧
        (r.2 = false → exec (.startUpStageEnd e t) s = .next (((r.1.raise 0x0105 6).put F.PWR_STAGE_FAILED 1).reportStage a))) ∧
      (a.get F.PWR_STAGE = 7 → exec (.startUpStageEnd e t) s = .next (((a.calibrate e).toStage 8).heldPage.reportStage a)) ∧
      (a.get F.PWR_STAGE = 8 →
        let b := if k = .p ∨ k = .w then (List.range 4).foldl (fun u i => u.setTb i { TbS.init with running := true }) a else a
        let r := b.loadStage k
        (r.2 = true → exec (.startUpStageEnd e t) s = .next (r.1.readyUp.reportStage a)) ∧
        (r.2 = false → exec (.startUpStageEnd e t) s = .next (((r.1.raise 0x0105 8).put F.PWR_STAGE_FAILED 1).readyUp.reportStage a))))) ∧
  (∀ (s : State) (n : Nat), s.Sound → n < 256 → (s.toStage n).get F.PWR_STAGE = n ∧ (s.toStage n).power.retries = 0 ∧
    RegsBut [F.PWR_STAGE] s (s.toStage n)) ∧
  (∀ s : State, s.readyUp.power.stopMarker = none ∧ s.readyUp.power.kind = none)

/-- R53 to R57, R62: PWR_CMD without its key does nothing. With it, MRESET starts a module reset of source 2; VOID voids the checkpoints for the next
start (R54); PARK does nothing before READY, is held in Hold-up, parks the module at once when nothing runs, and waits when something does; WAKE takes back a Park that
waits and starts the wake of a parked module, but of no standby (R391). A wake that is complete, and not part of a take (R394), lets the writes that waited take effect (R23), restores
the TCMs, and starts the instances, the logic engine and the field functions again (R58).

R57: an idle platform with nothing queued is gated for Doze outside Park, and shows as state 4; a launch ungates it. No other register than
the two states changes. -/
def Obligations.SupervisorCommandsAndDoze : Prop :=
  (∀ (s : State) (key t : Nat),
    (key ≠ 0x5A3C → exec (.mreset key t) s = .next (s.advance t) ∧ exec (.park key t) s = .next (s.advance t) ∧
      exec (.wake key t) s = .next (s.advance t) ∧ exec (.void key) s = .next s) ∧
    exec (.mreset 0x5A3C t) s = .next ((s.advance t).moduleReset 2 0) ∧
    exec (.void 0x5A3C) s = .next (s.setPower { s.power with voided := true }) ∧
    ((s.advance t).ready = true → (s.advance t).flag F.PWR_STATE_HOLDUP = false → (s.advance t).get F.PWR_STATE < 2 →
      ((s.advance t).working = false → exec (.park 0x5A3C t) s = .next (s.advance t).enterPark) ∧
      ((s.advance t).working = true →
        exec (.park 0x5A3C t) s = .next ((s.advance t).setPower { (s.advance t).power with parkWait := true }))) ∧
    ((s.advance t).ready = false → exec (.park 0x5A3C t) s = .next (s.advance t)) ∧
    ((s.advance t).ready = true → (s.advance t).flag F.PWR_STATE_HOLDUP = true →
      exec (.park 0x5A3C t) s = .next ((s.advance t).setPower { (s.advance t).power with parkHeld := true })) ∧
    ((s.advance t).ready = true → (s.advance t).flag F.PWR_STATE_HOLDUP = false → 2 ≤ (s.advance t).get F.PWR_STATE →
      exec (.park 0x5A3C t) s = .next (s.advance t)) ∧
    ((s.advance t).standby = false → let u := (s.advance t).setPower { (s.advance t).power with parkWait := false };
      ((s.advance t).get F.PWR_STATE = 2 → exec (.wake 0x5A3C t) s = .next (u.put F.PWR_STATE 3)) ∧
      ((s.advance t).get F.PWR_STATE ≠ 2 → exec (.wake 0x5A3C t) s = .next u)) ∧
    ((s.advance t).standby = true → exec (.wake 0x5A3C t) s = .next (s.advance t)) ∧
    ((s.advance t).get F.PWR_STATE = 3 → exec (.wakeComplete t) s = .next (s.advance t).wakeEnd) ∧
    ((s.advance t).get F.PWR_STATE ≠ 3 → exec (.wakeComplete t) s = .next (s.advance t)) ∧
    (let u := (s.put F.PWR_STATE 0).unshadow;
      let v := u.each (List.range 24) (fun w p => if w.roleOf p = 2 then w else w.put (F.PFM_PSTAT_STATE p) 0);
      let r := v.declared.foldl State.restoreTcm v;
      let i := r.declared.foldl State.startTaken r;
      r.tok.taken = false → let l := i.wakeLogic i.newestRetain;
      s.wakeEnd = ((((((l.setHlx { l.hlx with begun := false }).ingressWait).groupsStart).remapLanes).autoArm).fzRefresh).driveTrips)) ∧
  (∀ (s : State) (pf : Nat), s.Sound → s.get F.PWR_STATE < 2 → pf < 24 →
    (s.get (F.PFM_PSTAT_STATE pf) = 0 → (s.pf pf).cur = none → (s.pf pf).lq = [] →
      ∃ u, exec (.dozeEntry pf) s = .next u ∧ u.get (F.PFM_PSTAT_STATE pf) = 4 ∧ u.get F.PWR_STATE = 1 ∧
        RegsBut [F.PFM_PSTAT_STATE pf, F.PWR_STATE] s u ∧ u = s.setRegs u.regs) ∧
    (s.get (F.PFM_PSTAT_STATE pf) = 4 →
      ∃ u, exec (.dozeUngate pf) s = .next u ∧ u.get (F.PFM_PSTAT_STATE pf) = 0 ∧
        RegsBut [F.PFM_PSTAT_STATE pf, F.PWR_STATE] s u ∧ u = s.setRegs u.regs ∧
        (u.get F.PWR_STATE = 1 ↔ ∃ p < 24, p ≠ pf ∧ s.get (F.PFM_PSTAT_STATE p) = 4)) ∧
    (s.get (F.PFM_PSTAT_STATE pf) ≠ 0 → exec (.dozeEntry pf) s = .next s) ∧
    (s.get (F.PFM_PSTAT_STATE pf) ≠ 4 → exec (.dozeUngate pf) s = .next s))

/-- R53, R61: watchdog 1 starts a W reset, or a P reset where the W conditions do not hold, unless something stronger is in progress, and its number waits
to be reported by event 0x0104; so does watchdog 2 when, with a rulebook active and no reset or flush in progress, no cycle boundary has come for two cycles.
Such a P reset loses the host die too (R59). Watchdog 3, once its time has passed, sends link-control OP 0x0013 and resets the host die unless the link is down, raises event
0x0104 and starts a new period; a write of PWR_WDT starts a new period, and none with MGR 0.

R41, R55, R56, R405: the pins. HRST_N resets the host die, after Hold-up if it is in it; HL_PERST_N resets HL alone; RST_N starts an M reset of source 1,
with the host die's unless the link is down; during a P or W reset it starts that reset again before stage 0x05 has ended, and does nothing
after it; in stage 0x01 it holds the stage until it is released; with HRST_N low as well, that pin's effect follows. A PLL that loses lock raises event 0x0201. -/
def Obligations.WatchdogsAndPins : Prop :=
  (∀ (s : State) (mgr t : Nat),
    let a := s.advance t
    let lost := a.active = true ∧ a.power.kind = none ∧ a.rbk.flushing = false ∧ a.ttb.lastAt + 2 * a.cycleNs ≤ a.now
    (∀ n, (n = 1 ∨ (n = 2 ∧ lost)) → let c := if n = 1 then Instr.watchdog1Expiry t else .watchdog2Expiry t;
      let r := a.warmReset n
      (a.power.powered = true → a.outranks (a.warmKind n) = true →
        exec c s = .next ((r.setPower { r.power with wdEvent := r.power.wdEvent ++ [n] }).reportStage a)) ∧
      ((a.power.powered = false ∨ a.outranks (a.warmKind n) = false) → exec c s = .next a)) ∧
    (¬ lost → exec (.watchdog2Expiry t) s = .next a) ∧
    (∀ n, n ≠ 0 → let v := s.settleWrites;
      (v.noWarm n = none → s.warmReset n = v.beginReset .w 2 n) ∧
      ∀ c, v.noWarm n = some c → s.warmReset n = v.hostReset.beginReset .p c n) ∧
    (∀ x, a.power.wdt3 = some x → x ≤ a.now →
      (a.flag F.XNG_STATUS_UP = true →
        exec (.watchdog3Expiry t) s = .next ((((a.notice 0x0013 []).hostReset).raise 0x0104 3).armWdt3)) ∧
      (a.flag F.XNG_STATUS_UP = false → exec (.watchdog3Expiry t) s = .next (a.raise 0x0104 3).armWdt3)) ∧
    (∀ x, a.power.wdt3 = some x → a.now < x → exec (.watchdog3Expiry t) s = .next a) ∧
    (a.power.wdt3 = none → exec (.watchdog3Expiry t) s = .next a) ∧
    exec (.pwrWdtWrite mgr t) s = .next (a.put F.PWR_WDT_MGR mgr).armWdt3 ∧
    ∀ u, exec (.pwrWdtWrite mgr t) s = .next u → a.Sound → mgr % 256 = 0 → u.power.wdt3 = none) ∧
  (∀ (s : State) (isl : Island) (t : Nat),
    let a := s.advance t
    let p := if a.flag F.XNG_STATUS_UP then (a.notice 0x0013 []).hostReset else a
    (s.flag F.PWR_STATE_HOLDUP = false → exec .hrstNLow s = .next s.hostReset) ∧
    (s.flag F.PWR_STATE_HOLDUP = true → exec .hrstNLow s = .next (s.setHost { s.host with resetHeld := true })) ∧
    exec .hlPerstN s = .next (s.setHost { s.host with hlResets := s.host.hlResets + 1 }) ∧
    exec (.pllLostLock isl) s = .next (s.raise 0x0201 (islandNo isl)) ∧
    (a.power.powered = false → exec (.rstNLow false t) s = .next (a.setPower { a.power with rstHeld := true })) ∧
    (a.power.powered = true → (a.power.kind = none ∨ a.power.kind = some .m ∨ a.power.kind = some .b) →
      (a.flag F.XNG_STATUS_UP = true → exec (.rstNLow false t) s = .next ((a.hostReset.moduleReset 1 0).send (stMsg 0 0x0013 []))) ∧
      (a.flag F.XNG_STATUS_UP = false → exec (.rstNLow false t) s = .next (a.moduleReset 1 0))) ∧
    (∀ k, a.power.powered = true → a.power.kind = some k → (k = .p ∨ k = .w) →
      (a.get F.PWR_STAGE ≤ 5 → let r := p.beginReset k (a.get F.PWR_CAUSE_SOURCE) (a.get F.PWR_CAUSE_WDOG);
        exec (.rstNLow false t) s = .next ((r.setPower { r.power with rstHeld := r.power.rstHeld || a.get F.PWR_STAGE == 1 }).reportStage a)) ∧
      (5 < a.get F.PWR_STAGE → exec (.rstNLow false t) s = .next a)) ∧
    (∀ u, exec (.rstNLow false t) s = .next u → exec (.rstNLow true t) s = exec .hrstNLow u) ∧
    (let r := s.setPower { s.power with rstHeld := false };
      (s.power.rstHeld = true → s.power.powered = true → s.power.paused = false → s.get F.PWR_STAGE = 1 →
        exec .rstNReleased s = .next (((r.toStage 2).linkComesUp).reportStage s)) ∧
      (s.power.rstHeld = true → (s.power.powered = false ∨ s.power.paused = true ∨ s.get F.PWR_STAGE ≠ 1) → exec .rstNReleased s = .next r)) ∧
    (s.power.rstHeld = false → exec .rstNReleased s = .next s))

/-! ## Rulebooks (R63 to R84) -/

/-- R72, R77, R80: OPEN, unless an activation is pending, empties the slot that is not active and starts a load; DATA of 1 to 2,040 bytes in order extends the
image, of which a slot holds 16 MiB, and RXLEN, which stays at 0x1FFFFFF (the model's choice, log entry 37); DATA out of order ends the load with code 0x12, ABORT during a load or
its verification with code 0x13; CLOSE starts verification. A message from another sender than the manager, or out of its place, is counted in
RBK_CNT.REFUSED and has no other effect. R420: DATA of no bytes or more than 2,040 is malformed.

R73: a verification that passes marks the slot valid; one that fails leaves it, and gives code, slot, section and event 0x1502. -/
def Obligations.RulebooksAreLoadedAndVerified : Prop :=
  (∀ (s : State) (h : Hdr) (n : Nat) (b : Bytes), s.inTurn 5 h = true →
    let a := s.took 5 h
    let i := 1 - a.rbk.ptr
    let refused := a.count F.RBK_CNT_REFUSED
    (h.src ≠ 0 → exec (.openLoad h n) s = .next refused ∧ exec (.closeLoad h) s = .next refused ∧ exec (.rulebookAbort h) s = .next refused ∧
      (b ≠ [] → b.length ≤ 2040 → exec (.dataChunk h n b) s = .next refused)) ∧
    (h.src = 0 → a.rbk.pending ≠ none → exec (.openLoad h n) s = .next refused) ∧
    (h.src = 0 → a.rbk.pending = none → let u := a.setSlot i { image := [], valid := false, journal := [] };
      exec (.openLoad h n) s = .next ((((u.setRbk { u.rbk with openLen := n }).showSlots).put F.RBK_RXLEN 0).put F.RBK_STATUS_LOADST 1)) ∧
    (h.src = 0 → b ≠ [] → b.length ≤ 2040 →
      (a.get F.RBK_STATUS_LOADST ≠ 1 → exec (.dataChunk h n b) s = .next refused) ∧
      (a.get F.RBK_STATUS_LOADST = 1 → n = a.get F.RBK_RXLEN →
        exec (.dataChunk h n b) s = .next ((a.setSlot i { a.slotOf i with
          image := ((a.slotOf i).image ++ b).take 16777216 }).put F.RBK_RXLEN (Nat.min (n + b.length) 0x1FFFFFF))) ∧
      (a.get F.RBK_STATUS_LOADST = 1 → n ≠ a.get F.RBK_RXLEN → exec (.dataChunk h n b) s = .next (a.loadEnds 0x12))) ∧
    (b = [] ∨ 2040 < b.length → exec (.dataChunk h n b) s = .next (a.malformed 5 0x0002)) ∧
    (h.src = 0 → a.get F.RBK_STATUS_LOADST = 1 → exec (.closeLoad h) s = .next (a.put F.RBK_STATUS_LOADST 2)) ∧
    (h.src = 0 → a.get F.RBK_STATUS_LOADST ≠ 1 → exec (.closeLoad h) s = .next refused) ∧
    (h.src = 0 → a.get F.RBK_STATUS_LOADST ∈ [1, 2] → exec (.rulebookAbort h) s = .next (a.loadEnds 0x13)) ∧
    (h.src = 0 → a.get F.RBK_STATUS_LOADST ∉ [1, 2] → exec (.rulebookAbort h) s = .next refused) ∧
    (∀ c, a.loadEnds c = ((((a.put F.RBK_FAIL_CODE c).put F.RBK_FAIL_SLOT i).put F.RBK_FAIL_SECT 0).put F.RBK_STATUS_LOADST 0xF).raise 0x1502 c)) ∧
  (∀ (s : State),
    let n := 1 - s.rbk.ptr
    let v := s.verify (s.slotOf n).image (s.get F.RBK_RXLEN) s.rbk.openLen
    (s.get F.RBK_STATUS_LOADST = 2 → v.decl.isSome → exec .verificationComplete s =
      .next ((s.setSlot n { s.slotOf n with valid := true }).showSlots.put F.RBK_STATUS_LOADST 3)) ∧
    (s.get F.RBK_STATUS_LOADST = 2 → v.decl = none → exec .verificationComplete s = .next (((((s.put F.RBK_FAIL_CODE v.code).put F.RBK_FAIL_SLOT n).put
      F.RBK_FAIL_SECT v.sect).put F.RBK_STATUS_LOADST 0xF).raise 0x1502 v.code)) ∧
    (s.get F.RBK_STATUS_LOADST ≠ 2 → exec .verificationComplete s = .next s))

/-- R74, R75: ACTIVATE of the slot that is not active, which verified, with its digest, by a module that holds no token in a redundant mode (R395), asks for a flush
while a rulebook is active, and begins the B reset at once while none is; otherwise it is counted as refused, with code 0x16 and event 0x1502. One that comes
while an activation is pending or a reset is in progress is counted as refused. The flush that ends with nothing running writes the staged images and begins the B reset.

R81 to R83: a fragment of an amendment record waits for the rest; a record that passes the checks is journalled with its CRC, applied, counted and
reported with event 0x1504; one that does not is counted as refused, with its code, its section type and event 0x1505, and the journal stands; without an active
rulebook its code is 0x01. A message from another sender than the manager is counted as refused. -/
def Obligations.ActivationsAndAmendments : Prop :=
  (∀ (s : State) (h : Hdr) (slot t : Nat) (digest : Bytes),
    ((s.advance t).inTurn 5 h = true →
      let a := (s.advance t).took 5 h
      let u := ((a.setRbk { a.rbk with pending := some slot }).showSlots).put F.RBK_STATUS_LOADST 4
      let good := slot = 1 - a.rbk.ptr ∧ (a.slotOf slot).valid = true ∧ imgDigest (a.slotOf slot).image = digest ∧
        (a.redundant = false ∨ a.heldPos = none)
      let no := a.count F.RBK_CNT_REFUSED
      (h.src = 0 → a.rbk.pending = none → a.power.kind = none →
        (good → u.active = true → exec (.activate h slot digest t) s = .next (u.setRbk { u.rbk with actWait := some slot }).bankIdle) ∧
        (good → u.active = false → exec (.activate h slot digest t) s = .next u.beginB) ∧
        (¬ good → exec (.activate h slot digest t) s =
          .next ((((no.put F.RBK_FAIL_CODE 0x16).put F.RBK_FAIL_SLOT (slot % 2)).put F.RBK_FAIL_SECT 0).raise 0x1502 0x16))) ∧
      ((h.src ≠ 0 ∨ a.rbk.pending ≠ none ∨ a.power.kind ≠ none) → exec (.activate h slot digest t) s = .next no)) ∧
    ((s.advance t).rbk.flushing = true → (s.advance t).working = false →
      exec (.activationFlushComplete t) s = .next (s.advance t).flushImages.beginB) ∧
    (((s.advance t).rbk.flushing = false ∨ (s.advance t).working = true) → exec (.activationFlushComplete t) s = .next (s.advance t))) ∧
  (∀ (s : State) (h : Hdr) (p : Bytes) (t : Nat), (s.advance t).inTurn 6 h = true →
    let a := (s.advance t).took 6 h
    let b := a.rbk.amd ++ p
    let c := a.setRbk { a.rbk with amd := [] }
    let j := c.slotOf c.rbk.ptr
    let no := fun (code : Nat) => (((c.put F.RBK_AMD_STAT_CODE code).put F.RBK_AMD_STAT_SECT (amdOf b).type).count
      F.RBK_CNT_REFUSED).raise 0x1505 (amdOf b).type
    (h.src ≠ 0 → exec (.amendmentRecord h p t) s = .next (a.count F.RBK_CNT_REFUSED)) ∧
    (h.src = 0 → h.last = false → exec (.amendmentRecord h p t) s = .next (a.setRbk { a.rbk with amd := b })) ∧
    (∀ d, h.src = 0 → h.last = true → c.rbk.active = some d →
      (c.amdCheck d b = 0 → exec (.amendmentRecord h p t) s = .next (((((((c.setSlot c.rbk.ptr { j with journal := j.journal ++
        [{ body := b, crc := crc32 b }] }).showJournal).amdApply (amdOf b)).put F.RBK_AMD_SEQ_ASEQ (amdOf b).aseq).count
        F.RBK_CNT_AMDOK)).raise 0x1504 (amdOf b).type)) ∧
      (c.amdCheck d b ≠ 0 → exec (.amendmentRecord h p t) s = .next (no (c.amdCheck d b)))) ∧
    (h.src = 0 → h.last = true → c.rbk.active = none → exec (.amendmentRecord h p t) s = .next (no 1)))

/-- R68, R73: an image whose header passes is accepted only if the signature over it verifies under the trust anchor it names, whatever its
serial; a slot is loaded at start-up only after it verifies again (R78), and one that does not is marked invalid, with event 0x1502 and its
code (R79). -/
def Obligations.NoUnverifiedRulebookIsLoaded : Prop :=
  ∀ (s : State) (n : Nat) (k : Kind) (img : Bytes) (rx len : Nat),
    ((s.verify img rx len).decl.isSome → headerFail rx len img = 0 ∧
      ∃ key, s.anchor (imgAnchor img) = some key ∧ Config.ecdsaOk key (imgDigest img) (imgSig img) = true) ∧
    ((s.tryLoad n k).2 = true → (s.slotOf n).valid = true ∧
      ∃ key, s.anchor (imgAnchor (s.slotOf n).image) = some key ∧
        Config.ecdsaOk key (imgDigest (s.slotOf n).image) (imgSig (s.slotOf n).image) = true) ∧
    (let v := s.verify (s.slotOf n).image (s.slotOf n).image.length (imgTotlen (s.slotOf n).image);
      (s.slotOf n).valid = true → v.decl = none →
      (s.tryLoad n k) = (((((((s.setSlot n { s.slotOf n with valid := false }).showSlots).put F.RBK_FAIL_CODE v.code).put F.RBK_FAIL_SLOT n).put
        F.RBK_FAIL_SECT v.sect).put F.RBK_STATUS_LOADST 0xF).raise 0x1502 v.code, false))

/-! ## Ports (R85 to R111) -/

/-- R87 to R91: a received frame is checked in order: the link, the length of 64 to 1,528 bytes, the FCS, MAC control, each failure counted. Then, on a field-die port
outside a pair, a frame to the port's own address is handed on by its EtherType, and one that nothing names is counted in MCDROP; a broadcast goes by its EtherType where BCAST is 1, and is counted in MCDROP otherwise; any other
destination goes where its exact-match entry says, or by EtherType when its hash bin is set, and is counted in MCDROP otherwise.

R164: on a PRP or HSR pair the first copy of a frame, but for PTP, enters the duplicate window and goes on without tag and trailer, and on an HSR pair is forwarded first; a later
copy is counted in PRPDUP and discarded; an HSR frame without a tag is counted and discarded. The host die's ports hand nothing on to the field die: the transparent clock
of an SB pair acts on PTP messages (R121), and what else the host die makes of a frame is the manager's (log entry 43); none is received while the host die is suspended (R406). -/
def Obligations.ReceivedFramesAreCheckedInOrder : Prop :=
  ∀ (s : State) (p : Nat) (f : RxFrame) (t : Nat),
    let a := if p = 0x24 then (s.advance t).setHost { (s.advance t).host with carrier := Nat.max (s.advance t).host.carrier t } else s.advance t
    let b := a.countRx p f.len
    let g := { f with prp := none, hsr := none }
    let c := b.captureOf p f.len t
    let k := b.pairKey p
    ((a.flag (linkFld p) = false ∨ a.hostDown p = true) → exec (.frameReceived p f t) s = .next a) ∧
    (a.flag (linkFld p) = true → a.hostDown p = false → (f.len < 64 ∨ 1528 < f.len) →
      exec (.frameReceived p f t) s = .next (a.count (if p < 0x20 then F.PRT_LENERR p else F.SBP_LENERR (p - 0x20)))) ∧
    (a.flag (linkFld p) = true → a.hostDown p = false → 64 ≤ f.len → f.len ≤ 1528 → f.fcsOk = false →
      exec (.frameReceived p f t) s = .next (a.count (if p < 0x20 then F.PRT_CRCERR p else F.SBP_CRCERR (p - 0x20)))) ∧
    (a.flag (linkFld p) = true → a.hostDown p = false → 64 ≤ f.len → f.len ≤ 1528 → f.fcsOk = true →
      (f.body = .macControl none → exec (.frameReceived p f t) s = .next b) ∧
      (∀ q, f.body = .macControl (some q) → exec (.frameReceived p f t) s = .next (b.pauseFrame p q)) ∧
      ((∀ q, f.body ≠ .macControl q) → 0x20 ≤ p →
        ((∀ m, f.body ≠ .ptp m) → exec (.frameReceived p f t) s = .next b) ∧
        (∀ m, f.body = .ptp m → b.tcEn p = false → exec (.frameReceived p f t) s = .next b) ∧
        (∀ m, f.body = .ptp m → b.tcEn p = true → let r := b.tcRelay p m (b.rxStamp p c) f.src f.len;
          exec (.frameReceived p f t) s = .next (r.pdelayTake p (b.tcPeerDelay p) m (b.rxStamp p c)))) ∧
      ((∀ q, f.body ≠ .macControl q) → p < 0x20 → (16 ≤ p ∨ b.get (F.PRT_CTRL_PAIR p) = 0) →
        exec (.frameReceived p f t) s = .next (b.filter p g c)) ∧
      ((∀ q, f.body ≠ .macControl q) → p < 16 → f.etherType ≠ 0x88F7 →
        (∀ x, b.get (F.PRT_CTRL_PAIR p) = 1 → f.prp = some x → x.ok = true → x.lan = b.lanOf p →
          (b.inDup k f.src x.seq = false → exec (.frameReceived p f t) s = .next ((b.enterDup k p f.src x.seq).filter p g c)) ∧
          (∀ e, b.inDup k f.src x.seq = true → (Sp.get [] b.svi.dup k).find? (fun e => e.src == f.src && e.seq == x.seq) = some e →
            (e.port ≤ p ∨ e.at_ / 4 ≠ b.now / 4) →
            exec (.frameReceived p f t) s = .next (b.stat F.SVI_PRPDUP_LO F.SVI_PRPDUP_LIVE 1))) ∧
        (∀ x, b.get (F.PRT_CTRL_PAIR p) = 2 → f.hsr = some x → b.inDup k f.src x.seq = false →
          exec (.frameReceived p f t) s = .next (((b.enterDup k p f.src x.seq).hsrForward p f c).filter p g c)) ∧
        (b.get (F.PRT_CTRL_PAIR p) = 2 → f.hsr = none → exec (.frameReceived p f t) s = .next (b.count F.SVI_OVFL_HSRUNTAG)))) ∧
    (∀ u : State,
      (f.dst = u.macOfPort p → u.filter p f t = u.dispatch p f t) ∧
      (f.dst ≠ u.macOfPort p → f.dst = List.replicate 6 0xFF#8 →
        u.filter p f t = if u.flag (F.PRT_CTRL_BCAST p) then u.dispatch p f t else u.mcDrop p) ∧
      (f.dst ≠ u.macOfPort p → f.dst ≠ List.replicate 6 0xFF#8 →
        (∀ i, u.exactMatch p f.dst = some i → u.filter p f t = u.deliver p i f t) ∧
        (u.exactMatch p f.dst = none → u.filter p f t = if u.hashHit f.dst then u.dispatch p f t else u.mcDrop p)) ∧
      (f.etherType = 0x88BA → u.dispatch p f t = u.classify p f (u.rxStamp p t)) ∧
      (f.etherType = 0x88F7 → u.dispatch p f t = u.toTsu p f t) ∧
      (f.etherType = 0x88B5 → u.dispatch p f t = u.toHalts p f t) ∧
      (f.etherType ∉ [0x88BA, 0x88F7, 0x88B5] → u.dispatch p f t = u.mcDrop p) ∧
      u.mcDrop p = u.stat (F.PRT_MCDROP_LO p) (F.PRT_MCDROP_LIVE p) 1)

/-- R95, R96: every PAUSE frame is counted; a port that honours PAUSE pauses for its quanta of 512 bit times at the current rate, from the end of the frame being sent,
and PAUSED and QUANTA show it; 0 quanta end the pause, as does its running out. TW0, TW1, a port with PAUSE_EN = 0, and MT in half duplex only count it. The ports of a host
die that is suspended take none (R406).

R92, R94: with the link up, no pause, the frame before at its end and enough bytes buffered, the oldest frame of the highest queue that holds one which may go starts; a host-die port whose
queues hold none starts one of the manager's, and queues it during a renegotiation (R98). An underrun ends the frame with a bad CRC, is counted, raises event 0x0303 and raises the
threshold by 256 up to 1,536, from which the port stores and forwards. -/
def Obligations.TransmissionAndPause : Prop :=
  (∀ (s : State) (p q t : Nat),
    let a := s.advance t
    let c := a.count (if p < 0x20 then F.PRT_PAUSERX p else F.SBP_PAUSERX (p - 0x20))
    let paused := (c.setPort p { c.port p with pause := some (Nat.max c.now (c.sendEnd p), q) }).showPause p
    (p < 16 → c.flag (F.PRT_CTRL_PAUSE_EN p) = true → exec (.pauseFrame p q t) s = .next paused) ∧
    (p < 16 → c.flag (F.PRT_CTRL_PAUSE_EN p) = false → exec (.pauseFrame p q t) s = .next c) ∧
    (16 ≤ p → p < 0x20 → exec (.pauseFrame p q t) s = .next c) ∧
    (0x20 ≤ p → a.host.suspended = true → exec (.pauseFrame p q t) s = .next a) ∧
    (0x20 ≤ p → a.host.suspended = false →
      (c.flag (F.SBP_CTRL_PAUSE_EN (p - 0x20)) = true → (p ≠ 0x24 ∨ c.mtHalfDuplex = false) → exec (.pauseFrame p q t) s = .next paused) ∧
      ((c.flag (F.SBP_CTRL_PAUSE_EN (p - 0x20)) = false ∨ (p = 0x24 ∧ c.mtHalfDuplex = true)) → exec (.pauseFrame p q t) s = .next c)) ∧
    exec (.pauseExpired p t) s = .next (a.showPause p) ∧
    (let v := (a.putB (if p < 0x20 then F.PRT_STATUS_PAUSED p else F.SBP_STATUS_PAUSED (p - 0x20)) (a.pausedNow p)).put
        (if p < 0x20 then F.PRT_PAUSE_QUANTA p else F.SBP_PAUSE_QUANTA (p - 0x20)) (a.pauseLeft p);
      a.showPause p = if v.pauseLeft p = 0 then v.setPort p { v.port p with pause := none } else v) ∧
    ((a.port p).pause = none → a.pauseLeft p = 0 ∧ a.pausedNow p = false) ∧
    (∀ x n, (a.port p).pause = some (x, n) → a.pauseLeft p = n - (a.now - x) * 10 / (64 * byteTime (a.rateOf p)) ∧
      (a.pausedNow p = true ↔ x ≤ a.now ∧ a.pauseLeft p ≠ 0))) ∧
  (∀ (s : State) (p n t : Nat) (tag : Option Word),
    let a := (s.advance t).showPause p
    let m : TxFrame := { queue := 0, len := n, src := a.macOfPort p, body := .dma [], red := none, stamp := tag, chan := none }
    let free := a.flag (linkFld p) = true ∧ a.pausedNow p = false ∧ a.sendEnd p ≤ a.now
    (p < 0x20 → ¬ free → exec (.transmitStart p n t tag) s = .next a) ∧
    (p < 0x20 → free → (a.port p).hand = none →
      (∀ f r, a.nextFrame p = some (f, r) →
        (Nat.min (a.get (F.PRT_TXTHR_START p)) f.len ≤ n → exec (.transmitStart p n t tag) s = .next (a.startFrame p f r t)) ∧
        (n < Nat.min (a.get (F.PRT_TXTHR_START p)) f.len → exec (.transmitStart p n t tag) s = .next a)) ∧
      (a.nextFrame p = none → exec (.transmitStart p n t tag) s = .next a)) ∧
    (0x20 ≤ p → a.host.suspended = true → exec (.transmitStart p n t tag) s = .next a) ∧
    (0x20 ≤ p → a.host.suspended = false → a.flag (F.SBP_STATUS_RENEG (p - 0x20)) = true →
      exec (.transmitStart p n t tag) s = .next (a.queueTx p m)) ∧
    (0x20 ≤ p → p ≠ 0x24 → a.host.suspended = false → a.flag (F.SBP_STATUS_RENEG (p - 0x20)) = false →
      (¬ free → exec (.transmitStart p n t tag) s = .next a) ∧
      (free → (a.port p).hand = none → a.nextFrame p = none → exec (.transmitStart p n t tag) s = .next (a.startFrame p m [] t))) ∧
    (∀ f r, a.nextFrame p = some (f, r) → ∃ b e, (a.port p).txq.filter (a.maySend p) = b ++ f :: e ∧ (∀ g ∈ b, g.queue < f.queue) ∧
      (∀ g ∈ e, g.queue ≤ f.queue) ∧ r = (a.port p).txq.erase f) ∧
    (∀ f, (s.port p).cur = some f → s.flag (snfFld p) = false →
      let b := (s.setPort p { s.port p with cur := none, sent := some f, badCrc := true }).count (if p < 0x20 then F.PRT_UNDERRUN p else F.SBP_UNDERRUN (p - 0x20))
      let c := if p < 0x20 then b.raise 0x0303 p else b.raiseHost 0x0303 p
      let v := Nat.min (c.get (startFld p) + 256) 1536
      exec (.transmitUnderrun p) s = .next ((c.put (startFld p) v).putB (snfFld p) (decide (1536 ≤ v)))) ∧
    (((s.port p).cur = none ∨ s.flag (snfFld p) = true) → exec (.transmitUnderrun p) s = .next s))

/-- R97, R98: step-down applies to an SB port with SDALLOW = 1 and MODE = 2 that no PTP, no transparent clock inhibits. It starts a renegotiation to 100 Mb/s after ten windows below
2 % in a row, any other window starting the count again, and one to its declared rate after a window above 40 % at 100 Mb/s, or a buffer half full; a step up that is
due while it steps down follows that renegotiation. A renegotiation that ends shows the rate and raises event 0x0304 in the manager's queue.

R99, R100: in half duplex MT starts a frame only with no roll waiting and 96 bit times after the carrier and its own frame ended, with the 64 of the preamble. A
collision takes the frame out of the counters; it waits 0 to 2^k − 1 slot times of 512 bit times after the jam, k = min(n, 10), n counting the collisions of the frame, and is
then tried again; the 16th attempt and a collision after the first 512 bit times discard it and are counted. Which roll the generator gives is a free value (log entry 3). -/
def Obligations.RateStepsAndCollisions : Prop :=
  (∀ (s : State) (sb rx tx : Nat),
    let u := Nat.max rx tx * 100
    let a := bitsAllowed (s.get (F.SBP_STATUS_RATE sb))
    let n := if u < 2 * a then Sp.get 0 s.host.low sb + 1 else 0
    let b := s.setHost { s.host with low := Sp.put 0 s.host.low sb n }
    (s.sdApplies sb = true ↔ s.flag (F.SBP_CTRL_SDALLOW sb) = true ∧ s.get (F.SBP_CTRL_MODE sb) = 2 ∧ s.ptpBase (0x20 + sb) = none ∧
      s.flag (F.SBP_PORT_CTRL_TCEN sb) = false) ∧
    (s.sdApplies sb = true → s.host.suspended = false →
      (s.get (F.SBP_STATUS_RATE sb) = 1 → 40 * a < u → exec (.utilisationWindow sb rx tx) s = .next (s.stepUp sb)) ∧
      (s.get (F.SBP_STATUS_RATE sb) = 1 → u ≤ 40 * a → exec (.utilisationWindow sb rx tx) s = .next s) ∧
      (s.get (F.SBP_STATUS_RATE sb) ≠ 1 → s.flag (F.SBP_STATUS_RENEG sb) = true → exec (.utilisationWindow sb rx tx) s = .next s) ∧
      (s.get (F.SBP_STATUS_RATE sb) ≠ 1 → s.flag (F.SBP_STATUS_RENEG sb) = false →
        exec (.utilisationWindow sb rx tx) s = .next (if 10 ≤ n then b.startReneg sb 1 else b))) ∧
    ((s.sdApplies sb = false ∨ s.host.suspended = true) → exec (.utilisationWindow sb rx tx) s = .next s) ∧
    (s.host.suspended = false → exec (.transmitBufferHalfFull sb) s = .next (s.stepUp sb)) ∧
    (s.host.suspended = true → exec (.transmitBufferHalfFull sb) s = .next s) ∧
    (s.flag (F.SBP_STATUS_RENEG sb) = false → s.get (F.SBP_STATUS_RATE sb) = 1 → s.declRate sb ≠ 1 → s.stepUp sb = s.startReneg sb (s.declRate sb)) ∧
    (s.flag (F.SBP_STATUS_RENEG sb) = false → (s.get (F.SBP_STATUS_RATE sb) ≠ 1 ∨ s.declRate sb = 1) → s.stepUp sb = s) ∧
    (s.flag (F.SBP_STATUS_RENEG sb) = true → s.stepUp sb = if Sp.get 0 s.host.reneg sb = 2 then s.setHost { s.host with
      upDue := Sp.put 0 s.host.upDue sb 1 } else s) ∧
    (∀ r, s.startReneg sb r = (s.put (F.SBP_STATUS_RENEG sb) 1).setHost { s.host with
      reneg := Sp.put 0 s.host.reneg sb (r + 1), low := Sp.put 0 s.host.low sb 0 }) ∧
    ((s.flag (F.SBP_STATUS_RENEG sb) = false ∨ s.host.suspended = true) → exec (.renegotiationComplete sb) s = .next s) ∧
    (s.flag (F.SBP_STATUS_RENEG sb) = true → s.host.suspended = false →
      let c := (((s.put (F.SBP_STATUS_RATE sb) (Sp.get 0 s.host.reneg sb - 1)).put (F.SBP_STATUS_RENEG sb) 0).raiseHost 0x0304
        (0x20 + sb)).showLat (0x20 + sb)
      let d := c.setHost { c.host with reneg := Sp.put 0 c.host.reneg sb 0, upDue := Sp.put 0 c.host.upDue sb 0 }
      exec (.renegotiationComplete sb) s = .next (if Sp.get 0 c.host.upDue sb = 1 then d.stepUp sb else d))) ∧
  (∀ (s : State) (bits t : Nat) (f : TxFrame),
    let a := s.advance t
    let jam := t + a.lineTime 0x24 4
    let w := (a.uncountTx 0x24 f.len).setHost { a.host with carrier := jam }
    let n := a.host.attempts + 1
    (a.mtHalfDuplex = true → a.host.suspended = false → (a.port 0x24).cur = some f →
      (bits ≤ 512 → n ≠ 16 → ∃ r, r < 2 ^ Nat.min n 10 ∧ exec (.collision bits t) s =
        .next (((w.setFree (w.free + 1)).setPort 0x24 { w.port 0x24 with cur := none, hand := some f }).setHost
          { w.host with attempts := n, roll := some r, rollEnd := jam + w.lineTime 0x24 (64 * r) })) ∧
      (bits ≤ 512 → n = 16 → exec (.collision bits t) s = .next (w.count F.MTP_EXCOL).mtDrop) ∧
      (512 < bits → exec (.collision bits t) s = .next (w.count F.MTP_LATECOL).mtDrop)) ∧
    (∀ u : State, u.mtDrop = (u.setPort 0x24 { u.port 0x24 with cur := none }).setHost { u.host with attempts := 0, roll := none }) ∧
    ((a.mtHalfDuplex = false ∨ a.host.suspended = true ∨ (a.port 0x24).cur = none) → exec (.collision bits t) s = .next a) ∧
    (a.host.rollEnd ≤ a.now → exec (.rollExpired t) s = .next (a.setHost { a.host with roll := none })) ∧
    (a.now < a.host.rollEnd → exec (.rollExpired t) s = .next a) ∧
    (a.mtHalfDuplex = true → (a.canStart 0x24 = true ↔ a.flag (linkFld 0x24) = true ∧ a.pausedNow 0x24 = false ∧ a.sendEnd 0x24 ≤ a.now ∧
      a.host.roll = none ∧ Nat.max a.host.carrier (a.sendEnd 0x24) + a.lineTime 0x24 20 ≤ a.now)) ∧
    (∀ k tag, let v := a.showPause 0x24;
      v.canStart 0x24 = true → v.host.suspended = false → v.flag (F.SBP_STATUS_RENEG 4) = false → (v.port 0x24).hand = some f →
      exec (.transmitStart 0x24 k t tag) s = .next (v.startFrame 0x24 f (v.port 0x24).txq t)))

/-- R85, R106, R384: a port whose MODE is a PHY type that R85 lists for it comes up, at the rate of that type, with its latencies; MT comes up at the rate forced or negotiated unless MODE is 3, an SB port
at its declared rate, both only with a good address (R108) and while the host die runs. Events 0x0301 and 0x0302 report the link, on the host die for its ports; going down is counted, and takes the
pair link of TW0 or TW1 with it. Reading the low word of a wide counter latches its high word.

R101, R102: two good FT3 frames in a row synchronise a receiver, with event 0x0402, and a good frame then goes to the parser for the streams subscribed to it, or is counted in NOSUB; three bad or missing ones
in a row lose synchronisation, with event 0x0401; a bad frame is counted; a receiver that is off does nothing. -/
def Obligations.PortLinksAndFt3Receivers : Prop :=
  (∀ (s : State) (p r : Nat),
    let u := s.put (linkFld p) 1
    (p < 18 → s.portOn p = true → exec (.portLinkUp p r) s =
      .next ((u.put (F.PRT_STATUS_RATE p) (phyRate (u.get (F.PRT_CTRL_MODE p)) (u.flag (F.PRT_CTRL_AN p)) r)).showLat p)) ∧
    (s.portOn 0x24 = true → s.host.suspended = false → let v := s.put (linkFld 0x24) 1;
      exec (.portLinkUp 0x24 r) s = .next ((v.put F.MTP_STATUS_RATE (if v.get F.MTP_CTRL_MODE = 1 then 0 else if v.get F.MTP_CTRL_MODE = 2 then 1
        else Nat.min (r % 8) 1)).setHost { v.host with mtHalf := decide (8 ≤ r) })) ∧
    (0x20 ≤ p → p < 0x24 → s.portOn p = true → s.host.suspended = false → let i := p - 0x20;
      let x := phyRate (u.get (F.SBP_CTRL_MODE i)) (u.flag (F.SBP_CTRL_AN i)) r;
      let y := if x = 4 then 3 else x;
      (u.flag (F.SBP_STATUS_RENEG i) = true → exec (.portLinkUp p r) s = .next u) ∧
      (u.flag (F.SBP_STATUS_RENEG i) = false → exec (.portLinkUp p r) s = .next ((((u.put (F.SBP_STATUS_RATE i) y).setHost { u.host with
        declRate := Sp.put 0 u.host.declRate i y }).showLat p).showSdinh i))) ∧
    ((s.portOn p = false ∨ (0x20 ≤ p ∧ s.host.suspended = true)) → exec (.portLinkUp p r) s = .next s) ∧
    (s.portOn p = true ↔ if p < 12 then 1 ≤ s.get (F.PRT_CTRL_MODE p) ∧ s.get (F.PRT_CTRL_MODE p) ≤ 4
      else if p < 16 then 1 ≤ s.get (F.PRT_CTRL_MODE p) ∧ s.get (F.PRT_CTRL_MODE p) ≤ 5
      else if p < 0x20 then s.get (F.PRT_CTRL_MODE p) = 5
      else if p = 0x24 then s.get F.MTP_CTRL_MODE ≠ 3 ∧ s.hostMacOk 4 = true
      else s.get (F.SBP_CTRL_MODE (p - 0x20)) ∈ [2, 3, 5] ∧ s.hostMacOk (p - 0x20) = true) ∧
    (∀ an, phyRate 1 an r = 1 ∧ phyRate 2 false r = 2 ∧ phyRate 2 true r = Nat.min r 2 ∧ phyRate 3 an r = 2 ∧ phyRate 4 an r = 3 ∧ phyRate 5 an r = 4) ∧
    (s.flag (linkFld p) = true →
      exec (.linkStable p) s = .next (if p < 0x20 then s.raise 0x0301 p else s.raiseHost 0x0301 p) ∧
      (p < 16 → exec (.portLinkDown p) s = .next (((s.put (F.PRT_STATUS_LINK p) 0).raise 0x0302 p).count (F.PRT_LINKDN p))) ∧
      ((p = 16 ∨ p = 17) → let d := ((s.put (F.PRT_STATUS_LINK p) 0).raise 0x0302 p).count (F.PRT_LINKDN p);
        (d.redundant = true → bit (d.get F.TOK_STATUS_LINKS) (p - 16) = true → exec (.portLinkDown p) s = .next (d.reportRed (fun w =>
          ((w.putBit F.TOK_STATUS_LINKS (p - 16) false).raise 0x1603 (p - 16)).count F.TOK_CNT3_LINKDN))) ∧
        ((d.redundant = false ∨ bit (d.get F.TOK_STATUS_LINKS) (p - 16) = false) → exec (.portLinkDown p) s = .next d)) ∧
      (0x20 ≤ p → let d := ((s.put (F.SBP_STATUS_LINK (p - 0x20)) 0).raiseHost 0x0302 p).count (F.SBP_LINKDN (p - 0x20));
        d.flag (F.SBP_STATUS_RENEG (p - 0x20)) = false → exec (.portLinkDown p) s = .next d)) ∧
    (s.flag (linkFld p) = false → exec (.linkStable p) s = .next s ∧ (p ≠ 16 → p ≠ 17 → exec (.portLinkDown p) s = .next s)) ∧
    (∀ (a : Word) live hi, (a.toNat < 0x01810000 ∨ 0x01900000 ≤ a.toNat) → (fieldsAt a.toNat).find? (fun f => f.lo == 32) = some live →
      (fieldsAt (a.toNat + 4)).find? (fun f => f.lo == 0) = some hi → exec (.statCounterLoRead a) s = .next (s.put hi (s.get live))) ∧
    (p < 18 → exec (.statCounterLoRead (BitVec.ofNat 32 (F.PRT_RXFRM_LO p).addr)) s = .next (s.put (F.PRT_RXFRM_HI p) (s.get (F.PRT_RXFRM_LIVE p))))) ∧
  (∀ (s : State) (f : Nat) (d : Bytes) (t : Nat),
    let a := s.advance t
    let q := a.port (18 + f)
    let g := (a.setPort (18 + f) { q with ftGood := q.ftGood + 1, ftBad := 0 }).stat (F.PRT_FTFRM_LO f) (F.PRT_FTFRM_LIVE f) 1
    let bad := fun (v : State) =>
      let m := v.setPort (18 + f) { v.port (18 + f) with ftGood := 0, ftBad := (v.port (18 + f)).ftBad + 1 }
      if m.flag (F.PRT_FTSTATUS_SYNC f) = true ∧ 2 ≤ (v.port (18 + f)).ftBad then
        ((m.put (F.PRT_FTSTATUS_SYNC f) 0).count (F.PRT_FTSYNC_SYNCLOSS f)).raise 0x0401 f
      else m
    (a.get (F.PRT_FTCTRL_RATE f) = 3 → exec (.ft3Frame f true d t) s = .next a ∧ exec (.ft3Frame f false d t) s = .next a) ∧
    (a.get (F.PRT_FTCTRL_RATE f) ≠ 3 → g.flag (F.PRT_FTSTATUS_SYNC f) = false →
      (1 ≤ q.ftGood → exec (.ft3Frame f true d t) s = .next ((g.put (F.PRT_FTSTATUS_SYNC f) 1).raise 0x0402 f)) ∧
      (q.ftGood = 0 → exec (.ft3Frame f true d t) s = .next g)) ∧
    (a.get (F.PRT_FTCTRL_RATE f) ≠ 3 → g.flag (F.PRT_FTSTATUS_SYNC f) = true →
      let l := g.subs.filter (fun i => g.get (F.SVI_SUB_KIND i) == 2 && g.get (F.SVI_SUB_FTRX i) == f)
      (g.chainOn = false → exec (.ft3Frame f true d t) s = .next g) ∧
      (g.chainOn = true → l = [] → exec (.ft3Frame f true d t) s = .next (g.stat F.SVI_NOSUB_LO F.SVI_NOSUB_LIVE 1)) ∧
      (g.chainOn = true → l ≠ [] → exec (.ft3Frame f true d t) s = .next (g.enqueue { port := 18 + f, ft := true, frame := none, ds := d,
                                                                                      stamp := (t * 16 - g.get (F.TSU_FT_RXLAT f)) / 16, subs := l, at_ := g.now }))) ∧
    (a.get (F.PRT_FTCTRL_RATE f) ≠ 3 → exec (.ft3Frame f false d t) s = .next (bad (a.count (F.PRT_FTCRC_CRCERR f)))) ∧
    (s.get (F.PRT_FTCTRL_RATE f) ≠ 3 → exec (.ft3FrameMissing f) s = .next (bad s)) ∧
    (s.get (F.PRT_FTCTRL_RATE f) = 3 → exec (.ft3FrameMissing f) s = .next s))

/-- R103, R104: a drive that is forced shows FORCED and is open; one that is not follows its committed bit, closing at once and opening when
MINON has passed; without an owner it is open; during a B reset it holds.

A drive is forced before READY and while no rulebook is active, the token is lost, the module is in Hold-up or Park, its owner is in reset, or the
pair waits for its peer.

R104, R110: an overload of a closed drive opens it and shows OVERLOAD, and the retry closes it again when the overload is gone and the
drive is still commanded, and does nothing else; a drive commanded while the overload lasts stays open; an open load is shown on a closed drive and
cleared. -/
def Obligations.DrivesFollowTheirCommand : Prop :=
  (∀ (s : State) (d t : Nat), d < 2 →
    let a := s.advance t
    let b := a.put (F.PRT_TRIP_FORCED d) 0
    (a.tripForced d = true ↔ a.ready = false ∨ a.active = false ∨ (a.get F.TOK_CTRL_MODE ≠ 0 ∧ a.flag F.TOK_STATUS_HELD = false) ∨
      2 ≤ a.get F.PWR_STATE ∨ (a.trip d).ownerReset = true ∨ a.tok.resume = true) ∧
    (a.power.kind = some .b → exec (.minonExpired d t) s = .next a) ∧
    (a.power.kind ≠ some .b → a.tripForced d = true → exec (.minonExpired d t) s = .next (((a.put (F.PRT_TRIP_FORCED d) 1).put
      (F.PRT_TRIP_ON d) 0).setTrip d { a.trip d with closedAt := none })) ∧
    (a.Sound → a.power.kind ≠ some .b → a.tripForced d = false → a.get (F.PRT_TRIP_OWNER d) ≠ 0 →
      (a.flag (F.PRT_TRIP_CMD d) = true → a.flag (F.PRT_TRIP_ON d) = false → (a.trip d).overOff = false →
        exec (.minonExpired d t) s = .next ((b.put (F.PRT_TRIP_ON d) 1).setTrip d { a.trip d with closedAt := some a.now })) ∧
      (a.flag (F.PRT_TRIP_CMD d) = true → (a.flag (F.PRT_TRIP_ON d) = true ∨ (a.trip d).overOff = true) →
        exec (.minonExpired d t) s = .next b) ∧
      (a.flag (F.PRT_TRIP_CMD d) = false → (a.trip d).closedAt = none →
        exec (.minonExpired d t) s = .next ((b.put (F.PRT_TRIP_ON d) 0).setTrip d { a.trip d with closedAt := none })) ∧
      (∀ c, a.flag (F.PRT_TRIP_CMD d) = false → (a.trip d).closedAt = some c → a.now < c + a.get (F.PRT_TRIP_MINON d) * 1000000 →
        exec (.minonExpired d t) s = .next b) ∧
      (∀ c, a.flag (F.PRT_TRIP_CMD d) = false → (a.trip d).closedAt = some c → c + a.get (F.PRT_TRIP_MINON d) * 1000000 ≤ a.now →
        exec (.minonExpired d t) s = .next ((b.put (F.PRT_TRIP_ON d) 0).setTrip d { a.trip d with closedAt := none }))) ∧
    (a.Sound → a.power.kind ≠ some .b → a.tripForced d = false → a.get (F.PRT_TRIP_OWNER d) = 0 →
      exec (.minonExpired d t) s = .next ((b.put (F.PRT_TRIP_ON d) 0).setTrip d { a.trip d with closedAt := none }))) ∧
  (∀ (s : State) (d t : Nat),
    (s.flag (F.PRT_TRIP_ON d) = true → exec (.tripOverload d) s = .next
        ((((s.put (F.PRT_TRIP_OVERLOAD d) 1).openTrip d)).setTrip d { ((s.put (F.PRT_TRIP_OVERLOAD d) 1).openTrip d).trip d with overOff := true }) ∧
      exec (.openLoadFound d) s = .next (s.put (F.PRT_TRIP_OPENLOAD d) 1)) ∧
    (s.flag (F.PRT_TRIP_ON d) = false → exec (.tripOverload d) s = .next s ∧ exec (.openLoadFound d) s = .next s) ∧
    exec (.openLoadCleared d) s = .next (s.put (F.PRT_TRIP_OPENLOAD d) 0) ∧
    (((s.advance t).trip d).overOff = true → (s.advance t).flag (F.PRT_TRIP_CMD d) = true → (s.advance t).tripForced d = false →
      exec (.overloadRetry d false t) s = .next ((((s.advance t).put (F.PRT_TRIP_OVERLOAD d) 0).setTrip d
        { (s.advance t).trip d with overOff := false }).driveTrip d) ∧
      exec (.overloadRetry d true t) s = .next (s.advance t)) ∧
    ((((s.advance t).trip d).overOff = false ∨ (s.advance t).flag (F.PRT_TRIP_CMD d) = false ∨ (s.advance t).tripForced d = true) →
      exec (.overloadRetry d false t) s = .next (s.advance t) ∧ exec (.overloadRetry d true t) s = .next (s.advance t)))

/-! ## Time (R112 to R138) -/

/-- R114, R127: a read of TSU_TB_NS latches the nanoseconds, seconds and wrapped time of one instant. -/
def Obligations.TimeIsLatchedAtOneInstant : Prop :=
  ∀ (s : State) (b t : Nat), b < 4 → (s.advance t).Sound →
    ∃ u, exec (.tbNsRead b t) s = .next u ∧
      u.get (F.TSU_TB_NS b) + 1000000000 * (u.get (F.TSU_TB_SECLO b) + 2 ^ 32 * u.get (F.TSU_TB_SECHI b)) =
        (s.advance t).tbNs b % (1000000000 * 2 ^ 48) ∧
      u.get (F.TSU_TB_WRAP b) = (s.advance t).tbNs b % 2 ^ 32 ∧
      RegsBut [F.TSU_TB_NS b, F.TSU_TB_SECLO b, F.TSU_TB_SECHI b, F.TSU_TB_WRAP b] (s.advance t) u ∧ u = (s.advance t).setRegs u.regs

/-- R116, R118: a base under PTP that loses its source in LOCKED enters HOLDOVER and counts the loss; in ACQUIRING it falls to FREE with
frequency 0; HOLDOVER that expires falls to FREE; a base that PTP does not discipline takes no notice of the timeouts. Without a grandmaster a base
that is not slave-only is its own (R119).

R116: what a base's change of state does: STATE, the event of its number, and the same to the bases that follow it; without followers
nothing else of the registers changes. The layout of the message that reports it is the model's choice (log entry 14). -/
def Obligations.BasesLoseAndChangeTheirState : Prop :=
  (∀ (s : State) (b : Nat),
    let n := s.setTb b { s.tb b with slave := none }
    let own := fun (u : State) => if u.get (F.TSU_TB_PTP_ROLE b) = 0 then u else u.setGm b Config.clockIdentity
    s.srcOf b = (if s.active = true then s.get (F.TSU_TB_CTRL_SRC b) else 0) ∧
    (s.srcOf b = 1 → s.tbState b = 2 →
      exec (.syncTimeout b) s = .next ((n.count (F.TSU_TB_CNT_LOSSES b)).holdover b) ∧
      exec (.announceReceiptTimeout b) s = .next (own ((n.count (F.TSU_TB_CNT_LOSSES b)).holdover b))) ∧
    (s.srcOf b = 1 → s.tbState b = 1 →
      let f := (n.count (F.TSU_TB_CNT_LOSSES b)).toFree b
      let g := (f.setTb b { f.tb b with integ := 0, inLim := 0, outLim := 0 }).setFreq 4 b 0
      exec (.syncTimeout b) s = .next g ∧ exec (.announceReceiptTimeout b) s = .next (own g)) ∧
    (s.srcOf b = 1 → (s.tbState b = 0 ∨ s.tbState b = 3) → exec (.syncTimeout b) s = .next n ∧
      exec (.announceReceiptTimeout b) s = .next (own n)) ∧
    (s.srcOf b ≠ 1 → exec (.syncTimeout b) s = .next s ∧ exec (.announceReceiptTimeout b) s = .next s) ∧
    (∀ g, g % 2 ^ 64 = s.get (F.TSU_TB_GMID_LO b) + 2 ^ 32 * s.get (F.TSU_TB_GMID_HI b) → s.setGm b g = s) ∧
    (∀ g, g % 2 ^ 64 ≠ s.get (F.TSU_TB_GMID_LO b) + 2 ^ 32 * s.get (F.TSU_TB_GMID_HI b) →
      s.setGm b g = ((s.put (F.TSU_TB_GMID_LO b) g).put (F.TSU_TB_GMID_HI b) (g / 2 ^ 32)).raiseOn b 0x0604 0xFF 0) ∧
    (s.tbState b = 3 → exec (.holdoverExpired b) s = .next (s.toFree b)) ∧
    (s.tbState b ≠ 3 → exec (.holdoverExpired b) s = .next s)) ∧
  (∀ (s : State) (b st code arg : Nat), b < 4 → st < 4 → s.Sound → s.followers b = [] → code ≠ 0 →
    ∃ u, s.tbTo b st code arg = u.sendTimeStatus ∧ u.tbState b = st ∧
      u.log = keepLast 65536 (s.log ++ [{ code := code, inst := 0xFF, tb := b, arg := arg % 2 ^ 32,
                                          sec := s.tbNs b / 1000000000 % 2 ^ 32, ns := s.tbNs b % 1000000000 }]) ∧
      RegsBut [F.TSU_TB_STATUS_STATE b, F.XNG_REFUSED_EVLOST] s u ∧ ∀ x, x ≠ b → u.tb x = s.tb x)

/-- R122, R123: TIN. Without its mode neither frames nor edges do anything; a bad or missing one starts the count of good ones again, and the
third in a row loses synchronisation and the source of the bases it disciplines, which are those with SRC 2 while a rulebook is active; good ones
bring it back; a second that is inserted or deleted moves TAI − UTC by one when it was announced. -/
def Obligations.TinSynchronises : Prop :=
  ∀ (s : State) (toy ys q t : Nat) (lp : Bool),
    let a := s.advance t
    let n := s.setTin { s.tin with bad := s.tin.bad + 1, good := 0 }
    s.tinBases = (List.range 4).filter (fun b => s.active && s.get (F.TSU_TB_CTRL_SRC b) == 2) ∧
    (a.get F.TSU_TIN_CTRL_MODE ∉ [1, 2] → exec (.irigFrame true toy ys lp q t) s = .next a ∧ exec (.irigFrame false toy ys lp q t) s = .next a) ∧
    (a.get F.TSU_TIN_CTRL_MODE ∈ [1, 2] → a.tin.bad ≠ 2 →
      exec (.irigFrame false toy ys lp q t) s = .next (a.setTin { a.tin with bad := a.tin.bad + 1, good := 0 })) ∧
    (s.get F.TSU_TIN_CTRL_MODE ∉ [1, 2] → exec .irigFrameMissing s = .next s) ∧
    (s.get F.TSU_TIN_CTRL_MODE ∈ [1, 2] → s.tin.bad ≠ 2 → exec .irigFrameMissing s = .next n) ∧
    (s.get F.TSU_TIN_CTRL_MODE ∈ [1, 2] → s.tin.bad = 2 →
      exec .irigFrameMissing s = .next ((n.put F.TSU_TIN_STATUS_SYNC 0).tinBases.foldl State.sourceLost (n.put F.TSU_TIN_STATUS_SYNC 0))) ∧
    (s.get F.TSU_TIN_CTRL_MODE = 3 → s.tin.bad ≠ 2 → exec .ppsEdgeMissing s = .next n) ∧
    (s.get F.TSU_TIN_CTRL_MODE = 3 → s.tin.bad = 2 →
      exec .ppsEdgeMissing s = .next ((n.put F.TSU_TIN_STATUS_SYNC 0).tinBases.foldl State.sourceLost (n.put F.TSU_TIN_STATUS_SYNC 0))) ∧
    (s.get F.TSU_TIN_CTRL_MODE ≠ 3 → exec .ppsEdgeMissing s = .next s ∧ (a.get F.TSU_TIN_CTRL_MODE ≠ 3 → exec (.ppsEdge t) s = .next a)) ∧
    (a.get F.TSU_TIN_CTRL_MODE ∈ [1, 2] → a.tin.good = 0 → a.flag F.TSU_TIN_STATUS_SYNC = false → a.flag F.TSU_TIN_CTRL_CF = false →
      exec (.irigFrame true toy ys lp q t) s = .next (a.setTin { a.tin with good := 1, bad := 0 })) ∧
    (a.get F.TSU_TIN_CTRL_MODE = 3 → a.tin.lastEdge = none → (∀ b < 4, a.srcOf b = 3) →
      exec (.ppsEdge t) s = .next (a.setTin { a.tin with lastEdge := some (a.tbNs a.tinBase) })) ∧
    (∀ x p, a.get F.TSU_TIN_CTRL_MODE = 3 → a.tin.lastEdge = some p → ((a.tbNs a.tinBase : Int) - p - 1000000000).natAbs ≤ 1000000 → x < 4 →
      (∀ b < 4, a.srcOf b = 3 ↔ b ≠ x) → a.Sound →
      exec (.ppsEdge t) s = .next (((a.setTin { a.tin with lastEdge := some (a.tbNs a.tinBase), bad := 0 }).put F.TSU_TIN_STATUS_SYNC
        1).edgeBase x true)) ∧
    (∀ x, a.get F.TSU_TIN_CTRL_MODE ∈ [1, 2] → 1 ≤ a.tin.good → a.flag F.TSU_TIN_CTRL_CF = true → a.Sound → a.tinBases = [x] →
      let c := (((a.setTin { a.tin with good := a.tin.good + 1, bad := 0 }).put F.TSU_TIN_STATUS_SYNC 1).putB
        F.TSU_TIN_STATUS_LEAP lp).put F.TSU_TIN_STATUS_QUAL q
      exec (.irigFrame true toy ys lp q t) s = .next (c.servo x ((a.tbNs x : Int) -
        (((ys + toy + a.get F.TSU_TIN_UTC_UTCOFS) * 1000000000 + a.get F.TSU_TIN_CTRL_DELAY : Nat) : Int)) 0xFF)) ∧
    (s.flag F.TSU_TIN_CTRL_CF = true → s.flag F.TSU_TIN_STATUS_LEAP = true →
      exec (.leapSecond true) s = .next ((s.put F.TSU_TIN_UTC_UTCOFS (s.get F.TSU_TIN_UTC_UTCOFS + 1)).put F.TSU_TIN_STATUS_LEAP 0) ∧
      exec (.leapSecond false) s = .next ((s.put F.TSU_TIN_UTC_UTCOFS (s.get F.TSU_TIN_UTC_UTCOFS + 255)).put F.TSU_TIN_STATUS_LEAP 0)) ∧
    ((s.flag F.TSU_TIN_STATUS_LEAP = false ∨ s.flag F.TSU_TIN_CTRL_CF = false) → exec (.leapSecond lp) s = .next s)

/-- R123, R124, R129, R131: the load of seconds is armed unless steps are forbidden. TOUT is low while no rulebook is active or it is off; at a
second boundary of its base it marks the second, by a pulse of WIDTH × 10 µs that rises ADV ns before the boundary, or by an IRIG-B frame with the
leap second pending and the quality of its time; at other instants it sends nothing new. A pop takes the head of a port's stamp queue and shows the next.

R119, R120, R121, R132: SYNC_TRANSMISSION sends a message of its kind out of each port of a base under PTP on which the base sends that kind, on
queue 7 of a field-die port; a base that is slave nowhere announces itself; a transparent clock measures its own delay. Frames and stamps of SB ports
come through time-status messages: a frame goes to the base that owns the port's PTP, a stamp to the message it belongs to. The queue is R92's for
event messages and the model's choice for the others (log entry 14); what the base station's algorithms make of a message is opaque (log entry 3). -/
def Obligations.TimeOutputsAndMessages : Prop :=
  (∀ (s : State) (b p t : Nat),
    (s.flag (F.TSU_TB_CTRL_STEPINH b) = false → exec (.setsecGo b) s = .next (s.put (F.TSU_TB_SETSEC_HI_GO b) 1)) ∧
    (s.flag (F.TSU_TB_CTRL_STEPINH b) = true → exec (.setsecGo b) s = .next (s.put (F.TSU_TB_SETSEC_HI_GO b) 0)) ∧
    (let a := s.advance t;
      let o := a.get F.TSU_TOUT_CTRL_TB
      let x := a.tbNs o + a.get F.TSU_TOUT_ADV
      let q := if a.get (F.TSU_TB_STATUS_STATE o) = 2 then 0 else 0xF
      let near := fun y => y % 1000000000 ≤ 10 ∨ 999999990 ≤ y % 1000000000
      ((a.active = false ∨ a.get F.TSU_TOUT_CTRL_MODE ∉ [1, 2]) → exec (.toutOutput t) s = .next (a.setTin { a.tin with tout := none })) ∧
      (a.active = true → a.get F.TSU_TOUT_CTRL_MODE = 1 → near x → exec (.toutOutput t) s = .next (a.setTin { a.tin with
        tout := some { irig := false, sec := (x + 500000000) / 1000000000, rise := t, fall := t + a.get F.TSU_TOUT_CTRL_WIDTH * 10000,
                       leap := a.flag F.TSU_TIN_STATUS_LEAP, qual := q } })) ∧
      (a.active = true → a.get F.TSU_TOUT_CTRL_MODE = 1 → ¬near x → exec (.toutOutput t) s = .next a) ∧
      (a.active = true → a.get F.TSU_TOUT_CTRL_MODE = 2 → near (a.tbNs o) → exec (.toutOutput t) s = .next (a.setTin { a.tin with
        tout := some { irig := true, sec := (a.tbNs o + 500000000) / 1000000000 - a.get F.TSU_TIN_UTC_UTCOFS, rise := t,
                       fall := t + a.get F.TSU_TOUT_CTRL_WIDTH * 10000, leap := a.flag F.TSU_TIN_STATUS_LEAP, qual := q } })) ∧
      (a.active = true → a.get F.TSU_TOUT_CTRL_MODE = 2 → ¬near (a.tbNs o) → exec (.toutOutput t) s = .next a) ∧
      (∀ z, a.tin.tout = some z → a.active = true → z.irig = false → (a.toutHigh = true ↔ z.rise ≤ a.now ∧ a.now < z.fall))) ∧
    exec (.ptpQueuePop p) s = .next ((s.setPort p { s.port p with pq := (s.port p).pq.tail }).showQueues p) ∧
    exec (.generalQueuePop p) s = .next ((s.setPort p { s.port p with gq := (s.port p).gq.tail }).showQueues p) ∧
    exec .timeStatusMessage s = .next (s.send (stMsg 0xC 0x0001 s.timeStatus))) ∧
  (∀ (s : State) (b k p : Nat),
    let u := if k = 1 ∧ (s.tb b).slave = none then s.ownGm b else s
    (s.srcOf b ≠ 1 → k ≠ 2 → exec (.syncTransmission b k) s = .next s) ∧
    (s.srcOf b ≠ 1 → s.tcDelayPorts b = [] → exec (.syncTransmission b k) s = .next s) ∧
    (b < 4 → s.Sound → s.srcOf b = 1 → (k = 2 → s.tcDelayPorts b = []) → s.get (F.TSU_TB_PTPPORTS_PORTS b) = 0 → exec (.syncTransmission b k) s = .next u) ∧
    (b < 4 → s.Sound → s.srcOf b = 1 → (k = 2 → s.tcDelayPorts b = []) → p < 16 → s.get (F.TSU_TB_PTPPORTS_PORTS b) = 2 ^ p →
      u.ptpSends b k p = false →
      exec (.syncTransmission b k) s = .next u) ∧
    (b < 4 → s.Sound → s.srcOf b = 1 → (k = 2 → s.tcDelayPorts b = []) → p < 16 → s.get (F.TSU_TB_PTPPORTS_PORTS b) = 2 ^ p →
      u.ptpSends b k p = true → ∃ f x,
      exec (.syncTransmission b k) s = .next ((u.draw.1.setPort p { s.port p with ptpSeq := (s.port p).ptpSeq + 1 }).queueTx p f) ∧
        f.queue = 7 ∧ f.src = s.macOfPort p ∧ f.body = .ptp x ∧ x.msgType = ptpKind k ∧ x.seqId = (s.port p).ptpSeq % 65536 ∧
          x.domain = s.get (F.TSU_TB_PTP_DOMAIN b) ∧ (x.twoStep = true ↔ k = 0 ∧ s.flag (F.TSU_TB_PTP_TWOSTEP b) = true)) ∧
    (∀ q, s.srcOf b ≠ 1 → s.tcDelayPorts b = [q] → ∃ f x, exec (.syncTransmission b 2) s =
        .next ((s.setPort q { s.port q with ptpSeq := (s.port q).ptpSeq + 1 }).queueTx q f) ∧ f.queue = 7 ∧ f.body = .ptp x ∧ x.msgType = 2)) ∧
  (∀ (s : State) (b k : Nat) (h : Hdr) (stamp tag : Word) (m : PtpMsg) (o : Option Word),
    let w := s.took 0xC h
    let y := w.setTin { w.tin with sbStamps := w.tin.sbStamps ++ [(tag, o)] }
    let at_ := extendStamp stamp (w.tbNs b)
    (s.inTurn 0xC h = true →
      (y.tin.sbOut.find? (fun e => e.1 == tag) = none → exec (.sbEgressStamp h tag o) s = .next y) ∧
      (∀ e c, y.tin.sbOut.find? (fun e => e.1 == tag) = some e → o = some c → let z := y.setTin { y.tin with sbOut := y.tin.sbOut.erase e };
        exec (.sbEgressStamp h tag o) s = .next (z.followUp e.2.1 e.2.2.1 e.2.2.2 (extendStamp c (z.tbNs e.2.1)))) ∧
      (∀ e, y.tin.sbOut.find? (fun e => e.1 == tag) = some e → o = none →
        exec (.sbEgressStamp h tag o) s = .next (y.setTin { y.tin with sbOut := y.tin.sbOut.erase e })) ∧
      (w.ptpBase (0x20 + k) = none → exec (.sbPtpFrame h k stamp m) s = .next w) ∧
      (w.ptpBase (0x20 + k) = some b → (m.msgType ≠ 2 ∨ w.flag (F.TSU_TB_PTP_P2P b) = false ∨ w.tcPeerDelay (0x20 + k) = true) →
        exec (.sbPtpFrame h k stamp m) s = .next (w.ptpTake b (0x20 + k) m at_)) ∧
      (w.ptpBase (0x20 + k) = some b → m.msgType = 2 → w.flag (F.TSU_TB_PTP_P2P b) = true → w.tcPeerDelay (0x20 + k) = false →
        exec (.sbPtpFrame h k stamp m) s = .next ((w.engineReply b 3 (0x20 + k) m true at_).ptpTake b (0x20 + k) m at_))) ∧
    (∀ x : Nat, stamp = BitVec.ofNat 32 x → ((x : Int) - w.tbNs b < 2 ^ 31 ∧ -2 ^ 31 ≤ (x : Int) - w.tbNs b) → at_ = x))

/-! ## The timetable (R139 to R157) -/

/-- R140, R141, R75: a boundary that is due and new starts its cycle: RUN, the cycle number, no departure served, the bank and coefficient bank
switches that wait, with test 5 of the instances in a bank that has become active (R242); with an activation waiting, no further departure is served
and the flush runs. A boundary that has been served, or comes without an active rulebook, during the flush or before the first boundary to be served, does
nothing.

R152, R153: a request starts the check of the other bank and has no further effect while one is pending; a check that passes lets the switch
wait for a boundary, one that fails refuses it with event 0x0703 and the slot that breaks the rule; a cancel ends it; a switch takes place at a
boundary of a later TIME clock than the request's and the check's.

R151: with a rulebook active, a write of the active bank, and of either bank while a switch is pending, is refused, counted and reported;
every other write is stored. Reading the low word of the cycle number latches the high one (R156). -/
def Obligations.CyclesAndBanks : Prop :=
  (∀ (s : State) (t : Nat),
    let a := s.advance t
    let n := (a.tbNs a.ttbTb + 4) / a.cycleNs
    let b := ((a.put F.TTB_STATUS_RUN 1).put F.TTB_CYCNUM_LO_CYCLO n).put F.TTB_CYCNUM_LIVE (n / 2 ^ 32)
    let c := ((b.setTtb { b.ttb with cyc := n, startAt := none, served := [], lastAt := a.now }).bankBoundary.mapEffect).sharesEffect
    let e := if c.activeBank = b.activeBank then c else c.showAwait
    let d := e.coefBoundary (n * e.cycleNs)
    (a.Sound → a.active = true → a.rbk.flushing = false →
      ((a.flag F.TTB_STATUS_RUN = true ∧ n ≠ a.ttb.cyc) ∨ (a.flag F.TTB_STATUS_RUN = false ∧ ∃ x, a.ttb.startAt = some x ∧ x ≤ n * a.cycleNs)) →
      (d.rbk.actWait = none → exec (.cycleBoundary t) s = .next d) ∧
      (d.rbk.actWait ≠ none → exec (.cycleBoundary t) s = .next ((d.put F.TTB_STATUS_RUN 0).setRbk { d.rbk with flushing := true }))) ∧
    (a.flag F.TTB_STATUS_RUN = true → n = a.ttb.cyc → exec (.cycleBoundary t) s = .next a) ∧
    ((a.active = false ∨ a.rbk.flushing = true) → exec (.cycleBoundary t) s = .next a) ∧
    (a.flag F.TTB_STATUS_RUN = false → a.ttb.startAt = none → exec (.cycleBoundary t) s = .next a) ∧
    (∀ x, a.flag F.TTB_STATUS_RUN = false → a.ttb.startAt = some x → n * a.cycleNs < x → exec (.cycleBoundary t) s = .next a)) ∧
  (∀ (s : State) (t : Nat),
    let a := s.advance t
    let r := (((a.put F.TTB_BANK_SEL_REFUSED 0).put F.TTB_BANK_SEL_PENDING 1).put F.TTB_BANK_SEL_CHECKING 1).put F.TTB_BANK_SEL_SWITCH 1
    (a.active = true → a.flag F.TTB_BANK_SEL_PENDING = false →
      exec (.bankSwitchRequest t) s = .next (r.setTtb { r.ttb with checked := false, readyAt := a.now })) ∧
    (a.flag F.TTB_BANK_SEL_PENDING = false → exec (.bankSwitchCancel false t) s = .next a) ∧
    (a.active = false → exec (.bankSwitchRequest t) s = .next a) ∧
    (a.flag F.TTB_BANK_SEL_PENDING = true → exec (.bankSwitchRequest t) s = .next a ∧
      exec (.bankSwitchCancel false t) s = .next a.bankIdle) ∧
    (a.flag F.TTB_BANK_SEL_PENDING = true → exec (.bankSwitchCancel true t) s = .next a.bankIdle.bankRequest) ∧
    (a.flag F.TTB_BANK_SEL_CHECKING = true →
      (∀ i, checkBank a.cycleNs (a.bank (1 - a.activeBank)) = some i → exec (.bankCheckComplete t) s =
        .next (((a.bankIdle.put F.TTB_BANK_SEL_REFUSED 1).count F.TTB_CNT_SPACING).raise 0x0703 i)) ∧
      (checkBank a.cycleNs (a.bank (1 - a.activeBank)) = none → ∃ u, exec (.bankCheckComplete t) s = .next u ∧
        u.ttb = { a.ttb with checked := true, readyAt := a.now } ∧ u.regs = (a.put F.TTB_BANK_SEL_CHECKING 0).regs)) ∧
    (a.flag F.TTB_BANK_SEL_CHECKING = false → exec (.bankCheckComplete t) s = .next a) ∧
    (∀ b : State, b.ttb.checked = true → b.flag F.TTB_BANK_SEL_PENDING = true →
      (b.ttb.readyAt / 4 < b.now / 4 → b.bankBoundary =
        ((b.put F.TTB_BANK_SEL_ACTIVE (1 - b.activeBank)).bankIdle).raise 0x0701 (1 - b.activeBank)) ∧
      (b.now / 4 ≤ b.ttb.readyAt / 4 → b.bankBoundary = b)) ∧
    (∀ b : State, (b.ttb.checked = false ∨ b.flag F.TTB_BANK_SEL_PENDING = false) → b.bankBoundary = b)) ∧
  (∀ (s : State) (b i w : Nat) (v : Word), b < 2 → i < 512 → w < 8 →
    (s.active = true → (b = s.activeBank ∨ s.flag F.TTB_BANK_SEL_PENDING = true) →
      exec (.slotWrite b i w v) s = .next ((s.count F.TTB_CNT_REFUSED).raise 0x0702 i)) ∧
    ((s.active = false ∨ (b ≠ s.activeBank ∧ s.flag F.TTB_BANK_SEL_PENDING = false)) →
      exec (.slotWrite b i w v) s = .next (s.storeWord (0x01214000 + 0x4000 * b + 32 * i + 4 * w) v)) ∧
    exec .cycnumLoRead s = .next (s.put F.TTB_CYCNUM_HI_CYCHI (s.get F.TTB_CYCNUM_LIVE)))

/-- R142, R143, R146, R154: a departure that its cycle has served already, that no bank has, or whose time is more than 8 ns away, does nothing,
whatever the action; one of a valid slot of the active bank that is due, of its action and new is noted as served and as the last one, and, as the first
one after a token is taken, releases the trip bits and the frames that waited (R394). -/
def Obligations.NoDepartureIsServedTwice : Prop :=
  (∀ (s : State) (slot k t : Nat) (temp : Int),
    let a := s.advance t
    let v := a.slotV a.activeBank slot
    let dep := a.ttb.cyc * a.cycleNs + 8 * (v.offset + k * v.stride / 256)
    ((slot, k) ∈ a.ttb.served ∨ v.valid = false ∨ v.rept < k ∨ a.flag F.TTB_STATUS_RUN = false ∨ v.action = 0 ∨
      8 < ((a.tbNs a.ttbTb : Int) - dep).natAbs) →
    exec (.launchTask slot k t) s = .next a ∧ exec (.startAfeConversion slot k t) s = .next a ∧ exec (.frameMark slot k t) s = .next a ∧
    exec (.armRecorder slot k t) s = .next a ∧ exec (.disarmRecorder slot k t) s = .next a ∧ exec (.triggerRecorder slot k t) s = .next a ∧
    exec (.logicCycleStart slot k t) s = .next a ∧ exec (.haltExchangeStart slot k t) s = .next a ∧ exec (.svRelease slot k t) s = .next a ∧
    exec (.maintenanceWindow slot k temp t) s = .next a ∧ exec (.tokenRenewal slot k t) s = .next a) ∧
  (∀ (a : State) (slot k act : Nat),
    let v := a.slotV a.activeBank slot
    let dep := a.ttb.cyc * a.cycleNs + 8 * (v.offset + k * v.stride / 256)
    let u := (a.setTtb { a.ttb with served := a.ttb.served ++ [(slot, k)] }).put F.TTB_STATUS_LAST slot
    (v.action ≠ act → a.depart slot k act = none) ∧
    (a.flag F.TTB_STATUS_RUN = true → v.valid = true → v.action = act → k ≤ v.rept → (slot, k) ∉ a.ttb.served →
      ((a.tbNs a.ttbTb : Int) - dep).natAbs ≤ 8 → a.depart slot k act = some (v, dep, u.takeFirst)) ∧
    (u.tok.resume = false → u.takeFirst = u) ∧
    (u.tok.resume = true → u.takeFirst.tok.resume = false))

/-- R142 to R149: what a departure does at its units, once it departs as Obligations.NoDepartureIsServedTwice says: the units that TARGET and PARAM name are
served in order of their numbers; a trigger carries the departure time, on the recorder's own base; a maintenance window of PARAM bits 15:0 µs retrains
the DRAM and writes; a token is renewed in a redundant scheme; with the chain off no frame is closed, and while nothing is published no SV template is
released.

R145, R307, R317, R320, R322: a logic-cycle departure starts a cycle in Run when the cycle number is a multiple of the ratio and no cycle runs, after the
halt image of a window that has closed and the restart or exchange that waits; it is skipped while a cycle runs, and counts only the time in Stop. A halt
exchange starts when none is open and counts SKIPPED else; the requests leave when the module is the one to send them. -/
def Obligations.DeparturesReachTheirUnits : Prop :=
  (∀ (s : State) (slot k t : Nat) (temp : Int) (v : SlotV) (dep : Nat) (u : State),
    let a := s.advance t
    (a.depart slot k 0x02 = some (v, dep, u) →
      exec (.startAfeConversion slot k t) s = .next ((maskBits 8 v.target).foldl (fun s c => s.afeConvert c t dep) u)) ∧
    (a.depart slot k 0x03 = some (v, dep, u) → u.chainOn = true →
      exec (.frameMark slot k t) s = .next ((v.units 32).foldl (fun s g => s.closeFrame g dep) u)) ∧
    (a.depart slot k 0x03 = some (v, dep, u) → u.chainOn = false → exec (.frameMark slot k t) s = .next u) ∧
    (a.depart slot k 0x04 = some (v, dep, u) → exec (.armRecorder slot k t) s = .next ((maskBits 16 v.target).foldl State.recArm u)) ∧
    (a.depart slot k 0x05 = some (v, dep, u) → exec (.disarmRecorder slot k t) s = .next ((maskBits 16 v.target).foldl State.recDisarm u)) ∧
    (∀ r, a.depart slot k 0x06 = some (v, dep, u) → r < 16 → v.target = 2 ^ r →
      let at_ : Int := if u.get (F.ACQ_RCFG_TB r) = u.ttbTb then (dep : Int) else u.recNow r
      exec (.triggerRecorder slot k t) s = .next (u.trigger r { code := 6, detail := 0, t := at_, tidx := 0, frac := 0 })) ∧
    (a.depart slot k 0x06 = some (v, dep, u) → v.target = 0 → exec (.triggerRecorder slot k t) s = .next u) ∧
    (a.depart slot k 0x09 = some (v, dep, u) → u.publishing = true →
      exec (.svRelease slot k t) s = .next ((v.units 32).foldl (fun s p => s.svReleaseOne p dep) u)) ∧
    (a.depart slot k 0x09 = some (v, dep, u) → u.publishing = false → exec (.svRelease slot k t) s = .next u) ∧
    (a.depart slot k 0x0A = some (v, dep, u) → v.param % 65536 ≠ 0 → exec (.maintenanceWindow slot k temp t) s =
      .next (((u.setTtb { u.ttb with window := dep + v.param % 65536 * 1000 }).retrainDram temp).writeWindow (v.param % 65536 * 1000))) ∧
    (a.depart slot k 0x0A = some (v, dep, u) → v.param % 65536 = 0 → exec (.maintenanceWindow slot k temp t) s = .next u) ∧
    (a.depart slot k 0x0B = some (v, dep, u) → u.redundant = true → exec (.tokenRenewal slot k t) s = .next (u.reportRed State.renew)) ∧
    (a.depart slot k 0x0B = some (v, dep, u) → u.redundant = false → exec (.tokenRenewal slot k t) s = .next u)) ∧
  (∀ (s : State) (temp : Int),
    let m := s.putI F.MEM_DTEMP_NOW temp
    ((temp - m.getI F.MEM_DTEMP_TRAINED).natAbs < 10 → s.retrainDram temp = m) ∧
    (10 ≤ (temp - m.getI F.MEM_DTEMP_TRAINED).natAbs → s.retrainDram temp = (m.putI F.MEM_DTEMP_TRAINED temp).raise 0x1103 0)) ∧
  (∀ (s : State) (slot k t : Nat) (v : SlotV) (dep : Nat) (u : State) (p : Prog),
    let a := s.advance t
    (a.depart slot k 0x07 = some (v, dep, u) → u.lge.prog = some p → u.awake = true → u.standby = false → u.lgMode ≠ 2 →
      (u.ttb.cyc % Nat.max p.ratio 1 ≠ 0 → exec (.logicCycleStart slot k t) s = .next u) ∧
      (u.ttb.cyc % Nat.max p.ratio 1 = 0 → u.lge.cyc.isSome = true → exec (.logicCycleStart slot k t) s = .next u.lgSkip) ∧
      (let w := (u.windowDue u.now).lgWaiting;
        u.ttb.cyc % Nat.max p.ratio 1 = 0 → u.lge.cyc = none →
          (w.lgMode = 1 → exec (.logicCycleStart slot k t) s = .next (w.lgStart dep t)) ∧
          (w.lgMode ≠ 1 → exec (.logicCycleStart slot k t) s = .next (w.setLge { w.lge with since := w.lge.since + 1 })))) ∧
    (a.depart slot k 0x07 = some (v, dep, u) → (u.lge.prog = none ∨ u.awake = false ∨ u.standby = true ∨ u.lgMode = 2) →
      exec (.logicCycleStart slot k t) s = .next u) ∧
    (a.depart slot k 0x08 = some (v, dep, u) → u.awake = false → exec (.haltExchangeStart slot k t) s = .next u) ∧
    (a.depart slot k 0x08 = some (v, dep, u) → u.awake = true →
      let x := u.windowDue (t - 1)
      (x.hlx.open_.isSome = true → exec (.haltExchangeStart slot k t) s = .next (x.count F.HLX_CNT_SKIPPED)) ∧
      (let w := x.put F.HLX_SEQ (x.get F.HLX_SEQ + 1);
        let b := w.each w.validHalts (fun s h => s.setHalt h { s.halt h with replied := false })
        let c := b.each b.validHalts State.sendRequest
        let opened := fun (z : State) => z.setHlx { z.hlx with open_ := some (t + z.get F.HLX_CTRL_REPLYWIN * 1000), startAt := some t }
        x.hlx.open_ = none →
          (b.sendsRequests = true → let d := opened (c.setHlx { c.hlx with begun := true });
            (d.allReplied = false → exec (.haltExchangeStart slot k t) s = .next d) ∧
            (d.allReplied = true → exec (.haltExchangeStart slot k t) s = .next d.haltComplete)) ∧
          (b.sendsRequests = false →
            ((opened b).allReplied = false → exec (.haltExchangeStart slot k t) s = .next (opened b)) ∧
            ((opened b).allReplied = true → exec (.haltExchangeStart slot k t) s = .next (opened b).haltComplete)))) ∧
    (∀ c, s.hlx.open_ = some c → (t < c → s.windowDue t = s) ∧ (c ≤ t → s.windowDue t = s.haltComplete)) ∧
    (s.hlx.open_ = none → s.windowDue t = s))

/-- R144, R148, R153, R219, R220: a launch departure counts as missed when its instance cannot run, when the platform runs a task of the same instance, or
when its deadline is over; it starts the task on a platform that is free, and waits behind a task of another instance. Departures to one platform are
spaced by 1 µs: a later one is moved, counted and reported. The oldest waiting launch starts when the platform is free and its time has come, and is missed
when its deadline has passed.

R206, R208, R219: a launch that starts sets the whole core: the program counter to ENTRY, sp to the stack, a0 to a5 to the task, the instance,
the departure's wrapped time, cycle number, k and EPOCH, every other register and the floating-point state to zero; its first instruction comes within 400 ns. An ENTRY that the task may not execute ends it as an access fault. -/
def Obligations.LaunchesReachTheirPlatform : Prop :=
  (∀ (s : State) (slot k pf t : Nat) (v : SlotV) (dep : Nat) (u : State) (d : TaskDecl),
    let a := s.advance t
    let i := v.param % 64
    let task := v.param / 256 % 256
    let w := u.shuntAtLaunch i dep
    let p := w.placeOf i
    let q := w.spaced slot p t
    let x := q.1
    let l : Launch := { inst := i, task := task, dep := dep, raw := q.2, cyc := x.ttb.cyc, k := k, epoch := x.epoch x.ttbTb,
                        dead := t + d.deadline * 1000 }
    (a.depart slot k 0x01 = some (v, dep, u) →
      (u.awake = false → exec (.launchTask slot k t) s = .next u) ∧
      (u.awake = true → w.launchable i task = false → exec (.launchTask slot k t) s = .next w.missed) ∧
      (u.awake = true → w.launchable i task = true → x.taskDecl i task = some d →
        (((∃ r, (x.pf p).cur = some r ∧ r.l.inst = i) ∨ l.dead ≤ q.2) → exec (.launchTask slot k t) s = .next x.missed) ∧
        ((x.pf p).cur = none → q.2 < l.dead → (x.pf p).lq = [] → (x.pf p).copyEnd ≤ x.now → q.2 ≤ x.now →
          exec (.launchTask slot k t) s = .next (x.startLaunch p l)) ∧
        ((∀ r, (x.pf p).cur = some r → r.l.inst ≠ i) → q.2 < l.dead →
          ((x.pf p).cur ≠ none ∨ (x.pf p).lq ≠ [] ∨ x.now < (x.pf p).copyEnd ∨ x.now < q.2) →
          ((x.pf p).lq.length < 8 → exec (.launchTask slot k t) s = .next ((x.setPf p { x.pf p with lq := (x.pf p).lq ++ [l] }).showLq p)) ∧
          (8 ≤ (x.pf p).lq.length → exec (.launchTask slot k t) s = .next x.missed)))) ∧
    (let at_ := fun n => s.setTtb { s.ttb with lastDep := (s.ttb.lastDep.filter (fun e => e.1 != pf)) ++ [(pf, n)] };
      (s.ttb.lastDep.find? (fun e => e.1 == pf) = none → s.spaced slot pf t = (at_ t, t)) ∧
      (∀ e, s.ttb.lastDep.find? (fun e => e.1 == pf) = some e →
        (e.2 + 1000 ≤ t → s.spaced slot pf t = (at_ t, t)) ∧
        (t < e.2 + 1000 → s.spaced slot pf t = (((at_ (e.2 + 1000)).count F.TTB_CNT_SPACING).raise 0x0703 slot, e.2 + 1000)))) ∧
    ((a.pf pf).cur = none → (a.pf pf).copyEnd ≤ a.now → a.awake = true → a.rbk.flushing = false →
      ((a.pf pf).lq = [] → exec (.launchQueueServed pf t) s = .next a) ∧
      ∀ m r, (a.pf pf).lq = m :: r → let y := (a.setPf pf { a.pf pf with lq := r }).showLq pf;
        (a.now < m.raw → exec (.launchQueueServed pf t) s = .next a) ∧
        (m.raw ≤ a.now → a.now < m.dead → y.launchable m.inst m.task = true →
          exec (.launchQueueServed pf t) s = .next (y.startLaunch pf m)) ∧
        (m.raw ≤ a.now → r = [] → (m.dead ≤ a.now ∨ y.launchable m.inst m.task = false) →
          exec (.launchQueueServed pf t) s = .next y.missed)) ∧
    (((a.pf pf).cur ≠ none ∨ a.now < (a.pf pf).copyEnd ∨ a.awake = false ∨ a.rbk.flushing = true) →
      exec (.launchQueueServed pf t) s = .next a)) ∧
  (∀ (s : State) (p : Nat) (l : Launch) (d : InstDecl) (k : TaskDecl), s.Sound → p < 24 → s.decl l.inst = some d → s.taskDecl l.inst l.task = some k →
    let y := s.startTask p l s.now
    (∃ r, (y.pf p).cur = some r ∧ (y.pf p).phq = [] ∧ (y.pf p).stalled = none ∧ y.get (F.PFM_PSTAT_STATE p) = 1 ∧
      r.l = l ∧ r.start = s.now ∧ s.now ≤ r.first ∧ r.first ≤ s.now + 400 ∧ r.mpu = regionsOf d ∧ r.overran = false ∧ r.ending = none ∧
      r.core.pc = BitVec.ofNat 32 k.entry ∧ r.core.x.length = 32 ∧ (∀ n < 32, n ≠ 2 → (n < 10 ∨ 16 ≤ n) → r.core.x.getD n 0 = 0) ∧
      r.core.x.getD 2 0 = BitVec.ofNat 32 k.stack ∧ (r.core.x.drop 10).take 6 = [BitVec.ofNat 32 l.task, BitVec.ofNat 32 l.inst, wrapNs l.dep,
        BitVec.ofNat 32 l.cyc, BitVec.ofNat 32 l.k, BitVec.ofNat 32 l.epoch] ∧
      r.core.f = List.replicate 32 0 ∧ r.core.fcsr = 0 ∧
      (mayAccess r.mpu (.fetch r.core.pc.toNat) = true → s.startLaunch p l = y) ∧
      (mayAccess r.mpu (.fetch r.core.pc.toNat) = false → s.startLaunch p l = y.accessFault p r 1)))

/-! ## Stream ingress and the filter chain (R158 to R205) -/

/-- R162, R165, R168, R177: the parser takes the urgent queue first, then the normal one, and parses a frame for the subscriptions it matched; with
nothing queued it does nothing. A queue that is full drops the frame and counts it; else the frame takes its place in the order of the ends of reception,
which keeps a queue sorted and loses none of its frames; of frames that end in one clock the lower-numbered port's comes first.

R163, R172, R174, R177: a load window is a whole millisecond of the timetable's base; it closes with its count shown when the base has left it, and more than 2,500
frames are reported, at most once a second; a sample that is not there by its deadline is replaced by a placeholder, which counts in MISSING and moves the
stream on by one position; a frame that completes parsing in the clock of the deadline comes first when it carries the sample; a value of smpSynch held back
is reported when 100 ms have passed. -/
def Obligations.IngressQueuesAndDeadlines : Prop :=
  (∀ (s : State) (q : QFrame) (r : List QFrame) (t : Nat),
    let a := s.advance t
    let u := a.setSvi { a.svi with urgent := r }
    let n := a.setSvi { a.svi with normal := r }
    (a.svi.urgent = q :: r → u.chainOn = true →
      (∀ f, q.frame = some f → exec (.frameParse t) s = .next (u.parseSv f q.subs q.stamp)) ∧
      (q.frame = none → exec (.frameParse t) s = .next (q.subs.foldl (fun s i => s.parseFt i q.ds q.stamp) u))) ∧
    (a.svi.urgent = [] → a.svi.normal = q :: r → n.chainOn = true →
      (∀ f, q.frame = some f → exec (.frameParse t) s = .next (n.parseSv f q.subs q.stamp)) ∧
      (q.frame = none → exec (.frameParse t) s = .next (q.subs.foldl (fun s i => s.parseFt i q.ds q.stamp) n))) ∧
    (a.svi.urgent = [] → a.svi.normal = [] → exec (.frameParse t) s = .next a) ∧
    (let c := s.closeWindow; let w := c.setSvi { c.svi with count := c.svi.count + 1 };
      ((∃ i ∈ q.subs, w.flag (F.SVI_SUB_URGENT i) = true) → 64 ≤ c.svi.urgent.length → s.enqueue q = w.count F.SVI_OVFL) ∧
      ((∃ i ∈ q.subs, w.flag (F.SVI_SUB_URGENT i) = true) → c.svi.urgent.length < 64 →
        s.enqueue q = (w.setSvi { w.svi with urgent := queueIn c.svi.urgent q }).peak F.SVI_STATUS_UQPEAK (c.svi.urgent.length + 1)) ∧
      ((∀ i ∈ q.subs, w.flag (F.SVI_SUB_URGENT i) = false) → 4096 ≤ c.svi.normal.length → s.enqueue q = w.count F.SVI_OVFL) ∧
      ((∀ i ∈ q.subs, w.flag (F.SVI_SUB_URGENT i) = false) → c.svi.normal.length < 4096 →
        s.enqueue q = w.setSvi { w.svi with normal := queueIn c.svi.normal q })) ∧
    (let le := fun (x y : QFrame) => x.at_ / 4 < y.at_ / 4 ∨ (x.at_ / 4 = y.at_ / 4 ∧ x.port ≤ y.port);
      r.Pairwise le → (queueIn r q).Pairwise le ∧ (queueIn r q).Perm (q :: r))) ∧
  (∀ (s : State) (i t : Nat),
    let a := s.advance t
    let ms := a.tbNs a.ttbTb / 1000000
    let w := ((a.put F.SVI_LOAD_LAST (if ms = a.svi.win + 1 then Nat.min a.svi.count 0xFFFF else 0)).peak F.SVI_LOAD_PEAK a.svi.count).setSvi
      { a.svi with win := ms, count := 0 }
    (ms = a.svi.win → exec (.loadWindow t) s = .next a) ∧
    (ms ≠ a.svi.win → a.svi.count ≤ 2500 → exec (.loadWindow t) s = .next w) ∧
    (ms ≠ a.svi.win → 2500 < a.svi.count → (∀ x, a.svi.loadAt = some x → x + 1000000000 ≤ a.now) →
      exec (.loadWindow t) s = .next ((w.setSvi { w.svi with loadAt := some a.now }).raise 0x0804 0)) ∧
    (∀ x, ms ≠ a.svi.win → 2500 < a.svi.count → a.svi.loadAt = some x → a.now < x + 1000000000 → exec (.loadWindow t) s = .next w) ∧
    (∀ b : State, let due := b.flag (F.SVI_SUB_VALID i) = true ∧ b.get (F.SVI_SSTAT_STATE i) ≠ 0 ∧
        b.deadlineOf i ≤ b.tbNs (b.get (F.SVI_SUB_TB i));
      (b.chainOn = true → due → b.deadlineMet i = b.placeholder i) ∧ ((b.chainOn = false ∨ ¬due) → b.deadlineMet i = b)) ∧
    exec (.sampleDeadline i t false) s = .next (a.deadlineMet i) ∧
    (((a.stream i).next, true) ∈ (a.parseNext.stream i).recent → exec (.sampleDeadline i t true) s = .next (a.parseNext.deadlineMet i)) ∧
    (((a.stream i).next, true) ∉ (a.parseNext.stream i).recent → exec (.sampleDeadline i t true) s = .next (a.deadlineMet i).parseNext) ∧
    (let m := ((a.handOn i (a.cicPos i) (a.nextTnom i) (List.replicate (a.get (F.SVI_SUB_NCH i)) (0, 1)) (2 ^ 16 + a.relFlags i)).released i
        (a.nextTnom i) false).count (F.SVI_SCNT0_MISSING i);
      ((m.get (F.SVI_SSTAT_STATE i) ≠ 1 ∨ (m.stream i).run < m.get (F.SVI_SUB_LOSSCNT i)) → a.placeholder i = m) ∧
      (m.get (F.SVI_SSTAT_STATE i) = 1 → m.get (F.SVI_SUB_LOSSCNT i) ≤ (m.stream i).run →
        a.placeholder i = ((m.put (F.SVI_SSTAT_STATE i) 2).count (F.SVI_SCNT2_LOSSES i)).raise 0x0801 i)) ∧
    (∀ x, a.chainOn = true → (a.stream i).reportAt = some x → x + 100000000 ≤ a.now → a.get (F.SVI_SSTAT_SMPSYNCH i) ≠ (a.stream i).reported →
      exec (.smpsynchReport i t) s = .next (a.reportSync i)) ∧
    (∀ x, (a.stream i).reportAt = some x → (a.now < x + 100000000 ∨ a.get (F.SVI_SSTAT_SMPSYNCH i) = (a.stream i).reported) →
      exec (.smpsynchReport i t) s = .next a) ∧
    ((a.stream i).reportAt = none → exec (.smpsynchReport i t) s = .next a) ∧
    (a.chainOn = false → exec (.smpsynchReport i t) s = .next a))

/-- R171, R173: what becomes of a sample by its distance j from the position to release next: j = 0 releases it; 1 to 64 release j placeholders
first; more re-anchors the stream and counts a jump; a negative one is a duplicate of a sample released real, or late, but re-anchors a stream that is
LOST; a stream in WAIT is anchored by it. -/
def Obligations.SamplesAreReleasedInSequence : Prop :=
  ∀ (s : State) (i : Nat) (c : InSample) (fl : Nat), c.sync = s.get (F.SVI_SSTAT_SMPSYNCH i) →
    let j := s.offsetJ i c
    let st := s.get (F.SVI_SSTAT_STATE i)
    (st = 0 → s.takeSample i c fl = (s.reanchor i c 0 fl, true)) ∧
    (st ≠ 0 → j = 0 → s.takeSample i c fl = (s.releaseReal i c fl, true)) ∧
    (st ≠ 0 → 0 < j → j ≤ 64 → s.takeSample i c fl = ((State.placeholders j.toNat s i).releaseReal i c fl, true)) ∧
    (st ≠ 0 → 64 < j → s.takeSample i c fl = ((s.count (F.SVI_SCNT2_JUMPS i)).reanchor i c j fl, true)) ∧
    (st = 1 → j < 0 → ((s.stream i).next + j, true) ∈ (s.stream i).recent →
      s.takeSample i c fl = (s.count (F.SVI_SCNT1_DUP i), false)) ∧
    (st = 1 → j < 0 → ((s.stream i).next + j, true) ∉ (s.stream i).recent →
      s.takeSample i c fl = (s.count (F.SVI_SCNT0_LATE i), false)) ∧
    (st = 2 → j < 0 → s.takeSample i c fl = (s.reanchor i c j fl, true))

/-- R181 to R190, R201, R204: a lane runs its oldest released sample, and the next ones until one completes an output, whose latency is noted; a coasting group
whose hold has expired goes to NOMINAL, with event 0x0902, and when a reference point falls in that instant only after it, and not if it locks there; a
coefficient bank request waits for a boundary without a fade, and each lane makes the switches in their order at its own labels; a write of the phase delay
starts a slew from the delay in force; DCRST clears the DC estimate, which is a disturbance at once unless the lane is frozen. -/
def Obligations.FilterCommands : Prop :=
  ∀ (s : State) (l x y t : Nat),
    let a := s.advance t
    (∀ i r, a.chainOn = true → a.flag (F.FCH_LCFG_VALID l) = true → (a.lane l).inq = i :: r →
      let q := (a.setLane l { a.lane l with inq := r }).laneIn l i
      (q.2 = true → exec (.laneOutput l t) s = .next (q.1.peak F.FCH_LOAD_LATPEAK ((q.1.now - i.rel) / 10))) ∧
      (q.2 = false → exec (.laneOutput l t) s = .next (State.laneRun r.length q.1 l))) ∧
    ((a.chainOn = false ∨ a.flag (F.FCH_LCFG_VALID l) = false ∨ (a.lane l).inq = []) → exec (.laneOutput l t) s = .next a) ∧
    (s.get (F.FCH_FG_STATUS_STATE l) = 2 →
      exec (.coastingHoldExpired l false) s = .next ((((s.put (F.FCH_FG_STATUS_STATE l) 0).setGroup l
        { s.group l with f := s.get (F.FCH_FG_NOM l) }).fgMark l (s.group l).nk).raise 0x0902 l) ∧
      exec (.coastingHoldExpired l true) s = .next (s.setGroup l { s.group l with holdOver := true })) ∧
    (s.get (F.FCH_FG_STATUS_STATE l) ≠ 2 → exec (.coastingHoldExpired l false) s = .next s ∧ exec (.coastingHoldExpired l true) s = .next s) ∧
    ((s.group l).holdOver = true → let e := s.setGroup l { s.group l with holdOver := false };
      (e.get (F.FCH_FG_STATUS_STATE l) = 2 → s.fgHoldEnd l x = e.fgNominal l x) ∧ (e.get (F.FCH_FG_STATUS_STATE l) ≠ 2 → s.fgHoldEnd l x = e)) ∧
    exec .coeffBankSwitchRequest s = .next ((s.put F.FCH_BANK_SWITCH 1).put F.FCH_BANK_PENDING 1) ∧
    (s.flag F.FCH_BANK_PENDING = true → (∀ e ∈ s.fch.lanes, e.2.fade = none) → s.coefBoundary x =
      (((s.put F.FCH_BANK_ACTIVE (1 - s.get F.FCH_BANK_ACTIVE)).put F.FCH_BANK_PENDING 0).put F.FCH_BANK_SWITCH 0).setFch
        { s.fch with switches := ((x : Int), 1 - s.get F.FCH_BANK_ACTIVE) :: s.fch.switches }) ∧
    ((s.flag F.FCH_BANK_PENDING = false ∨ ∃ e ∈ s.fch.lanes, e.2.fade.isSome = true) → s.coefBoundary x = s) ∧
    (let w := s.setLane l { s.lane l with bank := y, switched := (s.lane l).switched + 1,
                                          fade := if s.get (F.FCH_LFIR_FADE l) = 0 then none else some (0, (s.lane l).bank) };
      (s.get (F.FCH_LFIR_FADE l) = 0 → s.switchLane l y = (w.showSettle l).disturb l) ∧
      (s.get (F.FCH_LFIR_FADE l) ≠ 0 → s.switchLane l y = w.showSettle l)) ∧
    exec (.phaseDelayWrite l x y) s = .next (((s.put (F.FCH_LDLY_INT l) x).put (F.FCH_LDLY_FRAC l) y).setLane l
      { s.lane l with slew := some ((s.lane l).dly, 0) }) ∧
    (s.laneFrozen l = true ↔ (s.lane l).ownerReset = true ∨
      (s.flag (F.FCH_LDC_FZEN l) = true ∧ bit (s.get F.FCH_FZSTAT_FROZEN) (s.get (F.FCH_LDC_FZSET l)) = true)) ∧
    (s.laneFrozen l = true → exec (.dcrst l) s = .next (s.setLane l { s.lane l with dc := 0, dcPend := true })) ∧
    (s.laneFrozen l = false → ∃ d, exec (.dcrst l) s = .next
      (((s.setLane l { s.lane l with dc := 0, dcReq := some d }).put (F.FCH_LSETTLE_REMAIN l) (s.get (F.FCH_LSETTLE_SETTLE l))).putB
        (F.FCH_LMODE_SUPPR l) (s.get (F.FCH_LSETTLE_SETTLE l) != 0))) ∧
    (l < 64 → exec (.fgIdxLoRead l) s = .next (s.put (F.FCH_FG_IDX_HI l) (s.get (F.FCH_FG_IDX_LIVE l))))

/-- R186: the FIR sum is Σ h[i] x[n − i], and with 24-bit coefficients, 48-bit inputs and at most 128 taps it never leaves the 80-bit
accumulator.

R192: output scaling rounds y / 2^OSHIFT to the nearest number, halves up, and saturates it to 32 bits; SAT tells whether it did.

R198: the comparator modes, |−2³¹| being 2³¹.

R182, R191: the interpolations pass through their nodes: at a node of four or five samples the result is the sample there.

R182: a slew moves the delay in 16 equal steps, the last of which reaches the new delay, and never leaves the range between the two.

R216, R217: rounding to nearest leaves at most half a unit, and the square root of the RMS operation is that of R217: the greatest whole number whose
square does not exceed its operand. -/
def Obligations.FilterAndPhasorArithmetic : Prop :=
  (∀ (c : CoefSet) (xs : List Tap), c.h.length ≤ 128 → (∀ h ∈ c.h, -2 ^ 23 ≤ h ∧ h < 2 ^ 23) →
    (∀ x ∈ xs, -2 ^ 47 ≤ x.value ∧ x.value < 2 ^ 47) →
    firDot c xs = (List.zipWith (fun h x => h * x.value) c.h xs).sum ∧ -2 ^ 79 ≤ firDot c xs ∧ firDot c xs < 2 ^ 79) ∧
  (∀ (osh : Nat) (y : Int), osh < 64 →
    let v := (y * 2 + 2 ^ osh) / 2 ^ (osh + 1)
    ((-2 ^ 31 ≤ v ∧ v < 2 ^ 31) → scaleOut osh y = (v, false)) ∧
    (v < -2 ^ 31 → scaleOut osh y = (-2 ^ 31, true)) ∧
    (2 ^ 31 ≤ v → scaleOut osh y = (2 ^ 31 - 1, true))) ∧
  (∀ (v l : Int), comparator 0 v l = false ∧ (comparator 1 v l = true ↔ l < v) ∧ (comparator 2 v l = true ↔ v < l) ∧
    (0 ≤ v → (comparator 3 v l = true ↔ l < v)) ∧ (v < 0 → (comparator 3 v l = true ↔ l < -v))) ∧
  (∀ (ys : List Int) (u m : Nat), (ys.length = 4 ∨ ys.length = 5) → m < ys.length → 0 < u →
    (lagrange ys (m * u : Nat) u).1 = ys.getD m 0 * (lagrange ys (m * u : Nat) u).2 ∧ 0 < (lagrange ys (m * u : Nat) u).2) ∧
  (∀ (x y k : Nat), k ≤ 16 → slewStep x y 0 = x ∧ slewStep x y 16 = y ∧ Nat.min x y ≤ slewStep x y k ∧ slewStep x y k ≤ Nat.max x y) ∧
  ((∀ (i : Int) (n : Nat), 0 < n → 2 * (rdiv i n * n) ≤ 2 * i + n ∧ 2 * i - n < 2 * (rdiv i n * n)) ∧
  ∀ v : Nat, v < 2 ^ 512 → isqrt v * isqrt v ≤ v ∧ v < (isqrt v + 1) * (isqrt v + 1))

/-! ## Platforms and marshalling (R206 to R256) -/

/-- R214, R215: a push of the running task, after its accesses up to then, enters the phasor queue of 16, or stalls the core; a core that is stalled or has
no task pushes nothing, and one whose accesses fault pushes nothing and ends; the descriptor at the head is executed, leaves the queue, and lets a stalled push
in behind the others.

R207, R208: an access outside the local page is allowed when it lies in one of regions 0 to 3 and every region of the task that contains it permits it; a store
that is allowed takes effect in the data window; the first access that is not allowed faults, and nothing after it takes effect. The cause numbers are the
model's choice (log entry 34). -/
def Obligations.PhasorQueueIsServedInOrder : Prop :=
  (∀ (s : State) (p : Nat) (o : Word) (st : List TaskAcc),
    (s.coreRuns p = none → exec (.phasorPush p o st) s = .next s) ∧
    (∀ r, s.coreRuns p = some r →
      let x := (if s.get (F.PFM_PSTAT_STATE p) = 1 then s.put (F.PFM_PSTAT_STATE p) 2 else s).runAccs r st
      let u := x.1.put (F.LCL_PHQ_PUSH_DESC p) o.toNat
      (x.2 = none → (x.1.pf p).phq.length < 16 →
        exec (.phasorPush p o st) s = .next ((u.setPf p { x.1.pf p with phq := (x.1.pf p).phq ++ [o.toNat] }).showPhq p)) ∧
      (x.2 = none → 16 ≤ (x.1.pf p).phq.length → exec (.phasorPush p o st) s = .next (u.setPf p { x.1.pf p with stalled := some o.toNat })) ∧
      (∀ c, x.2 = some c → exec (.phasorPush p o st) s = .next (x.1.accessFault p r c))) ∧
    (((s.pf p).cur = none ∨ (s.pf p).phq = []) → exec (.phasorDescriptorDone p) s = .next s) ∧
    ∀ r d l, (s.pf p).cur = some r → (s.pf p).phq = d :: l → let u := s.phasorExec r.l.inst d;
      ((u.pf p).stalled = none → exec (.phasorDescriptorDone p) s = .next ((u.setPf p { u.pf p with phq := l }).showPhq p)) ∧
      (∀ x, (u.pf p).stalled = some x → exec (.phasorDescriptorDone p) s =
        .next ((u.setPf p { u.pf p with phq := l ++ [x], stalled := none }).showPhq p))) ∧
  (∀ (s : State) (r : Running) (x : TaskAcc) (l : List TaskAcc),
    (mayAccess r.mpu x = true ↔ (∃ m ∈ r.mpu.take 4, m.base ≤ accAddr x ∧ accAddr x < m.base + m.len) ∧
      ∀ m ∈ r.mpu, m.base ≤ accAddr x → accAddr x < m.base + m.len → accPermitted x m = true) ∧
    s.runAccs r [] = (s, none) ∧
    (inLocal (accAddr x) = true → s.runAccs r (x :: l) = s.runAccs r l) ∧
    (inLocal (accAddr x) = false → mayAccess r.mpu x = false → s.runAccs r (x :: l) = (s, some (accCause x))) ∧
    (∀ a b, inLocal a = false → mayAccess r.mpu (.store a b) = true →
      s.runAccs r (.store a b :: l) = (s.dataPut r.l.inst (a - 0x100000) [b]).runAccs r l) ∧
    (inLocal (accAddr x) = false → mayAccess r.mpu x = true → (∀ a b, x ≠ .store a b) → s.runAccs r (x :: l) = s.runAccs r l))

/-- R207, R222 to R224, R229: how a task ends. Overrun is noted once, and no more when the ECALL has retired with nothing to wait for; the deadline stops a task that
has not committed, with event 0x0A02; a trap moves its instance through RESETTING to FAULTED; ECALL with a7 = 0 begins the commit, with 1 ends the task
without one, and is a trap otherwise; in the clock of the deadline the deadline wins; a forbidden access is a trap at once; the commit takes effect when the
phasor queue is empty, and one that waits past the deadline is stopped. The cause numbers of the traps are the model's choice (log entry 34). -/
def Obligations.TasksEnd : Prop :=
  ∀ (s : State) (p a7 cause n cl t : Nat) (st : List TaskAcc) (r : Running),
    let a := s.advance t
    let x := a.runAccs r st
    let u := x.1
    (∀ q, (s.pf p).cur = some q → q.overran = false → (∀ e, q.ending = some e → e.waits = true) →
      let b := if s.get (F.PFM_PSTAT_STATE p) = 1 then s.put (F.PFM_PSTAT_STATE p) 2 else s
      exec (.budgetOverrun p) s =
      .next ((((((b.setPf p { s.pf p with cur := some { q with overran := true } }).raiseI 0x0A01 q.l.inst p).count (F.PFM_PCNT0_OVERRUN p)).put
        (F.PFM_LASTOVR_INST p) q.l.inst).put (F.PFM_LASTOVR_TASK p) q.l.task).iflag F.PFM_IFLAG_OVR q.l)) ∧
    (∀ q, (s.pf p).cur = some q → (q.overran = true ∨ ∃ e, q.ending = some e ∧ e.waits = false) → exec (.budgetOverrun p) s = .next s) ∧
    ((s.pf p).cur = none → exec (.budgetOverrun p) s = .next s) ∧
    ((a.pf p).cur = some r → r.ending = none → r.l.dead ≤ a.now →
      (x.2 = none → exec (.deadline p n cl st t) s = .next (u.stopAtDeadline p r n cl).parkDue) ∧
      (∀ c, x.2 = some c → exec (.deadline p n cl st t) s = .next (u.trapTask p r c n cl none).parkDue)) ∧
    (∀ e, (a.pf p).cur = some r → r.ending = some e → e.waits = true → r.l.dead ≤ a.now →
      exec (.deadline p n cl st t) s = .next (a.stopAtDeadline p r n cl).parkDue) ∧
    (∀ e, (a.pf p).cur = some r → r.ending = some e → e.waits = false → exec (.deadline p n cl st t) s = .next a.parkDue) ∧
    ((a.pf p).cur = some r → a.now < r.l.dead → exec (.deadline p n cl st t) s = .next a.parkDue) ∧
    ((a.pf p).cur = none → exec (.deadline p n cl st t) s = .next a.parkDue) ∧
    (a.coreRuns p = some r → r.l.dead ≤ a.now →
      exec (.trap p cause n cl st t) s = .next (u.stopAtDeadline p r n cl).parkDue ∧
      exec (.ecall p a7 n cl st t) s = .next (u.stopAtDeadline p r n cl).parkDue) ∧
    (a.coreRuns p = some r → a.now < r.l.dead → x.2 = none →
      exec (.trap p cause n cl st t) s = .next (u.trapTask p r cause n cl none).parkDue ∧
      (a7 = 0 → exec (.ecall p a7 n cl st t) s = .next (u.beginCommit p r n cl).parkDue) ∧
      (a7 = 1 → exec (.ecall p a7 n cl st t) s = .next (((u.endRun p r n cl (u.toEcall r)).endTask p).pubTaskEnd r.l.inst).parkDue) ∧
      (2 ≤ a7 → exec (.ecall p a7 n cl st t) s = .next (u.trapTask p r 8 n cl (u.toEcall r)).parkDue)) ∧
    (∀ c, a.coreRuns p = some r → a.now < r.l.dead → x.2 = some c →
      exec (.trap p cause n cl st t) s = .next (u.trapTask p r c n cl none).parkDue ∧
      exec (.ecall p a7 n cl st t) s = .next (u.trapTask p r c n cl none).parkDue) ∧
    (a.coreRuns p = none → exec (.ecall p a7 n cl st t) s = .next a.parkDue ∧ exec (.trap p cause n cl st t) s = .next a.parkDue) ∧
    (∀ e, (a.pf p).cur = some r → r.ending = some e → (e.waits = false ∨ a.now < r.l.dead) →
      ((a.pf p).phq = [] → exec (.commit p t) s = .next (a.commitTask p r e).parkDue) ∧
      ((a.pf p).phq ≠ [] → exec (.commit p t) s = .next a.parkDue)) ∧
    (∀ e, (a.pf p).cur = some r → r.ending = some e → e.waits = true → r.l.dead ≤ a.now →
      exec (.commit p t) s = .next (a.stopAtDeadline p r (e.clocks + (a.now - e.at_) * 12 / 10) e.cl).parkDue) ∧
    (((a.pf p).cur = none ∨ ∃ q, (a.pf p).cur = some q ∧ q.ending = none) → exec (.commit p t) s = .next a.parkDue)

/-- R227, R228, R245, R355: a lockstep mismatch or an uncorrectable error in a platform's memory quarantines it: role 2, state 6, its cause, no task
and an empty queue, unless it is quarantined already; the errors are counted and reported; the copies that end wait for a boundary of the map, all but those
whose master image is bad, and the next restart begins.

R239, R247, R248, R253, R255: a decision period shows the contention level and the movers' BUSY, with the grants still held charged to it, and starts the next one;
with ADAPT shares, shunt, weights and bindings are chosen first; outside an active rulebook and in Park there is none. A write of a bound takes effect and ends
what held the instance's shunts back; a GUARD outside 10 to 40 is left as it was; instance 0 has no bounds; a clear empties one measurement. -/
def Obligations.QuarantineAndMarshalling : Prop :=
  (∀ (s : State) (pf memory addr t : Nat),
    let a := s.advance t
    let u := ((a.count F.MEM_ECC_UECC).put F.MEM_ECCADDR_LO addr).put F.MEM_ECCADDR_HI (addr / 2 ^ 32 % 256 + memory % 256 * 256)
    let e := u.raise 0x1102 (memory % 256 + pf % 256 * 256)
    (a.roleOf pf ≠ 2 → exec (.lockstepMismatch pf t) s = .next (a.quarantine pf 1).parkDue) ∧
    (a.roleOf pf = 2 → exec (.lockstepMismatch pf t) s = .next a.parkDue) ∧
    (memory = 3 ∨ memory = 4 → u.roleOf pf ≠ 2 → exec (.uncorrectableEccError memory pf addr t) s =
      .next (((u.put (F.PFM_QADDR_ADDR pf) addr).quarantine pf 2).raise 0x1102 (memory % 256 + pf % 256 * 256)).parkDue) ∧
    (memory = 3 ∨ memory = 4 → u.roleOf pf = 2 → exec (.uncorrectableEccError memory pf addr t) s = .next e.parkDue) ∧
    (memory = 1 → exec (.uncorrectableEccError memory pf addr t) s = .next (e.dramError addr).parkDue) ∧
    (memory ≠ 1 → memory ≠ 3 → memory ≠ 4 → exec (.uncorrectableEccError memory pf addr t) s = .next e.parkDue) ∧
    (memory = 3 ∨ memory = 4 → exec (.correctableEccError memory pf) s =
      .next (((s.count (F.PFM_PCNT1_CECC pf)).count F.MEM_ECC_CECC).raise 0x1101 (memory % 256 + pf % 256 * 256))) ∧
    (memory ≠ 3 → memory ≠ 4 → exec (.correctableEccError memory pf) s =
      .next ((s.count F.MEM_ECC_CECC).raise 0x1101 (memory % 256 + pf % 256 * 256))) ∧
    (a.mar.copying = [] → exec (.spareRestartComplete t) s = .next a) ∧
    (∀ p, a.mar.copying = [p] → a.mar.restart = [] → (a.inst p.inst).imageBad = true →
      exec (.spareRestartComplete t) s = .next (a.setMar { a.mar with copying := [] })) ∧
    (∀ p d, a.mar.copying = [p] → (a.inst p.inst).imageBad = false → a.decl p.inst = some d →
      let w := a.loadImage d p
      let fin := fun (v : State) => (v.setMar { v.mar with copying := [], mapWait := v.mar.mapWait ++ [p] }).restartNext
      ((w.inst p.inst).snapshot = none → exec (.spareRestartComplete t) s = .next (fin w)) ∧
      (∀ x, (w.inst p.inst).snapshot = some x → exec (.spareRestartComplete t) s = .next (fin (w.loadCkpt d p x.ckpt))))) ∧
  (∀ (s : State) (cl t inst task : Nat) (v : Word),
    let a := s.advance t
    let b := ((a.put F.MAR_CL_NOW cl).peak F.MAR_CL_PEAK cl).chargeGrants
    let ns := b.get F.MAR_CTRL_PERIOD * 1000000
    let c := b.each [0, 1] (fun s m => s.put (F.DMX_ARB_BUSY m) (Nat.min (Sp.get 0 s.mar.busy m * 65536 / Nat.max ns 1) 65535))
    let z := fun (w : State) => ((((w.put (F.MAR_ISHUNT_ATTEMPTS inst) 0).put (F.MAR_IGUARD_STUCK inst) 0).setMar
      { w.mar with retryAt := Sp.put 0 w.mar.retryAt inst 0 }).showMeas)
    let g := (F.MAR_IGUARD_GUARD inst).part v
    ((a.active = false ∨ 2 ≤ a.get F.PWR_STATE) → exec (.decisionPeriod cl t) s = .next a) ∧
    (a.active = true → a.get F.PWR_STATE < 2 → c.flag F.MAR_CTRL_ADAPT = false →
      exec (.decisionPeriod cl t) s = .next (c.setMar { c.mar with bytes := [], moved := [], busy := [] }).showMeas) ∧
    (a.active = true → a.get F.PWR_STATE < 2 → c.flag F.MAR_CTRL_ADAPT = true →
      let d := ((c.setMar { c.mar with shareWait := c.sInsts.map (fun d => (d.inst, c.shareOf d)) }).chooseShunt.setWeights).rebind
      exec (.decisionPeriod cl t) s = .next (d.setMar { d.mar with bytes := [], moved := [], busy := [] }).showMeas) ∧
    (inst = 0 → exec (.boundWrite inst 0 v) s = .next s ∧ exec (.boundWrite inst 1 v) s = .next s ∧ exec (.boundWrite inst 2 v) s = .next s) ∧
    (inst ≠ 0 →
      exec (.boundWrite inst 2 v) s = .next (z (s.put (F.MAR_IPFMASK_ALLOW inst) ((F.MAR_IPFMASK_ALLOW inst).part v))) ∧
      (10 ≤ g → g ≤ 40 → exec (.boundWrite inst 1 v) s = .next (z ((s.put (F.MAR_IGUARD_GUARD inst) g).put (F.MAR_IGUARD_SHUNTEN inst)
        ((F.MAR_IGUARD_SHUNTEN inst).part v)))) ∧
      ((g < 10 ∨ 40 < g) → exec (.boundWrite inst 1 v) s = .next (z (s.put (F.MAR_IGUARD_SHUNTEN inst) ((F.MAR_IGUARD_SHUNTEN inst).part v)))) ∧
      (let q := (s.put (F.MAR_IBOUND_SHMIN inst) ((F.MAR_IBOUND_SHMIN inst).part v)).put (F.MAR_IBOUND_SHMAX inst) ((F.MAR_IBOUND_SHMAX inst).part v);
        (s.decl inst = none → exec (.boundWrite inst 0 v) s = .next (z q)) ∧
        (∀ d, s.decl inst = some d →
          ((d.supervisory = false ∨ q.get (F.MAR_IPLACE_SHARE inst) ≤ (q.shareBounds inst).2) → exec (.boundWrite inst 0 v) s = .next (z q)) ∧
          (d.supervisory = true → (q.shareBounds inst).2 < q.get (F.MAR_IPLACE_SHARE inst) → exec (.boundWrite inst 0 v) s =
            .next (z (q.setMar { q.mar with shareWait := (q.mar.shareWait.filter (fun e => e.1 != inst)) ++ [(inst, q.shareOf d)] })))))) ∧
    exec (.measurementClear task inst) s = .next ((((s.put F.MAR_MSEL_TASK task).put F.MAR_MSEL_INST inst).setMeas
      (measKey inst task) Meas.init).showMeas))

/-! ## Publication, acquisition, logic (R257 to R332) -/

/-- R262, R270, R272, R274, R275: a retransmission point is served once its time has come, with the next sqNum, and the next point follows at twice the interval, up to
the curve's; a point of a twinned template waits for the owner's task, and one in the clock of the owner's commit for what the commit does; a digest is sent of each cycle, compared when the peer's is there,
and counted when the peer's does not come; a subscription mirror is handed to the queue that its target owns, and to no other. -/
def Obligations.PublicationsAndDigests : Prop :=
  ∀ (s : State) (tpl tw cyc t q kind sb : Nat) (h : Hdr) (ph : PlHdr) (dg : BitVec 64) (stamp : Word) (body : Bytes),
    let a := s.advance t
    (∀ n at_ iv, a.publishing = true → a.get (F.PUB_GSTAT_STATE tpl) = 1 → (a.goose tpl).point = some (n, at_, iv) →
      let owner := a.get (F.PUB_GCFG_OWNER tpl)
      let next := Nat.min (2 * iv) ((a.curve tpl).2 * 1000)
      let z := a.setGoose tpl { a.goose tpl with sqNum := nextSq (a.goose tpl).sqNum, point := some (n + 1, at_ + next * 1000, next), deferred := false }
      (at_ ≤ a.tbNs a.ttbTb → a.pointDeferred tpl at_ = false →
        exec (.retransmissionPoint tpl t false) s = .next (z.goosePut tpl at_ (talOf (a.get (F.PUB_GTAL_TALMIN tpl)) (next * 1000))).1 ∧
        (a.taskOf owner = none → exec (.retransmissionPoint tpl t true) s =
          .next (z.goosePut tpl at_ (talOf (a.get (F.PUB_GTAL_TALMIN tpl)) (next * 1000))).1) ∧
        ((a.taskOf owner).isSome = true → exec (.retransmissionPoint tpl t true) s = .next (a.setGoose tpl { a.goose tpl with deferred := true }))) ∧
      (at_ ≤ a.tbNs a.ttbTb → a.pointDeferred tpl at_ = true →
        exec (.retransmissionPoint tpl t false) s = .next (a.setGoose tpl { a.goose tpl with deferred := true }) ∧
        exec (.retransmissionPoint tpl t true) s = .next (a.setGoose tpl { a.goose tpl with deferred := true })) ∧
      (a.tbNs a.ttbTb < at_ → exec (.retransmissionPoint tpl t false) s = .next a ∧ exec (.retransmissionPoint tpl t true) s = .next a)) ∧
    ((a.publishing = false ∨ a.get (F.PUB_GSTAT_STATE tpl) ≠ 1 ∨ (a.goose tpl).point = none) →
      exec (.retransmissionPoint tpl t false) s = .next a ∧ exec (.retransmissionPoint tpl t true) s = .next a) ∧
    (∀ m at_, a.pointDeferred m at_ = true ↔ a.twinned m = true ∧ ∃ r, a.taskOf (a.get (F.PUB_GCFG_OWNER m)) = some r ∧ r.l.dep ≤ at_) ∧
    (a.digesting = true → let d := a.setPub { a.pub with
          digRecs := a.pub.digRecs.filter (fun r => r.1 != cyc), digOwn := a.pub.digOwn ++ [(cyc, a.digestOf cyc)] };
      exec (.digestSend cyc t) s = .next ((d.plSend 0x14 false (beBytes 8 cyc ++ beBytes 8 (a.digestOf cyc).toNat)).digestCompare cyc)) ∧
    (a.digesting = false → exec (.digestSend cyc t) s =
      .next (a.setPub { a.pub with digRecs := a.pub.digRecs.filter (fun r => r.1 != cyc) })) ∧
    ((a.redundant = false ∨ ph.crcOk = false ∨ ph.ver ≠ 1) → exec (.digestFrame tw ph cyc dg t) s = .next a) ∧
    (a.redundant = true → ph.crcOk = true → ph.ver = 1 → a.tok.seen = [] → a.twinMode = true →
      exec (.digestFrame tw ph cyc dg t) s = .next (a.reportRed (fun w =>
        let w := w.plHeard tw
        let live := w.tok.seen.filter (fun e => decide (w.since e.2.2.2 < w.leaseNs / 2))
        if live.any (fun e => e.1 == ph.serial && e.2.1 == 0x14 && e.2.2.1 == ph.seq.toNat) then w.setTok { w.tok with seen := live }
        else
          let w := w.setTok { w.tok with seen := live ++ [(ph.serial, 0x14, ph.seq.toNat, w.now)] }
          if w.twinMode && w.heldPos.isSome then
            (w.setPub { w.pub with digPeer := keepLast 256 (w.pub.digPeer ++ [(cyc, dg)]) }).digestCompare cyc
          else w))) ∧
    ((∃ d, (cyc, d) ∈ s.pub.digOwn) → exec (.digestTimeout cyc) s = .next ((s.count F.PUB_TWCNT_DIGMISS).setPub
      { s.pub with digOwn := s.pub.digOwn.filter (fun e => e.1 != cyc) })) ∧
    ((∀ d, (cyc, d) ∉ s.pub.digOwn) → exec (.digestTimeout cyc) s = .next s) ∧
    (s.inTurn 0xA h = true → let m := s.took 0xA h;
      (body = [] ∨ 2036 < body.length → exec (.subscriptionMirror h q kind sb stamp body) s = .next (m.malformed 0xA 0x0001)) ∧
      (body ≠ [] → body.length ≤ 2036 → h.src = 0 → q ≤ 31 →
        (m.qOwner q ≠ h.tgt → exec (.subscriptionMirror h q kind sb stamp body) s = .next (m.count (F.DMX_QCNT_REFUSED q))) ∧
        (m.qOwner q = h.tgt → exec (.subscriptionMirror h q kind sb stamp body) s =
          .next (m.dmaReceive q (mirrorHeader q kind sb stamp body.length ++ body) 0x1F stamp))) ∧
      (body ≠ [] → body.length ≤ 2036 → (h.src ≠ 0 ∨ 31 < q) → exec (.subscriptionMirror h q kind sb stamp body) s = .next m))

/-- R282 to R284, R287, R288, R300, R302: IDLE leaves for PREFILL when armed, PREFILL for READY when the ring reaches back PRE, READY for POST at a trigger, POST for
HELD at the end of the window, and HELD for PREFILL when nothing holds it back; a disarm in POST truncates the capture, which ends in IDLE, as does a
held one. A trigger in PREFILL is ignored and counted, one in POST or HELD is counted, one in the clock in which the capture started is neither.

R293, R294: a history request notes the blocks that overlap its interval, those in the making among them, and shows BUSY, and is ignored while BUSY; when it
completes, the noted blocks that are still there have been sent, the others are counted, and the end message says how many of each. -/
def Obligations.RecordersAndHistory : Prop :=
  (∀ (s : State) (r pf mask t : Nat),
    let a := s.advance t
    let w := a.takeReady r
    let b := if a.get (F.PFM_PSTAT_STATE pf) = 1 then a.put (F.PFM_PSTAT_STATE pf) 2 else a
    let off := fun (v : State) => v.setRecd r { v.recd r with rearm := false }
    (s.flag (F.ACQ_RCFG_VALID r) = true → s.recState r = 0 → exec (.acqArm r) s = .next (s.recTo r 1)) ∧
    ((s.recState r ≠ 0 ∨ s.flag (F.ACQ_RCFG_VALID r) = false) → exec (.acqArm r) s = .next s) ∧
    ((s.recState r = 1 ∨ s.recState r = 2) → exec (.acqDisarm r) s = .next ((off s).recTo r 0)) ∧
    (s.recState r = 3 → exec (.acqDisarm r) s = .next ((off s).truncate r true)) ∧
    (∀ c, s.recState r = 4 → (s.recd r).cap = some c →
      exec (.acqDisarm r) s = .next ((off s).setRecd r { (off s).recd r with cap := some { c with toIdle := true } })) ∧
    (s.recState r = 0 → exec (.acqDisarm r) s = .next (off s)) ∧
    (s.recState r = 1 → s.prefilled r = true → s.takeReady r = s.put (F.ACQ_RSTAT_STATE r) 2) ∧
    ((s.recState r ≠ 1 ∨ s.prefilled r = false) → s.takeReady r = s) ∧
    exec (.prefillComplete r) s = .next (s.takeReady r) ∧
    (a.flag (F.ACQ_RCFG_VALID r) = true →
      (w.recState r = 2 → w.get (F.ACQ_RXTRIG_CROSS r) = 0 → ∃ c, exec (.acqTrig r t) s =
        .next (((w.setRecd r { w.recd r with cap := some c,
                                             blocks := (w.recd r).blocks.map (fun b => if b.kind = 2 then { b with dcorr := - c.skew.getD b.src 0 } else b) }).put
            (F.ACQ_RSTAT_STATE r) 3).put (F.ACQ_RTTIME_T r) (wrapNs (a.recNow r)).toNat) ∧
        c.cause = 2 ∧ c.t = a.recNow r ∧ c.endAt = a.recNow r + (w.get (F.ACQ_RTIME_POST r) * 1000000 : Nat) ∧ c.trunc = false ∧
        c.startedAt = a.now ∧ c.epoch = w.epoch (w.get (F.ACQ_RCFG_TB r)) ∧ c.skew = (List.range 8).map w.afeSkew) ∧
      (w.recState r = 1 → let p := w.count (F.ACQ_RCNT_PREIGN r);
        ((∀ x, (p.recd r).ignAt = some x → x + 1000000000 ≤ p.now) → let e := p.raiseI 0x0F02 (p.get (F.ACQ_RCFG_OWNER r)) r;
          exec (.acqTrig r t) s = .next (e.setRecd r { e.recd r with ignAt := some e.now })) ∧
        (∀ x, (p.recd r).ignAt = some x → p.now < x + 1000000000 → exec (.acqTrig r t) s = .next p)) ∧
      (∀ c, (w.recd r).cap = some c →
        (w.recState r = 3 → c.startedAt ≠ w.now → exec (.acqTrig r t) s = .next (w.count (F.ACQ_RCNT_HOLDTRG r))) ∧
        (w.recState r = 4 → c.startedAt ≠ w.now → let h := w.count (F.ACQ_RCNT_HOLDTRG r);
          exec (.acqTrig r t) s = .next ((h.setRecd r { h.recd r with cap := some { c with heldTrig := c.heldTrig + 1 } }).tryRearm r)) ∧
        ((w.recState r = 4 ∨ (w.recState r = 3 ∧ c.cause ≤ 2)) → c.startedAt = w.now → exec (.acqTrig r t) s = .next w)) ∧
      (w.recState r = 0 → exec (.acqTrig r t) s = .next a)) ∧
    (a.flag (F.ACQ_RCFG_VALID r) = false → exec (.acqTrig r t) s = .next a) ∧
    (∀ c, s.recState r = 4 → (s.recd r).cap = some c →
      exec (.acqRelease r) s = .next ((s.setRecd r { s.recd r with cap := some { c with done := true } }).tryRearm r)) ∧
    ((s.recState r ≠ 4 ∨ (s.recd r).cap = none) → exec (.acqRelease r) s = .next s) ∧
    (∀ x, (a.pf pf).cur = some x → (b.pf pf).cur = some x → mask = 2 ^ r → r < 16 →
      (b.get (F.ACQ_RCFG_OWNER r) ≠ x.l.inst → exec (.lclRectrig pf mask t) s = .next (b.count (F.ACQ_RCNT2_FOREIGN r))) ∧
      (b.get (F.ACQ_RCFG_OWNER r) = x.l.inst → exec (.lclRectrig pf mask t) s =
        .next (b.trigger r { code := 1, detail := 0, t := b.recNow r, tidx := 0, frac := 0 }))) ∧
    ((a.pf pf).cur = none → exec (.lclRectrig pf mask t) s = .next a) ∧
    (∀ c, (a.recd r).cap = some c → a.recState r = 3 →
      (c.endAt + 1000000000 ≤ a.recNow r → a.windowOver r c = true) ∧
      (a.windowOver r c = true → exec (.captureWindowEnd r t) s = .next (a.enterHeld r)) ∧
      (a.windowOver r c = false → exec (.captureWindowEnd r t) s = .next a)) ∧
    ((a.recState r ≠ 3 ∨ (a.recd r).cap = none) → exec (.captureWindowEnd r t) s = .next a) ∧
    (∀ c, (a.recd r).cap = some c → a.recState r = 4 →
      (a.heldOver r c = true → c.done = true → let v := (a.putB (F.ACQ_RSTAT_HOLDOFF r) false).takeWaiting r;
        (c.toIdle = false → v.flag (F.ACQ_RCFG_VALID r) = true → exec (.holdOffEnd r t) s = .next (v.recTo r 1)) ∧
        ((c.toIdle = true ∨ v.flag (F.ACQ_RCFG_VALID r) = false) → exec (.holdOffEnd r t) s = .next (v.recTo r 0))) ∧
      (a.heldOver r c = true → c.done = false → exec (.holdOffEnd r t) s = .next (a.putB (F.ACQ_RSTAT_HOLDOFF r) false)) ∧
      (a.heldOver r c = false → exec (.holdOffEnd r t) s = .next (a.putB (F.ACQ_RSTAT_HOLDOFF r) true)) ∧
      (a.heldOver r c = true ↔ c.enteredAt + a.get (F.ACQ_RHOLD_HTIME r) * 1000000 ≤ a.now ∧ a.get (F.ACQ_RHOLD_HEVENTS r) ≤ c.heldTrig)) ∧
    ((a.recState r ≠ 4 ∨ (a.recd r).cap = none) → exec (.holdOffEnd r t) s = .next a) ∧
    (s.exportWaits r = true → exec (.exportComplete r) s = .next s) ∧
    (s.exportWaits r = false → let u := s.setAcq { s.acq with oldExp := s.acq.oldExp.filter (fun x => x.rcd != r || !x.queued) };
      (∀ c, (s.recd r).cap = some c → s.recState r = 4 →
        (c.queued = true → exec (.exportComplete r) s =
          .next (((u.put (F.ACQ_RSTAT_EXPORT r) 0).setRecd r { u.recd r with cap := some { c with done := true } }).tryRearm r)) ∧
        (c.queued = false → exec (.exportComplete r) s = .next u)) ∧
      (((s.recd r).cap = none ∨ s.recState r ≠ 4) → exec (.exportComplete r) s = .next (u.put (F.ACQ_RSTAT_EXPORT r) 0)))) ∧
  (∀ (s : State),
    (s.flag F.ACQ_HREQ_BUSY = true → exec .historyRequest s = .next s) ∧
    (s.flag F.ACQ_HREQ_BUSY = false →
      let lo := s.reqFrom
      let hi := lo + (s.get F.ACQ_HREQ_LEN * 1000000 : Nat)
      let asked := fun (src tb : Nat) (t0 tLast : Int) => let d : Int := (s.tbNs (s.get F.ACQ_HREQ_TB) : Int) - s.tbNs tb
        s.get F.ACQ_HSRC_FIRST ≤ src ∧ src ≤ s.get F.ACQ_HSRC_LAST ∧ lo ≤ tLast + d ∧ t0 + d < hi
      ∃ l, exec .historyRequest s = .next ((s.put F.ACQ_HREQ_BUSY 1).setAcq { s.acq with req := some l }) ∧
        (∀ x ∈ s.acq.history, x.kind ≠ 4 → asked x.source x.tb x.t0 x.tLast → (x.source, x.num) ∈ l) ∧
        (∀ k ∈ l, (∃ x ∈ s.acq.history, k = (x.source, x.num) ∧ (x.kind = 4 ∨ asked x.source x.tb x.t0 x.tLast)) ∨
          (∃ e ∈ s.acq.openHist, e.2 ≠ [] ∧ k = (e.1, Sp.get 0 s.acq.blockNo e.1)))) ∧
    (s.acq.req = none → exec .historyRequestComplete s = .next s) ∧
    (∀ l, s.acq.req = some l → let ks := s.reqBlocks l; let m := (ks.filter (fun k => (s.histBlock k).isNone)).length;
      ∃ w : State, w.acq = s.acq ∧ (let u := w.send (stMsg 0xB 0x0004 (leBytes 4 (ks.length - m) ++ leBytes 4 m));
        exec .historyRequestComplete s = .next ((u.put F.ACQ_HREQ_BUSY 0).setAcq { u.acq with req := none }))) ∧
    (∀ b, s.acq.req = some [(b.source, b.num)] → s.acq.history = [b] →
      let u := (s.send (stMsg 0xB 0x0002 (b.bytes 0x10 (ofBool (b.kind == 1) + 8 * ofBool b.bad) 0 b.num))).send
        (stMsg 0xB 0x0004 (leBytes 4 1 ++ leBytes 4 0));
      exec .historyRequestComplete s = .next ((u.put F.ACQ_HREQ_BUSY 0).setAcq { u.acq with req := none })) ∧
    (∀ k, s.acq.req = some [k] → s.acq.history = [] → k.2 ≠ Sp.get 0 s.acq.blockNo k.1 →
      let u := (s.count F.ACQ_CNT_OVERWR).send (stMsg 0xB 0x0004 (leBytes 4 0 ++ leBytes 4 1));
      exec .historyRequestComplete s = .next ((u.put F.ACQ_HREQ_BUSY 0).setAcq { u.acq with req := none })))

/-- R295, R296, R298, R304: a conversion puts its value, quality and next SEQ in the result, which a read latches; a code at the end of the range is
saturated, counted in OVR and reported at most once a second; a conversion nobody asked for does nothing. The value is that of the calibration in force when
the conversion began; uncorrected it is the code's share of the range of 20 V or 2 V in µV. The calibration page is read and written by the manager only, a
write with its status, and a write that completes shows the new page; in stage 0x07 one write waits. -/
def Obligations.FrontEndAndCalibration : Prop :=
  ∀ (s : State) (ch t : Nat) (code : Int) (h : Hdr) (img : Bytes),
    let u := s.setAcq { s.acq with due := s.acq.due.filter (· != ch) }
    let n := (u.get (F.AFE_RQ_LIVE ch) / 2 ^ 16 + 1) % 2 ^ 16
    ((s.acq.due.contains ch = false ∨ s.acq.conv.find? (fun e => e.1 == ch) = none) → exec (.conversionComplete ch code) s = .next s) ∧
    (∀ e, ch < 8 → s.acq.conv.find? (fun e => e.1 == ch) = some e → s.acq.due.contains ch = true → s.recTakers 2 ch = [] →
      s.flag F.ACQ_CTRL_HEN = false → s.Sound →
      let z := fun q => (u.putI (F.AFE_RES_VALUE ch) (e.2.value code)).put (F.AFE_RQ_LIVE ch) (q + 2 ^ 16 * n)
      (-131072 < code → code < 131071 → exec (.conversionComplete ch code) s = .next (z 0)) ∧
      ((code = -131072 ∨ code = 131071) →
        (∀ x, s.acq.overAt.find? (fun e => e.1 == ch) = some x → s.now < x.2 + 1000000000 →
          exec (.conversionComplete ch code) s = .next ((z 0x4005).count F.AFE_CNT_OVR)) ∧
        ((∀ x, s.acq.overAt.find? (fun e => e.1 == ch) = some x → x.2 + 1000000000 ≤ s.now) →
          let v := ((z 0x4005).count F.AFE_CNT_OVR).raise 0x1003 ch
          exec (.conversionComplete ch code) s = .next (v.setAcq { v.acq with
            overAt := v.acq.overAt.filter (fun e => e.1 != ch) ++ [(ch, s.now)] })))) ∧
    (∀ c : Conv, c.gain = 2 ^ 30 → c.offset = 0 → c.odrift = 0 → c.gdrift = 0 →
      2 * (c.value code * 2 ^ 18 - (if c.range = 1 then 20000000 else 2000000) * code).natAbs ≤ 2 ^ 18) ∧
    (∀ raw dep, (s.newConv ch raw dep).gain = s.pageField (68 + 20 * (2 * ch + s.afeRange ch)) 4 ∧
      (s.newConv ch raw dep).offset = signedN 32 (s.pageField (68 + 20 * (2 * ch + s.afeRange ch) + 4) 4) ∧
      ((s.newConv ch raw dep).odrift, (s.newConv ch raw dep).gdrift) = s.power.drift.getD (2 * ch + s.afeRange ch) (0, 0)) ∧
    (let v := s.get (F.AFE_RQ_LIVE ch);
      exec (.afeResRead ch) s = .next (((s.put (F.AFE_RQ_QUALITY ch) v).put (F.AFE_RQ_SAT ch) (v / 2 ^ 14)).put (F.AFE_RQ_SEQ ch) (v / 2 ^ 16))) ∧
    (s.inTurn 0xE h = true → let a := s.took 0xE h;
      (h.src = 0 → exec (.calibrationPageRead h) s = .next (a.send (replyMsg 0xE 0x0002 h false a.acq.page))) ∧
      (h.src ≠ 0 → exec (.calibrationPageRead h) s = .next (a.pageReply h 0x01)) ∧
      (a.get F.PWR_STAGE ≠ 7 → a.pageStatus h img ≠ 0 →
        exec (.calibrationPageWrite h img) s = .next (a.pageReply h (a.pageStatus h img))) ∧
      (a.get F.PWR_STAGE ≠ 7 → a.pageStatus h img = 0 →
        exec (.calibrationPageWrite h img) s = .next ((a.put F.AFE_STATUS_WRBUSY 1).setAcq { a.acq with pageWr := some (img, h) })) ∧
      (a.get F.PWR_STAGE = 7 → a.acq.pageHeld = none →
        exec (.calibrationPageWrite h img) s = .next (a.setAcq { a.acq with pageHeld := some (img, h) })) ∧
      (a.get F.PWR_STAGE = 7 → a.acq.pageHeld.isSome = true → exec (.calibrationPageWrite h img) s = .next (a.pageReply h 0x06))) ∧
    ((s.advance t).acq.pageWr = none → exec (.calibrationPageWriteComplete t) s = .next (s.advance t)) ∧
    (∀ b, (s.advance t).acq.pageWr = some (b, h) → ∃ w : State, exec (.calibrationPageWriteComplete t) s =
      .next ((((w.put F.AFE_STATUS_WRBUSY 0).showPage.showDrift.showLats).raise 0x1002 0).pageReply h 0x00) ∧
      w.acq = { (s.advance t).acq with page := (s.advance t).newPage b, pageWr := none } ∧ w = ((s.advance t).setAcq w.acq).setPower w.power)

/-- R280, R307, R311, R313, R316, R317, R328: a commit writes the output image of the cycle, gives the recorded variables their samples, and counts the cycle; a cycle
that runs four times its length ends without one. RUN, STOP and HOLD take effect after the cycle in progress, at once without one, but STOP in Hold abandons
the cycle; COLD and WARM wait for the next departure; a paused cycle goes on at CONTINUE, and for one block at STEP; a breakpoint pauses only where Hold is
permitted: by the program and outside twin mode. -/
def Obligations.LogicCyclesAndModes : Prop :=
  ∀ (s : State) (n t pc : Nat),
    let a := s.advance t
    ((a.lge.cyc = none ∨ a.lge.prog = none) → exec (.logicCommit n t) s = .next a.parkDue) ∧
    (a.lge.cyc = none → exec (.logicCycleAbort t) s = .next a.parkDue) ∧
    (a.lge.paused = true → exec (.logicCommit n t) s = .next a.parkDue ∧ exec (.logicCycleAbort t) s = .next a.parkDue) ∧
    (∀ c, a.lge.cyc = some c → a.lge.paused = false →
      (c.2.1 + 4 * a.lgCycleNs ≤ a.now → exec (.logicCycleAbort t) s = .next a.lgAbandon.parkDue) ∧
      (a.now < c.2.1 + 4 * a.lgCycleNs → exec (.logicCycleAbort t) s = .next a.parkDue)) ∧
    (∀ p c, a.lge.prog = some p → a.lge.cyc = some c → a.lge.paused = false →
      let r := Config.blockRun p a.lge.mem a.lge.image
      let u := a.lgSems p
      let v := ((u.setLge { u.lge with mem := fitTo p.instLen r.1, out := fitTo 0x300 r.2, cyc := none, skips := 0, step := false,
                                       retCommit := some (retainOf p (fitTo p.instLen r.1)) }).each (List.range 64)
        (fun s n => s.put (F.LGE_REPW n) (leAt (fitTo 0x300 r.2) (0x200 + 4 * n) 4))).recVars p c.1 c.2.2
      let e := Nat.min (cdiv n 2400) 0xFFFF
      let x := (v.put F.LGE_EXEC_LAST e).peak F.LGE_EXEC_PEAK e
      exec (.logicCommit n t) s = .next ((((x.put F.LGE_CYC_CYCLES (v.get F.LGE_CYC_CYCLES + 1)).stageRetain).streamRetain
        (c.2.2 / Nat.max p.ratio 1) (retainOf p (fitTo p.instLen r.1)).bytes).lgCommand.freshOutputs).parkDue) ∧
    (s.lge.prog = none → exec .logicRun s = .next s ∧ exec .logicCold s = .next s ∧ exec .logicWarm s = .next s) ∧
    (s.lge.prog.isSome = true → exec .logicCold s = .next (s.setLge { s.lge with restart := 1 }) ∧
      exec .logicWarm s = .next (s.setLge { s.lge with restart := 2 }) ∧
      (s.lge.cyc = none → exec .logicRun s = .next (s.lgTo 1)) ∧
      (s.lge.cyc.isSome = true → exec .logicRun s = .next (s.setLge { s.lge with cmd := 1 }))) ∧
    (s.lge.cyc = none → exec .logicStop s = .next (s.lgTo 0)) ∧
    (s.lge.cyc.isSome = true → s.lgMode ≠ 2 → exec .logicStop s = .next (s.setLge { s.lge with cmd := 2 })) ∧
    (s.lge.cyc.isSome = true → s.lgMode = 2 → exec .logicStop s = .next s.lgAbandon) ∧
    (s.mayHold = true ↔ (∃ p, s.lge.prog = some p ∧ p.holdEn = true) ∧ s.twinMode = false) ∧
    (s.mayHold = true → exec .logicHold s = .next (s.setLge { s.lge with hold := true })) ∧
    (s.mayHold = false → exec .logicHold s = .next (s.count F.LGE_CNT_REFUSED)) ∧
    (s.lgMode = 2 → exec .logicContinue s = .next
        ((s.setLge { s.lge with paused := false, hold := false, step := false, fresh := true, since := 0 }).lgTo 1) ∧
      (s.lge.paused = true → exec .logicStep s = .next (s.setLge { s.lge with paused := false, step := true }))) ∧
    (s.lgMode ≠ 2 → exec .logicContinue s = .next s) ∧
    ((s.lgMode ≠ 2 ∨ s.lge.paused = false) → exec .logicStep s = .next s) ∧
    (let z := fun pc => (((s.setLge { s.lge with paused := true, hold := false, step := false, fresh := true }).put F.LGE_HOLDPC_PC pc).lgTo 2);
      (s.lge.cyc.isSome = true → s.lge.paused = false → (s.lge.hold = true ∨ s.lge.step = true) →
        exec (.cyclePause pc) s = .next (z pc)) ∧
      (s.lge.cyc.isSome = true → s.lge.paused = false → s.flag (F.LGE_BP_EN n) = true → s.mayHold = true →
        exec (.breakpointHit n) s = .next ((z (s.get (F.LGE_BP_ADDR n))).put F.LGE_STATUS_BPHIT (n + 16)))) ∧
    ((s.lge.cyc = none ∨ s.lge.paused = true ∨ s.flag (F.LGE_BP_EN n) = false ∨ s.mayHold = false) → exec (.breakpointHit n) s = .next s) ∧
    ((s.lge.cyc = none ∨ s.lge.paused = true ∨ (s.lge.hold = false ∧ s.lge.step = false)) → exec (.cyclePause pc) s = .next s) ∧
    (s.lgMode = n → s.lgTo n = s) ∧ (s.lgMode ≠ n → s.lgTo n = (s.put F.LGE_STATUS_MODE n).raise 0x0D01 n)

/-- R322, R324, R326: a halt's reply counts when its CRC, kind, number and sequence are right and the window is open; else it is counted in BADREP or
LATE; a reply at the instant the window closes is inside it; the close of the window completes the image. Without a rulebook and in Park no reply is taken. -/
def Obligations.HaltRepliesAreChecked : Prop :=
  ∀ (s : State) (p t : Nat) (b : Bytes),
    let a := s.advance t
    let h := beAt b 2 1
    let good := 60 ≤ b.length ∧ beAt b 0 1 = 1 ∧ beAt b 1 1 = 2 ∧ h < 64 ∧ a.flag (F.HLX_HCFG_VALID h) = true ∧
      beAt b 56 4 = (crc32 (b.take 56)).toNat
    ((a.active = false ∨ a.parked = true) → exec (.haltReply p b t) s = .next a) ∧
    (a.active = true → a.parked = false →
      (¬ good → exec (.haltReply p b t) s = .next (a.count F.HLX_CNT_BADREP)) ∧
      (good → (a.windowOpen = false ∨ beAt b 4 2 ≠ a.get F.HLX_SEQ) → exec (.haltReply p b t) s = .next (a.count (F.HLX_HCNT_LATE h))) ∧
      (good → a.windowOpen = true → beAt b 4 2 = a.get F.HLX_SEQ → exec (.haltReply p b t) s = .next (a.haltValid h p b t))) ∧
    (a.windowOpen = true ↔ ∃ c, a.hlx.open_ = some c ∧ a.now ≤ c) ∧
    (a.hlx.open_ = none → exec (.replyWindowClose t) s = .next a) ∧
    (∀ c, a.hlx.open_ = some c → (c ≤ a.now → exec (.replyWindowClose t) s = .next a.haltComplete) ∧
      (a.now < c → exec (.replyWindowClose t) s = .next a))

/-! ## Instances, mailboxes, semaphores, movers (R333 to R362) -/

/-- R246, R336, R339, R357: START makes a DECLARED or FAULTED instance RUNNING, cold; RESET and RESTART take a RUNNING, FAULTED or WAITING one through RESETTING, which
ends when its channels have drained: in DECLARED after RESET, started again after RESTART. An instance whose platform is quarantined is placed again first;
one without a place, or that a restart left stopped, does not start.

R337: the commands of the manager that R336 does not list for the instance's state are ignored and counted. -/
def Obligations.InstancesStartAndReset : Prop :=
  (∀ (s : State) (i t : Nat),
    ((s.instState i = 1 ∨ s.instState i = 4) →
      ((s.placeAgain i).2 = true → exec (.instanceStart i) s = .next ((s.placeAgain i).1.startCold i)) ∧
      ((s.placeAgain i).2 = false → exec (.instanceStart i) s = .next (s.placeAgain i).1)) ∧
    (((s.advance t).instState i = 2 ∨ (s.advance t).instState i = 4 ∨ (s.advance t).instState i = 5) →
      exec (.instanceReset i t) s = .next ((s.advance t).resetInst i 1).parkDue ∧
      exec (.instanceRestart i t) s = .next ((s.advance t).resetInst i 2).parkDue) ∧
    (s.instState i = 3 → s.drained i = true →
      ((s.inst i).goal ≠ 2 → exec (.instanceResetComplete i) s = .next ((s.renewInst i).instTo i (s.inst i).goal)) ∧
      ((s.inst i).goal = 2 → ((s.renewInst i).placeAgain i).2 = true →
        exec (.instanceResetComplete i) s = .next (((s.renewInst i).placeAgain i).1.startCold i)) ∧
      ((s.inst i).goal = 2 → ((s.renewInst i).placeAgain i).2 = false →
        exec (.instanceResetComplete i) s = .next (((s.renewInst i).placeAgain i).1.instTo i 1))) ∧
    (s.decl i = none → s.placeAgain i = (s, false)) ∧
    (∀ d, s.decl i = some d →
      (s.roleOf (s.placeOf i) = 0 → s.placeAgain i = (s, true)) ∧
      (s.roleOf (s.placeOf i) ≠ 0 → (s.inst i).stranded = true → s.placeAgain i = (s, false)) ∧
      (s.roleOf (s.placeOf i) ≠ 0 → (s.inst i).stranded = false → s.findPlace (s.places.filter (fun p => p.inst != i)) d (s.shareNow d).1 = none →
        s.placeAgain i = (s, false))) ∧
    (∀ st, st < 8 → 1 ≤ i → i < 64 → s.Sound → (s.instTo i st).instState i = st) ∧
    ((s.instState i ≠ 3 ∨ s.drained i = false) → exec (.instanceResetComplete i) s = .next s)) ∧
  (∀ (s : State) (i : Nat),
    (s.instState i ≠ 1 → s.instState i ≠ 4 → exec (.instanceStart i) s = .next (s.count F.INS_CNT_BADCMD)) ∧
    ∀ t, (s.advance t).instState i ≠ 2 → (s.advance t).instState i ≠ 4 → (s.advance t).instState i ≠ 5 →
      exec (.instanceReset i t) s = .next ((s.advance t).count F.INS_CNT_BADCMD).parkDue ∧
      exec (.instanceRestart i t) s = .next ((s.advance t).count F.INS_CNT_BADCMD).parkDue)

/-- R334, R338, R345: a quota that the pool cannot cover is refused and counted; a heap size past the quota is refused, and one that a channel at work
holds up waits; a queue is handed over only while it is unowned or its owner is DECLARED, idle, and within the new owner's quota. That a mailbox
depth outside 1 to 16 is refused is the model's choice (log entry 30). -/
def Obligations.QuotasHeapsAndQueues : Prop :=
  ∀ (s : State) (i q n : Nat) (v : Word),
    let d := (F.INS_QUOTA_DRAM i).part v
    let k := (F.INS_QUOTA_QUEUES i).part v
    let m := (F.INS_QUOTA_SEMS i).part v
    let x := (F.INS_QUOTA2_MBDEPTH i).part v
    (s.quotaOk i 1 d = true → s.quotaOk i 2 k = true → s.quotaOk i 3 m = true → exec (.quotaWrite i 0 v) s =
      .next ((((s.put (F.INS_QUOTA_DRAM i) d).put (F.INS_QUOTA_QUEUES i) k).put (F.INS_QUOTA_SEMS i) m).showUse i)) ∧
    ((s.quotaOk i 1 d = false ∨ s.quotaOk i 2 k = false ∨ s.quotaOk i 3 m = false) →
      exec (.quotaWrite i 0 v) s = .next (s.count F.INS_CNT_QREFUSE)) ∧
    (1 ≤ x → x ≤ 16 → exec (.quotaWrite i 1 v) s = .next ((s.put (F.INS_QUOTA2_MBDEPTH i) x).showUse i)) ∧
    ((x = 0 ∨ 16 < x) → exec (.quotaWrite i 1 v) s = .next (s.count F.INS_CNT_QREFUSE)) ∧
    (s.get (F.INS_HEAP_SIZE i) < n → s.get (F.INS_QUOTA_DRAM i) < s.dramUse i n → exec (.heapSizeWrite i n) s = .next s) ∧
    ((n ≤ s.get (F.INS_HEAP_SIZE i) ∨ s.dramUse i n ≤ s.get (F.INS_QUOTA_DRAM i)) →
      let w := s.setInst i { s.inst i with heapWait := some n }
      ((∃ c ∈ s.queuesOf i, s.chState c = 1) → exec (.heapSizeWrite i n) s = .next w) ∧
      ((∀ c ∈ s.queuesOf i, s.chState c ≠ 1) →
        exec (.heapSizeWrite i n) s = .next ((w.setInst i { w.inst i with heapWait := none }).applyHeap i n))) ∧
    ((s.qOwner q = 0 ∨ s.instState (s.qOwner q) = 1) → s.chState q = 0 → (n = 0 ∨ n = s.qOwner q ∨ (s.queuesOf n).length < s.get (F.INS_QUOTA_QUEUES n)) →
      exec (.queueOwnerWrite q n) s = .next ((((s.put (F.INS_QOWN_OWNER q) n).givePrio q).showUse (s.qOwner q)).showUse n)) ∧
    ((s.chState q ≠ 0 ∨ (s.qOwner q ≠ 0 ∧ s.instState (s.qOwner q) ≠ 1) ∨
      (n ≠ 0 ∧ n ≠ s.qOwner q ∧ s.get (F.INS_QUOTA_QUEUES n) ≤ (s.queuesOf n).length)) → exec (.queueOwnerWrite q n) s = .next s)

/-- R340, R341: a message from the manager enters the inbound ring and rings the door; one that the instance cannot take, or from another sender, is refused
with a reply, and a doorbell rings without a message. The task pops the head, and pushes a message that keeps its entry in the outbound ring until it
is acknowledged; a full ring refuses it. That a push outside its ranges sends nothing is the model's choice (log entry 30).

R341: a push of the running task, within its ranges. -/
def Obligations.MailboxesKeepOrder : Prop :=
  (∀ (s : State) (h : Hdr) (op n pf t : Nat) (b : Bytes),
    (s.inTurn 7 h = true → let a := s.took 7 h; let x := a.inst h.tgt
      (h.src = 0 → a.mbClosed h.tgt = false → x.inbox.length < a.get (F.INS_QUOTA2_MBDEPTH h.tgt) → exec (.mailboxToInstance h op b) s =
        .next (((a.setInst h.tgt { x with inbox := x.inbox ++ [{ op := op, data := b }], door := true }).showUse h.tgt).showMail h.tgt)) ∧
      ((h.src ≠ 0 ∨ a.mbClosed h.tgt = true ∨ a.get (F.INS_QUOTA2_MBDEPTH h.tgt) ≤ x.inbox.length) →
        exec (.mailboxToInstance h op b) s = .next (a.mbRefuse h)) ∧
      (h.src = 0 → a.mbClosed h.tgt = false →
        exec (.mailboxDoorbell h) s = .next ((a.setInst h.tgt { x with door := true }).showMail h.tgt)) ∧
      ((h.src ≠ 0 ∨ a.mbClosed h.tgt = true) → exec (.mailboxDoorbell h) s = .next (a.mbRefuse h))) ∧
    ((s.pf pf).cur = none → exec (.mailboxPop pf) s = .next s) ∧
    (∀ r, (s.pf pf).cur = some r → let u := if s.get (F.PFM_PSTAT_STATE pf) = 1 then s.put (F.PFM_PSTAT_STATE pf) 2 else s;
      exec (.mailboxPop pf) s = .next (((u.setInst r.l.inst { u.inst r.l.inst with
        inbox := (s.inst r.l.inst).inbox.tail }).showUse r.l.inst).showMail r.l.inst)) ∧
    (((s.advance t).pf pf).cur = none → exec (.mailboxPush pf op n b t) s = .next (s.advance t))) ∧
  (∀ (s : State) (op n pf t : Nat) (b : Bytes) (r : Running), ((s.advance t).pf pf).cur = some r →
    let z := s.advance t
    let a := (if z.get (F.PFM_PSTAT_STATE pf) = 1 then z.put (F.PFM_PSTAT_STATE pf) 2 else z).each (List.range 16) (fun s k => s.put (F.LCL_MB_OUT pf k) (leAt b (4 * k) 4))
    let i := r.l.inst
    let x := a.inst i
    let d := (b ++ zeros 64).take n
    ((op = 0 ∨ 0xFE < op ∨ n = 0 ∨ 64 < n) → exec (.mailboxPush pf op n b t) s = .next a) ∧
    (1 ≤ op → op ≤ 0xFE → 1 ≤ n → n ≤ 64 →
      (x.outbox.length < a.get (F.INS_QUOTA2_MBDEPTH i) → exec (.mailboxPush pf op n b t) s = .next
        ((((a.setInst i { x with outbox := x.outbox ++ [{ op := op, data := d }] }).send
          { cls := 8, last := true, reply := false, err := false, src := i, tgt := 0, op := op, tag := 0, payload := d }).showUse i).showMail i)) ∧
      (a.get (F.INS_QUOTA2_MBDEPTH i) ≤ x.outbox.length → exec (.mailboxPush pf op n b t) s = .next
        ((((a.setInst i { x with oful := true }).count (F.INS_MBCNT_OFULLS i)).mbEvent i 1).showMail i))))

/-- R343: the bits of the word that a try returns, what a try does, and what a release does: only the holder's counts, and CLR with it also clears
BROKEN. The holders 1 to 63 are instances, whose use shows and whose quota binds (R342). -/
def Obligations.SemaphoresAreHeldByOne : Prop :=
  (∀ (got br qu : Bool) (h : Nat), let w := tryWord got br qu h;
    bit w 0 = got ∧ bit w 1 = br ∧ bit w 2 = qu ∧ w / 256 = h ∧ (h < 256 → w < 65536)) ∧
  ∀ (s : State) (who n : Nat), who < 0xFF →
    let h := s.get (F.INS_SEM_HOLDER n)
    let br := s.flag (F.INS_SEM_BROKEN n)
    let u := s.put (F.INS_SEM_HOLDER n) 0xFF
    let v := s.put (F.INS_SEM_HOLDER n) who
    (h = who → s.semTry who n = (s, tryWord true br false who)) ∧
    (h ≠ who → h ≠ 0xFF → s.semTry who n = (s, tryWord false br false h)) ∧
    (h = 0xFF → 1 ≤ who → who ≤ 63 → s.get (F.INS_QUOTA_SEMS who) ≤ (s.semsOf who).length →
      s.semTry who n = (s, tryWord false br true 0xFF)) ∧
    (h = 0xFF → (who = 0 ∨ 63 < who) → s.semTry who n = (v, tryWord true br false who)) ∧
    (h = 0xFF → 1 ≤ who → who ≤ 63 → (s.semsOf who).length < s.get (F.INS_QUOTA_SEMS who) →
      s.semTry who n = (v.showUse who, tryWord true br false who)) ∧
    (who = 0 → exec (.semaphoreTry who n) s = .next ((s.semTry who n).1.put (F.INS_SEM_TRY n) (s.semTry who n).2)) ∧
    (∀ r p, 1 ≤ who → p < 24 → (∀ q < 24, ((s.semTry who n).1.pf q).cur = if q = p then some r else none) → r.l.inst = who →
      exec (.semaphoreTry who n) s = .next ((s.semTry who n).1.put (F.LCL_SEM_TRY p n) (s.semTry who n).2)) ∧
    (∀ c, h ≠ who → exec (.semaphoreRelease who n c) s = .next s) ∧
    (h = who → (who = 0 ∨ 63 < who) → exec (.semaphoreRelease who n false) s = .next u ∧
      exec (.semaphoreRelease who n true) s = .next (u.put (F.INS_SEM_BROKEN n) 0)) ∧
    (h = who → 1 ≤ who → who ≤ 63 → exec (.semaphoreRelease who n false) s = .next (u.showUse who) ∧
      exec (.semaphoreRelease who n true) s = .next ((u.put (F.INS_SEM_BROKEN n) 0).showUse who))

/-- R348 to R351: START takes up the registers of an IDLE channel whose queue has an owner; a push enters a queue of 16 and starts an IDLE channel; a
doorbell takes up the link of an IDLE channel that has gone idle; RESUME and ABORT act on a channel without an error; refusals are counted. A
descriptor ends when its bytes have moved: a transmit descriptor not before its frame has left, a receive descriptor not without a frame, its record with
status 0x05 where the frame is longer. A bus error halts the channel with its address. How far a running descriptor has come when it is aborted is a free
value. -/
def Obligations.ChannelsTakeUpWork : Prop :=
  ∀ (s : State) (c addr n : Nat) (d : Word) (w : Bool),
    (s.chState c = 0 → s.qOwner c = 0 → exec (.channelStart c) s = .next (s.count (F.DMX_QCNT_REFUSED c))) ∧
    (s.chState c ≠ 0 → exec (.channelStart c) s = .next s) ∧
    (s.chState c = 0 → s.qOwner c ≠ 0 → let u := s.noteSubmit c (s.regDesc c).count;
      exec (.channelStart c) s = .next ((u.setChan c { u.chan c with tail := none }).chRun chFuel c .regs)) ∧
    ((s.qOwner c = 0 ∨ (s.flag (F.DMX_QSTAT_FENCED c) = false ∧ 16 ≤ (s.chan c).subs.length)) →
      exec (.queuePush c d) s = .next (s.count (F.DMX_QCNT_REFUSED c))) ∧
    (s.qOwner c ≠ 0 → s.flag (F.DMX_QSTAT_FENCED c) = true → let r := s.tagAt c (32 * d.toNat);
      exec (.queuePush c d) s = .next ((r.1.count (F.DMX_QCNT_REFUSED c)).record c 3 false 0 0 0 r.2)) ∧
    (s.qOwner c ≠ 0 → s.flag (F.DMX_QSTAT_FENCED c) = false → (s.chan c).subs.length < 16 →
      let u := ((s.noteAt c (32 * d.toNat)).setChan c { s.chan c with subs := (s.chan c).subs ++ [d] }).put (F.DMX_QSTAT_DEPTH c)
        ((s.chan c).subs.length + 1);
      (u.chState c ≠ 0 → exec (.queuePush c d) s = .next u) ∧ (u.chState c = 0 → exec (.queuePush c d) s = .next (u.chRun chFuel c .next))) ∧
    (let a := s.linkWord c % 2 ^ 40 / 32 * 32;
      (s.chState c = 0 → s.flag (F.DMX_CHSTAT_CHIDLE c) = true → bit (s.linkWord c) 0 = false →
        exec (.channelDoorbell c) s = .next ((s.noteAt c a).chRun chFuel c (.at_ a))) ∧
      ((s.chState c ≠ 0 ∨ s.flag (F.DMX_CHSTAT_CHIDLE c) = false ∨ bit (s.linkWord c) 0 = true) →
        exec (.channelDoorbell c) s = .next s)) ∧
    (s.flag (F.DMX_CHSTAT_ERR c) = true → exec (.channelResume c) s = .next (s.count (F.DMX_QCNT_REFUSED c)) ∧
      exec (.channelAbort c) s = .next (s.count (F.DMX_QCNT_REFUSED c))) ∧
    (s.flag (F.DMX_CHSTAT_ERR c) = false → s.chState c = 2 →
      exec (.channelAbort c) s = .next (((s.cutDesc c 2).dropGrant c).chRun chFuel c .next) ∧
      (let u := (s.put (F.DMX_CHSTAT_STATE c) 1).setChan c { s.chan c with busErr := false, since := some s.ins.order }
       let v := u.setIns { u.ins with order := u.ins.order + 1 }
       ((s.regDesc c).op ≠ 1 → exec (.channelResume c) s = .next v) ∧
       ((s.regDesc c).op = 1 → let r := v.dmaRead (v.qOwner c) (s.regDesc c).src (s.regDesc c).count
         exec (.channelResume c) s = .next (r.1.dmaTransmit c (s.regDesc c) ((r.1.chan c).head ++ r.2))))) ∧
    (s.flag (F.DMX_CHSTAT_ERR c) = false → s.chState c = 1 → let d := s.regDesc c
      (d.op = 0 → let w := s.draw.1.moveBytes c (Config.abortedAt s.draw.2 % (d.count + 1))
        exec (.channelAbort c) s = .next (w.afterDesc c (w.cutDesc c 4, .next))) ∧
      (∀ b p st, d.op ≠ 0 → (s.chan c).rx = some (b, p, st) →
        let w := s.draw.1.moveBytes c (Config.abortedAt s.draw.2 % (Nat.min d.count (b.length - (s.chan c).moved) + 1))
        exec (.channelAbort c) s = .next (w.afterDesc c (w.cutDesc c 4, .next))) ∧
      (d.op ≠ 0 → (s.chan c).rx = none → let w := s.draw.1.moveBytes c 0
        exec (.channelAbort c) s = .next (w.afterDesc c (w.cutDesc c 4, .next)))) ∧
    (s.flag (F.DMX_CHSTAT_ERR c) = false → s.chState c ≠ 1 → s.chState c ≠ 2 → exec (.channelAbort c) s = .next s ∧
      exec (.channelResume c) s = .next s) ∧
    exec (.errclr c) s = .next (s.put (F.DMX_CHSTAT_ERR c) 0) ∧
    (s.chState c ≠ 1 → exec (.descriptorComplete c) s = .next (s.heapTry (s.qOwner c)) ∧ exec (.busError c addr w n) s = .next s) ∧
    (s.chState c = 1 → (s.regDesc c).op ≠ 1 → let u := s.moveBytes c (Nat.min n (s.regDesc c).count);
      let v := ((u.put (F.DMX_CHSTAT_STATE c) 2).put (F.DMX_CHSTAT_ERR c) 1).putB (F.DMX_CHSTAT_ERRDIR c) w;
      let x := (v.put (F.DMX_CHERRA_LO c) addr).put (F.DMX_CHERRA_HI c) (addr / 2 ^ 32);
      let y := x.setChan c { x.chan c with busErr := true };
      exec (.busError c addr w n) s = .next (((y.raiseI 0x1201 (y.qOwner c) c).count (F.DMX_QCNT2_ERRS c)).dropGrant c)) ∧
    (s.chState c = 1 → (s.regDesc c).op = 0 → s.descOk c (s.regDesc c) = true → let d := s.regDesc c;
      let u := s.moveBytes c d.count;
      let v := u.record c 0 false 0 (u.chan c).moved 0 d.tag;
      exec (.descriptorComplete c) s = .next ((v.afterDesc c (v.follow c)).heapTry (s.qOwner c))) ∧
    (s.chState c = 1 → s.descOk c (s.regDesc c) = true → let d := s.regDesc c;
      (d.op = 1 → s.txWaits c (d.dst % 32) = true → exec (.descriptorComplete c) s = .next (s.heapTry (s.qOwner c))) ∧
      (d.op = 1 → s.txWaits c (d.dst % 32) = false → let u := s.moveBytes c d.count;
        let v := u.record c 0 (u.chan c).stampLost (d.dst % 32) (u.chan c).moved 0 d.tag;
        exec (.descriptorComplete c) s = .next ((v.afterDesc c (v.follow c)).heapTry (s.qOwner c))) ∧
      (d.op = 2 → (s.chan c).rx = none → exec (.descriptorComplete c) s = .next (s.heapTry (s.qOwner c))) ∧
      (∀ b p st, d.op = 2 → (s.chan c).rx = some (b, p, st) → let m := (s.chan c).moved; let u := s.moveBytes c (Nat.min d.count (b.length - m));
        let v := u.record c (if m + d.count < b.length then 5 else 0) false p b.length st d.tag;
        exec (.descriptorComplete c) s = .next ((v.afterDesc c (v.follow c)).heapTry (s.qOwner c)))) ∧
    (s.chState c = 1 → s.descOk c (s.regDesc c) = false → (s.chan c).moved = 0 →
      exec (.descriptorComplete c) s = .next ((s.chRun chFuel c .regs).heapTry (s.qOwner c)))

/-- R352 to R354: a grant goes to a requester that asks, is not masked and has the greatest PRIO of those, or on a free turn waits longest; a masked
requester is never granted, and waits anew; a mover that is held grants nothing. -/
def Obligations.GrantsGoToTheBestRequester : Prop :=
  ∀ (s : State) (arb : Nat) (reqs : List Nat),
    (∀ t r, s.grant arb reqs = (t, some r) → r ∈ reqs ∧ s.masked arb r = false) ∧
    (∀ t r, s.grant 2 reqs = (t, some r) → ((Sp.get ArbS.init s.ins.arbs 2).grants + 1) % s.get F.MEM_ARB_NFREE ≠ 0 →
      ∀ q ∈ reqs, q < 9 → s.masked 2 q = false → s.prioOf 2 q ≤ s.prioOf 2 r) ∧
    (∀ t q, s.grant 2 reqs = (t, some q) → ∀ r, s.masked 2 r = true → ∀ x, Sp.get x (Sp.get ArbS.init t.ins.arbs 2).since r = x) ∧
    (arb < 2 → (Sp.get ArbS.init s.ins.arbs arb).owner.isSome = true → exec (.grantDecision arb reqs) s = .next s) ∧
    ((s.grant arb reqs).2 ≠ some 8 ∨ arb ≠ 2 → exec (.grantDecision arb reqs) s = .next (s.grant arb reqs).1) ∧
    ((s.grant 2 reqs).2 = some 8 → exec (.grantDecision 2 reqs) s = .next (s.grant 2 reqs).1.shuntBurst)

/-! ## The vault (R363 to R380) -/

/-- R368: the KCV of a key is the first three bytes of its AES-CMAC over the block of R368. -/
def Obligations.KeyCheckValue : Prop :=
  ∀ key : Bytes, kcvOf key = (beBytes 16 (Config.cmac key
    [0x5A, 0x47, 0x4B, 0x43, 0, 0, 0, 0, 0, 0, 0, 0, 0, 0, 0, 0]).toNat).take 3 ∧ (kcvOf key).length = 3

/-- R369, R371, R378: every request to the vault is answered with a status: another sender than the manager gets no reply and is counted, a length outside
its range is 0x02, a self-test in progress 0x0B, a failed vault or one without a root 0x0D. -/
def Obligations.VaultRequestsAreAnswered : Prop :=
  ∀ (s : State) (op : Nat) (h : Hdr) (ok : Bool) (act : State → State), s.inTurn 0xD h = true →
    let a := s.took 0xD h
    (h.src ≠ 0 → s.vltRequest op h ok act = ((a.count F.VLT_CNT2_REFUSED).put F.VLT_LAST_OP op).put F.VLT_LAST_STATUS 0) ∧
    (h.src = 0 → ok = false → s.vltRequest op h ok act = a.vltReply op h 0x02 []) ∧
    (h.src = 0 → ok = true → a.flag F.VLT_STATUS_TESTING = true → s.vltRequest op h ok act = a.vltReply op h 0x0B []) ∧
    (h.src = 0 → ok = true → a.flag F.VLT_STATUS_TESTING = false → (a.flag F.VLT_STATUS_FAIL = true ∨ a.flag F.VLT_STATUS_ROOT = false) →
      s.vltRequest op h ok act = a.vltReply op h 0x0D []) ∧
    (h.src = 0 → ok = true → a.flag F.VLT_STATUS_TESTING = false → a.flag F.VLT_STATUS_FAIL = false → a.flag F.VLT_STATUS_ROOT = true →
      s.vltRequest op h ok act = act a) ∧
    (h.src = 0 → ∀ st res, a.vltReply op h st res = (a.vltCount op st).send
      { cls := 0xD, last := true, reply := true, err := st != 0, src := 0x40, tgt := 0, op := op, tag := h.tag,
        payload := [BitVec.ofNat 8 st, 0, 0, 0] ++ res })

/-- R366, R372 to R374, R378: an import and a derivation discard the target's candidate and leave a new one with its attributes and KCV; a commit makes the
candidate the active key, unless an encrypted image needs the slot; a cancel discards it; an erase empties a slot that nothing needs; KEYINFO gives the
attributes, presence, KCVs and commits; a self-test begins. The earlier candidate is discarded also by an import or a derivation that is refused (R379). Which
status comes first where several apply, and the statuses of attributes outside their encodings and of a derivation into its own source, are the model's
choice (log entry 18). -/
def Obligations.KeySlotsChangeByCommit : Prop :=
  ∀ (s : State) (h : Hdr) (slot w use alg : Nat) (att : Bool) (kcv wr salt info : Bytes), s.inTurn 0xD h = true → h.src = 0 →
    let a := s.took 0xD h
    a.flag F.VLT_STATUS_TESTING = false → a.flag F.VLT_STATUS_FAIL = false → a.flag F.VLT_STATUS_ROOT = true → slot < 256 → w < 256 →
    let b := a.setCand slot none
    (kcv.length = 3 → wr.length = 40 →
      (keyStatus (b.akey w) useWrap false [0] ≠ 0 →
        exec (.importKey h slot w use alg att kcv wr) s = .next (b.vltReply 2 h (keyStatus (b.akey w) useWrap false [0]) [])) ∧
      (keyStatus (b.akey w) useWrap false [0] = 0 → attrStatus use alg = 0 → Config.kwUnwrap (b.keyBytes w) wr = none →
        exec (.importKey h slot w use alg att kcv wr) s = .next (b.vltReply 2 h 0x06 [])) ∧
      (keyStatus (b.akey w) useWrap false [0] = 0 → attrStatus use alg ≠ 0 →
        exec (.importKey h slot w use alg att kcv wr) s = .next (b.vltReply 2 h (attrStatus use alg) [])) ∧
      ∀ k, keyStatus (b.akey w) useWrap false [0] = 0 → attrStatus use alg = 0 → Config.kwUnwrap (b.keyBytes w) wr = some k →
        (kcvOf (beBytes 32 k.toNat) = kcv → exec (.importKey h slot w use alg att kcv wr) s = .next ((b.setCand slot
          (some { key := beBytes 32 k.toNat, alg := alg, use := use, att := att, kcv := kcv })).vltReply 2 h 0 [])) ∧
        (kcvOf (beBytes 32 k.toNat) ≠ kcv → exec (.importKey h slot w use alg att kcv wr) s =
          .next (((b.count F.VLT_CNT_KCVERR).raise 0x1403 slot).vltReply 2 h 7 []))) ∧
    ((kcv.length ≠ 3 ∨ wr.length ≠ 40) → exec (.importKey h slot w use alg att kcv wr) s = .next (b.vltReply 2 h 0x02 [])) ∧
    (salt.length ≤ 64 → 1 ≤ info.length → info.length ≤ 128 → keyStatus (b.akey w) useDerive false [0, 1] = 0 → w ≠ slot → attrStatus use alg = 0 →
      let key := hkdf (b.keyBytes w) salt info
      exec (.derive h w slot use alg att salt info) s = .next ((b.setCand slot
        (some { key := key, alg := alg, use := use, att := att, kcv := kcvOf key })).vltReply 6 h 0 (kcvOf key))) ∧
    (salt.length ≤ 64 → 1 ≤ info.length → info.length ≤ 128 → let st := keyStatus (b.akey w) useDerive false [0, 1]
      (st ≠ 0 → exec (.derive h w slot use alg att salt info) s = .next (b.vltReply 6 h st [])) ∧
      (st = 0 → w = slot → exec (.derive h w slot use alg att salt info) s = .next (b.vltReply 6 h 0x04 [])) ∧
      (st = 0 → w ≠ slot → attrStatus use alg ≠ 0 →
        exec (.derive h w slot use alg att salt info) s = .next (b.vltReply 6 h (attrStatus use alg) []))) ∧
    ((64 < salt.length ∨ info = [] ∨ 128 < info.length) → exec (.derive h w slot use alg att salt info) s = .next (b.vltReply 6 h 0x02 [])) ∧
    ((a.kslot slot).cand = none → exec (.vaultCommit h slot) s = .next (a.vltReply 3 h 0x08 [])) ∧
    (∀ c, (a.kslot slot).cand = some c →
      (a.imageKey slot = true → exec (.vaultCommit h slot) s = .next (a.vltReply 3 h 0x09 [])) ∧
      (a.imageKey slot = false → exec (.vaultCommit h slot) s = .next (((a.setKslot slot { a.kslot slot with
        active := some c, cand := none, commits := (a.kslot slot).commits + 1 }).raise 0x1402 slot).vltReply 3 h 0 []))) ∧
    exec (.vaultCancel h slot) s = .next (b.vltReply 4 h 0 []) ∧
    ((a.imageKey slot || a.templateKey slot || a.lastWrap slot) = true → exec (.erase h slot) s = .next (a.vltReply 5 h 0x09 [])) ∧
    ((a.imageKey slot || a.templateKey slot || a.lastWrap slot) = false →
      exec (.erase h slot) s = .next ((a.setKslot slot { a.kslot slot with active := none, cand := none }).vltReply 5 h 0 [])) ∧
    exec (.keyinfo h slot) s = .next (a.vltReply 1 h 0 ((match (a.kslot slot).active with
        | none => [0, 0, 0]
        | some x => [BitVec.ofNat 8 x.alg, BitVec.ofNat 8 x.use, BitVec.ofNat 8 (ofBool x.att)]) ++
      [BitVec.ofNat 8 (ofBool (a.kslot slot).active.isSome), BitVec.ofNat 8 (ofBool (a.kslot slot).cand.isSome)] ++
      (((a.kslot slot).active.map (fun k => k.kcv)).getD [0, 0, 0]) ++ (((a.kslot slot).cand.map (fun k => k.kcv)).getD [0, 0, 0]) ++
      leBytes 4 (a.kslot slot).commits)) ∧
    exec (.selftest h) s = .next ((a.put F.VLT_STATUS_TESTING 1).setVlt { a.vlt with testing := some h.tag })

/-- R367, R370, R375, R377, R378: a slot whose active key has the USE and ALG serves MAC, VERIFY, ENCRYPT, DECRYPT and ATTEST, and refuses them with a status
otherwise; two different invocations never give ENCRYPT the same IV; an anchor is written once, and again only under a signature of the key that stands;
the reply to SELFTEST names the first test that failed, one that stops the vault before the test of the slots. The IV's byte order is the model's
choice (log entry 18). -/
def Obligations.KeysServeTheirUse : Prop :=
  ∀ (s : State) (h : Hdr) (slot idx n : Nat) (iv d tag aad sig key nonce : Bytes) (k : Key) (bad : List Nat), s.inTurn 0xD h = true → h.src = 0 →
    let a := s.took 0xD h
    a.flag F.VLT_STATUS_TESTING = false → a.flag F.VLT_STATUS_FAIL = false → a.flag F.VLT_STATUS_ROOT = true → slot < 256 → iv.length = 12 →
    (a.akey slot = some k → k.use = useEncrypt → k.att = false → k.alg ≤ 1 → 1 ≤ d.length → d.length ≤ 1984 →
      exec (.mac h slot iv d) s = .next (a.vltReply 7 h 0 (macOf k iv d))) ∧
    (let st := keyStatus (a.akey slot) useEncrypt false [0, 1]
     st ≠ 0 → 1 ≤ d.length → d.length ≤ 1984 → exec (.mac h slot iv d) s = .next (a.vltReply 7 h st [])) ∧
    (let st := keyStatus (a.akey slot) useDecrypt false [0, 1]
     st ≠ 0 → exec (.verify h slot iv d) s = .next (a.vltReply 8 h st [])) ∧
    (let st := keyStatus (a.akey slot) useEncrypt false [0]
     st ≠ 0 → aad.length + d.length ≤ 1900 → exec (.encrypt h slot aad d) s = .next (a.vltReply 9 h st [])) ∧
    (let st := keyStatus (a.akey slot) useDecrypt false [0]
     st ≠ 0 → tag.length = 16 → aad.length + d.length ≤ 2014 → exec (.decrypt h slot iv aad d tag) s = .next (a.vltReply 0xA h st [])) ∧
    (let st := keyStatus (a.akey slot) useEncrypt true [1]
     st ≠ 0 → nonce.length = 16 → exec (.attest h slot nonce) s = .next (a.vltReply 0xC h st [])) ∧
    (a.akey slot = some k → k.use = useDecrypt → k.att = false → k.alg ≤ 1 → 1 ≤ d.length → d.length ≤ 1984 →
      tag.length = (if k.alg = 1 then 32 else 16) →
      (macOf k iv d = tag → exec (.verify h slot iv (d ++ tag)) s = .next (a.vltReply 8 h 0 [])) ∧
      (macOf k iv d ≠ tag → exec (.verify h slot iv (d ++ tag)) s = .next (a.vltReply 8 h 0x0A []))) ∧
    (a.akey slot = some k → k.use = useEncrypt → k.att = false → k.alg = 0 → aad.length + d.length ≤ 1900 →
      let e := encryptIv slot (a.kslot slot).inv
      let c := gcmCrypt k.key e d
      exec (.encrypt h slot aad d) s = .next ((a.setKslot slot { a.kslot slot with inv := ((a.kslot slot).inv + 1) % 2 ^ 64 }).vltReply 9 h 0
        (e ++ c ++ gcmTag k.key e aad c))) ∧
    (∀ i j x y : Nat, i < 256 → j < 256 → x < 2 ^ 64 → y < 2 ^ 64 → encryptIv i x = encryptIv j y → i = j ∧ x = y) ∧
    (a.akey slot = some k → k.use = useDecrypt → k.att = false → k.alg = 0 → tag.length = 16 → aad.length + d.length ≤ 2014 →
      (gcmTag k.key iv aad d = tag → exec (.decrypt h slot iv aad d tag) s = .next (a.vltReply 0xA h 0 (gcmCrypt k.key iv d))) ∧
      (gcmTag k.key iv aad d ≠ tag → exec (.decrypt h slot iv aad d tag) s = .next (a.vltReply 0xA h 0x0A []))) ∧
    (a.akey slot = some k → k.use = useEncrypt → k.att = true → k.alg = 1 → nonce.length = 16 →
      exec (.attest h slot nonce) s = .next (a.vltReply 0xC h 0 (a.attestBody nonce ++ hmac256 k.key (a.attestBody nonce)))) ∧
    (idx < 16 → key.length = 64 → (sig.length = 0 ∨ sig.length = 64) →
      let w := (a.setVlt { a.vlt with anchors := Sp.put [] a.vlt.anchors idx key }).vltReply 0xB h 0 []
      (a.anchor idx = none → exec (.anchor h idx key sig) s = .next w) ∧
      ∀ old, a.anchor idx = some old →
        (sig = [] → exec (.anchor h idx key sig) s = .next (a.vltReply 0xB h 0x0C [])) ∧
        (sig ≠ [] → Config.ecdsaOk old (sha256 ([BitVec.ofNat 8 idx] ++ key)) sig = true → exec (.anchor h idx key sig) s = .next w) ∧
        (sig ≠ [] → Config.ecdsaOk old (sha256 ([BitVec.ofNat 8 idx] ++ key)) sig = false →
          exec (.anchor h idx key sig) s = .next (a.vltReply 0xB h 0x0A []))) ∧
    (s.vlt.testing = none → exec (.selftestComplete n bad) s = .next s) ∧
    (∀ g, s.vlt.testing = some g → let u := (s.put F.VLT_STATUS_TESTING 0).setVlt { s.vlt with testing := none };
      let m : Nat → Msg := fun x =>
        { cls := 0xD, last := true, reply := true, err := false, src := 0x40, tgt := 0, op := 0x000D, tag := g,
          payload := [0, 0, 0, 0, BitVec.ofNat 8 x] };
      ((n < 2 ∨ 9 < n) → exec (.selftestComplete n []) s = .next (u.send (m 0)) ∧
        (bad ≠ [] → exec (.selftestComplete n bad) s = .next ((u.emptyDamaged bad).send (m 10)))) ∧
      (2 ≤ n → n ≤ 9 → exec (.selftestComplete n bad) s = .next ((((u.put F.VLT_STATUS_FAIL 1).raise 0x1401 n).emptyDamaged bad).send (m n))))

/-! ## Redundancy (R381 to R400) -/

/-- R382, R386 to R390: a holder renews when no renewal departure has come for LEASE / 4; its lease ends unless it is extended, and with it the token; TAKE
and RELEASE need their key and are refused to who may not; a module takes a position that has been silent for LEASE + GUARD, unless a renewal arrives
in the clock of the take (R398). -/
def Obligations.TokensAreTakenAndLost : Prop :=
  ∀ (s : State) (key pos t : Nat),
    let a := s.advance t
    (a.redundant = true → a.tok.renewAt + a.leaseNs / 4 ≤ a.now →
      exec (.catchupRenewal t) s = .next (a.reportRed (fun s => s.renew.count F.TOK_CNT2_CATCHUP))) ∧
    ((a.redundant = false ∨ a.now < a.tok.renewAt + a.leaseNs / 4) → exec (.catchupRenewal t) s = .next a) ∧
    (∀ p e, a.heldPos = some p → a.tok.lease = some e →
      (a.now < e → exec (.leaseExpiry t) s = .next a) ∧
      (e ≤ a.now → exec (.leaseExpiry t) s = .next (a.reportRed (fun s =>
        let s := (s.loseToken p).count F.TOK_CNT_EXPIRIES
        (s.put F.TOK_STATUS_HEARD 0).setTok { s.tok with heardAt := none })))) ∧
    (a.heldPos = none → exec (.leaseExpiry t) s = .next a) ∧
    (a.mayTake pos = true → exec (.tokenTake pos t false) s = .next (a.reportRed (fun s => s.takeToken pos))) ∧
    (∀ renewal, (renewal = true ∨ a.mayTake pos = false) → exec (.tokenTake pos t renewal) s = .next a) ∧
    (∀ x, a.mayTake pos = true → (a.pos pos).heardAt = some x → a.heldPos = none ∧ a.takeNs ≤ a.now - x) ∧
    (key ≠ 0x5A3C → exec (.take key pos t) s = .next a ∧ exec (.release key t) s = .next a) ∧
    ((a.posOk pos = false ∨ a.heldPos.isSome = true ∨ a.recentRenewal pos = true) →
      exec (.take 0x5A3C pos t) s = .next (a.count F.TOK_CNT4_CMDREF)) ∧
    (a.posOk pos = true → a.heldPos = none → a.recentRenewal pos = false →
      exec (.take 0x5A3C pos t) s = .next (a.reportRed (fun s => s.takeToken pos))) ∧
    (a.heldPos = none → exec (.release 0x5A3C t) s = .next (a.count F.TOK_CNT4_CMDREF)) ∧
    (∀ p, a.heldPos = some p → exec (.release 0x5A3C t) s = .next (a.reportRed (fun s => s.loseToken p)))

/-- R383 to R393: what becomes of a pair-link frame: outside a redundant mode, with a bad CRC or of another version it is discarded; the first copy of each
is acted on and another only heard. A renewal is acknowledged on its link, an acknowledgement extends the lease, checkpoints and RETAIN lines go
to a standby.

R384, R391 to R393, R399: a link that has been silent for LEASE / 2 or has no link is down, with event 0x1603; a peer that is silent for LEASE + GUARD is
lost, with event 0x1604 (in Pair mode both PEERS bits are the one peer's); a holder streams its checkpoints, and a standby writes the RETAIN mirror that
it has to its MRAM, each at most every 20 ms; the status message is sent with the registers of R399. -/
def Obligations.PairLinkFramesAndPeers : Prop :=
  (∀ (s : State) (tw pos rseq ts i dh pe off tot cyc first t : Nat) (h : PlHdr) (rel : List (Nat × Nat)) (img : Bytes),
    let a := s.advance t
    let once := fun (type : Nat) (act : State → State) => a.reportRed (fun w =>
      let w := w.plHeard tw
      let live := w.tok.seen.filter (fun e => decide (w.since e.2.2.2 < w.leaseNs / 2))
      if live.any (fun e => e.1 == h.serial && e.2.1 == type && e.2.2.1 == h.seq.toNat) then w.setTok { w.tok with seen := live }
      else act (w.setTok { w.tok with seen := live ++ [(h.serial, type, h.seq.toNat, w.now)] }))
    ((a.redundant = false ∨ h.crcOk = false ∨ h.ver ≠ 1) →
      exec (.renewFrame tw h pos rseq ts rel t) s = .next a ∧ exec (.acknowledgeFrame tw h pos rseq t) s = .next a ∧
      exec (.checkpointFrame tw h i dh pe off tot img t) s = .next a ∧ exec (.retainFrame tw h cyc first img t) s = .next a) ∧
    (a.redundant = true → h.crcOk = true → h.ver = 1 →
      exec (.renewFrame tw h pos rseq ts rel t) s = .next (once 0x10 (fun w =>
        let w := w.setTok { w.tok with maxTake := Nat.max w.tok.maxTake ts }
        let w := (List.zip [0, 1] rel).foldl (fun s e => s.heardRelay e.1 e.2) w
        if 1 < pos then w
        else ((w.heardRenewal pos rseq w.now).plSendOn tw 0x11 ([BitVec.ofNat 8 pos, 0, 0, 0] ++ beBytes 4 rseq)).conflict pos ts h.serial)) ∧
      exec (.acknowledgeFrame tw h pos rseq t) s = .next (once 0x11 (fun w => if w.heldPos = some pos then w.acknowledged pos rseq else w)) ∧
      exec (.checkpointFrame tw h i dh pe off tot img t) s = .next (once 0x12 (fun w =>
        if w.streamFrom h then w.checkpointPart h i dh pe off tot img else w)) ∧
      exec (.retainFrame tw h cyc first img t) s = .next (once 0x13 (fun w => if w.streamFrom h then w.retainLines cyc first img else w))) ∧
    (∀ e x, s.tok.lease = some e → s.now < e → (s.pos pos).sent.find? (fun y => y.1 == rseq) = some x →
      (s.now ≤ x.2 + 2 * s.linklatNs → s.acknowledged pos rseq = s.setTok { s.tok with lease := some (Nat.max e (x.2 + s.leaseNs)) }) ∧
      (x.2 + 2 * s.linklatNs < s.now → s.acknowledged pos rseq = s.count F.TOK_CNT2_LATEACK))) ∧
  (∀ (s : State) (tw p t : Nat),
    let a := s.advance t
    let silent := ∀ x, (a.port (16 + tw)).heard = some x → a.leaseNs / 2 ≤ a.now - x
    (a.redundant = true → bit (a.get F.TOK_STATUS_LINKS) tw = true → (a.flag (F.PRT_STATUS_LINK (16 + tw)) = false ∨ silent) →
      exec (.pairLinkDown tw t) s = .next (a.reportRed (fun s =>
        ((s.putBit F.TOK_STATUS_LINKS tw false).raise 0x1603 tw).count F.TOK_CNT3_LINKDN))) ∧
    ((a.redundant = false ∨ bit (a.get F.TOK_STATUS_LINKS) tw = false ∨ (a.flag (F.PRT_STATUS_LINK (16 + tw)) = true ∧ ¬ silent)) →
      exec (.pairLinkDown tw t) s = .next a) ∧
    (a.redundant = true → a.twinMode = true → bit (a.get F.TOK_STATUS_PEERS) p = true → Sp.get 0 a.tok.peerAt p + a.takeNs ≤ a.now + 1 →
      exec (.peerLost p t) s = .next (a.reportRed (fun s => (s.putBit F.TOK_STATUS_PEERS p false).raise 0x1604 0))) ∧
    (a.redundant = true → a.twinMode = false → bit (a.get F.TOK_STATUS_PEERS) p = true → Sp.get 0 a.tok.peerAt p + a.takeNs ≤ a.now + 1 →
      exec (.peerLost p t) s = .next (a.reportRed (fun s =>
        ((s.putBit F.TOK_STATUS_PEERS 0 false).putBit F.TOK_STATUS_PEERS 1 false).raise 0x1604 0))) ∧
    ((a.redundant = false ∨ bit (a.get F.TOK_STATUS_PEERS) p = false ∨ a.now + 1 < Sp.get 0 a.tok.peerAt p + a.takeNs) →
      exec (.peerLost p t) s = .next a) ∧
    (a.redundant = true → a.heldPos.isSome = true → (∀ x, a.tok.streamAt = some x → x + 20000000 ≤ a.now) →
      let u := a.setTok { a.tok with period := (a.tok.period + 1) % 2 ^ 32, streamAt := some a.now }
      exec (.checkpointStream t) s = .next (u.pInstances.foldl State.streamInst u)) ∧
    ((a.redundant = false ∨ a.heldPos = none ∨ (∃ x, a.tok.streamAt = some x ∧ a.now < x + 20000000)) →
      exec (.checkpointStream t) s = .next a) ∧
    (∀ p b, a.lge.prog = some p → a.standby = true → a.tok.mirror ≠ [] → a.mirrorRetain = some b →
      (∀ x, a.tok.mirrorAt = some x → x + 20000000 ≤ a.now) →
      let u := a.setLge { a.lge with retStaged := some b, retPrior := none, retCommit := none }
      exec (.retainMirrorWrite t) s = .next ((u.setTok { u.tok with mirrorAt := some a.now }).writeNow (.retain b))) ∧
    ((a.standby = false ∨ (∃ x, a.tok.mirrorAt = some x ∧ a.now < x + 20000000)) → exec (.retainMirrorWrite t) s = .next a) ∧
    exec (.redundancyStatus t) s = .next (a.showSync.send (stMsg 0xF 0x0001 a.showSync.redStatus)))
end

