-- ==== Sys2Proof/Laws/Keeps.lean ====
section
/-!
SUPPORT. What every operation and every command keeps: the queue of commands, the direction of the raw TIME counter, the canonical
form of memory and of the register table, and the event log but for records added. One lemma per operation, from the
primitive updates up to `exec_keeps`. Each reads: what leads from `r₀` to `s` in this way, leads on to the result.
-/
set_option linter.unusedVariables false
set_option linter.unusedTactic false
set_option linter.unreachableTactic false
namespace Sys2Proof.Machine

/-! ## Sparse tables -/

theorem Sp.rising_none_of_some {α : Type} {lo : Nat} {l : List (Nat × α)} (h : Sp.rising (some lo) l = true) :
    Sp.rising none l = true := by
  cases l with
  | nil => rfl
  | cons e r => obtain ⟨j, v⟩ := e; simp [Sp.rising] at h ⊢; exact h.2

theorem Sp.rising_insert {α : Type} (k : Nat) (v : α) : ∀ (l : List (Nat × α)) (lo : Option Nat),
    (∀ n, lo = some n → n < k) → Sp.rising lo l = true → Sp.rising lo (Sp.insert l k v) = true
  | [], none, _, _ => rfl
  | [], some n, h, _ => by simp [Sp.insert, Sp.rising, h n rfl]
  | (j, w) :: r, lo, h, hr => by
    have ht : Sp.rising (some j) r = true := by
      cases lo <;> simp_all [Sp.rising]
    unfold Sp.insert
    split
    · cases lo <;> simp_all [Sp.rising]
    · split
      · subst_vars; cases lo <;> simp_all [Sp.rising]
      · have := Sp.rising_insert k v r (some j) (by intro n e; cases e; omega) ht
        cases lo <;> simp_all [Sp.rising]

theorem Sp.rising_mono {α : Type} {a b : Nat} (hab : a ≤ b) : ∀ {l : List (Nat × α)}, Sp.rising (some b) l = true →
    Sp.rising (some a) l = true
  | [], _ => rfl
  | (j, w) :: r, h => by simp [Sp.rising] at h ⊢; exact ⟨by omega, h.2⟩

theorem Sp.rising_weaken {α : Type} {lo : Option Nat} {j : Nat} {r : List (Nat × α)} (h : ∀ n, lo = some n → n ≤ j)
    (hr : Sp.rising (some j) r = true) : Sp.rising lo r = true := by
  cases lo with
  | none => exact Sp.rising_none_of_some hr
  | some n => exact Sp.rising_mono (h n rfl) hr

theorem Sp.rising_filter {α : Type} (p : Nat × α → Bool) : ∀ (l : List (Nat × α)) (lo : Option Nat),
    Sp.rising lo l = true → Sp.rising lo (l.filter p) = true
  | [], _, h => h
  | (j, w) :: r, lo, h => by
    have ht : Sp.rising (some j) r = true := by cases lo <;> simp_all [Sp.rising]
    have hj : ∀ n, lo = some n → n ≤ j := by intro n e; subst e; simp [Sp.rising] at h; omega
    have ih := Sp.rising_filter p r (some j) ht
    rw [List.filter_cons]
    split
    · cases lo <;> simp_all [Sp.rising]
    · exact Sp.rising_weaken hj ih

theorem Sp.rising_erase {α : Type} (k : Nat) : ∀ (l : List (Nat × α)) (lo : Option Nat),
    Sp.rising lo l = true → Sp.rising lo (Sp.erase l k) = true
  | [], _, h => h
  | (j, w) :: r, lo, h => by
    have ht : Sp.rising (some j) r = true := by cases lo <;> simp_all [Sp.rising]
    have hj : ∀ n, lo = some n → n ≤ j := by intro n e; subst e; simp [Sp.rising] at h; omega
    unfold Sp.erase
    split
    · exact h
    · split
      · exact Sp.rising_weaken hj ht
      · have := Sp.rising_erase k r (some j) ht
        cases lo <;> simp_all [Sp.rising]

theorem Sp.rising_put {α : Type} [DecidableEq α] (d : α) {l : List (Nat × α)} (k : Nat) (v : α)
    (h : Sp.rising none l = true) : Sp.rising none (Sp.put d l k v) = true := by
  unfold Sp.put
  split
  · exact Sp.rising_erase k l none h
  · exact Sp.rising_insert k v l none (by simp) h

theorem Sp.mem_insert {α : Type} {k : Nat} {v : α} : ∀ {l : List (Nat × α)} {e : Nat × α},
    e ∈ Sp.insert l k v → e = (k, v) ∨ e ∈ l
  | [], e, h => by simp [Sp.insert] at h; exact Or.inl h
  | (j, w) :: r, e, h => by
    unfold Sp.insert at h
    split at h
    · simpa using h
    · split at h
      · simp at h; rcases h with h | h <;> simp [h]
      · simp at h
        rcases h with h | h
        · simp [h]
        · rcases Sp.mem_insert h with h | h <;> simp [h]

theorem Sp.mem_erase {α : Type} {k : Nat} : ∀ {l : List (Nat × α)} {e : Nat × α}, e ∈ Sp.erase l k → e ∈ l
  | [], e, h => h
  | (j, w) :: r, e, h => by
    unfold Sp.erase at h
    split at h
    · exact h
    · split at h
      · simp [h]
      · simp at h
        rcases h with h | h
        · simp [h]
        · simp [Sp.mem_erase h]

theorem Sp.wf_put {α : Type} [DecidableEq α] (d : α) {l : List (Nat × α)} (k : Nat) (v : α)
    (h : Sp.wf d l = true) : Sp.wf d (Sp.put d l k v) = true := by
  simp only [Sp.wf, Bool.and_eq_true, List.all_eq_true, decide_eq_true_eq] at h ⊢
  refine ⟨Sp.rising_put d k v h.1, ?_⟩
  intro e he
  unfold Sp.put at he
  split at he
  · exact h.2 e (Sp.mem_erase he)
  · rcases Sp.mem_insert he with rfl | he
    · assumption
    · exact h.2 e he

theorem Sp.wf_filter {α : Type} [DecidableEq α] (d : α) {l : List (Nat × α)} (p : Nat × α → Bool)
    (h : Sp.wf d l = true) : Sp.wf d (l.filter p) = true := by
  simp only [Sp.wf, Bool.and_eq_true, List.all_eq_true, decide_eq_true_eq] at h ⊢
  refine ⟨Sp.rising_filter p l none h.1, ?_⟩
  intro e he
  exact h.2 e (List.mem_of_mem_filter he)

/-- What every command keeps: the queue, the direction of the raw TIME counter, a sound state, and the event log but for records
added. -/
def Keeps (s t : State) : Prop :=
  t.pending = s.pending ∧ s.now ≤ t.now ∧ (s.Sound → t.Sound ∧ LogGrows s t)

/-- The same of an outcome, which is a next state. -/
def KeepsOut (s : State) (o : Out State) : Prop := ∃ t, o = .next t ∧ Keeps s t

theorem keepLast_length {α : Type} (n : Nat) (l : List α) : (keepLast n l).length ≤ n := by
  unfold keepLast
  rw [List.length_drop]
  omega

theorem keepLast_all {α : Type} {n : Nat} {l : List α} (h : l.length ≤ n) : keepLast n l = l := by
  unfold keepLast
  rw [Nat.sub_eq_zero_of_le h, List.drop_zero]

theorem keepLast_append {α : Type} (n : Nat) (l m : List α) : keepLast n (keepLast n l ++ m) = keepLast n (l ++ m) := by
  by_cases h : l.length ≤ n
  · rw [keepLast_all h]
  · unfold keepLast
    have e : l.drop (l.length - n) ++ m = (l ++ m).drop (l.length - n) := by
      rw [List.drop_append, Nat.sub_eq_zero_of_le (Nat.sub_le _ _), List.drop_zero]
    rw [e, List.drop_drop]
    congr 1
    simp only [List.length_drop, List.length_append]
    omega

theorem Keeps.refl (s : State) : Keeps s s :=
  ⟨rfl, Nat.le_refl _, fun h => ⟨h, [], by rw [List.append_nil, keepLast_all h.2.2]⟩⟩

theorem Keeps.out {s t : State} (h : Keeps s t) : KeepsOut s (.next t) := ⟨t, rfl, h⟩

theorem Keeps.ite {r a b : State} {c : Prop} [Decidable c] (h1 : Keeps r a) (h2 : Keeps r b) :
    Keeps r (if c then a else b) := by split <;> assumption

theorem Keeps.ite1 {α : Type} {r : State} {a b : State × α} {c : Prop} [Decidable c] (h1 : Keeps r a.1) (h2 : Keeps r b.1) :
    Keeps r (if c then a else b).1 := by split <;> assumption

theorem Keeps.foldl {α : Type} {r s : State} {f : State → α → State} {l : List α} (h : Keeps r s)
    (hf : ∀ y a, Keeps r y → Keeps r (f y a)) : Keeps r (l.foldl f s) := by
  induction l generalizing s with
  | nil => exact h
  | cons a l ih => exact ih (hf s a h)

theorem Keeps.foldl1 {α β : Type} {r : State} {f : State × β → α → State × β} {l : List α} {x : State × β} (h : Keeps r x.1)
    (hf : ∀ y a, Keeps r y.1 → Keeps r (f y a).1) : Keeps r (l.foldl f x).1 := by
  induction l generalizing x with
  | nil => exact h
  | cons a l ih => exact ih (hf x a h)

theorem Keeps.each {α : Type} {r s : State} {l : List α} {f : State → α → State} (h : Keeps r s)
    (hf : ∀ y a, Keeps r y → Keeps r (f y a)) : Keeps r (s.each l f) := Keeps.foldl h hf

theorem State.setRegs_keeps {r s : State} (h : Keeps r s) (v : List (Nat × Nat))
    (hv : Sp.rising none s.regs = true → Sp.rising none v = true) : Keeps r (s.setRegs v) :=
  ⟨h.1, h.2.1, fun x => let y := h.2.2 x; ⟨⟨y.1.1, hv y.1.2.1, y.1.2.2⟩, y.2⟩⟩

theorem State.setMem_keeps {r s : State} (h : Keeps r s) (v : List Host.Cell)
    (hv : Memory.wf s.mem = true → Memory.wf v = true) : Keeps r (s.setMem v) :=
  ⟨h.1, h.2.1, fun x => let y := h.2.2 x; ⟨⟨hv y.1.1, y.1.2⟩, y.2⟩⟩

theorem State.setLog_keeps {r s : State} (h : Keeps r s) (v : List Event) (n : v.length ≤ 65536)
    (k : LogGrows r s → ∃ es : List Event, v = keepLast 65536 (r.log ++ es)) : Keeps r (s.setLog v) :=
  ⟨h.1, h.2.1, fun x => let y := h.2.2 x; ⟨⟨y.1.1, y.1.2.1, n⟩, k y.2⟩⟩

theorem State.addLog_keeps {r s : State} (h : Keeps r s) (e : Event) : Keeps r (s.setLog (keepLast 65536 (s.log ++ [e]))) :=
  State.setLog_keeps h _ (keepLast_length _ _) (fun ⟨es, z⟩ => ⟨es ++ [e], by
    rw [z, keepLast_append, List.append_assoc]⟩)

theorem State.setFree_keeps {r s : State} (h : Keeps r s) (v : Nat) : Keeps r (State.setFree s v) := h

theorem State.setSnap_keeps {r s : State} (h : Keeps r s) (v : List (Nat × Nat)) : Keeps r (State.setSnap s v) := h

theorem State.setLink_keeps {r s : State} (h : Keeps r s) (v : LinkS) : Keeps r (State.setLink s v) := h

theorem State.setHost_keeps {r s : State} (h : Keeps r s) (v : HostS) : Keeps r (State.setHost s v) := h

theorem State.setPower_keeps {r s : State} (h : Keeps r s) (v : PowerS) : Keeps r (State.setPower s v) := h

theorem State.setRbk_keeps {r s : State} (h : Keeps r s) (v : RbkS) : Keeps r (State.setRbk s v) := h

theorem State.setPorts_keeps {r s : State} (h : Keeps r s) (v : List (Nat × PortS)) : Keeps r (State.setPorts s v) := h

theorem State.setTrips_keeps {r s : State} (h : Keeps r s) (v : List (Nat × TripS)) : Keeps r (State.setTrips s v) := h

theorem State.setTbs_keeps {r s : State} (h : Keeps r s) (v : List (Nat × TbS)) : Keeps r (State.setTbs s v) := h

theorem State.setTin_keeps {r s : State} (h : Keeps r s) (v : TinS) : Keeps r (State.setTin s v) := h

theorem State.setTtb_keeps {r s : State} (h : Keeps r s) (v : TtbS) : Keeps r (State.setTtb s v) := h

theorem State.setSvi_keeps {r s : State} (h : Keeps r s) (v : SviS) : Keeps r (State.setSvi s v) := h

theorem State.setFch_keeps {r s : State} (h : Keeps r s) (v : FchS) : Keeps r (State.setFch s v) := h

theorem State.setPfs_keeps {r s : State} (h : Keeps r s) (v : List (Nat × PfS)) : Keeps r (State.setPfs s v) := h

theorem State.setMar_keeps {r s : State} (h : Keeps r s) (v : MarS) : Keeps r (State.setMar s v) := h

theorem State.setPub_keeps {r s : State} (h : Keeps r s) (v : PubS) : Keeps r (State.setPub s v) := h

theorem State.setAcq_keeps {r s : State} (h : Keeps r s) (v : AcqS) : Keeps r (State.setAcq s v) := h

theorem State.setLge_keeps {r s : State} (h : Keeps r s) (v : LgeS) : Keeps r (State.setLge s v) := h

theorem State.setHlx_keeps {r s : State} (h : Keeps r s) (v : HlxS) : Keeps r (State.setHlx s v) := h

theorem State.setIns_keeps {r s : State} (h : Keeps r s) (v : InsS) : Keeps r (State.setIns s v) := h

theorem State.setVlt_keeps {r s : State} (h : Keeps r s) (v : VltS) : Keeps r (State.setVlt s v) := h

theorem State.setTok_keeps {r s : State} (h : Keeps r s) (v : TokS) : Keeps r (State.setTok s v) := h

theorem State.put_keeps {r s : State} (h : Keeps r s) (f : Fld) (v : Nat) : Keeps r (s.put f v) :=
  State.setRegs_keeps h _ (Sp.rising_put _ _ _)

theorem State.wr_keeps {r s : State} (h : Keeps r s) (a : Nat) (b : Byte) : Keeps r (s.wr a b) :=
  State.setMem_keeps h _ (Sp.wf_put _ _ _)

theorem State.wrN_keeps {r s : State} (h : Keeps r s) (a : Nat) (b : Bytes) : Keeps r (s.wrN a b) := by
  induction b generalizing s a with
  | nil => exact h
  | cons x b ih => exact ih (State.wr_keeps h a x) (a + 1)

theorem State.zeroMem_keeps {r s : State} (h : Keeps r s) (lo hi : Nat) : Keeps r (s.zeroMem lo hi) :=
  State.setMem_keeps h _ (Sp.wf_filter _ _)

theorem State.draw_keeps {r s : State} (h : Keeps r s) : Keeps r s.draw.1 := h

theorem State.putB_keeps {r₀ s : State} (h : Keeps r₀ s) (f : Fld) (b : Bool) :
    Keeps r₀ (State.putB s f b) := by
  unfold State.putB
  repeat' first
    | with_reducible (first | assumption | apply State.put_keeps)
    | intro y hy

theorem State.putI_keeps {r₀ s : State} (h : Keeps r₀ s) (f : Fld) (v : Int) :
    Keeps r₀ (State.putI s f v) := by
  unfold State.putI
  repeat' first
    | with_reducible (first | assumption | apply State.put_keeps)
    | intro y hy

theorem State.clear_keeps {r₀ s : State} (h : Keeps r₀ s) (f : Fld) :
    Keeps r₀ (State.clear s f) := by
  unfold State.clear
  repeat' first
    | with_reducible (first | assumption | apply State.put_keeps | apply State.reset_keeps)
    | intro y hy

theorem State.clearAll_keeps {r₀ s : State} (h : Keeps r₀ s) (fs : List Fld) :
    Keeps r₀ (State.clearAll s fs) := by
  unfold State.clearAll
  repeat' first
    | with_reducible (first | assumption | apply State.clear_keeps)
    | (with_reducible apply Keeps.foldl <;> [skip; intros])
    | (with_reducible apply Keeps.foldl1 <;> [skip; intros])
    | intro y hy

theorem State.peak_keeps {r₀ s : State} (h : Keeps r₀ s) (f : Fld) (v : Nat) :
    Keeps r₀ (State.peak s f v) := by
  unfold State.peak
  repeat' first
    | with_reducible (first | assumption | apply State.put_keeps | apply Keeps.ite)
    | intro y hy

theorem State.setPort_keeps {r₀ s : State} (h : Keeps r₀ s) (p : Nat) (v : PortS) :
    Keeps r₀ (State.setPort s p v) := by
  unfold State.setPort
  repeat' first
    | with_reducible (first | assumption | apply State.setPorts_keeps | apply State.put_keeps)
    | intro y hy

theorem State.setTrip_keeps {r₀ s : State} (h : Keeps r₀ s) (d : Nat) (v : TripS) :
    Keeps r₀ (State.setTrip s d v) := by
  unfold State.setTrip
  repeat' first
    | with_reducible (first | assumption | apply State.setTrips_keeps | apply State.put_keeps)
    | intro y hy

theorem State.setTb_keeps {r₀ s : State} (h : Keeps r₀ s) (b : Nat) (v : TbS) :
    Keeps r₀ (State.setTb s b v) := by
  unfold State.setTb
  repeat' first
    | with_reducible (first | assumption | apply State.setTbs_keeps | apply State.put_keeps)
    | intro y hy

theorem State.setPf_keeps {r₀ s : State} (h : Keeps r₀ s) (p : Nat) (v : PfS) :
    Keeps r₀ (State.setPf s p v) := by
  unfold State.setPf
  repeat' first
    | with_reducible (first | assumption | apply State.setPfs_keeps | apply State.put_keeps)
    | intro y hy

theorem State.setInst_keeps {r₀ s : State} (h : Keeps r₀ s) (i : Nat) (v : InstS) :
    Keeps r₀ (State.setInst s i v) := by
  unfold State.setInst
  repeat' first
    | with_reducible (first | assumption | apply State.setIns_keeps | apply State.put_keeps)
    | intro y hy

theorem State.setChan_keeps {r₀ s : State} (h : Keeps r₀ s) (c : Nat) (v : ChanS) :
    Keeps r₀ (State.setChan s c v) := by
  unfold State.setChan
  repeat' first
    | with_reducible (first | assumption | apply State.setIns_keeps | apply State.put_keeps)
    | intro y hy

theorem State.setStream_keeps {r₀ s : State} (h : Keeps r₀ s) (i : Nat) (v : StreamS) :
    Keeps r₀ (State.setStream s i v) := by
  unfold State.setStream
  repeat' first
    | with_reducible (first | assumption | apply State.setSvi_keeps | apply State.put_keeps)
    | intro y hy

theorem State.setLane_keeps {r₀ s : State} (h : Keeps r₀ s) (i : Nat) (v : LaneS) :
    Keeps r₀ (State.setLane s i v) := by
  unfold State.setLane
  repeat' first
    | with_reducible (first | assumption | apply State.setFch_keeps | apply State.put_keeps)
    | intro y hy

theorem State.setGroup_keeps {r₀ s : State} (h : Keeps r₀ s) (i : Nat) (v : GroupS) :
    Keeps r₀ (State.setGroup s i v) := by
  unfold State.setGroup
  repeat' first
    | with_reducible (first | assumption | apply State.setFch_keeps | apply State.put_keeps)
    | intro y hy

theorem State.setGoose_keeps {r₀ s : State} (h : Keeps r₀ s) (i : Nat) (v : GooseS) :
    Keeps r₀ (State.setGoose s i v) := by
  unfold State.setGoose
  repeat' first
    | with_reducible (first | assumption | apply State.setPub_keeps | apply State.put_keeps)
    | intro y hy

theorem State.setSvt_keeps {r₀ s : State} (h : Keeps r₀ s) (i : Nat) (v : SvTplS) :
    Keeps r₀ (State.setSvt s i v) := by
  unfold State.setSvt
  repeat' first
    | with_reducible (first | assumption | apply State.setPub_keeps | apply State.put_keeps)
    | intro y hy

theorem State.setRecd_keeps {r₀ s : State} (h : Keeps r₀ s) (i : Nat) (v : RecS) :
    Keeps r₀ (State.setRecd s i v) := by
  unfold State.setRecd
  repeat' first
    | with_reducible (first | assumption | apply State.setAcq_keeps | apply State.put_keeps)
    | intro y hy

theorem State.setHalt_keeps {r₀ s : State} (h : Keeps r₀ s) (i : Nat) (v : HaltS) :
    Keeps r₀ (State.setHalt s i v) := by
  unfold State.setHalt
  repeat' first
    | with_reducible (first | assumption | apply State.setHlx_keeps | apply State.put_keeps)
    | intro y hy

theorem State.setKslot_keeps {r₀ s : State} (h : Keeps r₀ s) (i : Nat) (v : KSlot) :
    Keeps r₀ (State.setKslot s i v) := by
  unfold State.setKslot
  repeat' first
    | with_reducible (first | assumption | apply State.setVlt_keeps | apply State.put_keeps)
    | intro y hy

theorem State.setMeas_keeps {r₀ s : State} (h : Keeps r₀ s) (k : Nat) (v : Meas) :
    Keeps r₀ (State.setMeas s k v) := by
  unfold State.setMeas
  repeat' first
    | with_reducible (first | assumption | apply State.setMar_keeps | apply State.put_keeps)
    | intro y hy

theorem State.runBases_now (s : State) (d : Nat) : (s.runBases d).now = s.now := by
  have g : ∀ (l : List Nat) (s : State), (l.foldl (fun s b => if (s.tb b).running then
      s.setTb b { s.tb b with acc := wrapTime ((s.tb b).acc + d * ((tbUnit : Int) + s.getI (F.TSU_TB_FREQ b))) } else s) s).now = s.now := by
    intro l
    induction l with
    | nil => intro s; rfl
    | cons a l ih => intro s; rw [List.foldl_cons, ih]; split <;> rfl
  exact g _ s

theorem State.runBases_keeps {r₀ s : State} (h : Keeps r₀ s) (d : Nat) : Keeps r₀ (s.runBases d) := by
  unfold State.runBases
  apply Keeps.foldl h
  intro y a hy
  split
  · exact State.setTb_keeps hy _ _
  · exact hy

theorem State.advance_keeps {r₀ s : State} (h : Keeps r₀ s) (t : Nat) : Keeps r₀ (s.advance t) := by
  unfold State.advance
  split
  next hlt =>
    have k := State.runBases_keeps h (t - s.now)
    have e : (s.runBases (t - s.now)).now = s.now := State.runBases_now s (t - s.now)
    exact ⟨k.1, by simp only [State.setNow]; have := h.2.1; omega, k.2.2⟩
  · exact h

theorem State.offerEvent_keeps {r₀ s : State} (h : Keeps r₀ s) (e : Event) :
    Keeps r₀ (State.offerEvent s e) := by
  unfold State.offerEvent
  repeat' first
    | with_reducible (first | assumption | apply State.setLink_keeps | apply State.put_keeps | apply Keeps.ite)
    | intro y hy

theorem State.keepEvent_keeps {r₀ s : State} (h : Keeps r₀ s) (e : Event) : Keeps r₀ (s.keepEvent e) := State.addLog_keeps h e

theorem State.raiseOn_keeps {r₀ s : State} (h : Keeps r₀ s) (b code i arg : Nat) : Keeps r₀ (s.raiseOn b code i arg) := by
  unfold State.raiseOn
  dsimp only
  split
  · exact State.keepEvent_keeps (State.offerEvent_keeps (State.keepEvent_keeps h _) _) _
  · exact State.offerEvent_keeps (State.keepEvent_keeps h _) _

theorem State.raiseI_keeps {r₀ s : State} (h : Keeps r₀ s) (code : Nat) (i : Nat) (arg : Nat) :
    Keeps r₀ (State.raiseI s code i arg) := by
  unfold State.raiseI
  repeat' first
    | with_reducible (first | assumption | apply State.raiseOn_keeps)
    | intro y hy

theorem State.raise_keeps {r₀ s : State} (h : Keeps r₀ s) (code : Nat) (arg : Nat) :
    Keeps r₀ (State.raise s code arg) := by
  unfold State.raise
  repeat' first
    | with_reducible (first | assumption | apply State.raiseI_keeps)
    | intro y hy

theorem State.raiseHost_keeps {r₀ s : State} (h : Keeps r₀ s) (code : Nat) (arg : Nat) :
    Keeps r₀ (State.raiseHost s code arg) := by
  unfold State.raiseHost
  repeat' first
    | with_reducible (first | assumption | apply State.setHost_keeps)
    | intro y hy

theorem State.wrLe_keeps {r₀ s : State} (h : Keeps r₀ s) (a : Nat) (n : Nat) (v : Nat) :
    Keeps r₀ (State.wrLe s a n v) := by
  unfold State.wrLe
  repeat' first
    | with_reducible (first | assumption | apply State.wrN_keeps)
    | intro y hy

theorem State.raiseSat_keeps {r₀ s : State} (h : Keeps r₀ s) (a : Nat) :
    Keeps r₀ (State.raiseSat s a) := by
  unfold State.raiseSat
  repeat' first
    | with_reducible (first | assumption | apply State.raiseHost_keeps | apply State.raise_keeps | apply Keeps.ite)
    | intro y hy

theorem State.countN_keeps {r₀ s : State} (h : Keeps r₀ s) (f : Fld) (n : Nat) :
    Keeps r₀ (State.countN s f n) := by
  unfold State.countN
  repeat' first
    | with_reducible (first | assumption | apply State.put_keeps | apply State.raiseSat_keeps | apply Keeps.ite)
    | intro y hy

theorem State.count_keeps {r₀ s : State} (h : Keeps r₀ s) (f : Fld) :
    Keeps r₀ (State.count s f) := by
  unfold State.count
  repeat' first
    | with_reducible (first | assumption | apply State.countN_keeps)
    | intro y hy

theorem State.stat_keeps {r₀ s : State} (h : Keeps r₀ s) (lo : Fld) (live : Fld) (n : Nat) :
    Keeps r₀ (State.stat s lo live n) := by
  unfold State.stat
  repeat' first
    | with_reducible (first | assumption | apply State.put_keeps)
    | intro y hy

theorem State.storeFld_keeps {r₀ s : State} (h : Keeps r₀ s) (v : Word) (f : Fld) :
    Keeps r₀ (State.storeFld s v f) := by
  unfold State.storeFld
  repeat' first
    | with_reducible (first | assumption | apply State.put_keeps | apply Keeps.ite)
    | intro y hy
    | split

theorem State.storeWord_keeps {r₀ s : State} (h : Keeps r₀ s) (a : Nat) (v : Word) :
    Keeps r₀ (State.storeWord s a v) := by
  unfold State.storeWord
  repeat' first
    | with_reducible (first | assumption | apply State.storeFld_keeps)
    | (with_reducible apply Keeps.foldl <;> [skip; intros])
    | (with_reducible apply Keeps.foldl1 <;> [skip; intros])
    | intro y hy

theorem State.clearKind_keeps {r₀ s : State} (h : Keeps r₀ s) (k : Kind) : Keeps r₀ (State.clearKind s k) :=
  State.setRegs_keeps h _ (Sp.rising_filter _ _ _)

theorem State.resetSets_keeps {r₀ s : State} (h : Keeps r₀ s) (p : Nat → Bool) : Keeps r₀ (s.resetSets p) :=
  State.setRegs_keeps h _ (Sp.rising_filter _ _ _)

theorem State.setFields_keeps {r₀ s : State} (h : Keeps r₀ s) (a : Nat) (v : Word) :
    Keeps r₀ (State.setFields s a v) := by
  unfold State.setFields
  try dsimp only
  repeat' first
    | with_reducible (first | assumption | apply State.put_keeps | apply Keeps.ite | apply Keeps.ite1)
    | (with_reducible apply Keeps.foldl <;> [skip; intros])
    | (with_reducible apply Keeps.foldl1 <;> [skip; intros])
    | intro y hy
    | split

theorem State.setCtx_keeps {r₀ s : State} (h : Keeps r₀ s) (cls : Nat) (c : ClsTx) :
    Keeps r₀ (State.setCtx s cls c) := by
  unfold State.setCtx
  repeat' first
    | with_reducible (first | assumption | apply State.setLink_keeps | apply State.put_keeps)
    | intro y hy

theorem State.setCrx_keeps {r₀ s : State} (h : Keeps r₀ s) (cls : Nat) (c : ClsRx) :
    Keeps r₀ (State.setCrx s cls c) := by
  unfold State.setCrx
  repeat' first
    | with_reducible (first | assumption | apply State.setLink_keeps | apply State.put_keeps)
    | intro y hy

theorem State.send_keeps {r₀ s : State} (h : Keeps r₀ s) (m : Msg) :
    Keeps r₀ (State.send s m) := by
  unfold State.send
  repeat' first
    | with_reducible (first | assumption | apply State.setLink_keeps | apply State.setCtx_keeps | apply Keeps.ite)
    | intro y hy

theorem State.sendAck_keeps {r₀ s : State} (h : Keeps r₀ s) (cls : Nat) (seq : Word) :
    Keeps r₀ (State.sendAck s cls seq) := by
  unfold State.sendAck
  repeat' first
    | with_reducible (first | assumption | apply State.send_keeps)
    | intro y hy

theorem State.sendNak_keeps {r₀ s : State} (h : Keeps r₀ s) (cls : Nat) :
    Keeps r₀ (State.sendNak s cls) := by
  unfold State.sendNak
  repeat' first
    | with_reducible (first | assumption | apply State.send_keeps)
    | intro y hy

theorem State.refuseCfg_keeps {r₀ s : State} (h : Keeps r₀ s) (code : Nat) (arg : Nat) :
    Keeps r₀ (State.refuseCfg s code arg) := by
  unfold State.refuseCfg
  repeat' first
    | with_reducible (first | assumption | apply State.put_keeps | apply State.raise_keeps)
    | intro y hy

theorem State.malformed_keeps {r₀ s : State} (h : Keeps r₀ s) (cls : Nat) (op : Nat) :
    Keeps r₀ (State.malformed s cls op) := by
  unfold State.malformed
  repeat' first
    | with_reducible (first | assumption | apply State.count_keeps | apply State.refuseCfg_keeps)
    | intro y hy

theorem State.discardEarly_keeps {r₀ s : State} (h : Keeps r₀ s) (cls : Nat) :
    Keeps r₀ (State.discardEarly s cls) := by
  unfold State.discardEarly
  repeat' first
    | with_reducible (first | assumption | apply State.count_keeps | apply State.setLink_keeps
                            | apply State.raise_keeps | apply Keeps.ite)
    | intro y hy

theorem State.receive_keeps {r₀ s : State} (h : Keeps r₀ s) (cls : Nat) (h : Hdr) (act : State → State) (hact : ∀ y, Keeps r₀ y → Keeps r₀ (act y)) :
    Keeps r₀ (State.receive s cls h act) := by
  unfold State.receive
  try dsimp only
  repeat' first
    | with_reducible (first | assumption | apply State.sendAck_keeps | apply State.sendNak_keeps
                            | apply State.setCrx_keeps | apply State.discardEarly_keeps | apply Keeps.ite | apply hact)
    | intro y hy
    | split

theorem State.setJunc_keeps {r₀ s : State} (h : Keeps r₀ s) (src : Island) (dst : Island) (j : Junc) :
    Keeps r₀ (State.setJunc s src dst j) := by
  unfold State.setJunc
  repeat' first
    | with_reducible (first | assumption | apply State.setLink_keeps | apply State.put_keeps)
    | intro y hy

theorem State.post_keeps {r₀ s : State} (h : Keeps r₀ s) (src : Island) (dst : Island) (a : Access) :
    Keeps r₀ (State.post s src dst a) := by
  unfold State.post
  repeat' first
    | with_reducible (first | assumption | apply State.setJunc_keeps | apply Keeps.ite)
    | intro y hy

theorem State.popJunc_keeps {r₀ s : State} (h : Keeps r₀ s) (src dst : Island) {a : Access} {t : State}
    (e : s.popJunc src dst = some (a, t)) : Keeps r₀ t := by
  unfold State.popJunc at e
  dsimp only at e
  split at e
  · cases e
  · split at e <;> cases e <;> exact State.setJunc_keeps h _ _ _

theorem State.putSlot_keeps {r₀ s : State} (h : Keeps r₀ s) (b : Nat) (i : Nat) (v : SlotV) :
    Keeps r₀ (State.putSlot s b i v) := by
  unfold State.putSlot
  repeat' first
    | with_reducible (first | assumption | apply State.put_keeps | apply State.putB_keeps)
    | intro y hy

theorem State.showPool_keeps {r₀ s : State} (h : Keeps r₀ s) : Keeps r₀ (State.showPool s) := by
  unfold State.showPool
  repeat' first
    | with_reducible (first | assumption | apply State.put_keeps)
    | intro y hy

theorem State.showUse_keeps {r₀ s : State} (h : Keeps r₀ s) (i : Nat) :
    Keeps r₀ (State.showUse s i) := by
  unfold State.showUse
  repeat' first
    | with_reducible (first | assumption | apply State.showPool_keeps | apply State.put_keeps | apply State.filter_keeps | apply State.raiseI_keeps
                            | apply Keeps.ite)
    | (with_reducible apply Keeps.foldl <;> [skip; intros])
    | (with_reducible apply Keeps.foldl1 <;> [skip; intros])
    | intro y hy

theorem State.closeChan_keeps {r₀ s : State} (h : Keeps r₀ s) (r : Nat) (c : Nat) :
    Keeps r₀ (State.closeChan s r c) := by
  unfold State.closeChan
  try dsimp only
  repeat' first
    | with_reducible (first | assumption | apply State.setRecd_keeps | apply State.put_keeps)
    | intro y hy
    | split

theorem State.closeAll_keeps {r₀ s : State} (h : Keeps r₀ s) (r : Nat) :
    Keeps r₀ (State.closeAll s r) := by
  unfold State.closeAll
  repeat' first
    | with_reducible (first | assumption | apply State.closeChan_keeps)
    | (with_reducible apply Keeps.foldl <;> [skip; intros])
    | (with_reducible apply Keeps.foldl1 <;> [skip; intros])
    | intro y hy

theorem State.recAppend_keeps {r₀ s : State} (h : Keeps r₀ s) (r : Nat) (c : Nat) (x : RecSample) :
    Keeps r₀ (State.recAppend s r c x) := by
  unfold State.recAppend
  repeat' first
    | with_reducible (first | assumption | apply State.closeChan_keeps | apply State.setRecd_keeps
                            | apply State.put_keeps | apply Keeps.ite)
    | intro y hy

theorem State.startExport_keeps {r₀ s : State} (h : Keeps r₀ s) (r : Nat) :
    Keeps r₀ (State.startExport s r) := by
  unfold State.startExport
  try dsimp only
  repeat' first
    | with_reducible (first | assumption | apply State.send_keeps | apply State.setRecd_keeps)
    | (with_reducible apply Keeps.foldl <;> [skip; intros])
    | (with_reducible apply Keeps.foldl1 <;> [skip; intros])
    | intro y hy
    | split

theorem State.placeBuffer_keeps {r₀ s : State} (h : Keeps r₀ s) (r : Nat) :
    Keeps r₀ (State.placeBuffer s r) := by
  unfold State.placeBuffer
  try dsimp only
  repeat' first
    | with_reducible (first | assumption | apply State.put_keeps)
    | intro y hy
    | split

theorem State.takeWaiting_keeps {r₀ s : State} (h : Keeps r₀ s) (r : Nat) :
    Keeps r₀ (State.takeWaiting s r) := by
  unfold State.takeWaiting
  try dsimp only
  repeat' first
    | with_reducible (first | assumption | apply State.setRbk_keeps | apply State.filter_keeps | apply State.resetSets_keeps | apply
                            State.setFields_keeps | apply State.setAcq_keeps | apply State.placeBuffer_keeps | apply
                            State.showUse_keeps)
    | (with_reducible apply Keeps.foldl <;> [skip; intros])
    | (with_reducible apply Keeps.foldl1 <;> [skip; intros])
    | intro y hy
    | split

theorem State.recTo_keeps {r₀ s : State} (h : Keeps r₀ s) (r : Nat) (st : Nat) :
    Keeps r₀ (State.recTo s r st) := by
  unfold State.recTo
  repeat' first
    | with_reducible (first | assumption | apply State.put_keeps | apply State.setRecd_keeps)
    | intro y hy

theorem State.tryRearm_keeps {r₀ s : State} (h : Keeps r₀ s) (r : Nat) :
    Keeps r₀ (State.tryRearm s r) := by
  unfold State.tryRearm
  try dsimp only
  repeat' first
    | with_reducible (first | assumption | apply State.putB_keeps | apply State.takeWaiting_keeps
                            | apply State.recTo_keeps | apply Keeps.ite)
    | intro y hy
    | split

theorem State.enterHeld_keeps {r₀ s : State} (h : Keeps r₀ s) (r : Nat) :
    Keeps r₀ (State.enterHeld s r) := by
  unfold State.enterHeld
  try dsimp only
  repeat' first
    | with_reducible (first | assumption | apply State.closeAll_keeps | apply State.filter_keeps
                            | apply State.setRecd_keeps | apply State.put_keeps | apply State.putB_keeps
                            | apply State.raiseI_keeps | apply State.maskStop_keeps | apply State.startExport_keeps
                            | apply Keeps.ite)
    | intro y hy
    | split

theorem State.truncate_keeps {r₀ s : State} (h : Keeps r₀ s) (r : Nat) (toIdle : Bool) :
    Keeps r₀ (State.truncate s r toIdle) := by
  unfold State.truncate
  try dsimp only
  repeat' first
    | with_reducible (first | assumption | apply State.raiseI_keeps | apply State.count_keeps
                            | apply State.setRecd_keeps | apply State.enterHeld_keeps | apply Keeps.ite)
    | intro y hy
    | split

theorem State.takeReady_keeps {r₀ s : State} (h : Keeps r₀ s) (r : Nat) :
    Keeps r₀ (State.takeReady s r) := by
  unfold State.takeReady
  repeat' first
    | with_reducible (first | assumption | apply State.put_keeps | apply Keeps.ite | apply Keeps.ite1)
    | intro y hy
    | split

theorem State.startCapture_keeps {r₀ s : State} (h : Keeps r₀ s) (r : Nat) (c : Capture) :
    Keeps r₀ (State.startCapture s r c) := by
  unfold State.startCapture
  try dsimp only
  repeat' first
    | with_reducible (first | assumption | apply State.setRecd_keeps | apply State.put_keeps | apply Keeps.ite | apply Keeps.ite1)
    | intro y hy
    | split

theorem State.trigOne_keeps {r₀ s : State} (h : Keeps r₀ s) (r : Nat) (g : Trig) :
    Keeps r₀ (State.trigOne s r g).1 := by
  unfold State.trigOne
  try dsimp only
  repeat' first
    | with_reducible (first | assumption | apply State.takeReady_keeps | apply State.post_keeps | apply State.count_keeps | apply
                            State.raiseI_keeps | apply State.setRecd_keeps | apply State.startCapture_keeps | apply
                            State.tryRearm_keeps | apply Keeps.ite | apply Keeps.ite1)
    | intro y hy
    | split

theorem State.trigger_keeps {r₀ s : State} (h : Keeps r₀ s) (r : Nat) (g : Trig) :
    Keeps r₀ (State.trigger s r g) := by
  unfold State.trigger
  repeat' first
    | with_reducible (first | assumption | apply State.trigOne_keeps | apply Keeps.ite)
    | (with_reducible apply Keeps.foldl <;> [skip; intros])
    | (with_reducible apply Keeps.foldl1 <;> [skip; intros])
    | intro y hy

theorem State.recArm_keeps {r₀ s : State} (h : Keeps r₀ s) (r : Nat) :
    Keeps r₀ (State.recArm s r) := by
  unfold State.recArm
  repeat' first
    | with_reducible (first | assumption | apply State.recTo_keeps | apply Keeps.ite)
    | intro y hy

theorem State.recDisarm_keeps {r₀ s : State} (h : Keeps r₀ s) (r : Nat) :
    Keeps r₀ (State.recDisarm s r) := by
  unfold State.recDisarm
  try dsimp only
  repeat' first
    | with_reducible (first | assumption | apply State.recTo_keeps | apply State.truncate_keeps
                            | apply State.setRecd_keeps | apply Keeps.ite)
    | intro y hy
    | split

theorem State.autoArm_keeps {r₀ s : State} (h : Keeps r₀ s) :
    Keeps r₀ (State.autoArm s) := by
  unfold State.autoArm
  repeat' first
    | with_reducible (first | assumption | apply State.filter_keeps | apply State.setRecd_keeps
                            | apply State.recArm_keeps)
    | (with_reducible apply Keeps.each <;> [skip; intros])
    | intro y hy

theorem State.recPark_keeps {r₀ s : State} (h : Keeps r₀ s) :
    Keeps r₀ (State.recPark s) := by
  unfold State.recPark
  repeat' first
    | with_reducible (first | assumption | apply State.truncate_keeps | apply State.recTo_keeps
                            | apply State.setRecd_keeps | apply Keeps.ite)
    | (with_reducible apply Keeps.each <;> [skip; intros])
    | intro y hy

theorem State.recOwnerReset_keeps {r₀ s : State} (h : Keeps r₀ s) (i : Nat) :
    Keeps r₀ (State.recOwnerReset s i) := by
  unfold State.recOwnerReset
  repeat' first
    | with_reducible (first | assumption | apply State.filter_keeps | apply State.recTo_keeps
                            | apply State.truncate_keeps | apply Keeps.ite)
    | (with_reducible apply Keeps.each <;> [skip; intros])
    | intro y hy

theorem State.recBReset_keeps {r₀ s : State} (h : Keeps r₀ s) :
    Keeps r₀ (State.recBReset s) := by
  unfold State.recBReset
  try dsimp only
  repeat' first
    | with_reducible (first | assumption | apply State.truncate_keeps | apply State.setAcq_keeps | apply Keeps.ite)
    | (with_reducible apply Keeps.each <;> [skip; intros])
    | intro y hy
    | split

theorem State.reexport_keeps {r₀ s : State} (h : Keeps r₀ s) :
    Keeps r₀ (State.reexport s) := by
  unfold State.reexport
  try dsimp only
  repeat' first
    | with_reducible (first | assumption | apply State.send_keeps | apply State.setAcq_keeps
                            | apply State.filter_keeps | apply State.count_keeps | apply State.startExport_keeps
                            | apply Keeps.ite)
    | (with_reducible apply Keeps.each <;> [skip; intros])
    | (with_reducible apply Keeps.foldl <;> [skip; intros])
    | (with_reducible apply Keeps.foldl1 <;> [skip; intros])
    | intro y hy
    | split

theorem State.exportsCut_keeps {r₀ s : State} (h : Keeps r₀ s) :
    Keeps r₀ (State.exportsCut s) := by
  unfold State.exportsCut
  try dsimp only
  repeat' first
    | with_reducible (first | assumption | apply State.setAcq_keeps | apply State.setRecd_keeps)
    | (with_reducible apply Keeps.each <;> [skip; intros])
    | intro y hy
    | split

theorem State.maskStop_keeps {r₀ s : State} (h : Keeps r₀ s) (r : Nat) (m : Nat) (t : Int) (idx : Nat) (frac : Nat) :
    Keeps r₀ (State.maskStop s r m t idx frac) := by
  unfold State.maskStop
  try dsimp only
  repeat' first
    | with_reducible (first | assumption | apply State.takeReady_keeps | apply State.startCapture_keeps | apply State.enterHeld_keeps
                            | apply State.setRecd_keeps | apply Keeps.ite | apply Keeps.ite1)
    | intro y hy
    | split

theorem State.maskTest_keeps {r₀ s : State} (h : Keeps r₀ s) (m : Nat) (t1 : Int) (qual : Nat) (idx : Nat) (n : Nat) (val : Int) :
    Keeps r₀ (State.maskTest s m t1 qual idx n val).1 := by
  unfold State.maskTest
  try dsimp only
  repeat' first
    | with_reducible (first | assumption | apply State.count_keeps | apply State.put_keeps | apply Keeps.ite
                            | apply Keeps.ite1)
    | intro y hy
    | split

theorem State.recSample_keeps {r₀ s : State} (h : Keeps r₀ s) (r : Nat) (c : Nat) (x : RecSample) :
    Keeps r₀ (State.recSample s r c x) := by
  unfold State.recSample
  try dsimp only
  repeat' first
    | with_reducible (first | assumption | apply State.recAppend_keeps | apply State.truncate_keeps
                            | apply State.setRecd_keeps | apply Keeps.ite)
    | intro y hy
    | split

theorem State.recLane_keeps {r₀ s : State} (h : Keeps r₀ s) (r : Nat) (c : Nat) (lane : Nat) (x : RecSample) (prev : Option (Int × Int)) (rises : List (Nat × Int × Bool)) :
    Keeps r₀ (State.recLane s r c lane x prev rises) := by
  unfold State.recLane
  try dsimp only
  repeat' first
    | with_reducible (first | assumption | apply State.recSample_keeps | apply State.filter_keeps
                            | apply State.maskTest_keeps | apply State.maskStop_keeps | apply State.trigger_keeps
                            | apply Keeps.ite | apply Keeps.ite1)
    | (with_reducible apply Keeps.foldl <;> [skip; intros])
    | (with_reducible apply Keeps.foldl1 <;> [skip; intros])
    | intro y hy
    | split

theorem State.showHist_keeps {r₀ s : State} (h : Keeps r₀ s) :
    Keeps r₀ (State.showHist s) := by
  unfold State.showHist
  try dsimp only
  repeat' first
    | with_reducible (first | assumption | apply State.put_keeps | apply Keeps.ite)
    | intro y hy
    | split

theorem State.histAdd_keeps {r₀ s : State} (h : Keeps r₀ s) (b : RBlk) :
    Keeps r₀ (State.histAdd s b) := by
  unfold State.histAdd
  repeat' first
    | with_reducible (first | assumption | apply State.setAcq_keeps | apply State.put_keeps)
    | intro y hy

theorem State.histClose_keeps {r₀ s : State} (h : Keeps r₀ s) (src : Nat) (tb : Nat) :
    Keeps r₀ (State.histClose s src tb) := by
  unfold State.histClose
  try dsimp only
  repeat' first
    | with_reducible (first | assumption | apply State.setAcq_keeps | apply State.put_keeps
                            | apply State.histAdd_keeps | apply State.showHist_keeps | apply Keeps.ite)
    | intro y hy
    | split

theorem State.histSample_keeps {r₀ s : State} (h : Keeps r₀ s) (src : Nat) (tb : Nat) (x : RecSample) :
    Keeps r₀ (State.histSample s src tb x) := by
  unfold State.histSample
  repeat' first
    | with_reducible (first | assumption | apply State.histClose_keeps | apply State.setAcq_keeps
                            | apply State.put_keeps | apply Keeps.ite)
    | intro y hy

theorem State.sendTimeStatus_keeps {r₀ s : State} (h : Keeps r₀ s) :
    Keeps r₀ (State.sendTimeStatus s) := by
  unfold State.sendTimeStatus
  repeat' first
    | with_reducible (first | assumption | apply State.send_keeps)
    | intro y hy

theorem State.closeSeg_keeps {r₀ s : State} (h : Keeps r₀ s) (b : Nat) :
    Keeps r₀ (State.closeSeg s b) := by
  unfold State.closeSeg
  repeat' first
    | with_reducible (first | assumption | apply State.setTb_keeps | apply Keeps.ite)
    | intro y hy

theorem State.setFreq_keeps {r₀ : State} : ∀ (n : Nat) {s : State} (_ : Keeps r₀ s) (a0 : Nat) (a1 : Int),
    Keeps r₀ (State.setFreq n s a0 a1)
  | 0, _, h, _, _ => by unfold State.setFreq; exact h
  | n + 1, s, h, a0, a1 => by
    unfold State.setFreq
    try dsimp only
    repeat' first
      | with_reducible (first | assumption | apply State.setFreq_keeps n | apply State.closeSeg_keeps
                              | apply State.putI_keeps)
      | (with_reducible apply Keeps.foldl <;> [skip; intros])
      | (with_reducible apply Keeps.foldl1 <;> [skip; intros])
      | intro y hy

theorem State.toState_keeps {r₀ : State} : ∀ (n : Nat) {s : State} (_ : Keeps r₀ s) (a0 : Nat) (a1 : Nat) (a2 : Nat) (a3 : Nat),
    Keeps r₀ (State.toState n s a0 a1 a2 a3)
  | 0, _, h, _, _, _, _ => by unfold State.toState; exact h
  | n + 1, s, h, a0, a1, a2, a3 => by
    unfold State.toState
    try dsimp only
    repeat' first
      | with_reducible (first | assumption | apply State.toState_keeps n | apply State.closeSeg_keeps
                              | apply State.put_keeps | apply State.setTb_keeps | apply State.raiseOn_keeps
                              | apply Keeps.ite)
      | (with_reducible apply Keeps.foldl <;> [skip; intros])
      | (with_reducible apply Keeps.foldl1 <;> [skip; intros])
      | intro y hy

theorem State.tbTo_keeps {r₀ s : State} (h : Keeps r₀ s) (b : Nat) (st : Nat) (code : Nat) (arg : Nat) :
    Keeps r₀ (State.tbTo s b st code arg) := by
  unfold State.tbTo
  repeat' first
    | with_reducible (first | assumption | apply State.toState_keeps | apply State.sendTimeStatus_keeps)
    | intro y hy

theorem State.ttbStep_keeps {r₀ s : State} (h : Keeps r₀ s) :
    Keeps r₀ (State.ttbStep s) := by
  unfold State.ttbStep
  repeat' first
    | with_reducible (first | assumption | apply State.put_keeps | apply State.setTtb_keeps | apply State.countN_keeps
                            | apply Keeps.ite)
    | intro y hy

theorem State.streamsWait_keeps {r₀ s : State} (h : Keeps r₀ s) (b : Nat) :
    Keeps r₀ (State.streamsWait s b) := by
  unfold State.streamsWait
  repeat' first
    | with_reducible (first | assumption | apply State.filter_keeps | apply State.put_keeps
                            | apply State.setStream_keeps)
    | (with_reducible apply Keeps.each <;> [skip; intros])
    | intro y hy

theorem State.gridsStep_keeps {r₀ s : State} (h : Keeps r₀ s) (b : Nat) (d : Int) :
    Keeps r₀ (State.gridsStep s b d) := by
  unfold State.gridsStep
  repeat' first
    | with_reducible (first | assumption | apply State.filter_keeps | apply State.setGroup_keeps)
    | (with_reducible apply Keeps.each <;> [skip; intros])
    | intro y hy

theorem State.pointsStep_keeps {r₀ s : State} (h : Keeps r₀ s) (d : Int) :
    Keeps r₀ (State.pointsStep s d) := by
  unfold State.pointsStep
  repeat' first
    | with_reducible (first | assumption | apply State.setPub_keeps)
    | intro y hy

theorem State.ringsStep_keeps {r₀ s : State} (h : Keeps r₀ s) (b : Nat) :
    Keeps r₀ (State.ringsStep s b) := by
  unfold State.ringsStep
  repeat' first
    | with_reducible (first | assumption | apply State.filter_keeps | apply State.recTo_keeps
                            | apply State.truncate_keeps | apply Keeps.ite)
    | (with_reducible apply Keeps.each <;> [skip; intros])
    | intro y hy

theorem State.step'_keeps {r₀ : State} : ∀ (n : Nat) {s : State} (_ : Keeps r₀ s) (a0 : Nat) (a1 : Int),
    Keeps r₀ (State.step' n s a0 a1)
  | 0, _, h, _, _ => by unfold State.step'; exact h
  | n + 1, s, h, a0, a1 => by
    unfold State.step'
    try dsimp only
    repeat' first
      | with_reducible (first | assumption | apply State.step'_keeps n | apply State.ringsStep_keeps
                              | apply State.setTb_keeps | apply State.put_keeps | apply State.count_keeps
                              | apply State.raiseOn_keeps | apply State.ttbStep_keeps | apply State.pointsStep_keeps
                              | apply State.streamsWait_keeps | apply State.gridsStep_keeps | apply Keeps.ite)
      | (with_reducible apply Keeps.foldl <;> [skip; intros])
      | (with_reducible apply Keeps.foldl1 <;> [skip; intros])
      | intro y hy

theorem State.tbStep_keeps {r₀ s : State} (h : Keeps r₀ s) (b : Nat) (d : Int) :
    Keeps r₀ (State.tbStep s b d) := by
  unfold State.tbStep
  repeat' first
    | with_reducible (first | assumption | apply State.step'_keeps)
    | intro y hy

theorem State.acquire_keeps {r₀ s : State} (h : Keeps r₀ s) (b : Nat) :
    Keeps r₀ (State.acquire s b) := by
  unfold State.acquire
  repeat' first
    | with_reducible (first | assumption | apply State.tbTo_keeps | apply State.setTb_keeps)
    | intro y hy

theorem State.slew_keeps {r₀ s : State} (h : Keeps r₀ s) (b : Nat) (o : Int) (port : Nat) :
    Keeps r₀ (State.slew s b o port) := by
  unfold State.slew
  repeat' first
    | with_reducible (first | assumption | apply State.setTb_keeps | apply State.setFreq_keeps
                            | apply State.tbTo_keeps | apply Keeps.ite)
    | intro y hy

theorem State.servo_keeps {r₀ s : State} (h : Keeps r₀ s) (b : Nat) (o : Int) (port : Nat) :
    Keeps r₀ (State.servo s b o port) := by
  unfold State.servo
  repeat' first
    | with_reducible (first | assumption | apply State.putI_keeps | apply State.acquire_keeps
                            | apply State.setTb_keeps | apply State.tbStep_keeps | apply State.setFreq_keeps
                            | apply State.slew_keeps | apply Keeps.ite)
    | intro y hy

theorem State.toFree_keeps {r₀ s : State} (h : Keeps r₀ s) (b : Nat) :
    Keeps r₀ (State.toFree s b) := by
  unfold State.toFree
  repeat' first
    | with_reducible (first | assumption | apply State.tbTo_keeps)
    | intro y hy

theorem State.holdover_keeps {r₀ s : State} (h : Keeps r₀ s) (b : Nat) :
    Keeps r₀ (State.holdover s b) := by
  unfold State.holdover
  repeat' first
    | with_reducible (first | assumption | apply State.closeSeg_keeps | apply State.tbTo_keeps
                            | apply State.setTb_keeps | apply State.setFreq_keeps | apply State.toFree_keeps
                            | apply Keeps.ite)
    | intro y hy

theorem State.sourceLost_keeps {r₀ s : State} (h : Keeps r₀ s) (b : Nat) :
    Keeps r₀ (State.sourceLost s b) := by
  unfold State.sourceLost
  repeat' first
    | with_reducible (first | assumption | apply State.setTb_keeps | apply State.count_keeps
                            | apply State.toFree_keeps | apply State.setFreq_keeps | apply State.holdover_keeps
                            | apply Keeps.ite)
    | intro y hy

theorem State.showQueues_keeps {r₀ s : State} (h : Keeps r₀ s) (p : Nat) :
    Keeps r₀ (State.showQueues s p) := by
  unfold State.showQueues
  repeat' first
    | with_reducible (first | assumption | apply State.put_keeps | apply Keeps.ite)
    | (with_reducible apply Keeps.each <;> [skip; intros])
    | intro y hy

theorem State.pushStamp_keeps {r₀ s : State} (h : Keeps r₀ s) (p : Nat) (ptp : Bool) (tag : Word) (raw : Nat) :
    Keeps r₀ (State.pushStamp s p ptp tag raw).1 := by
  unfold State.pushStamp
  repeat' first
    | with_reducible (first | assumption | apply State.count_keeps | apply State.put_keeps | apply State.raise_keeps
                            | apply State.raiseHost_keeps | apply State.setPort_keeps | apply State.showQueues_keeps
                            | apply Keeps.ite | apply Keeps.ite1)
    | intro y hy

theorem State.popStamp_keeps {r₀ s : State} (h : Keeps r₀ s) (p : Nat) (ptp : Bool) :
    Keeps r₀ (State.popStamp s p ptp) := by
  unfold State.popStamp
  repeat' first
    | with_reducible (first | assumption | apply State.setPort_keeps | apply State.showQueues_keeps | apply Keeps.ite)
    | intro y hy

theorem State.queueTx_keeps {r₀ s : State} (h : Keeps r₀ s) (p : Nat) (f : TxFrame) :
    Keeps r₀ (State.queueTx s p f) := by
  unfold State.queueTx
  repeat' first
    | with_reducible (first | assumption | apply State.count_keeps | apply State.setPort_keeps | apply Keeps.ite)
    | intro y hy

theorem State.queuePtp_keeps {r₀ s : State} (h : Keeps r₀ s) (p : Nat) (m : PtpMsg) (b : TxBody) :
    Keeps r₀ (State.queuePtp s p m b) := by
  unfold State.queuePtp
  repeat' first
    | with_reducible (first | assumption | apply State.queueTx_keeps)
    | intro y hy

theorem State.setGm_keeps {r₀ s : State} (h : Keeps r₀ s) (b : Nat) (g : Nat) :
    Keeps r₀ (State.setGm s b g) := by
  unfold State.setGm
  repeat' first
    | with_reducible (first | assumption | apply State.put_keeps | apply State.raiseOn_keeps | apply Keeps.ite | apply Keeps.ite1)
    | intro y hy
    | split

theorem State.ownGm_keeps {r₀ s : State} (h : Keeps r₀ s) (b : Nat) :
    Keeps r₀ (State.ownGm s b) := by
  unfold State.ownGm
  repeat' first
    | with_reducible (first | assumption | apply State.setGm_keeps | apply Keeps.ite | apply Keeps.ite1)
    | intro y hy
    | split

theorem State.sendPtp_keeps {r₀ s : State} (h : Keeps r₀ s) (b : Nat) (p : Nat) (m : PtpMsg) (body : TxBody) :
    Keeps r₀ (State.sendPtp s b p m body) := by
  unfold State.sendPtp
  try dsimp only
  repeat' first
    | with_reducible (first | assumption | apply State.queuePtp_keeps | apply State.setTin_keeps | apply State.send_keeps | apply
                            Keeps.ite | apply Keeps.ite1)
    | intro y hy
    | split

theorem State.followUp_keeps {r₀ s : State} (h : Keeps r₀ s) (b : Nat) (p : Nat) (m : PtpMsg) (at_ : Int) :
    Keeps r₀ (State.followUp s b p m at_) := by
  unfold State.followUp
  try dsimp only
  repeat' first
    | with_reducible (first | assumption | apply State.sendPtp_keeps | apply Keeps.ite | apply Keeps.ite1)
    | intro y hy
    | split

theorem State.setPdelay_keeps {r₀ s : State} (h : Keeps r₀ s) (p : Nat) (d : Nat) :
    Keeps r₀ (State.setPdelay s p d) := by
  unfold State.setPdelay
  repeat' first
    | with_reducible (first | assumption | apply State.put_keeps | apply Keeps.ite | apply Keeps.ite1)
    | intro y hy
    | split

theorem State.pdelayResp_keeps {r₀ s : State} (h : Keeps r₀ s) (b : Nat) (p : Nat) (m : PtpMsg) (at_ : Nat) :
    Keeps r₀ (State.pdelayResp s b p m at_) := by
  unfold State.pdelayResp
  try dsimp only
  repeat' first
    | with_reducible (first | assumption | apply State.queuePtp_keeps)
    | intro y hy

theorem State.engineReply_keeps {r₀ s : State} (h : Keeps r₀ s) (b : Nat) (k : Nat) (p : Nat) (m : PtpMsg) (twoStep : Bool) (st : Int) :
    Keeps r₀ (State.engineReply s b k p m twoStep st) := by
  unfold State.engineReply
  try dsimp only
  repeat' first
    | with_reducible (first | assumption | apply State.sendPtp_keeps)
    | intro y hy

theorem State.ptpTake_keeps {r₀ s : State} (h : Keeps r₀ s) (b : Nat) (p : Nat) (m : PtpMsg) (st : Int) :
    Keeps r₀ (State.ptpTake s b p m st) := by
  unfold State.ptpTake
  try dsimp only
  repeat' first
    | with_reducible (first | assumption | apply State.engineReply_keeps | apply State.draw_keeps | apply State.setGm_keeps | apply
                            State.setPdelay_keeps | apply State.setTb_keeps | apply State.servo_keeps | apply Keeps.ite | apply
                            Keeps.ite1)
    | intro y hy
    | split

theorem State.ptpEngine_keeps {r₀ s : State} (h : Keeps r₀ s) (p : Nat) (m : PtpMsg) (stamp : Nat) :
    Keeps r₀ (State.ptpEngine s p m stamp) := by
  unfold State.ptpEngine
  try dsimp only
  repeat' first
    | with_reducible (first | assumption | apply State.ptpTake_keeps)
    | intro y hy
    | split

theorem State.pdelayTake_keeps {r₀ s : State} (h : Keeps r₀ s) (p : Nat) (answers : Bool) (m : PtpMsg) (stamp : Nat) :
    Keeps r₀ (State.pdelayTake s p answers m stamp) := by
  unfold State.pdelayTake
  try dsimp only
  repeat' first
    | with_reducible (first | assumption | apply State.pdelayResp_keeps | apply State.draw_keeps | apply State.setPdelay_keeps | apply
                            Keeps.ite | apply Keeps.ite1)
    | intro y hy
    | split

theorem State.tcRelay_keeps {r₀ s : State} (h : Keeps r₀ s) (p : Nat) (m : PtpMsg) (stamp : Nat) (src : Bytes) (len : Nat) :
    Keeps r₀ (State.tcRelay s p m stamp src len) := by
  unfold State.tcRelay
  repeat' first
    | with_reducible (first | assumption | apply State.queueTx_keeps | apply Keeps.ite | apply Keeps.ite1)
    | intro y hy
    | split

theorem State.ptpMessage_keeps {r₀ s : State} (h : Keeps r₀ s) (p : Nat) (m : PtpMsg) (capture : Nat) :
    Keeps r₀ (State.ptpMessage s p m capture) := by
  unfold State.ptpMessage
  try dsimp only
  repeat' first
    | with_reducible (first | assumption | apply State.pdelayTake_keeps | apply State.ptpEngine_keeps)
    | intro y hy

theorem State.tcCorrect_keeps {r₀ s : State} (h : Keeps r₀ s) (p : Nat) (m : PtpMsg) (ingress : Nat) (at_ : Nat) (out : Nat) :
    Keeps r₀ (State.tcCorrect s p m ingress at_ out).1 := by
  unfold State.tcCorrect
  try dsimp only
  repeat' first
    | with_reducible (first | assumption | apply State.setPort_keeps | apply Keeps.ite | apply Keeps.ite1)
    | intro y hy
    | split

theorem State.ptpLeaves_keeps {r₀ s : State} (h : Keeps r₀ s) (p : Nat) (b : TxBody) (out : Nat) :
    Keeps r₀ (State.ptpLeaves s p b out).1 := by
  unfold State.ptpLeaves
  try dsimp only
  repeat' first
    | with_reducible (first | assumption | apply State.tcCorrect_keeps | apply Keeps.ite | apply Keeps.ite1)
    | intro y hy
    | split

theorem State.tinBad_keeps {r₀ s : State} (h : Keeps r₀ s) :
    Keeps r₀ (State.tinBad s) := by
  unfold State.tinBad
  repeat' first
    | with_reducible (first | assumption | apply State.setTin_keeps | apply State.sourceLost_keeps
                            | apply State.put_keeps | apply Keeps.ite)
    | (with_reducible apply Keeps.foldl <;> [skip; intros])
    | (with_reducible apply Keeps.foldl1 <;> [skip; intros])
    | intro y hy

theorem irigFrame_keeps {r₀ s : State} (h : Keeps r₀ s) (good : Bool) (toy : Nat) (yearStart : Nat) (leap : Bool) (qual : Nat) :
    Keeps r₀ (irigFrame good toy yearStart leap qual s) := by
  unfold irigFrame
  repeat' first
    | with_reducible (first | assumption | apply State.setTin_keeps | apply State.put_keeps | apply State.putB_keeps
                            | apply State.servo_keeps | apply State.tinBad_keeps | apply Keeps.ite)
    | (with_reducible apply Keeps.foldl <;> [skip; intros])
    | (with_reducible apply Keeps.foldl1 <;> [skip; intros])
    | intro y hy

theorem State.edgeBase_keeps {r₀ s : State} (h : Keeps r₀ s) (b : Nat) (good : Bool) :
    Keeps r₀ (State.edgeBase s b good) := by
  unfold State.edgeBase
  repeat' first
    | with_reducible (first | assumption | apply State.put_keeps | apply State.tbStep_keeps | apply State.servo_keeps
                            | apply Keeps.ite)
    | intro y hy

theorem ppsEdge_keeps {r₀ s : State} (h : Keeps r₀ s) :
    Keeps r₀ (ppsEdge s) := by
  unfold ppsEdge
  try dsimp only
  repeat' first
    | with_reducible (first | assumption | apply State.setTin_keeps | apply State.put_keeps | apply State.tinBad_keeps
                            | apply State.filter_keeps | apply State.edgeBase_keeps | apply Keeps.ite)
    | (with_reducible apply Keeps.foldl <;> [skip; intros])
    | (with_reducible apply Keeps.foldl1 <;> [skip; intros])
    | intro y hy
    | split

theorem execSyncTimeout_keeps {r₀ s : State} (h : Keeps r₀ s) (tb : Nat) :
    KeepsOut r₀ (execSyncTimeout tb s) := by
  unfold execSyncTimeout
  refine Keeps.out ?_
  repeat' first
    | with_reducible (first | assumption | apply State.sourceLost_keeps | apply Keeps.ite)
    | intro y hy

theorem execAnnounceReceiptTimeout_keeps {r₀ s : State} (h : Keeps r₀ s) (tb : Nat) :
    KeepsOut r₀ (execAnnounceReceiptTimeout tb s) := by
  unfold execAnnounceReceiptTimeout
  refine Keeps.out ?_
  repeat' first
    | with_reducible (first | assumption | apply State.sourceLost_keeps | apply State.ownGm_keeps | apply Keeps.ite | apply Keeps.ite1)
    | intro y hy
    | split

theorem execHoldoverExpired_keeps {r₀ s : State} (h : Keeps r₀ s) (tb : Nat) :
    KeepsOut r₀ (execHoldoverExpired tb s) := by
  unfold execHoldoverExpired
  refine Keeps.out ?_
  repeat' first
    | with_reducible (first | assumption | apply State.toFree_keeps | apply Keeps.ite)
    | intro y hy

theorem execIrigFrame_keeps {r₀ s : State} (h : Keeps r₀ s) (good : Bool) (toy : Nat) (yearStart : Nat) (leap : Bool) (qual : Nat) (t : Nat) :
    KeepsOut r₀ (execIrigFrame good toy yearStart leap qual t s) := by
  unfold execIrigFrame
  refine Keeps.out ?_
  repeat' first
    | with_reducible (first | assumption | apply irigFrame_keeps | apply State.advance_keeps)
    | intro y hy

theorem execIrigFrameMissing_keeps {r₀ s : State} (h : Keeps r₀ s) :
    KeepsOut r₀ (execIrigFrameMissing s) := by
  unfold execIrigFrameMissing
  refine Keeps.out ?_
  repeat' first
    | with_reducible (first | assumption | apply State.tinBad_keeps | apply Keeps.ite)
    | intro y hy

theorem execLeapSecond_keeps {r₀ s : State} (h : Keeps r₀ s) (ins : Bool) :
    KeepsOut r₀ (execLeapSecond ins s) := by
  unfold execLeapSecond
  refine Keeps.out ?_
  repeat' first
    | with_reducible (first | assumption | apply State.put_keeps | apply Keeps.ite)
    | intro y hy

theorem execPpsEdge_keeps {r₀ s : State} (h : Keeps r₀ s) (t : Nat) :
    KeepsOut r₀ (execPpsEdge t s) := by
  unfold execPpsEdge
  refine Keeps.out ?_
  repeat' first
    | with_reducible (first | assumption | apply ppsEdge_keeps | apply State.advance_keeps)
    | intro y hy

theorem execPpsEdgeMissing_keeps {r₀ s : State} (h : Keeps r₀ s) :
    KeepsOut r₀ (execPpsEdgeMissing s) := by
  unfold execPpsEdgeMissing
  refine Keeps.out ?_
  repeat' first
    | with_reducible (first | assumption | apply State.tinBad_keeps | apply Keeps.ite)
    | intro y hy

theorem State.armSetsec_keeps {r₀ s : State} (h : Keeps r₀ s) (tb : Nat) :
    Keeps r₀ (State.armSetsec s tb) := by
  unfold State.armSetsec
  repeat' first
    | with_reducible (first | assumption | apply State.putB_keeps)
    | intro y hy

theorem execSetsecGo_keeps {r₀ s : State} (h : Keeps r₀ s) (tb : Nat) :
    KeepsOut r₀ (execSetsecGo tb s) := by
  unfold execSetsecGo
  refine Keeps.out ?_
  repeat' first
    | with_reducible (first | assumption | apply State.armSetsec_keeps)
    | intro y hy

theorem execToutOutput_keeps {r₀ s : State} (h : Keeps r₀ s) (t : Nat) :
    KeepsOut r₀ (execToutOutput t s) := by
  unfold execToutOutput
  refine Keeps.out ?_
  repeat' first
    | with_reducible (first | assumption | apply State.advance_keeps | apply State.setTin_keeps | apply Keeps.ite)
    | intro y hy

theorem execPtpQueuePop_keeps {r₀ s : State} (h : Keeps r₀ s) (port : Nat) :
    KeepsOut r₀ (execPtpQueuePop port s) := by
  unfold execPtpQueuePop
  refine Keeps.out ?_
  repeat' first
    | with_reducible (first | assumption | apply State.popStamp_keeps)
    | intro y hy

theorem execGeneralQueuePop_keeps {r₀ s : State} (h : Keeps r₀ s) (port : Nat) :
    KeepsOut r₀ (execGeneralQueuePop port s) := by
  unfold execGeneralQueuePop
  refine Keeps.out ?_
  repeat' first
    | with_reducible (first | assumption | apply State.popStamp_keeps)
    | intro y hy

theorem State.latchTb_keeps {r₀ s : State} (h : Keeps r₀ s) (b : Nat) :
    Keeps r₀ (State.latchTb s b) := by
  unfold State.latchTb
  repeat' first
    | with_reducible (first | assumption | apply State.put_keeps)
    | intro y hy

theorem execTbNsRead_keeps {r₀ s : State} (h : Keeps r₀ s) (tb : Nat) (t : Nat) :
    KeepsOut r₀ (execTbNsRead tb t s) := by
  unfold execTbNsRead
  refine Keeps.out ?_
  repeat' first
    | with_reducible (first | assumption | apply State.advance_keeps | apply State.latchTb_keeps)
    | intro y hy

theorem execTimeStatusMessage_keeps {r₀ s : State} (h : Keeps r₀ s) :
    KeepsOut r₀ (execTimeStatusMessage s) := by
  unfold execTimeStatusMessage
  refine Keeps.out ?_
  repeat' first
    | with_reducible (first | assumption | apply State.sendTimeStatus_keeps)
    | intro y hy

theorem execSbPtpFrame_keeps {r₀ s : State} (h : Keeps r₀ s) (hd : Hdr) (sb : Nat) (stamp : Word) (m : PtpMsg) :
    KeepsOut r₀ (execSbPtpFrame hd sb stamp m s) := by
  unfold execSbPtpFrame
  refine Keeps.out ?_
  try dsimp only
  repeat' first
    | with_reducible (first | assumption | apply State.receive_keeps | apply State.engineReply_keeps | apply State.ptpTake_keeps |
                            apply Keeps.ite | apply Keeps.ite1)
    | intro y hy
    | split

theorem State.sbStamp_keeps {r₀ s : State} (h : Keeps r₀ s) (ftag : Word) (stamp : Option Word) :
    Keeps r₀ (State.sbStamp s ftag stamp) := by
  unfold State.sbStamp
  try dsimp only
  repeat' first
    | with_reducible (first | assumption | apply State.setTin_keeps | apply State.followUp_keeps)
    | intro y hy
    | split

theorem execSbEgressStamp_keeps {r₀ s : State} (h : Keeps r₀ s) (hd : Hdr) (ftag : Word) (stamp : Option Word) :
    KeepsOut r₀ (execSbEgressStamp hd ftag stamp s) := by
  unfold execSbEgressStamp
  refine Keeps.out ?_
  try dsimp only
  repeat' first
    | with_reducible (first | assumption | apply State.receive_keeps | apply State.setTin_keeps | apply State.sbStamp_keeps)
    | intro y hy

theorem execTimeBaseMirrorAlignment_keeps {r₀ s : State} (h : Keeps r₀ s) (t : Nat) :
    KeepsOut r₀ (execTimeBaseMirrorAlignment t s) := by
  unfold execTimeBaseMirrorAlignment
  refine Keeps.out ?_
  repeat' first
    | with_reducible (first | assumption | apply State.advance_keeps | apply State.send_keeps
                            | apply State.setLink_keeps | apply Keeps.ite)
    | intro y hy

theorem State.ptpMake_keeps {r₀ s : State} (h : Keeps r₀ s) (b : Nat) (kind : Nat) (p : Nat) (draw : Nat) :
    Keeps r₀ (State.ptpMake s b kind p draw).1 := by
  unfold State.ptpMake
  try dsimp only
  repeat' first
    | with_reducible (first | assumption | apply State.setPort_keeps | apply State.draw_keeps)
    | intro y hy

theorem State.engineSend_keeps {r₀ s : State} (h : Keeps r₀ s) (b : Nat) (kind : Nat) (p : Nat) :
    Keeps r₀ (State.engineSend s b kind p) := by
  unfold State.engineSend
  try dsimp only
  repeat' first
    | with_reducible (first | assumption | apply State.draw_keeps | apply State.ptpMake_keeps | apply State.sendPtp_keeps)
    | intro y hy
    | split

theorem State.tcPdelayReq_keeps {r₀ s : State} (h : Keeps r₀ s) (b : Nat) (p : Nat) :
    Keeps r₀ (State.tcPdelayReq s b p) := by
  unfold State.tcPdelayReq
  try dsimp only
  repeat' first
    | with_reducible (first | assumption | apply State.ptpMake_keeps | apply State.queuePtp_keeps)
    | intro y hy

theorem execSyncTransmission_keeps {r₀ s : State} (h : Keeps r₀ s) (tb : Nat) (kind : Nat) :
    KeepsOut r₀ (execSyncTransmission tb kind s) := by
  unfold execSyncTransmission
  refine Keeps.out ?_
  try dsimp only
  repeat' first
    | with_reducible (first | assumption | apply State.ownGm_keeps | apply State.engineSend_keeps | apply State.tcPdelayReq_keeps |
                            apply Keeps.ite | apply Keeps.ite1)
    | (with_reducible apply Keeps.foldl <;> [skip; intros])
    | (with_reducible apply Keeps.foldl1 <;> [skip; intros])
    | intro y hy
    | split

theorem State.showLat_keeps {r₀ s : State} (h : Keeps r₀ s) (p : Nat) :
    Keeps r₀ (State.showLat s p) := by
  unfold State.showLat
  repeat' first
    | with_reducible (first | assumption | apply State.put_keeps | apply Keeps.ite)
    | intro y hy

theorem State.showFtLat_keeps {r₀ s : State} (h : Keeps r₀ s) (f : Nat) :
    Keeps r₀ (State.showFtLat s f) := by
  unfold State.showFtLat
  repeat' first
    | with_reducible (first | assumption | apply State.put_keeps)
    | intro y hy

theorem State.showLats_keeps {r₀ s : State} (h : Keeps r₀ s) :
    Keeps r₀ (State.showLats s) := by
  unfold State.showLats
  repeat' first
    | with_reducible (first | assumption | apply State.showLat_keeps | apply State.showFtLat_keeps)
    | (with_reducible apply Keeps.foldl <;> [skip; intros])
    | (with_reducible apply Keeps.foldl1 <;> [skip; intros])
    | intro y hy

theorem State.raisePort_keeps {r₀ s : State} (h : Keeps r₀ s) (code : Nat) (p : Nat) :
    Keeps r₀ (State.raisePort s code p) := by
  unfold State.raisePort
  repeat' first
    | with_reducible (first | assumption | apply State.raiseHost_keeps | apply State.raise_keeps | apply Keeps.ite)
    | intro y hy

theorem State.countTx_keeps {r₀ s : State} (h : Keeps r₀ s) (p : Nat) (len : Nat) :
    Keeps r₀ (State.countTx s p len) := by
  unfold State.countTx
  repeat' first
    | with_reducible (first | assumption | apply State.stat_keeps | apply Keeps.ite)
    | intro y hy

theorem State.stampTx_keeps {r₀ s : State} (h : Keeps r₀ s) (p : Nat) (f : TxFrame) (out : Nat) :
    Keeps r₀ (State.stampTx s p f out) := by
  unfold State.stampTx
  try dsimp only
  repeat' first
    | with_reducible (first | assumption | apply State.pushStamp_keeps | apply State.setChan_keeps | apply State.followUp_keeps |
                            apply Keeps.ite | apply Keeps.ite1)
    | intro y hy
    | split

theorem State.startFrame_keeps {r₀ s : State} (h : Keeps r₀ s) (p : Nat) (f : TxFrame) (rest : List TxFrame) (raw : Nat) :
    Keeps r₀ (State.startFrame s p f rest raw) := by
  unfold State.startFrame
  try dsimp only
  repeat' first
    | with_reducible (first | assumption | apply State.setPort_keeps | apply State.ptpLeaves_keeps | apply State.countTx_keeps | apply
                            State.stampTx_keeps)
    | intro y hy

theorem State.showPause_keeps {r₀ s : State} (h : Keeps r₀ s) (p : Nat) :
    Keeps r₀ (State.showPause s p) := by
  unfold State.showPause
  try dsimp only
  repeat' first
    | with_reducible (first | assumption | apply State.putB_keeps | apply State.put_keeps | apply State.setPort_keeps | apply
                            Keeps.ite | apply Keeps.ite1)
    | intro y hy
    | split

theorem State.setPause_keeps {r₀ s : State} (h : Keeps r₀ s) (p : Nat) (quanta : Nat) :
    Keeps r₀ (State.setPause s p quanta) := by
  unfold State.setPause
  repeat' first
    | with_reducible (first | assumption | apply State.setPort_keeps | apply State.showPause_keeps)
    | intro y hy

theorem State.pauseFrame_keeps {r₀ s : State} (h : Keeps r₀ s) (p : Nat) (quanta : Nat) :
    Keeps r₀ (State.pauseFrame s p quanta) := by
  unfold State.pauseFrame
  repeat' first
    | with_reducible (first | assumption | apply State.count_keeps | apply State.setPause_keeps | apply Keeps.ite)
    | intro y hy

theorem execPauseFrame_keeps {r₀ s : State} (h : Keeps r₀ s) (port : Nat) (quanta : Nat) (t : Nat) :
    KeepsOut r₀ (execPauseFrame port quanta t s) := by
  unfold execPauseFrame
  refine Keeps.out ?_
  try dsimp only
  repeat' first
    | with_reducible (first | assumption | apply State.advance_keeps | apply State.pauseFrame_keeps | apply Keeps.ite | apply
                            Keeps.ite1)
    | intro y hy
    | split

theorem execPauseExpired_keeps {r₀ s : State} (h : Keeps r₀ s) (port : Nat) (t : Nat) :
    KeepsOut r₀ (execPauseExpired port s t) := by
  unfold execPauseExpired
  refine Keeps.out ?_
  repeat' first
    | with_reducible (first | assumption | apply State.advance_keeps | apply State.showPause_keeps)
    | intro y hy

theorem State.startNext_keeps {r₀ s : State} (h : Keeps r₀ s) (p : Nat) (buffered : Nat) (ftag : Option Word) (t : Nat) :
    Keeps r₀ (State.startNext s p buffered ftag t) := by
  unfold State.startNext
  try dsimp only
  repeat' first
    | with_reducible (first | assumption | apply State.startFrame_keeps | apply State.setHost_keeps | apply Keeps.ite | apply
                            Keeps.ite1)
    | intro y hy
    | split

theorem execTransmitStart_keeps {r₀ s : State} (h : Keeps r₀ s) (port : Nat) (buffered : Nat) (ftag : Option Word) (t : Nat) :
    KeepsOut r₀ (execTransmitStart port buffered t s ftag) := by
  unfold execTransmitStart
  refine Keeps.out ?_
  try dsimp only
  repeat' first
    | with_reducible (first | assumption | apply State.advance_keeps | apply State.showPause_keeps | apply State.queueTx_keeps | apply
                            State.startNext_keeps | apply Keeps.ite | apply Keeps.ite1)
    | intro y hy
    | split

theorem State.setStart_keeps {r₀ s : State} (h : Keeps r₀ s) (p : Nat) (v : Nat) :
    Keeps r₀ (State.setStart s p v) := by
  unfold State.setStart
  repeat' first
    | with_reducible (first | assumption | apply State.put_keeps | apply State.putB_keeps)
    | intro y hy

theorem State.writeTxthr_keeps {r₀ s : State} (h : Keeps r₀ s) (p : Nat) (v : Word) :
    Keeps r₀ (State.writeTxthr s p v) := by
  unfold State.writeTxthr
  repeat' first
    | with_reducible (first | assumption | apply State.setStart_keeps)
    | intro y hy

theorem execTransmitUnderrun_keeps {r₀ s : State} (h : Keeps r₀ s) (port : Nat) :
    KeepsOut r₀ (execTransmitUnderrun port s) := by
  unfold execTransmitUnderrun
  refine Keeps.out ?_
  repeat' first
    | with_reducible (first | assumption | apply State.setPort_keeps | apply State.count_keeps
                            | apply State.raisePort_keeps | apply State.setStart_keeps | apply Keeps.ite)
    | intro y hy

theorem State.startReneg_keeps {r₀ s : State} (h : Keeps r₀ s) (i : Nat) (rate : Nat) :
    Keeps r₀ (State.startReneg s i rate) := by
  unfold State.startReneg
  repeat' first
    | with_reducible (first | assumption | apply State.put_keeps | apply State.setHost_keeps)
    | intro y hy

theorem State.stepUp_keeps {r₀ s : State} (h : Keeps r₀ s) (i : Nat) :
    Keeps r₀ (State.stepUp s i) := by
  unfold State.stepUp
  repeat' first
    | with_reducible (first | assumption | apply State.setHost_keeps | apply State.put_keeps
                            | apply State.startReneg_keeps | apply Keeps.ite)
    | intro y hy

theorem State.showSdinh_keeps {r₀ s : State} (h : Keeps r₀ s) (i : Nat) :
    Keeps r₀ (State.showSdinh s i) := by
  unfold State.showSdinh
  repeat' first
    | with_reducible (first | assumption | apply State.putB_keeps | apply State.stepUp_keeps | apply Keeps.ite)
    | intro y hy

theorem execUtilisationWindow_keeps {r₀ s : State} (h : Keeps r₀ s) (sb : Nat) (rxBits : Nat) (txBits : Nat) :
    KeepsOut r₀ (execUtilisationWindow sb rxBits txBits s) := by
  unfold execUtilisationWindow
  refine Keeps.out ?_
  repeat' first
    | with_reducible (first | assumption | apply State.stepUp_keeps | apply State.setHost_keeps
                            | apply State.put_keeps | apply State.startReneg_keeps | apply Keeps.ite)
    | intro y hy

theorem execRenegotiationComplete_keeps {r₀ s : State} (h : Keeps r₀ s) (sb : Nat) :
    KeepsOut r₀ (execRenegotiationComplete sb s) := by
  unfold execRenegotiationComplete
  refine Keeps.out ?_
  repeat' first
    | with_reducible (first | assumption | apply State.put_keeps | apply State.raiseHost_keeps
                            | apply State.showLat_keeps | apply State.setHost_keeps | apply State.stepUp_keeps
                            | apply Keeps.ite)
    | intro y hy

theorem execTransmitBufferHalfFull_keeps {r₀ s : State} (h : Keeps r₀ s) (sb : Nat) :
    KeepsOut r₀ (execTransmitBufferHalfFull sb s) := by
  unfold execTransmitBufferHalfFull
  refine Keeps.out ?_
  repeat' first
    | with_reducible (first | assumption | apply State.stepUp_keeps | apply Keeps.ite | apply Keeps.ite1)
    | intro y hy
    | split

theorem State.uncountTx_keeps {r₀ s : State} (h : Keeps r₀ s) (p : Nat) (len : Nat) :
    Keeps r₀ (State.uncountTx s p len) := by
  unfold State.uncountTx
  repeat' first
    | with_reducible (first | assumption | apply State.stat_keeps | apply Keeps.ite | apply Keeps.ite1)
    | intro y hy
    | split

theorem State.mtDrop_keeps {r₀ s : State} (h : Keeps r₀ s) :
    Keeps r₀ (State.mtDrop s) := by
  unfold State.mtDrop
  repeat' first
    | with_reducible (first | assumption | apply State.setPort_keeps | apply State.setHost_keeps)
    | intro y hy

theorem State.mtRetry_keeps {r₀ s : State} (h : Keeps r₀ s) (f : TxFrame) (jam : Nat) :
    Keeps r₀ (State.mtRetry s f jam) := by
  unfold State.mtRetry
  try dsimp only
  repeat' first
    | with_reducible (first | assumption | apply State.draw_keeps | apply State.setPort_keeps | apply State.setHost_keeps)
    | intro y hy

theorem execCollision_keeps {r₀ s : State} (h : Keeps r₀ s) (bits : Nat) (t : Nat) :
    KeepsOut r₀ (execCollision bits s t) := by
  unfold execCollision
  refine Keeps.out ?_
  try dsimp only
  repeat' first
    | with_reducible (first | assumption | apply State.advance_keeps | apply State.uncountTx_keeps | apply State.setHost_keeps | apply
                            State.count_keeps | apply State.mtDrop_keeps | apply State.mtRetry_keeps | apply Keeps.ite | apply
                            Keeps.ite1)
    | intro y hy
    | split

theorem execRollExpired_keeps {r₀ s : State} (h : Keeps r₀ s) (t : Nat) :
    KeepsOut r₀ (execRollExpired s t) := by
  unfold execRollExpired
  refine Keeps.out ?_
  try dsimp only
  repeat' first
    | with_reducible (first | assumption | apply State.advance_keeps | apply State.setHost_keeps | apply Keeps.ite | apply Keeps.ite1)
    | intro y hy
    | split

theorem State.sbLinkUp_keeps {r₀ s : State} (h : Keeps r₀ s) (i : Nat) (rate : Nat) :
    Keeps r₀ (State.sbLinkUp s i rate) := by
  unfold State.sbLinkUp
  try dsimp only
  repeat' first
    | with_reducible (first | assumption | apply State.put_keeps | apply State.setHost_keeps | apply State.showLat_keeps | apply
                            State.showSdinh_keeps | apply Keeps.ite | apply Keeps.ite1)
    | intro y hy
    | split

theorem execPortLinkUp_keeps {r₀ s : State} (h : Keeps r₀ s) (port : Nat) (rate : Nat) :
    KeepsOut r₀ (execPortLinkUp port rate s) := by
  unfold execPortLinkUp
  refine Keeps.out ?_
  try dsimp only
  repeat' first
    | with_reducible (first | assumption | apply State.put_keeps | apply State.showLat_keeps | apply State.setHost_keeps | apply
                            State.sbLinkUp_keeps | apply Keeps.ite | apply Keeps.ite1)
    | intro y hy
    | split

theorem execLinkStable_keeps {r₀ s : State} (h : Keeps r₀ s) (port : Nat) :
    KeepsOut r₀ (execLinkStable port s) := by
  unfold execLinkStable
  refine Keeps.out ?_
  repeat' first
    | with_reducible (first | assumption | apply State.raisePort_keeps | apply Keeps.ite)
    | intro y hy

theorem State.portDown_keeps {r₀ s : State} (h : Keeps r₀ s) (port : Nat) :
    Keeps r₀ (State.portDown s port) := by
  unfold State.portDown
  try dsimp only
  repeat' first
    | with_reducible (first | assumption | apply State.put_keeps | apply State.raisePort_keeps | apply State.count_keeps | apply
                            State.startReneg_keeps | apply State.setHost_keeps | apply Keeps.ite | apply Keeps.ite1)
    | intro y hy
    | split

theorem State.latchHi_keeps {r₀ s : State} (h : Keeps r₀ s) (a : Nat) :
    Keeps r₀ (State.latchHi s a) := by
  unfold State.latchHi
  repeat' first
    | with_reducible (first | assumption | apply State.put_keeps | apply Keeps.ite)
    | intro y hy
    | split

theorem execStatCounterLoRead_keeps {r₀ s : State} (h : Keeps r₀ s) (addr : Word) :
    KeepsOut r₀ (execStatCounterLoRead addr s) := by
  unfold execStatCounterLoRead
  refine Keeps.out ?_
  repeat' first
    | with_reducible (first | assumption | apply State.latchHi_keeps)
    | intro y hy

theorem State.openTrip_keeps {r₀ s : State} (h : Keeps r₀ s) (d : Nat) :
    Keeps r₀ (State.openTrip s d) := by
  unfold State.openTrip
  repeat' first
    | with_reducible (first | assumption | apply State.put_keeps | apply State.setTrip_keeps)
    | intro y hy

theorem State.driveTrip_keeps {r₀ s : State} (h : Keeps r₀ s) (d : Nat) :
    Keeps r₀ (State.driveTrip s d) := by
  unfold State.driveTrip
  try dsimp only
  repeat' first
    | with_reducible (first | assumption | apply State.put_keeps | apply State.openTrip_keeps
                            | apply State.setTrip_keeps | apply Keeps.ite)
    | intro y hy
    | split

theorem State.driveTrips_keeps {r₀ s : State} (h : Keeps r₀ s) :
    Keeps r₀ (State.driveTrips s) := by
  unfold State.driveTrips
  repeat' first
    | with_reducible (first | assumption | apply State.driveTrip_keeps)
    | intro y hy

theorem execMinonExpired_keeps {r₀ s : State} (h : Keeps r₀ s) (drive : Nat) (t : Nat) :
    KeepsOut r₀ (execMinonExpired drive t s) := by
  unfold execMinonExpired
  refine Keeps.out ?_
  repeat' first
    | with_reducible (first | assumption | apply State.advance_keeps | apply State.driveTrip_keeps)
    | intro y hy

theorem execTripOverload_keeps {r₀ s : State} (h : Keeps r₀ s) (drive : Nat) :
    KeepsOut r₀ (execTripOverload drive s) := by
  unfold execTripOverload
  refine Keeps.out ?_
  repeat' first
    | with_reducible (first | assumption | apply State.put_keeps | apply State.openTrip_keeps
                            | apply State.setTrip_keeps | apply Keeps.ite)
    | intro y hy

theorem execOverloadRetry_keeps {r₀ s : State} (h : Keeps r₀ s) (drive : Nat) (overloaded : Bool) (t : Nat) :
    KeepsOut r₀ (execOverloadRetry drive overloaded t s) := by
  unfold execOverloadRetry
  refine Keeps.out ?_
  repeat' first
    | with_reducible (first | assumption | apply State.advance_keeps | apply State.put_keeps
                            | apply State.setTrip_keeps | apply State.driveTrip_keeps | apply Keeps.ite)
    | intro y hy

theorem execOpenLoadFound_keeps {r₀ s : State} (h : Keeps r₀ s) (drive : Nat) :
    KeepsOut r₀ (execOpenLoadFound drive s) := by
  unfold execOpenLoadFound
  refine Keeps.out ?_
  repeat' first
    | with_reducible (first | assumption | apply State.put_keeps | apply Keeps.ite)
    | intro y hy

theorem execOpenLoadCleared_keeps {r₀ s : State} (h : Keeps r₀ s) (drive : Nat) :
    KeepsOut r₀ (execOpenLoadCleared drive s) := by
  unfold execOpenLoadCleared
  refine Keeps.out ?_
  repeat' first
    | with_reducible (first | assumption | apply State.put_keeps)
    | intro y hy

theorem State.vltCount_keeps {r₀ s : State} (h : Keeps r₀ s) (op : Nat) (st : Nat) :
    Keeps r₀ (State.vltCount s op st) := by
  unfold State.vltCount
  repeat' first
    | with_reducible (first | assumption | apply State.count_keeps | apply State.put_keeps | apply Keeps.ite)
    | intro y hy

theorem State.vltReply_keeps {r₀ s : State} (h : Keeps r₀ s) (op : Nat) (h : Hdr) (st : Nat) (res : Bytes) :
    Keeps r₀ (State.vltReply s op h st res) := by
  unfold State.vltReply
  repeat' first
    | with_reducible (first | assumption | apply State.vltCount_keeps | apply State.send_keeps)
    | intro y hy

theorem State.vltServe_keeps {r₀ s : State} (h : Keeps r₀ s) (op : Nat) (hd : Hdr) (lenOk : Bool) (act : State → State) (hact : ∀ y, Keeps r₀ y → Keeps r₀ (act y)) :
    Keeps r₀ (State.vltServe s op hd lenOk act) := by
  unfold State.vltServe
  repeat' first
    | with_reducible (first | assumption | apply State.vltReply_keeps | apply Keeps.ite | apply Keeps.ite1 | apply hact)
    | intro y hy
    | split

theorem State.vltTake_keeps {r₀ s : State} (h : Keeps r₀ s) (op : Nat) (hd : Hdr) (act : State → State) (hact : ∀ y, Keeps r₀ y → Keeps r₀ (act y)) :
    Keeps r₀ (State.vltTake s op hd act) := by
  unfold State.vltTake
  try dsimp only
  repeat' first
    | with_reducible (first | assumption | apply State.receive_keeps | apply State.count_keeps | apply State.put_keeps | apply
                            Keeps.ite | apply Keeps.ite1 | apply hact)
    | intro y hy
    | split

theorem State.vltRequest_keeps {r₀ s : State} (h : Keeps r₀ s) (op : Nat) (hd : Hdr) (lenOk : Bool) (act : State → State) (hact : ∀ y, Keeps r₀ y → Keeps r₀ (act y)) :
    Keeps r₀ (State.vltRequest s op hd lenOk act) := by
  unfold State.vltRequest
  try dsimp only
  repeat' first
    | with_reducible (first | assumption | apply State.vltTake_keeps | apply State.vltServe_keeps | apply hact)
    | intro y hy

theorem State.setCand_keeps {r₀ s : State} (h : Keeps r₀ s) (i : Nat) (c : Option Key) :
    Keeps r₀ (State.setCand s i c) := by
  unfold State.setCand
  repeat' first
    | with_reducible (first | assumption | apply State.setKslot_keeps)
    | intro y hy

theorem execKeyinfo_keeps {r₀ s : State} (h : Keeps r₀ s) (h : Hdr) (slot : Nat) :
    KeepsOut r₀ (execKeyinfo h slot s) := by
  unfold execKeyinfo
  refine Keeps.out ?_
  try dsimp only
  repeat' first
    | with_reducible (first | assumption | apply State.vltRequest_keeps | apply State.vltReply_keeps)
    | intro y hy
    | split

theorem State.vltCand_keeps {r₀ s : State} (h : Keeps r₀ s) (op : Nat) (hd : Hdr) (slot : Nat) (lenOk : Bool) (act : State → State) (hact : ∀ y, Keeps r₀ y → Keeps r₀ (act y)) :
    Keeps r₀ (State.vltCand s op hd slot lenOk act) := by
  unfold State.vltCand
  try dsimp only
  repeat' first
    | with_reducible (first | assumption | apply State.vltTake_keeps | apply State.setCand_keeps | apply State.vltServe_keeps | apply
                            Keeps.ite | apply Keeps.ite1 | apply hact)
    | intro y hy
    | split

theorem execImportKey_keeps {r₀ s : State} (h : Keeps r₀ s) (hd : Hdr) (slot : Nat) (wslot : Nat) (use : Nat) (alg : Nat) (attest : Bool) (kcv : Bytes) (wrapped : Bytes) :
    KeepsOut r₀ (execImportKey hd slot wslot use alg attest kcv wrapped s) := by
  unfold execImportKey
  refine Keeps.out ?_
  try dsimp only
  repeat' first
    | with_reducible (first | assumption | apply State.vltCand_keeps | apply State.vltReply_keeps | apply State.count_keeps | apply
                            State.raise_keeps | apply State.setCand_keeps | apply Keeps.ite | apply Keeps.ite1)
    | intro y hy
    | split

theorem execVaultCommit_keeps {r₀ s : State} (h : Keeps r₀ s) (h : Hdr) (slot : Nat) :
    KeepsOut r₀ (execVaultCommit h slot s) := by
  unfold execVaultCommit
  refine Keeps.out ?_
  try dsimp only
  repeat' first
    | with_reducible (first | assumption | apply State.vltRequest_keeps | apply State.vltReply_keeps
                            | apply State.setKslot_keeps | apply State.raise_keeps | apply Keeps.ite)
    | intro y hy
    | split

theorem execVaultCancel_keeps {r₀ s : State} (h : Keeps r₀ s) (h : Hdr) (slot : Nat) :
    KeepsOut r₀ (execVaultCancel h slot s) := by
  unfold execVaultCancel
  refine Keeps.out ?_
  repeat' first
    | with_reducible (first | assumption | apply State.vltRequest_keeps | apply State.setCand_keeps
                            | apply State.vltReply_keeps)
    | intro y hy

theorem execErase_keeps {r₀ s : State} (h : Keeps r₀ s) (h : Hdr) (slot : Nat) :
    KeepsOut r₀ (execErase h slot s) := by
  unfold execErase
  refine Keeps.out ?_
  repeat' first
    | with_reducible (first | assumption | apply State.vltRequest_keeps | apply State.vltReply_keeps
                            | apply State.setKslot_keeps | apply Keeps.ite)
    | intro y hy

theorem execDerive_keeps {r₀ s : State} (h : Keeps r₀ s) (hd : Hdr) (sslot : Nat) (tslot : Nat) (use : Nat) (alg : Nat) (attest : Bool) (salt : Bytes) (info : Bytes) :
    KeepsOut r₀ (execDerive hd sslot tslot use alg attest salt info s) := by
  unfold execDerive
  refine Keeps.out ?_
  try dsimp only
  repeat' first
    | with_reducible (first | assumption | apply State.vltCand_keeps | apply State.vltReply_keeps | apply State.setCand_keeps | apply
                            Keeps.ite | apply Keeps.ite1)
    | intro y hy
    | split

theorem execMac_keeps {r₀ s : State} (h : Keeps r₀ s) (h : Hdr) (slot : Nat) (iv : Bytes) (data : Bytes) :
    KeepsOut r₀ (execMac h slot iv data s) := by
  unfold execMac
  refine Keeps.out ?_
  try dsimp only
  repeat' first
    | with_reducible (first | assumption | apply State.vltRequest_keeps | apply State.vltReply_keeps | apply Keeps.ite)
    | intro y hy
    | split

theorem execVerify_keeps {r₀ s : State} (h : Keeps r₀ s) (h : Hdr) (slot : Nat) (iv : Bytes) (dataTag : Bytes) :
    KeepsOut r₀ (execVerify h slot iv dataTag s) := by
  unfold execVerify
  refine Keeps.out ?_
  try dsimp only
  repeat' first
    | with_reducible (first | assumption | apply State.vltRequest_keeps | apply State.vltReply_keeps | apply Keeps.ite)
    | intro y hy
    | split

theorem execEncrypt_keeps {r₀ s : State} (h : Keeps r₀ s) (h : Hdr) (slot : Nat) (aad : Bytes) (plain : Bytes) :
    KeepsOut r₀ (execEncrypt h slot aad plain s) := by
  unfold execEncrypt
  refine Keeps.out ?_
  repeat' first
    | with_reducible (first | assumption | apply State.vltRequest_keeps | apply State.vltReply_keeps
                            | apply State.setKslot_keeps | apply Keeps.ite)
    | intro y hy

theorem execDecrypt_keeps {r₀ s : State} (h : Keeps r₀ s) (h : Hdr) (slot : Nat) (iv : Bytes) (aad : Bytes) (cipher : Bytes) (gtag : Bytes) :
    KeepsOut r₀ (execDecrypt h slot iv aad cipher gtag s) := by
  unfold execDecrypt
  refine Keeps.out ?_
  repeat' first
    | with_reducible (first | assumption | apply State.vltRequest_keeps | apply State.vltReply_keeps | apply Keeps.ite)
    | intro y hy

theorem execAnchor_keeps {r₀ s : State} (h : Keeps r₀ s) (h : Hdr) (idx : Nat) (key : Bytes) (sig : Bytes) :
    KeepsOut r₀ (execAnchor h idx key sig s) := by
  unfold execAnchor
  refine Keeps.out ?_
  try dsimp only
  repeat' first
    | with_reducible (first | assumption | apply State.vltRequest_keeps | apply State.setVlt_keeps
                            | apply State.put_keeps | apply State.vltReply_keeps | apply Keeps.ite)
    | intro y hy
    | split

theorem execAttest_keeps {r₀ s : State} (h : Keeps r₀ s) (h : Hdr) (slot : Nat) (nonce : Bytes) :
    KeepsOut r₀ (execAttest h slot nonce s) := by
  unfold execAttest
  refine Keeps.out ?_
  repeat' first
    | with_reducible (first | assumption | apply State.vltRequest_keeps | apply State.vltReply_keeps | apply Keeps.ite)
    | intro y hy

theorem execSelftest_keeps {r₀ s : State} (h : Keeps r₀ s) (h : Hdr) :
    KeepsOut r₀ (execSelftest h s) := by
  unfold execSelftest
  refine Keeps.out ?_
  repeat' first
    | with_reducible (first | assumption | apply State.vltRequest_keeps | apply State.put_keeps
                            | apply State.setVlt_keeps)
    | intro y hy

theorem State.emptyDamaged_keeps {r₀ s : State} (h : Keeps r₀ s) (bad : List Nat) :
    Keeps r₀ (State.emptyDamaged s bad) := by
  unfold State.emptyDamaged
  repeat' first
    | with_reducible (first | assumption | apply State.setKslot_keeps | apply State.raise_keeps)
    | (with_reducible apply Keeps.each <;> [skip; intros])
    | intro y hy

theorem State.vltStopping_keeps {r₀ s : State} (h : Keeps r₀ s) (test : Nat) :
    Keeps r₀ (State.vltStopping s test) := by
  unfold State.vltStopping
  repeat' first
    | with_reducible (first | assumption | apply State.put_keeps | apply State.raise_keeps)
    | intro y hy

theorem execSelftestComplete_keeps {r₀ s : State} (h : Keeps r₀ s) (firstFail : Nat) (badSlots : List Nat) :
    KeepsOut r₀ (execSelftestComplete firstFail badSlots s) := by
  unfold execSelftestComplete
  refine Keeps.out ?_
  try dsimp only
  repeat' first
    | with_reducible (first | assumption | apply State.put_keeps | apply State.setVlt_keeps
                            | apply State.vltStopping_keeps | apply State.emptyDamaged_keeps | apply State.send_keeps
                            | apply Keeps.ite)
    | intro y hy
    | split

theorem State.generateRoot_keeps {r₀ s : State} (h : Keeps r₀ s) (entropy : Bytes) :
    Keeps r₀ (State.generateRoot s entropy) := by
  unfold State.generateRoot
  repeat' first
    | with_reducible (first | assumption | apply State.setVlt_keeps | apply State.raise_keeps)
    | intro y hy

theorem State.provision_keeps {r₀ s : State} (h : Keeps r₀ s) :
    Keeps r₀ (State.provision s) := by
  unfold State.provision
  repeat' first
    | with_reducible (first | assumption | apply State.setKslot_keeps | apply State.setVlt_keeps | apply Keeps.ite)
    | intro y hy

theorem State.rootSpoiled_keeps {r₀ s : State} (h : Keeps r₀ s) :
    Keeps r₀ (State.rootSpoiled s) := by
  unfold State.rootSpoiled
  try dsimp only
  repeat' first
    | with_reducible (first | assumption | apply State.setVlt_keeps | apply Keeps.ite | apply Keeps.ite1)
    | intro y hy
    | split

theorem State.vaultStage_keeps {r₀ s : State} (h : Keeps r₀ s) (test : Nat) (bad : List Nat) (entropy : Bytes) :
    Keeps r₀ (State.vaultStage s test bad entropy).1 := by
  unfold State.vaultStage
  try dsimp only
  repeat' first
    | with_reducible (first | assumption | apply State.rootSpoiled_keeps | apply State.vltStopping_keeps | apply State.put_keeps |
                            apply State.setVlt_keeps | apply State.generateRoot_keeps | apply State.provision_keeps | apply
                            State.putB_keeps | apply State.emptyDamaged_keeps | apply Keeps.ite | apply Keeps.ite1)
    | intro y hy
    | split

theorem State.rootCut_keeps {r₀ s : State} (h : Keeps r₀ s) :
    Keeps r₀ (State.rootCut s) := by
  unfold State.rootCut
  repeat' first
    | with_reducible (first | assumption | apply State.rootSpoiled_keeps | apply Keeps.ite | apply Keeps.ite1)
    | intro y hy
    | split

theorem State.vaultReset_keeps {r₀ s : State} (h : Keeps r₀ s) :
    Keeps r₀ (State.vaultReset s) := by
  unfold State.vaultReset
  repeat' first
    | with_reducible (first | assumption | apply State.put_keeps | apply State.setVlt_keeps)
    | intro y hy

theorem State.setPos_keeps {r₀ s : State} (h : Keeps r₀ s) (p : Nat) (v : PosS) :
    Keeps r₀ (State.setPos s p v) := by
  unfold State.setPos
  repeat' first
    | with_reducible (first | assumption | apply State.setTok_keeps | apply Keeps.ite)
    | intro y hy

theorem State.showSync_keeps {r₀ s : State} (h : Keeps r₀ s) :
    Keeps r₀ (State.showSync s) := by
  unfold State.showSync
  repeat' first
    | with_reducible (first | assumption | apply State.putB_keeps | apply State.put_keeps)
    | intro y hy

theorem State.sendRedStatus_keeps {r₀ s : State} (h : Keeps r₀ s) :
    Keeps r₀ (State.sendRedStatus s) := by
  unfold State.sendRedStatus
  repeat' first
    | with_reducible (first | assumption | apply State.showSync_keeps | apply State.send_keeps)
    | intro y hy

theorem State.reportRedOf_keeps {r₀ s : State} (h : Keeps r₀ s) (old : State) :
    Keeps r₀ (State.reportRedOf s old) := by
  unfold State.reportRedOf
  try dsimp only
  repeat' first
    | with_reducible (first | assumption | apply State.showSync_keeps | apply State.sendRedStatus_keeps | apply Keeps.ite | apply
                            Keeps.ite1)
    | intro y hy
    | split

theorem State.reportRed_keeps {r₀ s : State} (h : Keeps r₀ s) (f : State → State) (hf : ∀ y, Keeps r₀ y → Keeps r₀ (f y)) :
    Keeps r₀ (State.reportRed s f) := by
  unfold State.reportRed
  repeat' first
    | with_reducible (first | assumption | apply State.reportRedOf_keeps | apply hf)
    | intro y hy

theorem State.plQueue_keeps {r₀ s : State} (h : Keeps r₀ s) (tw : Nat) (bytes : Bytes) :
    Keeps r₀ (State.plQueue s tw bytes) := by
  unfold State.plQueue
  repeat' first
    | with_reducible (first | assumption | apply State.queueTx_keeps)
    | intro y hy

theorem State.plSeq_keeps {r₀ s : State} (h : Keeps r₀ s) (type : Nat) :
    Keeps r₀ (State.plSeq s type).1 := by
  unfold State.plSeq
  repeat' first
    | with_reducible (first | assumption | apply State.setTok_keeps | apply State.put_keeps)
    | intro y hy

theorem State.plSend_keeps {r₀ s : State} (h : Keeps r₀ s) (type : Nat) (last : Bool) (body : Bytes) :
    Keeps r₀ (State.plSend s type last body) := by
  unfold State.plSend
  repeat' first
    | with_reducible (first | assumption | apply State.plSeq_keeps | apply State.plQueue_keeps)
    | intro y hy

theorem State.plSendOn_keeps {r₀ s : State} (h : Keeps r₀ s) (tw : Nat) (type : Nat) (body : Bytes) :
    Keeps r₀ (State.plSendOn s tw type body) := by
  unfold State.plSendOn
  repeat' first
    | with_reducible (first | assumption | apply State.plSeq_keeps | apply State.plQueue_keeps)
    | intro y hy

theorem State.putBit_keeps {r₀ s : State} (h : Keeps r₀ s) (f : Fld) (i : Nat) (b : Bool) :
    Keeps r₀ (State.putBit s f i b) := by
  unfold State.putBit
  repeat' first
    | with_reducible (first | assumption | apply State.put_keeps | apply Keeps.ite)
    | intro y hy

theorem State.plHeard_keeps {r₀ s : State} (h : Keeps r₀ s) (tw : Nat) :
    Keeps r₀ (State.plHeard s tw) := by
  unfold State.plHeard
  repeat' first
    | with_reducible (first | assumption | apply State.setPort_keeps | apply State.putBit_keeps
                            | apply State.setTok_keeps | apply State.put_keeps | apply Keeps.ite)
    | (with_reducible apply Keeps.each <;> [skip; intros])
    | intro y hy

theorem State.plReceive_keeps {r₀ s : State} (h : Keeps r₀ s) (tw : Nat) (type : Nat) (h : PlHdr) (act : State → State) (hact : ∀ y, Keeps r₀ y → Keeps r₀ (act y)) :
    Keeps r₀ (State.plReceive s tw type h act) := by
  unfold State.plReceive
  repeat' first
    | with_reducible (first | assumption | apply State.reportRed_keeps | apply State.plHeard_keeps
                            | apply State.filter_keeps | apply State.setTok_keeps | apply Keeps.ite | apply hact)
    | intro y hy

theorem State.track_keeps {r₀ s : State} (h : Keeps r₀ s) (i : Nat) (o : Nat) (n : Nat) :
    Keeps r₀ (State.track s i o n) := by
  unfold State.track
  try dsimp only
  repeat' first
    | with_reducible (first | assumption | apply State.filter_keeps | apply State.setMar_keeps | apply Keeps.ite)
    | intro y hy
    | split

theorem State.dataPut_keeps {r₀ s : State} (h : Keeps r₀ s) (i : Nat) (o : Nat) (b : Bytes) :
    Keeps r₀ (State.dataPut s i o b) := by
  unfold State.dataPut
  repeat' first
    | with_reducible (first | assumption | apply State.wrN_keeps | apply State.track_keeps)
    | intro y hy

theorem State.coreActs_keeps {r₀ s : State} (h : Keeps r₀ s) (p : Nat) :
    Keeps r₀ (State.coreActs s p) := by
  unfold State.coreActs
  repeat' first
    | with_reducible (first | assumption | apply State.put_keeps | apply Keeps.ite | apply Keeps.ite1)
    | intro y hy
    | split

theorem State.takeSeq_keeps {r₀ s : State} (h : Keeps r₀ s) (k : Nat) :
    Keeps r₀ (State.takeSeq s k).1 := by
  unfold State.takeSeq
  try dsimp only
  repeat' first
    | with_reducible (first | assumption | apply State.setPub_keeps | apply State.put_keeps)
    | intro y hy

theorem State.sendPaired_keeps {r₀ s : State} (h : Keeps r₀ s) (p : Nat) (f : Nat → Option RedS → TxFrame) :
    Keeps r₀ (State.sendPaired s p f) := by
  unfold State.sendPaired
  try dsimp only
  repeat' first
    | with_reducible (first | assumption | apply State.queueTx_keeps | apply State.takeSeq_keeps)
    | intro y hy
    | split

theorem State.redSeq_keeps {r₀ s : State} (h : Keeps r₀ s) (f : PubFrame) (p : Nat) (cyc : Nat) :
    Keeps r₀ (State.redSeq s f p cyc).1 := by
  unfold State.redSeq
  try dsimp only
  repeat' first
    | with_reducible (first | assumption | apply State.takeSeq_keeps | apply Keeps.ite | apply Keeps.ite1)
    | intro y hy
    | split

theorem State.pubCopy_keeps {r₀ s : State} (h : Keeps r₀ s) (f : PubFrame) (cyc : Nat) (tag : Bytes) (p : Nat) :
    Keeps r₀ (State.pubCopy s f cyc tag p) := by
  unfold State.pubCopy
  repeat' first
    | with_reducible (first | assumption | apply State.redSeq_keeps | apply State.queueTx_keeps | apply Keeps.ite)
    | intro y hy

theorem State.pubMirror_keeps {r₀ s : State} (h : Keeps r₀ s) (f : PubFrame) (cyc : Nat) (tag : Bytes) :
    Keeps r₀ (State.pubMirror s f cyc tag) := by
  unfold State.pubMirror
  try dsimp only
  repeat' first
    | with_reducible (first | assumption | apply State.count_keeps | apply State.send_keeps | apply Keeps.ite)
    | intro y hy
    | split

theorem State.pubEmit_keeps {r₀ s : State} (h : Keeps r₀ s) (f : PubFrame) (gcnt : Fld) (flo : Fld) (flive : Fld) :
    Keeps r₀ (State.pubEmit s f gcnt flo flive).1 := by
  unfold State.pubEmit
  try dsimp only
  repeat' first
    | with_reducible (first | assumption | apply State.count_keeps | apply State.pubCopy_keeps
                            | apply State.pubMirror_keeps | apply State.stat_keeps | apply Keeps.ite
                            | apply Keeps.ite1)
    | (with_reducible apply Keeps.foldl <;> [skip; intros])
    | (with_reducible apply Keeps.foldl1 <;> [skip; intros])
    | intro y hy
    | split

theorem State.noTag_keeps {r₀ s : State} (h : Keeps r₀ s) (id : Nat) (cnt : Fld) (lastAt : Option Nat) :
    Keeps r₀ (State.noTag s id cnt lastAt).1 := by
  unfold State.noTag
  try dsimp only
  repeat' first
    | with_reducible (first | assumption | apply State.count_keeps | apply State.raise_keeps | apply Keeps.ite
                            | apply Keeps.ite1)
    | intro y hy
    | split

theorem State.goosePut_keeps {r₀ s : State} (h : Keeps r₀ s) (t : Nat) (nominal : Nat) (tal : Nat) :
    Keeps r₀ (State.goosePut s t nominal tal).1 := by
  unfold State.goosePut
  try dsimp only
  repeat' first
    | with_reducible (first | assumption | apply State.pubEmit_keeps | apply State.noTag_keeps
                            | apply State.setGoose_keeps | apply State.put_keeps | apply Keeps.ite | apply Keeps.ite1)
    | intro y hy
    | split

theorem State.stateChange_keeps {r₀ s : State} (h : Keeps r₀ s) (t : Nat) (dep : Nat) (deadlineUs : Nat) (contents : Bytes) :
    Keeps r₀ (State.stateChange s t dep deadlineUs contents) := by
  unfold State.stateChange
  repeat' first
    | with_reducible (first | assumption | apply State.setRbk_keeps | apply State.filter_keeps
                            | apply State.setGoose_keeps | apply State.put_keeps | apply State.goosePut_keeps)
    | intro y hy

theorem State.servePoint_keeps {r₀ s : State} (h : Keeps r₀ s) (t : Nat) :
    Keeps r₀ (State.servePoint s t) := by
  unfold State.servePoint
  try dsimp only
  repeat' first
    | with_reducible (first | assumption | apply State.setGoose_keeps | apply State.goosePut_keeps)
    | intro y hy
    | split

theorem State.pointDue_keeps {r₀ s : State} (h : Keeps r₀ s) (t : Nat) (atCommit : Bool) :
    Keeps r₀ (State.pointDue s t atCommit) := by
  unfold State.pointDue
  try dsimp only
  repeat' first
    | with_reducible (first | assumption | apply State.setGoose_keeps | apply State.servePoint_keeps | apply Keeps.ite | apply
                            Keeps.ite1)
    | intro y hy
    | split

theorem execRetransmissionPoint_keeps {r₀ s : State} (h : Keeps r₀ s) (tpl : Nat) (atCommit : Bool) (t : Nat) :
    KeepsOut r₀ (execRetransmissionPoint tpl t s atCommit) := by
  unfold execRetransmissionPoint
  refine Keeps.out ?_
  try dsimp only
  repeat' first
    | with_reducible (first | assumption | apply State.advance_keeps | apply State.pointDue_keeps | apply Keeps.ite | apply Keeps.ite1)
    | intro y hy
    | split

theorem State.serveDeferred_keeps {r₀ : State} : ∀ (n : Nat) {s : State} (_ : Keeps r₀ s) (a0 : Nat),
    Keeps r₀ (State.serveDeferred n s a0)
  | 0, _, h, _ => by unfold State.serveDeferred; exact h
  | n + 1, s, h, a0 => by
    unfold State.serveDeferred
    try dsimp only
    repeat' first
      | with_reducible (first | assumption | apply State.serveDeferred_keeps n | apply State.servePoint_keeps
                              | apply State.setGoose_keeps | apply Keeps.ite)
      | intro y hy
      | split

theorem State.pubTaskEnd_keeps {r₀ s : State} (h : Keeps r₀ s) (i : Nat) :
    Keeps r₀ (State.pubTaskEnd s i) := by
  unfold State.pubTaskEnd
  repeat' first
    | with_reducible (first | assumption | apply State.serveDeferred_keeps)
    | (with_reducible apply Keeps.foldl <;> [skip; intros])
    | (with_reducible apply Keeps.foldl1 <;> [skip; intros])
    | intro y hy

theorem State.takeBuffer_keeps {r₀ s : State} (h : Keeps r₀ s) (i : Nat) (t : Nat) (dep : Nat) (deadlineUs : Nat) :
    Keeps r₀ (State.takeBuffer s i t dep deadlineUs).1 := by
  unfold State.takeBuffer
  repeat' first
    | with_reducible (first | assumption | apply State.count_keeps | apply State.stateChange_keeps | apply Keeps.ite
                            | apply Keeps.ite1)
    | intro y hy

theorem State.pubCommit_keeps {r₀ s : State} (h : Keeps r₀ s) (i : Nat) (mask : Nat) (dep : Nat) (deadlineUs : Nat) :
    Keeps r₀ (State.pubCommit s i mask dep deadlineUs).1 := by
  unfold State.pubCommit
  try dsimp only
  repeat' first
    | with_reducible (first | assumption | apply State.filter_keeps | apply State.takeBuffer_keeps | apply Keeps.ite
                            | apply Keeps.ite1)
    | (with_reducible apply Keeps.foldl <;> [skip; intros])
    | (with_reducible apply Keeps.foldl1 <;> [skip; intros])
    | intro y hy
    | split

theorem State.stopTemplate_keeps {r₀ s : State} (h : Keeps r₀ s) (t : Nat) :
    Keeps r₀ (State.stopTemplate s t) := by
  unfold State.stopTemplate
  repeat' first
    | with_reducible (first | assumption | apply State.setGoose_keeps | apply State.goosePut_keeps
                            | apply State.raiseI_keeps | apply State.put_keeps | apply Keeps.ite)
    | intro y hy

theorem State.pubReset_keeps {r₀ s : State} (h : Keeps r₀ s) (i : Nat) :
    Keeps r₀ (State.pubReset s i) := by
  unfold State.pubReset
  repeat' first
    | with_reducible (first | assumption | apply State.stopTemplate_keeps)
    | (with_reducible apply Keeps.foldl <;> [skip; intros])
    | (with_reducible apply Keeps.foldl1 <;> [skip; intros])
    | intro y hy

theorem State.pubRestore_keeps {r₀ s : State} (h : Keeps r₀ s) (i : Nat) (l : List (Nat × GooseS)) :
    Keeps r₀ (State.pubRestore s i l) := by
  unfold State.pubRestore
  repeat' first
    | with_reducible (first | assumption | apply State.setGoose_keeps)
    | (with_reducible apply Keeps.foldl <;> [skip; intros])
    | (with_reducible apply Keeps.foldl1 <;> [skip; intros])
    | intro y hy
    | split

theorem State.pubCold_keeps {r₀ s : State} (h : Keeps r₀ s) (i : Nat) :
    Keeps r₀ (State.pubCold s i) := by
  unfold State.pubCold
  repeat' first
    | with_reducible (first | assumption | apply State.put_keeps | apply State.setGoose_keeps)
    | (with_reducible apply Keeps.foldl <;> [skip; intros])
    | (with_reducible apply Keeps.foldl1 <;> [skip; intros])
    | intro y hy

theorem State.pubResume_keeps {r₀ s : State} (h : Keeps r₀ s) (i : Nat) :
    Keeps r₀ (State.pubResume s i) := by
  unfold State.pubResume
  repeat' first
    | with_reducible (first | assumption | apply State.setGoose_keeps | apply State.put_keeps | apply Keeps.ite)
    | (with_reducible apply Keeps.foldl <;> [skip; intros])
    | (with_reducible apply Keeps.foldl1 <;> [skip; intros])
    | intro y hy

theorem State.resumeFrames_keeps {r₀ s : State} (h : Keeps r₀ s) :
    Keeps r₀ (State.resumeFrames s) := by
  unfold State.resumeFrames
  repeat' first
    | with_reducible (first | assumption | apply State.filter_keeps | apply State.put_keeps
                            | apply State.setGoose_keeps | apply State.goosePut_keeps | apply Keeps.ite)
    | (with_reducible apply Keeps.foldl <;> [skip; intros])
    | (with_reducible apply Keeps.foldl1 <;> [skip; intros])
    | intro y hy

theorem State.svDeliver_keeps {r₀ s : State} (h : Keeps r₀ s) (v : Nat) (ch : Nat) (value : Int) (qual : Nat) :
    Keeps r₀ (State.svDeliver s v ch value qual) := by
  unfold State.svDeliver
  repeat' first
    | with_reducible (first | assumption | apply State.setSvt_keeps | apply State.filter_keeps)
    | intro y hy

theorem State.svReleaseOne_keeps {r₀ s : State} (h : Keeps r₀ s) (v : Nat) (dep : Nat) :
    Keeps r₀ (State.svReleaseOne s v dep) := by
  unfold State.svReleaseOne
  try dsimp only
  repeat' first
    | with_reducible (first | assumption | apply State.setSvt_keeps | apply State.pubEmit_keeps
                            | apply State.noTag_keeps | apply State.put_keeps | apply Keeps.ite)
    | intro y hy
    | split

theorem State.digestNote_keeps {r₀ s : State} (h : Keeps r₀ s) (l : Launch) (commit : Bool) (trip : Word) (fault : Bool) (bufs : List (Nat × Bytes)) :
    Keeps r₀ (State.digestNote s l commit trip fault bufs) := by
  unfold State.digestNote
  repeat' first
    | with_reducible (first | assumption | apply State.setPub_keeps | apply Keeps.ite)
    | intro y hy
    | split

theorem State.digestCompare_keeps {r₀ s : State} (h : Keeps r₀ s) (cyc : Nat) :
    Keeps r₀ (State.digestCompare s cyc) := by
  unfold State.digestCompare
  try dsimp only
  repeat' first
    | with_reducible (first | assumption | apply State.setPub_keeps | apply State.filter_keeps | apply State.put_keeps
                            | apply State.count_keeps | apply State.raise_keeps | apply Keeps.ite)
    | intro y hy
    | split

theorem execDigestSend_keeps {r₀ s : State} (h : Keeps r₀ s) (cycle : Nat) (t : Nat) :
    KeepsOut r₀ (execDigestSend cycle t s) := by
  unfold execDigestSend
  refine Keeps.out ?_
  repeat' first
    | with_reducible (first | assumption | apply State.advance_keeps | apply State.setPub_keeps
                            | apply State.filter_keeps | apply State.plSend_keeps | apply State.digestCompare_keeps
                            | apply Keeps.ite)
    | intro y hy

theorem State.digestIn_keeps {r₀ s : State} (h : Keeps r₀ s) (tw : Nat) (h : PlHdr) (cycle : Nat) (digest : BitVec 64) :
    Keeps r₀ (State.digestIn s tw h cycle digest) := by
  unfold State.digestIn
  repeat' first
    | with_reducible (first | assumption | apply State.plReceive_keeps | apply State.setPub_keeps
                            | apply State.digestCompare_keeps | apply Keeps.ite)
    | intro y hy

theorem execDigestFrame_keeps {r₀ s : State} (h : Keeps r₀ s) (tw : Nat) (h : PlHdr) (cycle : Nat) (digest : BitVec 64) (t : Nat) :
    KeepsOut r₀ (execDigestFrame tw h cycle digest t s) := by
  unfold execDigestFrame
  refine Keeps.out ?_
  repeat' first
    | with_reducible (first | assumption | apply State.advance_keeps | apply State.digestIn_keeps)
    | intro y hy

theorem execDigestTimeout_keeps {r₀ s : State} (h : Keeps r₀ s) (cycle : Nat) :
    KeepsOut r₀ (execDigestTimeout cycle s) := by
  unfold execDigestTimeout
  refine Keeps.out ?_
  repeat' first
    | with_reducible (first | assumption | apply State.count_keeps | apply State.setPub_keeps
                            | apply State.filter_keeps | apply Keeps.ite)
    | intro y hy

theorem State.fixGrid_keeps {r₀ s : State} (h : Keeps r₀ s) (g : Nat) (k : Nat) (t : Int) :
    Keeps r₀ (State.fixGrid s g k t) := by
  unfold State.fixGrid
  try dsimp only
  repeat' first
    | with_reducible (first | assumption | apply State.setGroup_keeps | apply Keeps.ite)
    | intro y hy
    | split

theorem State.fgMark_keeps {r₀ s : State} (h : Keeps r₀ s) (g : Nat) (k : Nat) :
    Keeps r₀ (State.fgMark s g k) := by
  unfold State.fgMark
  repeat' first
    | with_reducible (first | assumption | apply State.setGroup_keeps)
    | intro y hy

theorem State.fgTo_keeps {r₀ s : State} (h : Keeps r₀ s) (g : Nat) (k : Nat) (st : Nat) (f : Nat) (code : Nat) :
    Keeps r₀ (State.fgTo s g k st f code) := by
  unfold State.fgTo
  repeat' first
    | with_reducible (first | assumption | apply State.put_keeps | apply State.setGroup_keeps
                            | apply State.fgMark_keeps | apply State.raise_keeps)
    | intro y hy

theorem State.fgNominal_keeps {r₀ s : State} (h : Keeps r₀ s) (g : Nat) (k : Nat) :
    Keeps r₀ (State.fgNominal s g k) := by
  unfold State.fgNominal
  repeat' first
    | with_reducible (first | assumption | apply State.fgTo_keeps)
    | intro y hy

theorem State.fgCoast_keeps {r₀ s : State} (h : Keeps r₀ s) (g : Nat) (k : Nat) :
    Keeps r₀ (State.fgCoast s g k) := by
  unfold State.fgCoast
  try dsimp only
  repeat' first
    | with_reducible (first | assumption | apply State.setGroup_keeps | apply State.count_keeps | apply State.fgTo_keeps | apply
                            State.fgNominal_keeps | apply Keeps.ite | apply Keeps.ite1)
    | intro y hy
    | split

theorem State.groupStart_keeps {r₀ s : State} (h : Keeps r₀ s) (g : Nat) :
    Keeps r₀ (State.groupStart s g) := by
  unfold State.groupStart
  repeat' first
    | with_reducible (first | assumption | apply State.setGroup_keeps | apply State.put_keeps
                            | apply State.fgMark_keeps | apply Keeps.ite)
    | intro y hy

theorem State.groupsStart_keeps {r₀ s : State} (h : Keeps r₀ s) :
    Keeps r₀ (State.groupsStart s) := by
  unfold State.groupsStart
  repeat' first
    | with_reducible (first | assumption | apply State.groupStart_keeps)
    | (with_reducible apply Keeps.each <;> [skip; intros])
    | intro y hy

theorem State.fgUpdate_keeps {r₀ s : State} (h : Keeps r₀ s) (g : Nat) (k : Nat) (x : Option (Int × Int)) :
    Keeps r₀ (State.fgUpdate s g k x) := by
  unfold State.fgUpdate
  try dsimp only
  repeat' first
    | with_reducible (first | assumption | apply State.count_keeps | apply State.put_keeps
                            | apply State.setGroup_keeps | apply State.fgMark_keeps | apply State.fgCoast_keeps
                            | apply State.fgTo_keeps | apply Keeps.ite | apply Keeps.ite1)
    | intro y hy
    | split

theorem State.fgHoldEnd_keeps {r₀ s : State} (h : Keeps r₀ s) (g : Nat) (k : Nat) :
    Keeps r₀ (State.fgHoldEnd s g k) := by
  unfold State.fgHoldEnd
  try dsimp only
  repeat' first
    | with_reducible (first | assumption | apply State.setGroup_keeps | apply State.fgNominal_keeps | apply Keeps.ite | apply
                            Keeps.ite1)
    | intro y hy
    | split

theorem State.refPoint_keeps {r₀ s : State} (h : Keeps r₀ s) (g : Nat) (vals : List Int) (ok : Bool) :
    Keeps r₀ (State.refPoint s g vals ok) := by
  unfold State.refPoint
  try dsimp only
  repeat' first
    | with_reducible (first | assumption | apply State.setGroup_keeps | apply State.put_keeps | apply State.fgCoast_keeps | apply
                            State.fgUpdate_keeps | apply State.fgHoldEnd_keeps | apply Keeps.ite | apply Keeps.ite1)
    | intro y hy
    | split

theorem State.refRun_keeps {r₀ : State} : ∀ (n : Nat) {s : State} (_ : Keeps r₀ s) (a0 : Nat),
    Keeps r₀ (State.refRun n s a0)
  | 0, _, h, _ => by unfold State.refRun; exact h
  | n + 1, s, h, a0 => by
    unfold State.refRun
    try dsimp only
    repeat' first
      | with_reducible (first | assumption | apply State.refRun_keeps n | apply State.setGroup_keeps
                              | apply State.refPoint_keeps | apply Keeps.ite)
      | intro y hy

theorem State.groupTake_keeps {r₀ s : State} (h : Keeps r₀ s) (g : Nat) (l : Nat) (k : Nat) (value : Int) (qual : Nat) :
    Keeps r₀ (State.groupTake s g l k value qual) := by
  unfold State.groupTake
  repeat' first
    | with_reducible (first | assumption | apply State.setGroup_keeps | apply State.put_keeps
                            | apply State.refRun_keeps | apply Keeps.ite)
    | intro y hy

theorem State.fzTake_keeps {r₀ s : State} (h : Keeps r₀ s) (z : Nat) :
    Keeps r₀ (State.fzTake s z) := by
  unfold State.fzTake
  try dsimp only
  repeat' first
    | with_reducible (first | assumption | apply State.put_keeps | apply State.setFch_keeps | apply State.filter_keeps
                            | apply State.raise_keeps | apply Keeps.ite)
    | intro y hy
    | split

theorem State.fzRefresh_keeps {r₀ s : State} (h : Keeps r₀ s) :
    Keeps r₀ (State.fzRefresh s) := by
  unfold State.fzRefresh
  repeat' first
    | with_reducible (first | assumption | apply State.fzTake_keeps)
    | (with_reducible apply Keeps.each <;> [skip; intros])
    | intro y hy

theorem State.showSettle_keeps {r₀ s : State} (h : Keeps r₀ s) (l : Nat) :
    Keeps r₀ (State.showSettle s l) := by
  unfold State.showSettle
  repeat' first
    | with_reducible (first | assumption | apply State.put_keeps)
    | intro y hy

theorem State.disturb_keeps {r₀ s : State} (h : Keeps r₀ s) (l : Nat) :
    Keeps r₀ (State.disturb s l) := by
  unfold State.disturb
  repeat' first
    | with_reducible (first | assumption | apply State.put_keeps | apply State.putB_keeps)
    | intro y hy

theorem State.showDelay_keeps {r₀ s : State} (h : Keeps r₀ s) (l : Nat) :
    Keeps r₀ (State.showDelay s l) := by
  unfold State.showDelay
  repeat' first
    | with_reducible (first | assumption | apply State.put_keeps)
    | intro y hy

theorem State.remapLane_keeps {r₀ s : State} (h : Keeps r₀ s) (l : Nat) :
    Keeps r₀ (State.remapLane s l) := by
  unfold State.remapLane
  repeat' first
    | with_reducible (first | assumption | apply State.setLane_keeps | apply State.put_keeps
                            | apply State.showSettle_keeps | apply State.showDelay_keeps | apply State.disturb_keeps)
    | intro y hy

theorem State.remapLanes_keeps {r₀ s : State} (h : Keeps r₀ s) :
    Keeps r₀ (State.remapLanes s) := by
  unfold State.remapLanes
  repeat' first
    | with_reducible (first | assumption | apply State.remapLane_keeps)
    | (with_reducible apply Keeps.each <;> [skip; intros])
    | intro y hy

theorem State.ringPut_keeps {r₀ s : State} (h : Keeps r₀ s) (i : Nat) (o : Nat) (b : Bytes) :
    Keeps r₀ (State.ringPut s i o b) := by
  unfold State.ringPut
  try dsimp only
  repeat' first
    | with_reducible (first | assumption | apply State.wrN_keeps | apply Keeps.ite)
    | intro y hy
    | split

theorem State.ringWrite_keeps {r₀ s : State} (h : Keeps r₀ s) (i : Nat) (r : Nat) (k : Nat) (value : Int) (qual : Nat) :
    Keeps r₀ (State.ringWrite s i r k value qual) := by
  unfold State.ringWrite
  repeat' first
    | with_reducible (first | assumption | apply State.setInst_keeps | apply State.ringPut_keeps | apply Keeps.ite)
    | intro y hy

theorem State.deliverOut_keeps {r₀ s : State} (h : Keeps r₀ s) (l : Nat) (k : Nat) (gt : Int) (value : Int) (qual : Nat) (prev : Option (Int × Int)) (rises : List (Nat × Int × Bool)) :
    Keeps r₀ (State.deliverOut s l k gt value qual prev rises) := by
  unfold State.deliverOut
  repeat' first
    | with_reducible (first | assumption | apply State.ringWrite_keeps | apply State.recLane_keeps
                            | apply State.svDeliver_keeps | apply State.histSample_keeps | apply State.setLane_keeps
                            | apply State.groupTake_keeps | apply Keeps.ite)
    | (with_reducible apply Keeps.foldl <;> [skip; intros])
    | (with_reducible apply Keeps.foldl1 <;> [skip; intros])
    | intro y hy

theorem State.emitPoint_keeps {r₀ s : State} (h : Keeps r₀ s) (l : Nat) (k : Nat) (gt : Int) (mu : Option Int) (q : InFlags) :
    Keeps r₀ (State.emitPoint s l k gt mu q) := by
  unfold State.emitPoint
  repeat' first
    | with_reducible (first | assumption | apply State.slew_keeps | apply State.setLane_keeps
                            | apply State.deliverOut_keeps | apply State.count_keeps | apply Keeps.ite)
    | intro y hy

theorem State.resample_keeps {r₀ : State} : ∀ (n : Nat) {s : State} (_ : Keeps r₀ s) (a0 : Nat) (a1 : InFlags) (a2 : Bool),
    Keeps r₀ (State.resample n s a0 a1 a2).1
  | 0, _, h, _, _, _ => by unfold State.resample; exact h
  | n + 1, s, h, a0, a1, a2 => by
    unfold State.resample
    try dsimp only
    repeat' first
      | with_reducible (first | assumption | apply State.resample_keeps n | apply State.fixGrid_keeps
                              | apply State.setLane_keeps | apply State.emitPoint_keeps | apply Keeps.ite
                              | apply Keeps.ite1)
      | intro y hy
      | split

theorem State.switchLane_keeps {r₀ s : State} (h : Keeps r₀ s) (l : Nat) (b : Nat) :
    Keeps r₀ (State.switchLane s l b) := by
  unfold State.switchLane
  try dsimp only
  repeat' first
    | with_reducible (first | assumption | apply State.setLane_keeps | apply State.showSettle_keeps | apply State.disturb_keeps |
                            apply Keeps.ite | apply Keeps.ite1)
    | intro y hy
    | split

theorem State.firIn_keeps {r₀ s : State} (h : Keeps r₀ s) (l : Nat) (v : Int) (label : Int) (q : InFlags) :
    Keeps r₀ (State.firIn s l v label q).1 := by
  unfold State.firIn
  try dsimp only
  repeat' first
    | with_reducible (first | assumption | apply State.switchLane_keeps | apply State.setLane_keeps | apply State.putB_keeps | apply
                            State.resample_keeps | apply Keeps.ite | apply Keeps.ite1)
    | (with_reducible apply Keeps.foldl <;> [skip; intros])
    | (with_reducible apply Keeps.foldl1 <;> [skip; intros])
    | intro y hy
    | split

theorem State.laneIn_keeps {r₀ s : State} (h : Keeps r₀ s) (l : Nat) (i : Sample) :
    Keeps r₀ (State.laneIn s l i).1 := by
  unfold State.laneIn
  try dsimp only
  repeat' first
    | with_reducible (first | assumption | apply State.fzRefresh_keeps | apply State.slew_keeps
                            | apply State.setLane_keeps | apply State.showDelay_keeps | apply State.putB_keeps
                            | apply State.disturb_keeps | apply State.put_keeps | apply State.firIn_keeps
                            | apply Keeps.ite | apply Keeps.ite1)
    | intro y hy
    | split

theorem State.laneRun_keeps {r₀ : State} : ∀ (n : Nat) {s : State} (_ : Keeps r₀ s) (a0 : Nat),
    Keeps r₀ (State.laneRun n s a0)
  | 0, _, h, _ => by unfold State.laneRun; exact h
  | n + 1, s, h, a0 => by
    unfold State.laneRun
    try dsimp only
    repeat' first
      | with_reducible (first | assumption | apply State.laneRun_keeps n | apply State.setLane_keeps
                              | apply State.laneIn_keeps | apply State.peak_keeps | apply Keeps.ite)
      | intro y hy
      | split

theorem execLaneOutput_keeps {r₀ s : State} (h : Keeps r₀ s) (lane : Nat) (t : Nat) :
    KeepsOut r₀ (execLaneOutput lane t s) := by
  unfold execLaneOutput
  refine Keeps.out ?_
  repeat' first
    | with_reducible (first | assumption | apply State.advance_keeps | apply State.laneRun_keeps | apply Keeps.ite)
    | intro y hy

theorem execCoastingHoldExpired_keeps {r₀ s : State} (h : Keeps r₀ s) (fg : Nat) (atPoint : Bool) :
    KeepsOut r₀ (execCoastingHoldExpired fg s atPoint) := by
  unfold execCoastingHoldExpired
  refine Keeps.out ?_
  repeat' first
    | with_reducible (first | assumption | apply State.setGroup_keeps | apply State.fgNominal_keeps | apply Keeps.ite | apply
                            Keeps.ite1)
    | intro y hy
    | split

theorem execCoeffBankSwitchRequest_keeps {r₀ s : State} (h : Keeps r₀ s) :
    KeepsOut r₀ (execCoeffBankSwitchRequest s) := by
  unfold execCoeffBankSwitchRequest
  refine Keeps.out ?_
  repeat' first
    | with_reducible (first | assumption | apply State.put_keeps)
    | intro y hy

theorem State.coefBoundary_keeps {r₀ s : State} (h : Keeps r₀ s) (at_ : Nat) :
    Keeps r₀ (State.coefBoundary s at_) := by
  unfold State.coefBoundary
  repeat' first
    | with_reducible (first | assumption | apply State.put_keeps | apply State.setFch_keeps | apply Keeps.ite)
    | intro y hy

theorem State.writeDelay_keeps {r₀ s : State} (h : Keeps r₀ s) (l : Nat) (int : Nat) (frac : Nat) :
    Keeps r₀ (State.writeDelay s l int frac) := by
  unfold State.writeDelay
  repeat' first
    | with_reducible (first | assumption | apply State.put_keeps | apply State.setLane_keeps | apply State.slew_keeps)
    | intro y hy

theorem execPhaseDelayWrite_keeps {r₀ s : State} (h : Keeps r₀ s) (lane : Nat) (int : Nat) (frac : Nat) :
    KeepsOut r₀ (execPhaseDelayWrite lane int frac s) := by
  unfold execPhaseDelayWrite
  refine Keeps.out ?_
  repeat' first
    | with_reducible (first | assumption | apply State.writeDelay_keeps)
    | intro y hy

theorem State.resetDc_keeps {r₀ s : State} (h : Keeps r₀ s) (l : Nat) :
    Keeps r₀ (State.resetDc s l) := by
  unfold State.resetDc
  try dsimp only
  repeat' first
    | with_reducible (first | assumption | apply State.setLane_keeps | apply State.disturb_keeps | apply Keeps.ite | apply Keeps.ite1)
    | intro y hy
    | split

theorem execDcrst_keeps {r₀ s : State} (h : Keeps r₀ s) (lane : Nat) :
    KeepsOut r₀ (execDcrst lane s) := by
  unfold execDcrst
  refine Keeps.out ?_
  repeat' first
    | with_reducible (first | assumption | apply State.resetDc_keeps)
    | intro y hy

theorem execFgIdxLoRead_keeps {r₀ s : State} (h : Keeps r₀ s) (fg : Nat) :
    KeepsOut r₀ (execFgIdxLoRead fg s) := by
  unfold execFgIdxLoRead
  refine Keeps.out ?_
  repeat' first
    | with_reducible (first | assumption | apply State.latchHi_keeps)
    | intro y hy

theorem State.closeFrame_keeps {r₀ s : State} (h : Keeps r₀ s) (g : Nat) (m : Int) :
    Keeps r₀ (State.closeFrame s g m) := by
  unfold State.closeFrame
  try dsimp only
  repeat' first
    | with_reducible (first | assumption | apply State.put_keeps | apply State.count_keeps | apply State.ringPut_keeps
                            | apply Keeps.ite)
    | (with_reducible apply Keeps.foldl <;> [skip; intros])
    | (with_reducible apply Keeps.foldl1 <;> [skip; intros])
    | intro y hy
    | split

theorem State.closeWindow_keeps {r₀ s : State} (h : Keeps r₀ s) :
    Keeps r₀ (State.closeWindow s) := by
  unfold State.closeWindow
  try dsimp only
  repeat' first
    | with_reducible (first | assumption | apply State.count_keeps | apply State.put_keeps | apply State.peak_keeps | apply
                            State.setSvi_keeps | apply State.raise_keeps | apply Keeps.ite | apply Keeps.ite1)
    | intro y hy
    | split

theorem State.enqueue_keeps {r₀ s : State} (h : Keeps r₀ s) (q : QFrame) :
    Keeps r₀ (State.enqueue s q) := by
  unfold State.enqueue
  try dsimp only
  repeat' first
    | with_reducible (first | assumption | apply State.closeWindow_keeps | apply State.setSvi_keeps | apply State.count_keeps | apply
                            State.peak_keeps | apply Keeps.ite | apply Keeps.ite1)
    | intro y hy
    | split

theorem State.classify_keeps {r₀ s : State} (h : Keeps r₀ s) (p : Nat) (f : RxFrame) (stamp : Nat) :
    Keeps r₀ (State.classify s p f stamp) := by
  unfold State.classify
  repeat' first
    | with_reducible (first | assumption | apply State.stat_keeps | apply State.enqueue_keeps | apply Keeps.ite)
    | intro y hy
    | split

theorem execLoadWindow_keeps {r₀ s : State} (h : Keeps r₀ s) (t : Nat) :
    KeepsOut r₀ (execLoadWindow t s) := by
  unfold execLoadWindow
  refine Keeps.out ?_
  repeat' first
    | with_reducible (first | assumption | apply State.advance_keeps | apply State.closeWindow_keeps)
    | intro y hy

theorem State.reportSync_keeps {r₀ s : State} (h : Keeps r₀ s) (i : Nat) :
    Keeps r₀ (State.reportSync s i) := by
  unfold State.reportSync
  repeat' first
    | with_reducible (first | assumption | apply State.setStream_keeps | apply State.raise_keeps)
    | intro y hy

theorem State.takeSync_keeps {r₀ s : State} (h : Keeps r₀ s) (i : Nat) (v : Nat) :
    Keeps r₀ (State.takeSync s i v) := by
  unfold State.takeSync
  try dsimp only
  repeat' first
    | with_reducible (first | assumption | apply State.put_keeps | apply State.count_keeps
                            | apply State.reportSync_keeps | apply Keeps.ite)
    | intro y hy
    | split

theorem execSmpsynchReport_keeps {r₀ s : State} (h : Keeps r₀ s) (stream : Nat) (t : Nat) :
    KeepsOut r₀ (execSmpsynchReport stream t s) := by
  unfold execSmpsynchReport
  refine Keeps.out ?_
  try dsimp only
  repeat' first
    | with_reducible (first | assumption | apply State.advance_keeps | apply State.reportSync_keeps | apply Keeps.ite)
    | intro y hy
    | split

theorem State.handOn_keeps {r₀ s : State} (h : Keeps r₀ s) (i : Nat) (pos : Int) (tnom : Int) (vals : List (Int × Nat)) (flags : Nat) :
    Keeps r₀ (State.handOn s i pos tnom vals flags) := by
  unfold State.handOn
  try dsimp only
  repeat' first
    | with_reducible (first | assumption | apply State.filter_keeps | apply State.setLane_keeps)
    | (with_reducible apply Keeps.foldl <;> [skip; intros])
    | (with_reducible apply Keeps.foldl1 <;> [skip; intros])
    | intro y hy
    | split

theorem State.released_keeps {r₀ s : State} (h : Keeps r₀ s) (i : Nat) (tnom : Int) (real : Bool) :
    Keeps r₀ (State.released s i tnom real) := by
  unfold State.released
  repeat' first
    | with_reducible (first | assumption | apply State.setStream_keeps | apply Keeps.ite)
    | intro y hy

theorem State.placeholder_keeps {r₀ s : State} (h : Keeps r₀ s) (i : Nat) :
    Keeps r₀ (State.placeholder s i) := by
  unfold State.placeholder
  repeat' first
    | with_reducible (first | assumption | apply State.handOn_keeps | apply State.released_keeps
                            | apply State.count_keeps | apply State.put_keeps | apply State.raise_keeps
                            | apply Keeps.ite)
    | intro y hy

theorem State.placeholders_keeps {r₀ : State} : ∀ (n : Nat) {s : State} (_ : Keeps r₀ s) (a0 : Nat),
    Keeps r₀ (State.placeholders n s a0)
  | 0, _, h, _ => by unfold State.placeholders; exact h
  | n + 1, s, h, a0 => by
    unfold State.placeholders
    try dsimp only
    repeat' first
      | with_reducible (first | assumption | apply State.placeholders_keeps n | apply State.placeholder_keeps)
      | intro y hy

theorem State.releaseReal_keeps {r₀ s : State} (h : Keeps r₀ s) (i : Nat) (c : InSample) (flags : Nat) :
    Keeps r₀ (State.releaseReal s i c flags) := by
  unfold State.releaseReal
  repeat' first
    | with_reducible (first | assumption | apply State.handOn_keeps | apply State.released_keeps
                            | apply State.put_keeps)
    | intro y hy

theorem State.reanchor_keeps {r₀ s : State} (h : Keeps r₀ s) (i : Nat) (c : InSample) (j : Int) (flags : Nat) :
    Keeps r₀ (State.reanchor s i c j flags) := by
  unfold State.reanchor
  repeat' first
    | with_reducible (first | assumption | apply State.setStream_keeps | apply State.put_keeps
                            | apply State.releaseReal_keeps | apply Keeps.ite)
    | intro y hy

theorem State.takeSample_keeps {r₀ s : State} (h : Keeps r₀ s) (i : Nat) (c : InSample) (flags : Nat) :
    Keeps r₀ (State.takeSample s i c flags).1 := by
  unfold State.takeSample
  repeat' first
    | with_reducible (first | assumption | apply State.takeSync_keeps | apply State.reanchor_keeps
                            | apply State.count_keeps | apply State.placeholders_keeps | apply State.releaseReal_keeps
                            | apply Keeps.ite | apply Keeps.ite1)
    | intro y hy

theorem State.takeSamples_keeps {r₀ s : State} (h : Keeps r₀ s) (i : Nat) (l : List InSample) (arrival : Int) (flags : Nat) :
    Keeps r₀ (State.takeSamples s i l arrival flags) := by
  unfold State.takeSamples
  try dsimp only
  repeat' first
    | with_reducible (first | assumption | apply State.takeSample_keeps | apply State.put_keeps
                            | apply State.stat_keeps | apply State.setStream_keeps | apply State.raise_keeps
                            | apply Keeps.ite | apply Keeps.ite1)
    | (with_reducible apply Keeps.foldl <;> [skip; intros])
    | (with_reducible apply Keeps.foldl1 <;> [skip; intros])
    | intro y hy
    | split

theorem State.fmtErr_keeps {r₀ s : State} (h : Keeps r₀ s) (i : Nat) (reason : Nat) :
    Keeps r₀ (State.fmtErr s i reason) := by
  unfold State.fmtErr
  repeat' first
    | with_reducible (first | assumption | apply State.count_keeps | apply State.put_keeps)
    | intro y hy

theorem State.takeAsdus_keeps {r₀ s : State} (h : Keeps r₀ s) (i : Nat) (l : List (Nat × Asdu)) (stamp : Nat) (sim : Bool) :
    Keeps r₀ (State.takeAsdus s i l stamp sim).1 := by
  unfold State.takeAsdus
  try dsimp only
  repeat' first
    | with_reducible (first | assumption | apply State.count_keeps | apply State.takeSamples_keeps)
    | intro y hy
    | split

theorem State.parseSv_keeps {r₀ s : State} (h : Keeps r₀ s) (f : RxFrame) (l : List Nat) (stamp : Nat) :
    Keeps r₀ (State.parseSv s f l stamp) := by
  unfold State.parseSv
  try dsimp only
  repeat' first
    | with_reducible (first | assumption | apply State.fmtErr_keeps | apply State.stat_keeps
                            | apply State.filter_keeps | apply State.takeAsdus_keeps | apply State.put_keeps
                            | apply Keeps.ite | apply Keeps.ite1)
    | (with_reducible apply Keeps.foldl <;> [skip; intros])
    | (with_reducible apply Keeps.foldl1 <;> [skip; intros])
    | intro y hy
    | split

theorem State.parseFt_keeps {r₀ s : State} (h : Keeps r₀ s) (i : Nat) (ds : Bytes) (stamp : Nat) :
    Keeps r₀ (State.parseFt s i ds stamp) := by
  unfold State.parseFt
  repeat' first
    | with_reducible (first | assumption | apply State.fmtErr_keeps | apply State.takeSamples_keeps | apply Keeps.ite)
    | intro y hy

theorem State.nextParse_keeps {r₀ s : State} (h : Keeps r₀ s) {q : QFrame} {t : State}
    (e : s.nextParse = some (q, t)) : Keeps r₀ t := by
  unfold State.nextParse at e
  split at e
  · cases e; exact State.setSvi_keeps h _
  · split at e <;> cases e
    exact State.setSvi_keeps h _

theorem State.parseNext_keeps {r₀ s : State} (h : Keeps r₀ s) :
    Keeps r₀ (State.parseNext s) := by
  unfold State.parseNext
  try dsimp only
  repeat' first
    | with_reducible (first | assumption | apply State.parseSv_keeps | apply State.parseFt_keeps | apply
                            Keeps.ite | apply Keeps.ite1)
    | (with_reducible apply Keeps.foldl <;> [skip; intros])
    | (with_reducible apply Keeps.foldl1 <;> [skip; intros])
    | intro y hy
    | (with_reducible refine State.nextParse_keeps ?_ (by assumption))
    | split

theorem execFrameParse_keeps {r₀ s : State} (h : Keeps r₀ s) (t : Nat) :
    KeepsOut r₀ (execFrameParse t s) := by
  unfold execFrameParse
  refine Keeps.out ?_
  repeat' first
    | with_reducible (first | assumption | apply State.advance_keeps | apply State.parseNext_keeps)
    | intro y hy

theorem State.deadlineMet_keeps {r₀ s : State} (h : Keeps r₀ s) (i : Nat) :
    Keeps r₀ (State.deadlineMet s i) := by
  unfold State.deadlineMet
  repeat' first
    | with_reducible (first | assumption | apply State.placeholder_keeps | apply Keeps.ite | apply Keeps.ite1)
    | intro y hy
    | split

theorem execSampleDeadline_keeps {r₀ s : State} (h : Keeps r₀ s) (stream : Nat) (parsing : Bool) (t : Nat) :
    KeepsOut r₀ (execSampleDeadline stream t s parsing) := by
  unfold execSampleDeadline
  refine Keeps.out ?_
  try dsimp only
  repeat' first
    | with_reducible (first | assumption | apply State.advance_keeps | apply State.deadlineMet_keeps | apply State.parseNext_keeps |
                            apply Keeps.ite | apply Keeps.ite1)
    | intro y hy
    | split

theorem State.ingressWait_keeps {r₀ s : State} (h : Keeps r₀ s) :
    Keeps r₀ (State.ingressWait s) := by
  unfold State.ingressWait
  repeat' first
    | with_reducible (first | assumption | apply State.put_keeps | apply State.setStream_keeps
                            | apply State.setSvi_keeps)
    | (with_reducible apply Keeps.foldl <;> [skip; intros])
    | (with_reducible apply Keeps.foldl1 <;> [skip; intros])
    | intro y hy

theorem State.ftBad_keeps {r₀ s : State} (h : Keeps r₀ s) (f : Nat) :
    Keeps r₀ (State.ftBad s f) := by
  unfold State.ftBad
  repeat' first
    | with_reducible (first | assumption | apply State.setPort_keeps | apply State.ftGood_keeps
                            | apply State.put_keeps | apply State.count_keeps | apply State.raise_keeps
                            | apply Keeps.ite)
    | intro y hy

theorem State.ftGood_keeps {r₀ s : State} (h : Keeps r₀ s) (f : Nat) (data : Bytes) (t : Nat) :
    Keeps r₀ (State.ftGood s f data t) := by
  unfold State.ftGood
  try dsimp only
  repeat' first
    | with_reducible (first | assumption | apply State.setPort_keeps | apply State.ftBad_keeps
                            | apply State.stat_keeps | apply State.filter_keeps | apply State.enqueue_keeps
                            | apply State.put_keeps | apply State.raise_keeps | apply Keeps.ite)
    | intro y hy
    | split

theorem execFt3Frame_keeps {r₀ s : State} (h : Keeps r₀ s) (ft : Nat) (ok : Bool) (data : Bytes) (t : Nat) :
    KeepsOut r₀ (execFt3Frame ft ok data t s) := by
  unfold execFt3Frame
  refine Keeps.out ?_
  repeat' first
    | with_reducible (first | assumption | apply State.advance_keeps | apply State.ftGood_keeps
                            | apply State.count_keeps | apply State.ftBad_keeps | apply Keeps.ite)
    | intro y hy

theorem execFt3FrameMissing_keeps {r₀ s : State} (h : Keeps r₀ s) (ft : Nat) :
    KeepsOut r₀ (execFt3FrameMissing ft s) := by
  unfold execFt3FrameMissing
  refine Keeps.out ?_
  repeat' first
    | with_reducible (first | assumption | apply State.ftBad_keeps | apply Keeps.ite)
    | intro y hy

theorem execAcqArm_keeps {r₀ s : State} (h : Keeps r₀ s) (rec : Nat) :
    KeepsOut r₀ (execAcqArm rec s) := by
  unfold execAcqArm
  refine Keeps.out ?_
  repeat' first
    | with_reducible (first | assumption | apply State.recArm_keeps)
    | intro y hy

theorem execAcqDisarm_keeps {r₀ s : State} (h : Keeps r₀ s) (rec : Nat) :
    KeepsOut r₀ (execAcqDisarm rec s) := by
  unfold execAcqDisarm
  refine Keeps.out ?_
  repeat' first
    | with_reducible (first | assumption | apply State.recDisarm_keeps)
    | intro y hy

theorem State.trigNow_keeps {r₀ s : State} (h : Keeps r₀ s) (r : Nat) (code : Nat) (detail : Nat) :
    Keeps r₀ (State.trigNow s r code detail) := by
  unfold State.trigNow
  repeat' first
    | with_reducible (first | assumption | apply State.trigger_keeps)
    | intro y hy

theorem execAcqTrig_keeps {r₀ s : State} (h : Keeps r₀ s) (rec : Nat) (t : Nat) :
    KeepsOut r₀ (execAcqTrig rec t s) := by
  unfold execAcqTrig
  refine Keeps.out ?_
  repeat' first
    | with_reducible (first | assumption | apply State.advance_keeps | apply State.trigNow_keeps)
    | intro y hy

theorem State.recRelease_keeps {r₀ s : State} (h : Keeps r₀ s) (r : Nat) :
    Keeps r₀ (State.recRelease s r) := by
  unfold State.recRelease
  repeat' first
    | with_reducible (first | assumption | apply State.setRecd_keeps | apply State.tryRearm_keeps | apply Keeps.ite)
    | intro y hy
    | split

theorem execAcqRelease_keeps {r₀ s : State} (h : Keeps r₀ s) (rec : Nat) :
    KeepsOut r₀ (execAcqRelease rec s) := by
  unfold execAcqRelease
  refine Keeps.out ?_
  repeat' first
    | with_reducible (first | assumption | apply State.recRelease_keeps)
    | intro y hy

theorem State.rectrig_keeps {r₀ s : State} (h : Keeps r₀ s) (pf : Nat) (mask : Nat) :
    Keeps r₀ (State.rectrig s pf mask) := by
  unfold State.rectrig
  repeat' first
    | with_reducible (first | assumption | apply State.trigNow_keeps | apply State.count_keeps | apply Keeps.ite)
    | (with_reducible apply Keeps.foldl <;> [skip; intros])
    | (with_reducible apply Keeps.foldl1 <;> [skip; intros])
    | intro y hy
    | split

theorem execLclRectrig_keeps {r₀ s : State} (h : Keeps r₀ s) (pf : Nat) (mask : Nat) (t : Nat) :
    KeepsOut r₀ (execLclRectrig pf mask t s) := by
  unfold execLclRectrig
  refine Keeps.out ?_
  try dsimp only
  repeat' first
    | with_reducible (first | assumption | apply State.advance_keeps | apply State.coreActs_keeps | apply State.rectrig_keeps | apply
                            Keeps.ite | apply Keeps.ite1)
    | intro y hy
    | split

theorem execPrefillComplete_keeps {r₀ s : State} (h : Keeps r₀ s) (rec : Nat) :
    KeepsOut r₀ (execPrefillComplete rec s) := by
  unfold execPrefillComplete
  refine Keeps.out ?_
  repeat' first
    | with_reducible (first | assumption | apply State.takeReady_keeps)
    | intro y hy

theorem execCaptureWindowEnd_keeps {r₀ s : State} (h : Keeps r₀ s) (rec : Nat) (t : Nat) :
    KeepsOut r₀ (execCaptureWindowEnd rec t s) := by
  unfold execCaptureWindowEnd
  refine Keeps.out ?_
  try dsimp only
  repeat' first
    | with_reducible (first | assumption | apply State.advance_keeps | apply State.enterHeld_keeps | apply Keeps.ite)
    | intro y hy
    | split

theorem execHoldOffEnd_keeps {r₀ s : State} (h : Keeps r₀ s) (rec : Nat) (t : Nat) :
    KeepsOut r₀ (execHoldOffEnd rec t s) := by
  unfold execHoldOffEnd
  refine Keeps.out ?_
  repeat' first
    | with_reducible (first | assumption | apply State.advance_keeps | apply State.tryRearm_keeps)
    | intro y hy

theorem State.exportDone_keeps {r₀ s : State} (h : Keeps r₀ s) (r : Nat) :
    Keeps r₀ (State.exportDone s r) := by
  unfold State.exportDone
  try dsimp only
  repeat' first
    | with_reducible (first | assumption | apply State.setAcq_keeps | apply State.filter_keeps | apply State.put_keeps | apply
                            State.setRecd_keeps | apply State.tryRearm_keeps | apply Keeps.ite | apply Keeps.ite1)
    | intro y hy
    | split

theorem execExportComplete_keeps {r₀ s : State} (h : Keeps r₀ s) (rec : Nat) :
    KeepsOut r₀ (execExportComplete rec s) := by
  unfold execExportComplete
  refine Keeps.out ?_
  repeat' first
    | with_reducible (first | assumption | apply State.exportDone_keeps | apply Keeps.ite | apply Keeps.ite1)
    | intro y hy
    | split

theorem State.historyReq_keeps {r₀ s : State} (h : Keeps r₀ s) :
    Keeps r₀ (State.historyReq s) := by
  unfold State.historyReq
  repeat' first
    | with_reducible (first | assumption | apply State.histClose_keeps | apply State.filter_keeps
                            | apply State.put_keeps | apply State.setAcq_keeps | apply Keeps.ite)
    | (with_reducible apply Keeps.each <;> [skip; intros])
    | intro y hy

theorem execHistoryRequest_keeps {r₀ s : State} (h : Keeps r₀ s) :
    KeepsOut r₀ (execHistoryRequest s) := by
  unfold execHistoryRequest
  refine Keeps.out ?_
  repeat' first
    | with_reducible (first | assumption | apply State.historyReq_keeps)
    | intro y hy

theorem execHistoryRequestComplete_keeps {r₀ s : State} (h : Keeps r₀ s) :
    KeepsOut r₀ (execHistoryRequestComplete s) := by
  unfold execHistoryRequestComplete
  refine Keeps.out ?_
  try dsimp only
  repeat' first
    | with_reducible (first | assumption | apply State.count_keeps | apply State.send_keeps | apply State.put_keeps
                            | apply State.setAcq_keeps)
    | (with_reducible apply Keeps.foldl <;> [skip; intros])
    | (with_reducible apply Keeps.foldl1 <;> [skip; intros])
    | intro y hy
    | split

theorem State.showDrift_keeps {r₀ s : State} (h : Keeps r₀ s) :
    Keeps r₀ (State.showDrift s) := by
  unfold State.showDrift
  repeat' first
    | with_reducible (first | assumption | apply State.putI_keeps)
    | (with_reducible apply Keeps.each <;> [skip; intros])
    | intro y hy

theorem State.afeConvert_keeps {r₀ s : State} (h : Keeps r₀ s) (ch : Nat) (raw : Nat) (dep : Int) :
    Keeps r₀ (State.afeConvert s ch raw dep) := by
  unfold State.afeConvert
  try dsimp only
  repeat' first
    | with_reducible (first | assumption | apply State.count_keeps | apply State.setAcq_keeps
                            | apply State.filter_keeps | apply State.put_keeps | apply Keeps.ite)
    | intro y hy
    | split

theorem execConversionComplete_keeps {r₀ s : State} (h : Keeps r₀ s) (ch : Nat) (code : Int) :
    KeepsOut r₀ (execConversionComplete ch code s) := by
  unfold execConversionComplete
  refine Keeps.out ?_
  try dsimp only
  repeat' first
    | with_reducible (first | assumption | apply State.setAcq_keeps | apply State.filter_keeps
                            | apply State.putI_keeps | apply State.put_keeps | apply State.count_keeps
                            | apply State.raise_keeps | apply State.recSample_keeps | apply State.histSample_keeps
                            | apply Keeps.ite)
    | (with_reducible apply Keeps.foldl <;> [skip; intros])
    | (with_reducible apply Keeps.foldl1 <;> [skip; intros])
    | intro y hy
    | split

theorem State.latchRq_keeps {r₀ s : State} (h : Keeps r₀ s) (ch : Nat) :
    Keeps r₀ (State.latchRq s ch) := by
  unfold State.latchRq
  repeat' first
    | with_reducible (first | assumption | apply State.put_keeps)
    | intro y hy

theorem execAfeResRead_keeps {r₀ s : State} (h : Keeps r₀ s) (ch : Nat) :
    KeepsOut r₀ (execAfeResRead ch s) := by
  unfold execAfeResRead
  refine Keeps.out ?_
  repeat' first
    | with_reducible (first | assumption | apply State.latchRq_keeps)
    | intro y hy

theorem State.showPage_keeps {r₀ s : State} (h : Keeps r₀ s) :
    Keeps r₀ (State.showPage s) := by
  unfold State.showPage
  repeat' first
    | with_reducible (first | assumption | apply State.put_keeps)
    | intro y hy

theorem State.pageReply_keeps {r₀ s : State} (h : Keeps r₀ s) (h : Hdr) (st : Nat) :
    Keeps r₀ (State.pageReply s h st) := by
  unfold State.pageReply
  repeat' first
    | with_reducible (first | assumption | apply State.send_keeps)
    | intro y hy

theorem execCalibrationPageRead_keeps {r₀ s : State} (h : Keeps r₀ s) (h : Hdr) :
    KeepsOut r₀ (execCalibrationPageRead h s) := by
  unfold execCalibrationPageRead
  refine Keeps.out ?_
  repeat' first
    | with_reducible (first | assumption | apply State.receive_keeps | apply State.pageReply_keeps
                            | apply State.send_keeps | apply Keeps.ite)
    | intro y hy

theorem State.servePage_keeps {r₀ s : State} (h : Keeps r₀ s) (h : Hdr) (b : Bytes) :
    Keeps r₀ (State.servePage s h b) := by
  unfold State.servePage
  repeat' first
    | with_reducible (first | assumption | apply State.pageReply_keeps | apply State.put_keeps
                            | apply State.setAcq_keeps | apply Keeps.ite)
    | intro y hy

theorem execCalibrationPageWrite_keeps {r₀ s : State} (h : Keeps r₀ s) (h : Hdr) (image : Bytes) :
    KeepsOut r₀ (execCalibrationPageWrite h image s) := by
  unfold execCalibrationPageWrite
  refine Keeps.out ?_
  repeat' first
    | with_reducible (first | assumption | apply State.receive_keeps | apply State.pageReply_keeps
                            | apply State.setAcq_keeps | apply State.servePage_keeps | apply Keeps.ite)
    | intro y hy

theorem execCalibrationPageWriteComplete_keeps {r₀ s : State} (h : Keeps r₀ s) (t : Nat) :
    KeepsOut r₀ (execCalibrationPageWriteComplete t s) := by
  unfold execCalibrationPageWriteComplete
  refine Keeps.out ?_
  try dsimp only
  repeat' first
    | with_reducible (first | assumption | apply State.advance_keeps | apply State.setAcq_keeps
                            | apply State.setPower_keeps | apply State.put_keeps | apply State.showPage_keeps
                            | apply State.showDrift_keeps | apply State.showLats_keeps | apply State.raise_keeps
                            | apply State.pageReply_keeps | apply Keeps.ite)
    | intro y hy
    | split

theorem State.readAfe_keeps {r₀ : State} : ∀ (n : Nat) {s : State} (_ : Keeps r₀ s) (a0 : Nat),
    Keeps r₀ (State.readAfe n s a0).1
  | 0, _, h, _ => by unfold State.readAfe; exact h
  | n + 1, s, h, a0 => by
    unfold State.readAfe
    try dsimp only
    repeat' first
      | with_reducible (first | assumption | apply State.readAfe_keeps n | apply State.latchRq_keeps | apply Keeps.ite
                              | apply Keeps.ite1)
      | intro y hy

theorem State.dmaRead_keeps {r₀ s : State} (h : Keeps r₀ s) (i : Nat) (a : Nat) (n : Nat) :
    Keeps r₀ (State.dmaRead s i a n).1 := by
  unfold State.dmaRead
  repeat' first
    | with_reducible (first | assumption | apply State.readAfe_keeps | apply State.draw_keeps | apply Keeps.ite
                            | apply Keeps.ite1)
    | intro y hy

theorem State.dmaWrite_keeps {r₀ s : State} (h : Keeps r₀ s) (i : Nat) (a : Nat) (b : Bytes) :
    Keeps r₀ (State.dmaWrite s i a b) := by
  unfold State.dmaWrite
  repeat' first
    | with_reducible (first | assumption | apply State.dataPut_keeps | apply State.wrN_keeps | apply Keeps.ite)
    | intro y hy

theorem State.putDesc_keeps {r₀ s : State} (h : Keeps r₀ s) (c : Nat) (b : Bytes) :
    Keeps r₀ (State.putDesc s c b) := by
  unfold State.putDesc
  repeat' first
    | with_reducible (first | assumption | apply State.put_keeps)
    | intro y hy

theorem State.record_keeps {r₀ s : State} (h : Keeps r₀ s) (c : Nat) (status : Nat) (lost : Bool) (port : Nat) (bytes : Nat) (stamp : Word) (tag : Word) :
    Keeps r₀ (State.record s c status lost port bytes stamp tag) := by
  unfold State.record
  repeat' first
    | with_reducible (first | assumption | apply State.wr_keeps | apply State.dataPut_keeps | apply State.put_keeps
                            | apply State.count_keeps | apply Keeps.ite)
    | intro y hy

theorem State.dropGrant_keeps {r₀ s : State} (h : Keeps r₀ s) (c : Nat) :
    Keeps r₀ (State.dropGrant s c) := by
  unfold State.dropGrant
  repeat' first
    | with_reducible (first | assumption | apply State.setIns_keeps | apply State.put_keeps | apply State.setMar_keeps
                            | apply State.busy_keeps | apply Keeps.ite)
    | intro y hy

theorem State.noteSubmit_keeps {r₀ s : State} (h : Keeps r₀ s) (c : Nat) (n : Nat) :
    Keeps r₀ (State.noteSubmit s c n) := by
  unfold State.noteSubmit
  repeat' first
    | with_reducible (first | assumption | apply State.setMar_keeps | apply State.put_keeps)
    | intro y hy

theorem State.noteMoved_keeps {r₀ s : State} (h : Keeps r₀ s) (c : Nat) (n : Nat) :
    Keeps r₀ (State.noteMoved s c n) := by
  unfold State.noteMoved
  repeat' first
    | with_reducible (first | assumption | apply State.setMar_keeps | apply State.put_keeps)
    | intro y hy

theorem State.dmaTransmit_keeps {r₀ s : State} (h : Keeps r₀ s) (c : Nat) (d : Desc) (b : Bytes) :
    Keeps r₀ (State.dmaTransmit s c d b) := by
  unfold State.dmaTransmit
  repeat' first
    | with_reducible (first | assumption | apply State.sendPaired_keeps)
    | intro y hy

theorem State.beginDesc_keeps {r₀ s : State} (h : Keeps r₀ s) (c : Nat) (d : Desc) :
    Keeps r₀ (State.beginDesc s c d) := by
  unfold State.beginDesc
  repeat' first
    | with_reducible (first | assumption | apply State.put_keeps | apply State.setChan_keeps
                            | apply State.setIns_keeps | apply State.dmaRead_keeps | apply State.count_keeps
                            | apply State.dmaTransmit_keeps | apply Keeps.ite)
    | intro y hy

theorem State.noteAt_keeps {r₀ s : State} (h : Keeps r₀ s) (c : Nat) (a : Nat) :
    Keeps r₀ (State.noteAt s c a) := by
  unfold State.noteAt
  repeat' first
    | with_reducible (first | assumption | apply State.dmaRead_keeps | apply State.noteSubmit_keeps | apply Keeps.ite)
    | intro y hy

theorem State.follow_keeps {r₀ s : State} (h : Keeps r₀ s) (c : Nat) :
    Keeps r₀ (State.follow s c).1 := by
  unfold State.follow
  repeat' first
    | with_reducible (first | assumption | apply State.noteAt_keeps | apply State.put_keeps | apply Keeps.ite
                            | apply Keeps.ite1)
    | intro y hy

theorem State.chRun_keeps {r₀ : State} : ∀ (n : Nat) {s : State} (_ : Keeps r₀ s) (a0 : Nat) (a1 : Work),
    Keeps r₀ (State.chRun n s a0 a1)
  | 0, _, h, _, _ => by unfold State.chRun; exact h
  | n + 1, s, h, a0, a1 => by
    unfold State.chRun
    try dsimp only
    repeat' first
      | with_reducible (first | assumption | apply State.chRun_keeps n | apply State.put_keeps
                              | apply State.setChan_keeps | apply State.dmaRead_keeps | apply State.putDesc_keeps
                              | apply State.draw_keeps | apply State.record_keeps | apply State.beginDesc_keeps
                              | apply State.follow_keeps | apply Keeps.ite)
      | intro y hy
      | split

theorem State.startChannel_keeps {r₀ s : State} (h : Keeps r₀ s) (c : Nat) :
    Keeps r₀ (State.startChannel s c) := by
  unfold State.startChannel
  repeat' first
    | with_reducible (first | assumption | apply State.count_keeps | apply State.noteSubmit_keeps
                            | apply State.setChan_keeps | apply State.chRun_keeps | apply Keeps.ite)
    | intro y hy

theorem execChannelStart_keeps {r₀ s : State} (h : Keeps r₀ s) (c : Nat) :
    KeepsOut r₀ (execChannelStart c s) := by
  unfold execChannelStart
  refine Keeps.out ?_
  repeat' first
    | with_reducible (first | assumption | apply State.startChannel_keeps)
    | intro y hy

theorem State.tagAt_keeps {r₀ s : State} (h : Keeps r₀ s) (c : Nat) (a : Nat) :
    Keeps r₀ (State.tagAt s c a).1 := by
  unfold State.tagAt
  repeat' first
    | with_reducible (first | assumption | apply State.dmaRead_keeps | apply State.draw_keeps | apply Keeps.ite
                            | apply Keeps.ite1)
    | intro y hy

theorem State.pushDesc_keeps {r₀ s : State} (h : Keeps r₀ s) (q : Nat) (desc : Word) :
    Keeps r₀ (State.pushDesc s q desc) := by
  unfold State.pushDesc
  repeat' first
    | with_reducible (first | assumption | apply State.count_keeps | apply State.tagAt_keeps
                            | apply State.record_keeps | apply State.noteAt_keeps | apply State.setChan_keeps
                            | apply State.put_keeps | apply State.chRun_keeps | apply Keeps.ite)
    | intro y hy

theorem execQueuePush_keeps {r₀ s : State} (h : Keeps r₀ s) (q : Nat) (desc : Word) :
    KeepsOut r₀ (execQueuePush q desc s) := by
  unfold execQueuePush
  refine Keeps.out ?_
  repeat' first
    | with_reducible (first | assumption | apply State.pushDesc_keeps)
    | intro y hy

theorem State.ringDoorbell_keeps {r₀ s : State} (h : Keeps r₀ s) (c : Nat) :
    Keeps r₀ (State.ringDoorbell s c) := by
  unfold State.ringDoorbell
  repeat' first
    | with_reducible (first | assumption | apply State.noteAt_keeps | apply State.chRun_keeps | apply Keeps.ite)
    | intro y hy

theorem execChannelDoorbell_keeps {r₀ s : State} (h : Keeps r₀ s) (c : Nat) :
    KeepsOut r₀ (execChannelDoorbell c s) := by
  unfold execChannelDoorbell
  refine Keeps.out ?_
  repeat' first
    | with_reducible (first | assumption | apply State.ringDoorbell_keeps)
    | intro y hy

theorem State.dmaReceive_keeps {r₀ s : State} (h : Keeps r₀ s) (q : Nat) (b : Bytes) (port : Nat) (stamp : Word) :
    Keeps r₀ (State.dmaReceive s q b port stamp) := by
  unfold State.dmaReceive
  repeat' first
    | with_reducible (first | assumption | apply State.setChan_keeps | apply State.count_keeps | apply Keeps.ite)
    | intro y hy

theorem State.moveOn_keeps {r₀ s : State} (h : Keeps r₀ s) (c : Nat) (d : Desc) (n : Nat) :
    Keeps r₀ (State.moveOn s c d n) := by
  unfold State.moveOn
  repeat' first
    | with_reducible (first | assumption | apply State.put_keeps | apply State.count_keeps | apply Keeps.ite)
    | intro y hy

theorem State.moveBytes_keeps {r₀ s : State} (h : Keeps r₀ s) (c : Nat) (n : Nat) :
    Keeps r₀ (State.moveBytes s c n) := by
  unfold State.moveBytes
  repeat' first
    | with_reducible (first | assumption | apply State.dmaRead_keeps | apply State.dmaWrite_keeps
                            | apply State.moveOn_keeps | apply State.noteMoved_keeps | apply State.setChan_keeps
                            | apply Keeps.ite)
    | intro y hy

theorem State.afterDesc_keeps {r₀ s : State} (h : Keeps r₀ s) (c : Nat) (w : State × Work) (hw : Keeps r₀ w.1) :
    Keeps r₀ (s.afterDesc c w) := by
  unfold State.afterDesc
  dsimp only
  split
  · exact State.put_keeps (State.setChan_keeps (State.dropGrant_keeps hw _) _ _) _ _
  · exact State.chRun_keeps _ (State.dropGrant_keeps hw _) _ _

theorem State.endDesc_keeps {r₀ s : State} (h : Keeps r₀ s) (c : Nat) :
    Keeps r₀ (State.endDesc s c) := by
  unfold State.endDesc
  try dsimp only
  repeat' first
    | with_reducible (first | assumption | apply State.chRun_keeps | apply State.moveBytes_keeps
                            | apply State.count_keeps | apply State.record_keeps | apply State.afterDesc_keeps
                            | apply State.follow_keeps | apply Keeps.ite)
    | intro y hy
    | split

theorem State.unsend_keeps {r₀ s : State} (h : Keeps r₀ s) (c : Nat) (p : Nat) :
    Keeps r₀ (State.unsend s c p) := by
  unfold State.unsend
  try dsimp only
  repeat' first
    | with_reducible (first | assumption | apply State.setPort_keeps | apply State.filter_keeps)
    | (with_reducible apply Keeps.each <;> [skip; intros])
    | intro y hy
    | split

theorem execBusError_keeps {r₀ s : State} (h : Keeps r₀ s) (c : Nat) (addr : Nat) (write : Bool) (moved : Nat) :
    KeepsOut r₀ (execBusError c addr write moved s) := by
  unfold execBusError
  refine Keeps.out ?_
  repeat' first
    | with_reducible (first | assumption | apply State.count_keeps | apply State.dmaRead_keeps
                            | apply State.setChan_keeps | apply State.unsend_keeps | apply State.moveBytes_keeps
                            | apply State.put_keeps | apply State.putB_keeps | apply State.raiseI_keeps
                            | apply State.dropGrant_keeps | apply Keeps.ite)
    | intro y hy

theorem State.clearErr_keeps {r₀ s : State} (h : Keeps r₀ s) (c : Nat) :
    Keeps r₀ (State.clearErr s c) := by
  unfold State.clearErr
  repeat' first
    | with_reducible (first | assumption | apply State.put_keeps)
    | intro y hy

theorem execErrclr_keeps {r₀ s : State} (h : Keeps r₀ s) (c : Nat) :
    KeepsOut r₀ (execErrclr c s) := by
  unfold execErrclr
  refine Keeps.out ?_
  repeat' first
    | with_reducible (first | assumption | apply State.clearErr_keeps)
    | intro y hy

theorem State.resumeChan_keeps {r₀ s : State} (h : Keeps r₀ s) (c : Nat) :
    Keeps r₀ (State.resumeChan s c) := by
  unfold State.resumeChan
  repeat' first
    | with_reducible (first | assumption | apply State.count_keeps | apply State.put_keeps | apply State.setChan_keeps
                            | apply State.setIns_keeps | apply State.dmaRead_keeps | apply State.dmaTransmit_keeps
                            | apply Keeps.ite)
    | intro y hy

theorem execChannelResume_keeps {r₀ s : State} (h : Keeps r₀ s) (c : Nat) :
    KeepsOut r₀ (execChannelResume c s) := by
  unfold execChannelResume
  refine Keeps.out ?_
  repeat' first
    | with_reducible (first | assumption | apply State.resumeChan_keeps)
    | intro y hy

theorem State.cutDesc_keeps {r₀ s : State} (h : Keeps r₀ s) (c : Nat) (status : Nat) :
    Keeps r₀ (State.cutDesc s c status) := by
  unfold State.cutDesc
  repeat' first
    | with_reducible (first | assumption | apply State.unsend_keeps | apply State.record_keeps
                            | apply State.setChan_keeps | apply Keeps.ite)
    | intro y hy

theorem State.abortChan_keeps {r₀ s : State} (h : Keeps r₀ s) (c : Nat) :
    Keeps r₀ (State.abortChan s c) := by
  unfold State.abortChan
  try dsimp only
  repeat' first
    | with_reducible (first | assumption | apply State.count_keeps | apply State.cutDesc_keeps
                            | apply State.dropGrant_keeps | apply State.chRun_keeps | apply State.draw_keeps
                            | apply State.moveBytes_keeps | apply State.afterDesc_keeps | apply Keeps.ite)
    | intro y hy
    | split

theorem execChannelAbort_keeps {r₀ s : State} (h : Keeps r₀ s) (c : Nat) :
    KeepsOut r₀ (execChannelAbort c s) := by
  unfold execChannelAbort
  refine Keeps.out ?_
  repeat' first
    | with_reducible (first | assumption | apply State.abortChan_keeps)
    | intro y hy

theorem State.fenceQueues_keeps {r₀ s : State} (h : Keeps r₀ s) (i : Nat) :
    Keeps r₀ (State.fenceQueues s i) := by
  unfold State.fenceQueues
  repeat' first
    | with_reducible (first | assumption | apply State.put_keeps | apply State.tagAt_keeps | apply State.record_keeps
                            | apply State.setChan_keeps | apply State.raiseI_keeps | apply State.cutDesc_keeps
                            | apply Keeps.ite)
    | (with_reducible apply Keeps.each <;> [skip; intros])
    | intro y hy

theorem State.unfenceQueues_keeps {r₀ s : State} (h : Keeps r₀ s) (i : Nat) :
    Keeps r₀ (State.unfenceQueues s i) := by
  unfold State.unfenceQueues
  repeat' first
    | with_reducible (first | assumption | apply State.put_keeps | apply State.setChan_keeps)
    | (with_reducible apply Keeps.each <;> [skip; intros])
    | intro y hy

theorem State.grant_keeps {r₀ s : State} (h : Keeps r₀ s) (arb : Nat) (reqs : List Nat) :
    Keeps r₀ (State.grant s arb reqs).1 := by
  unfold State.grant
  try dsimp only
  repeat' first
    | with_reducible (first | assumption | apply State.filter_keeps | apply State.setChan_keeps
                            | apply State.setIns_keeps | apply State.put_keeps | apply Keeps.ite | apply Keeps.ite1)
    | (with_reducible apply Keeps.each <;> [skip; intros])
    | intro y hy
    | split

theorem State.instTo_keeps {r₀ s : State} (h : Keeps r₀ s) (i : Nat) (st : Nat) :
    Keeps r₀ (State.instTo s i st) := by
  unfold State.instTo
  repeat' first
    | with_reducible (first | assumption | apply State.put_keeps | apply State.raiseI_keeps | apply Keeps.ite)
    | intro y hy

theorem State.writeQuota_keeps {r₀ s : State} (h : Keeps r₀ s) (i : Nat) (reg : Nat) (v : Word) :
    Keeps r₀ (State.writeQuota s i reg v) := by
  unfold State.writeQuota
  repeat' first
    | with_reducible (first | assumption | apply State.put_keeps | apply State.showUse_keeps | apply State.count_keeps
                            | apply Keeps.ite)
    | intro y hy

theorem execQuotaWrite_keeps {r₀ s : State} (h : Keeps r₀ s) (inst : Nat) (reg : Nat) (val : Word) :
    KeepsOut r₀ (execQuotaWrite inst reg val s) := by
  unfold execQuotaWrite
  refine Keeps.out ?_
  repeat' first
    | with_reducible (first | assumption | apply State.writeQuota_keeps)
    | intro y hy

theorem State.applyHeap_keeps {r₀ s : State} (h : Keeps r₀ s) (i : Nat) (size : Nat) :
    Keeps r₀ (State.applyHeap s i size) := by
  unfold State.applyHeap
  try dsimp only
  repeat' first
    | with_reducible (first | assumption | apply State.filter_keeps | apply State.zeroMem_keeps | apply State.wr_keeps
                            | apply State.put_keeps | apply State.showUse_keeps | apply Keeps.ite)
    | (with_reducible apply Keeps.foldl <;> [skip; intros])
    | (with_reducible apply Keeps.foldl1 <;> [skip; intros])
    | intro y hy
    | split

theorem State.placeHeaps_keeps {r₀ s : State} (h : Keeps r₀ s) :
    Keeps r₀ (State.placeHeaps s) := by
  unfold State.placeHeaps
  try dsimp only
  repeat' first
    | with_reducible (first | assumption | apply State.filter_keeps | apply State.put_keeps | apply State.applyHeap_keeps)
    | (with_reducible apply Keeps.each <;> [skip; intros])
    | intro y hy

theorem State.heapTry_keeps {r₀ s : State} (h : Keeps r₀ s) (i : Nat) :
    Keeps r₀ (State.heapTry s i) := by
  unfold State.heapTry
  repeat' first
    | with_reducible (first | assumption | apply State.setInst_keeps | apply State.applyHeap_keeps | apply Keeps.ite)
    | intro y hy
    | split

theorem State.writeHeap_keeps {r₀ s : State} (h : Keeps r₀ s) (i : Nat) (size : Nat) :
    Keeps r₀ (State.writeHeap s i size) := by
  unfold State.writeHeap
  repeat' first
    | with_reducible (first | assumption | apply State.setInst_keeps | apply State.heapTry_keeps | apply Keeps.ite)
    | intro y hy

theorem execHeapSizeWrite_keeps {r₀ s : State} (h : Keeps r₀ s) (inst : Nat) (size : Nat) :
    KeepsOut r₀ (execHeapSizeWrite inst size s) := by
  unfold execHeapSizeWrite
  refine Keeps.out ?_
  repeat' first
    | with_reducible (first | assumption | apply State.writeHeap_keeps)
    | intro y hy

theorem execDescriptorComplete_keeps {r₀ s : State} (h : Keeps r₀ s) (c : Nat) :
    KeepsOut r₀ (execDescriptorComplete c s) := by
  unfold execDescriptorComplete
  refine Keeps.out ?_
  repeat' first
    | with_reducible (first | assumption | apply State.endDesc_keeps | apply State.heapTry_keeps)
    | intro y hy

theorem State.givePrio_keeps {r₀ s : State} (h : Keeps r₀ s) (q : Nat) :
    Keeps r₀ (State.givePrio s q) := by
  unfold State.givePrio
  repeat' first
    | with_reducible (first | assumption | apply State.put_keeps | apply Keeps.ite)
    | intro y hy
    | split

theorem State.writeOwner_keeps {r₀ s : State} (h : Keeps r₀ s) (q : Nat) (owner : Nat) :
    Keeps r₀ (State.writeOwner s q owner) := by
  unfold State.writeOwner
  repeat' first
    | with_reducible (first | assumption | apply State.put_keeps | apply State.givePrio_keeps
                            | apply State.showUse_keeps | apply Keeps.ite)
    | intro y hy

theorem execQueueOwnerWrite_keeps {r₀ s : State} (h : Keeps r₀ s) (q : Nat) (owner : Nat) :
    KeepsOut r₀ (execQueueOwnerWrite q owner s) := by
  unfold execQueueOwnerWrite
  refine Keeps.out ?_
  repeat' first
    | with_reducible (first | assumption | apply State.writeOwner_keeps)
    | intro y hy

theorem State.showMailbox_keeps {r₀ s : State} (h : Keeps r₀ s) (pf : Nat) :
    Keeps r₀ (State.showMailbox s pf) := by
  unfold State.showMailbox
  try dsimp only
  repeat' first
    | with_reducible (first | assumption | apply State.put_keeps | apply State.putB_keeps)
    | (with_reducible apply Keeps.each <;> [skip; intros])
    | intro y hy
    | split

theorem State.showMail_keeps {r₀ s : State} (h : Keeps r₀ s) (i : Nat) :
    Keeps r₀ (State.showMail s i) := by
  unfold State.showMail
  repeat' first
    | with_reducible (first | assumption | apply State.showMailbox_keeps | apply Keeps.ite)
    | (with_reducible apply Keeps.each <;> [skip; intros])
    | intro y hy
    | split

theorem State.mbEvent_keeps {r₀ s : State} (h : Keeps r₀ s) (i : Nat) (dir : Nat) :
    Keeps r₀ (State.mbEvent s i dir) := by
  unfold State.mbEvent
  try dsimp only
  repeat' first
    | with_reducible (first | assumption | apply State.setInst_keeps | apply State.filter_keeps
                            | apply State.raiseI_keeps | apply Keeps.ite)
    | intro y hy
    | split

theorem State.mbRefuse_keeps {r₀ s : State} (h : Keeps r₀ s) (hd : Hdr) :
    Keeps r₀ (State.mbRefuse s hd) := by
  unfold State.mbRefuse
  try dsimp only
  repeat' first
    | with_reducible (first | assumption | apply State.count_keeps | apply State.mbEvent_keeps | apply State.send_keeps | apply
                            Keeps.ite | apply Keeps.ite1)
    | intro y hy
    | split

theorem execMailboxToInstance_keeps {r₀ s : State} (h : Keeps r₀ s) (h : Hdr) (op : Nat) (payload : Bytes) :
    KeepsOut r₀ (execMailboxToInstance h op payload s) := by
  unfold execMailboxToInstance
  refine Keeps.out ?_
  repeat' first
    | with_reducible (first | assumption | apply State.receive_keeps | apply State.mbRefuse_keeps
                            | apply State.setInst_keeps | apply State.showUse_keeps | apply State.showMail_keeps
                            | apply Keeps.ite)
    | intro y hy

theorem execMailboxDoorbell_keeps {r₀ s : State} (h : Keeps r₀ s) (h : Hdr) :
    KeepsOut r₀ (execMailboxDoorbell h s) := by
  unfold execMailboxDoorbell
  refine Keeps.out ?_
  repeat' first
    | with_reducible (first | assumption | apply State.receive_keeps | apply State.mbRefuse_keeps
                            | apply State.setInst_keeps | apply State.showMail_keeps | apply Keeps.ite)
    | intro y hy

theorem State.mbPop_keeps {r₀ s : State} (h : Keeps r₀ s) (i : Nat) :
    Keeps r₀ (State.mbPop s i) := by
  unfold State.mbPop
  repeat' first
    | with_reducible (first | assumption | apply State.setInst_keeps | apply State.showUse_keeps
                            | apply State.showMail_keeps)
    | intro y hy

theorem execMailboxPop_keeps {r₀ s : State} (h : Keeps r₀ s) (pf : Nat) :
    KeepsOut r₀ (execMailboxPop pf s) := by
  unfold execMailboxPop
  refine Keeps.out ?_
  try dsimp only
  repeat' first
    | with_reducible (first | assumption | apply State.coreActs_keeps | apply State.mbPop_keeps)
    | intro y hy
    | split

theorem State.mbPush_keeps {r₀ s : State} (h : Keeps r₀ s) (i : Nat) (op : Nat) (data : Bytes) :
    Keeps r₀ (State.mbPush s i op data) := by
  unfold State.mbPush
  repeat' first
    | with_reducible (first | assumption | apply State.setInst_keeps | apply State.count_keeps
                            | apply State.mbEvent_keeps | apply State.showMail_keeps | apply State.send_keeps
                            | apply State.showUse_keeps | apply Keeps.ite)
    | intro y hy

theorem execMailboxPush_keeps {r₀ s : State} (h : Keeps r₀ s) (pf : Nat) (op : Nat) (len : Nat) (staging : Bytes) (t : Nat) :
    KeepsOut r₀ (execMailboxPush pf op len staging t s) := by
  unfold execMailboxPush
  refine Keeps.out ?_
  try dsimp only
  repeat' first
    | with_reducible (first | assumption | apply State.advance_keeps | apply State.coreActs_keeps | apply State.put_keeps | apply
                            State.mbPush_keeps | apply Keeps.ite | apply Keeps.ite1)
    | (with_reducible apply Keeps.each <;> [skip; intros])
    | intro y hy
    | split

theorem State.mbFreed_keeps {r₀ s : State} (h : Keeps r₀ s) (m : Msg) :
    Keeps r₀ (State.mbFreed s m) := by
  unfold State.mbFreed
  try dsimp only
  repeat' first
    | with_reducible (first | assumption | apply State.setInst_keeps | apply State.showUse_keeps
                            | apply State.showMail_keeps | apply Keeps.ite)
    | intro y hy
    | split

theorem State.semTry_keeps {r₀ s : State} (h : Keeps r₀ s) (who : Nat) (n : Nat) :
    Keeps r₀ (State.semTry s who n).1 := by
  unfold State.semTry
  repeat' first
    | with_reducible (first | assumption | apply State.put_keeps | apply State.showUse_keeps | apply Keeps.ite
                            | apply Keeps.ite1)
    | intro y hy

theorem execSemaphoreTry_keeps {r₀ s : State} (h : Keeps r₀ s) (who : Holder) (n : Nat) :
    KeepsOut r₀ (execSemaphoreTry who n s) := by
  unfold execSemaphoreTry
  refine Keeps.out ?_
  try dsimp only
  repeat' first
    | with_reducible (first | assumption | apply State.semTry_keeps | apply State.put_keeps | apply Keeps.ite)
    | (with_reducible apply Keeps.each <;> [skip; intros])
    | intro y hy
    | split

theorem State.semRelease_keeps {r₀ s : State} (h : Keeps r₀ s) (who : Nat) (n : Nat) (clear : Bool) :
    Keeps r₀ (State.semRelease s who n clear) := by
  unfold State.semRelease
  repeat' first
    | with_reducible (first | assumption | apply State.put_keeps | apply State.clear_keeps | apply State.showUse_keeps
                            | apply Keeps.ite)
    | intro y hy

theorem execSemaphoreRelease_keeps {r₀ s : State} (h : Keeps r₀ s) (who : Holder) (n : Nat) (clearBroken : Bool) :
    KeepsOut r₀ (execSemaphoreRelease who n clearBroken s) := by
  unfold execSemaphoreRelease
  refine Keeps.out ?_
  repeat' first
    | with_reducible (first | assumption | apply State.semRelease_keeps)
    | intro y hy

theorem State.semBreak_keeps {r₀ s : State} (h : Keeps r₀ s) (n : Nat) :
    Keeps r₀ (State.semBreak s n) := by
  unfold State.semBreak
  repeat' first
    | with_reducible (first | assumption | apply State.put_keeps | apply State.raiseI_keeps
                            | apply State.showUse_keeps | apply Keeps.ite)
    | intro y hy

theorem State.semBreakAll_keeps {r₀ s : State} (h : Keeps r₀ s) (who : Nat) :
    Keeps r₀ (State.semBreakAll s who) := by
  unfold State.semBreakAll
  repeat' first
    | with_reducible (first | assumption | apply State.semBreak_keeps)
    | (with_reducible apply Keeps.each <;> [skip; intros])
    | intro y hy

theorem State.writeHeader_keeps {r₀ s : State} (h : Keeps r₀ s) (d : InstDecl) (p : Place) :
    Keeps r₀ (State.writeHeader s d p) := by
  unfold State.writeHeader
  repeat' first
    | with_reducible (first | assumption | apply State.wrN_keeps | apply State.wrLe_keeps)
    | (with_reducible apply Keeps.foldl <;> [skip; intros])
    | (with_reducible apply Keeps.foldl1 <;> [skip; intros])
    | intro y hy

theorem State.loadImage_keeps {r₀ s : State} (h : Keeps r₀ s) (d : InstDecl) (p : Place) :
    Keeps r₀ (State.loadImage s d p) := by
  unfold State.loadImage
  repeat' first
    | with_reducible (first | assumption | apply State.zeroMem_keeps | apply State.wrN_keeps
                            | apply State.setInst_keeps | apply State.writeHeader_keeps)
    | intro y hy

theorem State.loadCkpt_keeps {r₀ s : State} (h : Keeps r₀ s) (d : InstDecl) (p : Place) (b : Bytes) :
    Keeps r₀ (State.loadCkpt s d p b) := by
  unfold State.loadCkpt
  repeat' first
    | with_reducible (first | assumption | apply State.wrN_keeps)
    | intro y hy

theorem State.showMeas_keeps {r₀ s : State} (h : Keeps r₀ s) :
    Keeps r₀ (State.showMeas s) := by
  unfold State.showMeas
  try dsimp only
  repeat' first
    | with_reducible (first | assumption | apply State.put_keeps | apply Keeps.ite | apply Keeps.ite1)
    | intro y hy
    | split

theorem State.enterRun_keeps {r₀ s : State} (h : Keeps r₀ s) (i : Nat) (t : Nat) (clocks : Nat) (cl : Nat) (dtc : Option Nat) :
    Keeps r₀ (State.enterRun s i t clocks cl dtc) := by
  unfold State.enterRun
  try dsimp only
  repeat' first
    | with_reducible (first | assumption | apply State.put_keeps | apply State.setMeas_keeps | apply State.count_keeps | apply
                            State.raiseI_keeps | apply State.setMar_keeps | apply State.filter_keeps | apply State.showMeas_keeps |
                            apply Keeps.ite | apply Keeps.ite1)
    | intro y hy
    | split

theorem State.clearMeas_keeps {r₀ s : State} (h : Keeps r₀ s) (i : Nat) (t : Nat) :
    Keeps r₀ (State.clearMeas s i t) := by
  unfold State.clearMeas
  repeat' first
    | with_reducible (first | assumption | apply State.setMeas_keeps | apply State.showMeas_keeps)
    | intro y hy

theorem execMeasurementClear_keeps {r₀ s : State} (h : Keeps r₀ s) (task : Nat) (inst : Nat) :
    KeepsOut r₀ (execMeasurementClear task inst s) := by
  unfold execMeasurementClear
  refine Keeps.out ?_
  repeat' first
    | with_reducible (first | assumption | apply State.put_keeps | apply State.clearMeas_keeps)
    | intro y hy

theorem State.showLoads_keeps {r₀ s : State} (h : Keeps r₀ s) :
    Keeps r₀ (State.showLoads s) := by
  unfold State.showLoads
  try dsimp only
  repeat' first
    | with_reducible (first | assumption | apply State.filter_keeps | apply State.put_keeps | apply State.putB_keeps)
    | (with_reducible apply Keeps.each <;> [skip; intros])
    | intro y hy
    | split

theorem State.setPlace_keeps {r₀ s : State} (h : Keeps r₀ s) (d : InstDecl) (p : Place) :
    Keeps r₀ (State.setPlace s d p) := by
  unfold State.setPlace
  repeat' first
    | with_reducible (first | assumption | apply State.put_keeps | apply State.putB_keeps | apply State.setPf_keeps)
    | intro y hy

theorem State.freePlace_keeps {r₀ s : State} (h : Keeps r₀ s) (i : Nat) (pf : Nat) :
    Keeps r₀ (State.freePlace s i pf) := by
  unfold State.freePlace
  repeat' first
    | with_reducible (first | assumption | apply State.setPf_keeps | apply State.put_keeps)
    | intro y hy

theorem State.setShare_keeps {r₀ s : State} (h : Keeps r₀ s) (i : Nat) (v : Nat × Bool) :
    Keeps r₀ (State.setShare s i v) := by
  unfold State.setShare
  repeat' first
    | with_reducible (first | assumption | apply State.put_keeps | apply State.putB_keeps)
    | intro y hy

theorem State.placeEach_keeps {r₀ : State} (share : State → InstDecl → Nat × Bool) : ∀ (l : List InstDecl) {s : State} (_ : Keeps r₀ s)
    (ps : List Place), Keeps r₀ (State.placeEach share s ps l).1
  | [], _, h, _ => h
  | d :: l, s, h, ps => by
    unfold State.placeEach
    dsimp only
    split
    · exact State.placeEach_keeps share l h ps
    · exact State.placeEach_keeps share l (State.setShare_keeps h _ _) _

theorem State.placeAll_keeps {r₀ s : State} (h : Keeps r₀ s) {t : State} (e : s.placeAll = some t) : Keeps r₀ t := by
  unfold State.placeAll at e
  dsimp only at e
  split at e
  · cases e
    apply Keeps.foldl (State.placeEach_keeps _ _ h _)
    intro y a hy
    split
    · exact hy
    · exact State.loadImage_keeps (State.setPlace_keeps hy _ _) _ _
  · cases e

theorem State.placeAll_getD_keeps {r₀ s d : State} (h : Keeps r₀ s) (hd : Keeps r₀ d) : Keeps r₀ (s.placeAll.getD d) := by
  cases e : s.placeAll with
  | none => exact hd
  | some t => exact State.placeAll_keeps h e

theorem State.placeBuffers_keeps {r₀ s : State} (h : Keeps r₀ s) :
    Keeps r₀ (State.placeBuffers s) := by
  unfold State.placeBuffers
  repeat' first
    | with_reducible (first | assumption | apply State.filter_keeps | apply State.put_keeps)
    | (with_reducible apply Keeps.foldl <;> [skip; intros])
    | (with_reducible apply Keeps.foldl1 <;> [skip; intros])
    | intro y hy

theorem State.showAwait_keeps {r₀ s : State} (h : Keeps r₀ s) :
    Keeps r₀ (State.showAwait s) := by
  unfold State.showAwait
  repeat' first
    | with_reducible (first | assumption | apply State.filter_keeps | apply State.put_keeps)
    | intro y hy

theorem State.shuntOff_keeps {r₀ s : State} (h : Keeps r₀ s) (h : Shunt) (res : Nat) :
    Keeps r₀ (State.shuntOff s h res) := by
  unfold State.shuntOff
  repeat' first
    | with_reducible (first | assumption | apply State.setMar_keeps | apply State.put_keeps
                            | apply State.showLoads_keeps)
    | intro y hy

theorem State.shuntAbandon_keeps {r₀ s : State} (h : Keeps r₀ s) (res : Nat) (event : Bool) :
    Keeps r₀ (State.shuntAbandon s res event) := by
  unfold State.shuntAbandon
  try dsimp only
  repeat' first
    | with_reducible (first | assumption | apply State.shuntOff_keeps | apply State.count_keeps
                            | apply State.raiseI_keeps | apply State.put_keeps | apply State.setMar_keeps
                            | apply Keeps.ite)
    | intro y hy
    | split

theorem State.shuntStart_keeps {r₀ s : State} (h : Keeps r₀ s) (p : Place) :
    Keeps r₀ (State.shuntStart s p) := by
  unfold State.shuntStart
  repeat' first
    | with_reducible (first | assumption | apply State.setMar_keeps | apply State.put_keeps
                            | apply State.showLoads_keeps)
    | intro y hy

theorem State.shuntCopy_keeps {r₀ s : State} (h : Keeps r₀ s) (h : Shunt) (d : InstDecl) (o : Nat) (n : Nat) :
    Keeps r₀ (State.shuntCopy s h d o n) := by
  unfold State.shuntCopy
  repeat' first
    | with_reducible (first | assumption | apply State.wrN_keeps)
    | intro y hy

theorem State.shuntBurst_keeps {r₀ s : State} (h : Keeps r₀ s) :
    Keeps r₀ (State.shuntBurst s) := by
  unfold State.shuntBurst
  try dsimp only
  repeat' first
    | with_reducible (first | assumption | apply State.shuntCopy_keeps | apply State.setMar_keeps | apply Keeps.ite)
    | (with_reducible apply Keeps.foldl <;> [skip; intros])
    | (with_reducible apply Keeps.foldl1 <;> [skip; intros])
    | intro y hy
    | split

theorem execGrantDecision_keeps {r₀ s : State} (h : Keeps r₀ s) (arb : Nat) (reqs : List Nat) :
    KeepsOut r₀ (execGrantDecision arb reqs s) := by
  unfold execGrantDecision
  refine Keeps.out ?_
  repeat' first
    | with_reducible (first | assumption | apply State.grant_keeps | apply State.shuntBurst_keeps | apply Keeps.ite)
    | intro y hy

theorem State.shuntSwitch_keeps {r₀ s : State} (h : Keeps r₀ s) (hd : Shunt) :
    Keeps r₀ (State.shuntSwitch s hd) := by
  unfold State.shuntSwitch
  try dsimp only
  repeat' first
    | with_reducible (first | assumption | apply State.shuntOff_keeps | apply State.freePlace_keeps | apply State.setPlace_keeps |
                            apply State.wrN_keeps | apply State.count_keeps | apply State.raiseI_keeps | apply State.showLoads_keeps
                            | apply State.showAwait_keeps | apply State.put_keeps)
    | intro y hy
    | split

theorem State.shuntAtLaunch_keeps {r₀ s : State} (h : Keeps r₀ s) (i : Nat) (cyc : Nat) :
    Keeps r₀ (State.shuntAtLaunch s i cyc) := by
  unfold State.shuntAtLaunch
  repeat' first
    | with_reducible (first | assumption | apply State.shuntSwitch_keeps | apply State.shuntAbandon_keeps
                            | apply Keeps.ite)
    | intro y hy
    | split

theorem State.restartBegin_keeps {r₀ s : State} (h : Keeps r₀ s) (e : Restart) :
    Keeps r₀ (State.restartBegin s e) := by
  unfold State.restartBegin
  try dsimp only
  repeat' first
    | with_reducible (first | assumption | apply State.setMar_keeps | apply State.put_keeps | apply State.showLoads_keeps | apply
                            State.filter_keeps | apply State.placeEach_keeps | apply State.setInst_keeps)
    | (with_reducible apply Keeps.foldl <;> [skip; intros])
    | (with_reducible apply Keeps.foldl1 <;> [skip; intros])
    | intro y hy
    | split

theorem State.restartRun_keeps {r₀ : State} : ∀ (n : Nat) {s : State} (_ : Keeps r₀ s), Keeps r₀ (State.restartRun n s)
  | 0, _, h => by unfold State.restartRun; exact h
  | n + 1, s, h => by
    unfold State.restartRun
    dsimp only
    split
    · exact h
    · split
      · exact h
      · apply State.restartRun_keeps n
        split
        · exact State.setMar_keeps h _
        · exact State.restartBegin_keeps (State.setMar_keeps h _) _

theorem State.restartNext_keeps {r₀ s : State} (h : Keeps r₀ s) : Keeps r₀ (State.restartNext s) :=
  State.restartRun_keeps _ h

theorem State.restartBack_keeps {r₀ s : State} (h : Keeps r₀ s) (p : Nat) : Keeps r₀ (State.restartBack s p) := by
  unfold State.restartBack
  try dsimp only
  repeat' first
    | with_reducible (first | assumption | apply State.setMar_keeps | apply State.put_keeps | apply Keeps.ite)
    | intro y hy
    | split

theorem State.restartQueue_keeps {r₀ s : State} (h : Keeps r₀ s) (p : Nat) (is : List Place) :
    Keeps r₀ (State.restartQueue s p is) := by
  unfold State.restartQueue
  try dsimp only
  repeat' first
    | with_reducible (first | assumption | apply State.restartBack_keeps | apply State.setMar_keeps | apply State.restartNext_keeps |
                            apply Keeps.ite | apply Keeps.ite1)
    | intro y hy
    | split

theorem State.restartDone_keeps {r₀ s : State} (h : Keeps r₀ s) :
    Keeps r₀ (State.restartDone s) := by
  unfold State.restartDone
  try dsimp only
  repeat' first
    | with_reducible (first | assumption | apply State.filter_keeps | apply State.loadImage_keeps
                            | apply State.loadCkpt_keeps | apply State.setMar_keeps | apply State.restartNext_keeps)
    | (with_reducible apply Keeps.foldl <;> [skip; intros])
    | (with_reducible apply Keeps.foldl1 <;> [skip; intros])
    | intro y hy
    | split

theorem execSpareRestartComplete_keeps {r₀ s : State} (h : Keeps r₀ s) (t : Nat) :
    KeepsOut r₀ (execSpareRestartComplete t s) := by
  unfold execSpareRestartComplete
  refine Keeps.out ?_
  repeat' first
    | with_reducible (first | assumption | apply State.advance_keeps | apply State.restartDone_keeps | apply Keeps.ite)
    | intro y hy

theorem State.pubFromSnap_keeps {r₀ s : State} (h : Keeps r₀ s) (i : Nat) :
    Keeps r₀ (State.pubFromSnap s i) := by
  unfold State.pubFromSnap
  repeat' first
    | with_reducible (first | assumption | apply State.pubCold_keeps | apply State.pubRestore_keeps
                            | apply State.pubResume_keeps)
    | intro y hy
    | split

theorem State.mapEffect_keeps {r₀ s : State} (h : Keeps r₀ s) :
    Keeps r₀ (State.mapEffect s) := by
  unfold State.mapEffect
  try dsimp only
  repeat' first
    | with_reducible (first | assumption | apply State.setMar_keeps | apply State.freePlace_keeps | apply State.setPlace_keeps | apply
                            State.put_keeps | apply State.raiseI_keeps | apply State.count_keeps | apply State.pubFromSnap_keeps |
                            apply State.instTo_keeps | apply State.showLoads_keeps | apply State.showAwait_keeps | apply Keeps.ite |
                            apply Keeps.ite1)
    | (with_reducible apply Keeps.foldl <;> [skip; intros])
    | (with_reducible apply Keeps.foldl1 <;> [skip; intros])
    | intro y hy
    | split

theorem State.sharesEffect_keeps {r₀ s : State} (h : Keeps r₀ s) :
    Keeps r₀ (State.sharesEffect s) := by
  unfold State.sharesEffect
  repeat' first
    | with_reducible (first | assumption | apply State.setShare_keeps | apply State.setMar_keeps
                            | apply State.showLoads_keeps | apply Keeps.ite)
    | (with_reducible apply Keeps.foldl <;> [skip; intros])
    | (with_reducible apply Keeps.foldl1 <;> [skip; intros])
    | intro y hy

theorem State.chooseShunt_keeps {r₀ s : State} (h : Keeps r₀ s) :
    Keeps r₀ (State.chooseShunt s) := by
  unfold State.chooseShunt
  repeat' first
    | with_reducible (first | assumption | apply State.shuntStart_keeps | apply Keeps.ite)
    | intro y hy
    | split

theorem State.setWeights_keeps {r₀ s : State} (h : Keeps r₀ s) :
    Keeps r₀ (State.setWeights s) := by
  unfold State.setWeights
  repeat' first
    | with_reducible (first | assumption | apply State.put_keeps | apply State.givePrio_keeps | apply Keeps.ite)
    | (with_reducible apply Keeps.each <;> [skip; intros])
    | (with_reducible apply Keeps.foldl <;> [skip; intros])
    | (with_reducible apply Keeps.foldl1 <;> [skip; intros])
    | intro y hy

theorem State.rebind_keeps {r₀ s : State} (h : Keeps r₀ s) :
    Keeps r₀ (State.rebind s) := by
  unfold State.rebind
  try dsimp only
  repeat' first
    | with_reducible (first | assumption | apply State.busy_keeps | apply State.filter_keeps | apply State.put_keeps
                            | apply Keeps.ite)
    | intro y hy
    | split

theorem State.chargeGrants_keeps {r₀ s : State} (h : Keeps r₀ s) :
    Keeps r₀ (State.chargeGrants s) := by
  unfold State.chargeGrants
  try dsimp only
  repeat' first
    | with_reducible (first | assumption | apply State.setIns_keeps | apply State.put_keeps | apply State.setMar_keeps | apply
                            State.busy_keeps | apply Keeps.ite | apply Keeps.ite1)
    | (with_reducible apply Keeps.each <;> [skip; intros])
    | intro y hy
    | split

theorem execDecisionPeriod_keeps {r₀ s : State} (h : Keeps r₀ s) (cl : Nat) (t : Nat) :
    KeepsOut r₀ (execDecisionPeriod cl t s) := by
  unfold execDecisionPeriod
  refine Keeps.out ?_
  try dsimp only
  repeat' first
    | with_reducible (first | assumption | apply State.advance_keeps | apply State.put_keeps | apply State.peak_keeps | apply
                            State.chargeGrants_keeps | apply State.busy_keeps | apply State.setMar_keeps | apply
                            State.chooseShunt_keeps | apply State.setWeights_keeps | apply State.rebind_keeps | apply
                            State.showMeas_keeps | apply Keeps.ite | apply Keeps.ite1)
    | (with_reducible apply Keeps.each <;> [skip; intros])
    | intro y hy
    | split

theorem State.writeBound_keeps {r₀ s : State} (h : Keeps r₀ s) (i : Nat) (reg : Nat) (v : Word) :
    Keeps r₀ (State.writeBound s i reg v) := by
  unfold State.writeBound
  try dsimp only
  repeat' first
    | with_reducible (first | assumption | apply State.put_keeps | apply State.setMar_keeps | apply State.filter_keeps
                            | apply State.showMeas_keeps | apply Keeps.ite)
    | intro y hy
    | split

theorem execBoundWrite_keeps {r₀ s : State} (h : Keeps r₀ s) (inst : Nat) (reg : Nat) (val : Word) :
    KeepsOut r₀ (execBoundWrite inst reg val s) := by
  unfold execBoundWrite
  refine Keeps.out ?_
  repeat' first
    | with_reducible (first | assumption | apply State.writeBound_keeps)
    | intro y hy

theorem State.tripBits_keeps {r₀ s : State} (h : Keeps r₀ s) (i : Nat) (w : Word) :
    Keeps r₀ (State.tripBits s i w) := by
  unfold State.tripBits
  repeat' first
    | with_reducible (first | assumption | apply State.putB_keeps | apply State.driveTrip_keeps | apply Keeps.ite)
    | (with_reducible apply Keeps.each <;> [skip; intros])
    | intro y hy

theorem State.takeFirst_keeps {r₀ s : State} (h : Keeps r₀ s) :
    Keeps r₀ (State.takeFirst s) := by
  unfold State.takeFirst
  repeat' first
    | with_reducible (first | assumption | apply State.setTok_keeps | apply State.tripBits_keeps
                            | apply State.driveTrips_keeps | apply State.resumeFrames_keeps | apply Keeps.ite)
    | (with_reducible apply Keeps.foldl <;> [skip; intros])
    | (with_reducible apply Keeps.foldl1 <;> [skip; intros])
    | intro y hy

theorem State.depart_keeps {r₀ s : State} (h : Keeps r₀ s) (slot k action : Nat) {v : SlotV} {d : Nat} {t : State}
    (e : s.depart slot k action = some (v, d, t)) : Keeps r₀ t := by
  unfold State.depart at e
  dsimp only at e
  split at e
  · cases e; exact State.takeFirst_keeps (State.put_keeps (State.setTtb_keeps h _) _ _)
  · cases e

theorem execStartAfeConversion_keeps {r₀ s : State} (h : Keeps r₀ s) (slot : Nat) (k : Nat) (t : Nat) :
    KeepsOut r₀ (execStartAfeConversion slot k t s) := by
  unfold execStartAfeConversion
  refine Keeps.out ?_
  try dsimp only
  repeat' first
    | with_reducible (first | assumption | apply State.advance_keeps | apply State.afeConvert_keeps)
    | (with_reducible apply Keeps.foldl <;> [skip; intros])
    | (with_reducible apply Keeps.foldl1 <;> [skip; intros])
    | intro y hy
    | (with_reducible refine State.depart_keeps ?_ _ _ _ (by assumption))
    | split

theorem execFrameMark_keeps {r₀ s : State} (h : Keeps r₀ s) (slot : Nat) (k : Nat) (t : Nat) :
    KeepsOut r₀ (execFrameMark slot k t s) := by
  unfold execFrameMark
  refine Keeps.out ?_
  try dsimp only
  repeat' first
    | with_reducible (first | assumption | apply State.advance_keeps | apply State.closeFrame_keeps | apply Keeps.ite)
    | (with_reducible apply Keeps.foldl <;> [skip; intros])
    | (with_reducible apply Keeps.foldl1 <;> [skip; intros])
    | intro y hy
    | (with_reducible refine State.depart_keeps ?_ _ _ _ (by assumption))
    | split

theorem execArmRecorder_keeps {r₀ s : State} (h : Keeps r₀ s) (slot : Nat) (k : Nat) (t : Nat) :
    KeepsOut r₀ (execArmRecorder slot k t s) := by
  unfold execArmRecorder
  refine Keeps.out ?_
  try dsimp only
  repeat' first
    | with_reducible (first | assumption | apply State.advance_keeps | apply State.recArm_keeps)
    | (with_reducible apply Keeps.foldl <;> [skip; intros])
    | (with_reducible apply Keeps.foldl1 <;> [skip; intros])
    | intro y hy
    | (with_reducible refine State.depart_keeps ?_ _ _ _ (by assumption))
    | split

theorem execDisarmRecorder_keeps {r₀ s : State} (h : Keeps r₀ s) (slot : Nat) (k : Nat) (t : Nat) :
    KeepsOut r₀ (execDisarmRecorder slot k t s) := by
  unfold execDisarmRecorder
  refine Keeps.out ?_
  try dsimp only
  repeat' first
    | with_reducible (first | assumption | apply State.advance_keeps | apply State.recDisarm_keeps)
    | (with_reducible apply Keeps.foldl <;> [skip; intros])
    | (with_reducible apply Keeps.foldl1 <;> [skip; intros])
    | intro y hy
    | (with_reducible refine State.depart_keeps ?_ _ _ _ (by assumption))
    | split

theorem execTriggerRecorder_keeps {r₀ s : State} (h : Keeps r₀ s) (slot : Nat) (k : Nat) (t : Nat) :
    KeepsOut r₀ (execTriggerRecorder slot k t s) := by
  unfold execTriggerRecorder
  refine Keeps.out ?_
  try dsimp only
  repeat' first
    | with_reducible (first | assumption | apply State.advance_keeps | apply State.trigger_keeps | apply Keeps.ite)
    | (with_reducible apply Keeps.foldl <;> [skip; intros])
    | (with_reducible apply Keeps.foldl1 <;> [skip; intros])
    | intro y hy
    | (with_reducible refine State.depart_keeps ?_ _ _ _ (by assumption))
    | split

theorem execSvRelease_keeps {r₀ s : State} (h : Keeps r₀ s) (slot : Nat) (k : Nat) (t : Nat) :
    KeepsOut r₀ (execSvRelease slot k t s) := by
  unfold execSvRelease
  refine Keeps.out ?_
  try dsimp only
  repeat' first
    | with_reducible (first | assumption | apply State.advance_keeps | apply State.svReleaseOne_keeps
                            | apply Keeps.ite)
    | (with_reducible apply Keeps.foldl <;> [skip; intros])
    | (with_reducible apply Keeps.foldl1 <;> [skip; intros])
    | intro y hy
    | (with_reducible refine State.depart_keeps ?_ _ _ _ (by assumption))
    | split

theorem State.enterPark_keeps {r₀ s : State} (h : Keeps r₀ s) :
    Keeps r₀ (State.enterPark s) := by
  unfold State.enterPark
  repeat' first
    | with_reducible (first | assumption | apply State.setPower_keeps | apply State.shuntAbandon_keeps
                            | apply State.recPark_keeps | apply State.put_keeps | apply State.setPf_keeps
                            | apply State.setSvi_keeps | apply State.setHlx_keeps | apply State.setLge_keeps
                            | apply State.zeroMem_keeps | apply State.driveTrips_keeps | apply Keeps.ite)
    | (with_reducible apply Keeps.each <;> [skip; intros])
    | intro y hy

theorem State.askPark_keeps {r₀ s : State} (h : Keeps r₀ s) :
    Keeps r₀ (State.askPark s) := by
  unfold State.askPark
  repeat' first
    | with_reducible (first | assumption | apply State.setPower_keeps | apply State.enterPark_keeps | apply Keeps.ite)
    | intro y hy

theorem State.parkDue_keeps {r₀ s : State} (h : Keeps r₀ s) :
    Keeps r₀ (State.parkDue s) := by
  unfold State.parkDue
  repeat' first
    | with_reducible (first | assumption | apply State.enterPark_keeps | apply Keeps.ite)
    | intro y hy

theorem State.stampDigest_keeps {r₀ s : State} (h : Keeps r₀ s) : Keeps r₀ s.stampDigest := by
  unfold State.stampDigest
  repeat' first
    | with_reducible (first | assumption | apply State.setPower_keeps | apply Keeps.ite)
    | intro y hy

theorem State.imageWritten_keeps {r₀ s : State} (h : Keeps r₀ s) (x : Image) : Keeps r₀ (s.imageWritten x) := by
  cases x
  · exact State.stampDigest_keeps (State.setInst_keeps h _ _)
  · exact State.setLge_keeps h _

theorem State.imagesWritten_keeps {r₀ : State} (l : List Image) {s : State} (h : Keeps r₀ s) :
    Keeps r₀ (l.foldl State.imageWritten s) := by
  induction l generalizing s with
  | nil => exact h
  | cons x l ih => exact ih (State.imageWritten_keeps h x)

theorem State.settleWrites_keeps {r₀ s : State} (h : Keeps r₀ s) : Keeps r₀ s.settleWrites := by
  unfold State.settleWrites
  exact State.imagesWritten_keeps _ (State.setIns_keeps h _)

theorem State.dropWrites_keeps {r₀ s : State} (h : Keeps r₀ s) (o : Option Nat) : Keeps r₀ (s.dropWrites o) :=
  State.setIns_keeps h _

theorem State.writeWindow_keeps {r₀ s : State} (h : Keeps r₀ s) (ns : Nat) : Keeps r₀ (s.writeWindow ns) := by
  unfold State.writeWindow
  exact State.setIns_keeps (State.settleWrites_keeps h) _

theorem State.writeNow_keeps {r₀ s : State} (h : Keeps r₀ s) (x : Image) :
    Keeps r₀ (State.writeNow s x) := by
  unfold State.writeNow
  try dsimp only
  repeat' first
    | with_reducible (first | assumption | apply State.settleWrites_keeps | apply State.dropWrites_keeps | apply State.setIns_keeps)
    | (with_reducible apply Keeps.foldl <;> [skip; intros])
    | (with_reducible apply Keeps.foldl1 <;> [skip; intros])
    | intro y hy

theorem State.writeImages_keeps {r₀ s : State} (h : Keeps r₀ s) : Keeps r₀ s.writeImages := by
  unfold State.writeImages
  exact State.imagesWritten_keeps _ (State.setIns_keeps (State.settleWrites_keeps h) _)

theorem State.runAccs_keeps {r₀ : State} (r : Running) : ∀ (l : List TaskAcc) {s : State} (_ : Keeps r₀ s),
    Keeps r₀ (State.runAccs r s l).1
  | [], _, h => h
  | x :: l, s, h => by
    unfold State.runAccs
    split
    · exact State.runAccs_keeps r l h
    · split
      · split
        · exact State.runAccs_keeps r l (State.dataPut_keeps h _ _ _)
        · exact State.runAccs_keeps r l h
      · exact h

theorem State.showCore_keeps {r₀ s : State} (h : Keeps r₀ s) (p : Nat) :
    Keeps r₀ (State.showCore s p) := by
  unfold State.showCore
  try dsimp only
  repeat' first
    | with_reducible (first | assumption | apply State.coreActs_keeps | apply Keeps.ite | apply Keeps.ite1)
    | intro y hy
    | split

theorem State.busy_keeps {r₀ s : State} (h : Keeps r₀ s) (p : Nat) (n : Nat) :
    Keeps r₀ (State.busy s p n) := by
  unfold State.busy
  repeat' first
    | with_reducible (first | assumption | apply State.stat_keeps)
    | intro y hy

theorem State.clearLocal_keeps {r₀ s : State} (h : Keeps r₀ s) (p : Nat) :
    Keeps r₀ (State.clearLocal s p) := by
  unfold State.clearLocal
  repeat' first
    | with_reducible (first | assumption | apply State.clearAll_keeps)
    | intro y hy

theorem State.endTask_keeps {r₀ s : State} (h : Keeps r₀ s) (p : Nat) :
    Keeps r₀ (State.endTask s p) := by
  unfold State.endTask
  repeat' first
    | with_reducible (first | assumption | apply State.setPf_keeps | apply State.put_keeps
                            | apply State.clearLocal_keeps)
    | intro y hy

theorem State.startTask_keeps {r₀ s : State} (h : Keeps r₀ s) (p : Nat) (l : Launch) (t : Nat) :
    Keeps r₀ (State.startTask s p l t) := by
  unfold State.startTask
  try dsimp only
  repeat' first
    | with_reducible (first | assumption | apply State.clearLocal_keeps | apply State.draw_keeps | apply State.setPf_keeps | apply
                            State.put_keeps | apply State.stat_keeps | apply State.showMailbox_keeps)
    | intro y hy
    | split

theorem State.missed_keeps {r₀ s : State} (h : Keeps r₀ s) :
    Keeps r₀ (State.missed s) := by
  unfold State.missed
  repeat' first
    | with_reducible (first | assumption | apply State.count_keeps)
    | intro y hy

theorem State.freshInst_keeps {r₀ s : State} (h : Keeps r₀ s) (i : Nat) :
    Keeps r₀ (State.freshInst s i) := by
  unfold State.freshInst
  repeat' first
    | with_reducible (first | assumption | apply State.setInst_keeps)
    | intro y hy

theorem State.laneOwner_keeps {r₀ s : State} (h : Keeps r₀ s) (i : Nat) (on : Bool) :
    Keeps r₀ (State.laneOwner s i on) := by
  unfold State.laneOwner
  repeat' first
    | with_reducible (first | assumption | apply State.filter_keeps | apply State.setLane_keeps)
    | (with_reducible apply Keeps.foldl <;> [skip; intros])
    | (with_reducible apply Keeps.foldl1 <;> [skip; intros])
    | intro y hy

theorem State.startCold_keeps {r₀ s : State} (h : Keeps r₀ s) (i : Nat) :
    Keeps r₀ (State.startCold s i) := by
  unfold State.startCold
  repeat' first
    | with_reducible (first | assumption | apply State.dropWrites_keeps | apply State.laneOwner_keeps | apply State.freshInst_keeps | apply State.setInst_keeps
                            | apply State.pubCold_keeps | apply State.instTo_keeps)
    | intro y hy

theorem State.startWarm_keeps {r₀ s : State} (h : Keeps r₀ s) (i : Nat) (x : Snap) :
    Keeps r₀ (State.startWarm s i x) := by
  unfold State.startWarm
  try dsimp only
  repeat' first
    | with_reducible (first | assumption | apply State.laneOwner_keeps | apply State.loadCkpt_keeps | apply State.setInst_keeps
                            | apply State.pubRestore_keeps | apply State.pubResume_keeps | apply State.instTo_keeps)
    | intro y hy
    | split

theorem State.leaveRestart_keeps {r₀ s : State} (h : Keeps r₀ s) (i : Nat) (n : Bool) : Keeps r₀ (State.leaveRestart s i n) := by
  unfold State.leaveRestart
  exact State.setMar_keeps h _

theorem State.placeAgain_keeps {r₀ s : State} (h : Keeps r₀ s) (i : Nat) :
    Keeps r₀ (State.placeAgain s i).1 := by
  unfold State.placeAgain
  try dsimp only
  repeat' first
    | with_reducible (first | assumption | apply State.leaveRestart_keeps | apply State.filter_keeps | apply State.freePlace_keeps
                            | apply State.setShare_keeps | apply State.setPlace_keeps | apply State.loadImage_keeps
                            | apply State.showLoads_keeps | apply Keeps.ite | apply Keeps.ite1)
    | intro y hy
    | split

theorem State.badCmd_keeps {r₀ s : State} (h : Keeps r₀ s) :
    Keeps r₀ (State.badCmd s) := by
  unfold State.badCmd
  repeat' first
    | with_reducible (first | assumption | apply State.count_keeps)
    | intro y hy

theorem State.startInst_keeps {r₀ s : State} (h : Keeps r₀ s) (i : Nat) :
    Keeps r₀ (State.startInst s i) := by
  unfold State.startInst
  repeat' first
    | with_reducible (first | assumption | apply State.placeAgain_keeps | apply State.startCold_keeps
                            | apply State.badCmd_keeps | apply Keeps.ite)
    | intro y hy

theorem execInstanceStart_keeps {r₀ s : State} (h : Keeps r₀ s) (inst : Nat) :
    KeepsOut r₀ (execInstanceStart inst s) := by
  unfold execInstanceStart
  refine Keeps.out ?_
  repeat' first
    | with_reducible (first | assumption | apply State.startInst_keeps)
    | intro y hy

theorem State.tripOwner_keeps {r₀ s : State} (h : Keeps r₀ s) (i : Nat) (on : Bool) :
    Keeps r₀ (State.tripOwner s i on) := by
  unfold State.tripOwner
  repeat' first
    | with_reducible (first | assumption | apply State.setTrip_keeps | apply State.driveTrip_keeps | apply Keeps.ite)
    | (with_reducible apply Keeps.each <;> [skip; intros])
    | intro y hy

theorem State.dropTask_keeps {r₀ s : State} (h : Keeps r₀ s) (p : Nat) :
    Keeps r₀ (State.dropTask s p) := by
  unfold State.dropTask
  try dsimp only
  repeat' first
    | with_reducible (first | assumption | apply State.endTask_keeps | apply State.busy_keeps | apply State.digestNote_keeps | apply
                            State.pubTaskEnd_keeps)
    | intro y hy
    | split

theorem State.stopTaskOf_keeps {r₀ s : State} (h : Keeps r₀ s) (i : Nat) :
    Keeps r₀ (State.stopTaskOf s i) := by
  unfold State.stopTaskOf
  try dsimp only
  repeat' first
    | with_reducible (first | assumption | apply State.dropTask_keeps | apply Keeps.ite | apply Keeps.ite1)
    | (with_reducible apply Keeps.each <;> [skip; intros])
    | intro y hy
    | split

theorem State.mbEmpty_keeps {r₀ s : State} (h : Keeps r₀ s) (i : Nat) :
    Keeps r₀ (State.mbEmpty s i) := by
  unfold State.mbEmpty
  repeat' first
    | with_reducible (first | assumption | apply State.setInst_keeps | apply State.showUse_keeps)
    | intro y hy

theorem State.poolBounds_keeps {r₀ s : State} (h : Keeps r₀ s) (i : Nat) :
    Keeps r₀ (State.poolBounds s i) := by
  unfold State.poolBounds
  try dsimp only
  repeat' first
    | with_reducible (first | assumption | apply State.filter_keeps | apply State.storeWord_keeps)
    | (with_reducible apply Keeps.foldl <;> [skip; intros])
    | (with_reducible apply Keeps.foldl1 <;> [skip; intros])
    | intro y hy
    | split

theorem State.measEmpty_keeps {r₀ s : State} (h : Keeps r₀ s) (i : Nat) :
    Keeps r₀ (State.measEmpty s i) := by
  unfold State.measEmpty
  repeat' first
    | with_reducible (first | assumption | apply State.setMar_keeps | apply State.filter_keeps
                            | apply State.showMeas_keeps)
    | intro y hy

theorem State.resetInst_keeps {r₀ s : State} (h : Keeps r₀ s) (i : Nat) (goal : Nat) :
    Keeps r₀ (State.resetInst s i goal) := by
  unfold State.resetInst
  try dsimp only
  repeat' first
    | with_reducible (first | assumption | apply State.shuntAbandon_keeps | apply State.leaveRestart_keeps | apply State.setInst_keeps
                            | apply State.instTo_keeps | apply State.fenceQueues_keeps | apply State.stopTaskOf_keeps | apply
                            State.tripOwner_keeps | apply State.laneOwner_keeps | apply State.recOwnerReset_keeps | apply
                            State.pubReset_keeps | apply State.clearAll_keeps | apply State.semBreakAll_keeps | apply
                            State.mbEmpty_keeps | apply State.dropWrites_keeps | apply State.filter_keeps | apply
                            State.poolBounds_keeps | apply State.measEmpty_keeps | apply State.fzRefresh_keeps | apply
                            State.showLoads_keeps | apply Keeps.ite | apply Keeps.ite1)
    | intro y hy
    | split

theorem State.resetCmd_keeps {r₀ s : State} (h : Keeps r₀ s) (i : Nat) (goal : Nat) :
    Keeps r₀ (State.resetCmd s i goal) := by
  unfold State.resetCmd
  repeat' first
    | with_reducible (first | assumption | apply State.resetInst_keeps | apply State.badCmd_keeps | apply Keeps.ite)
    | intro y hy

theorem execInstanceReset_keeps {r₀ s : State} (h : Keeps r₀ s) (inst : Nat) (t : Nat) :
    KeepsOut r₀ (execInstanceReset inst t s) := by
  unfold execInstanceReset
  refine Keeps.out ?_
  repeat' first
    | with_reducible (first | assumption | apply State.advance_keeps | apply State.resetCmd_keeps
                            | apply State.parkDue_keeps)
    | intro y hy

theorem execInstanceRestart_keeps {r₀ s : State} (h : Keeps r₀ s) (inst : Nat) (t : Nat) :
    KeepsOut r₀ (execInstanceRestart inst t s) := by
  unfold execInstanceRestart
  refine Keeps.out ?_
  repeat' first
    | with_reducible (first | assumption | apply State.advance_keeps | apply State.resetCmd_keeps
                            | apply State.parkDue_keeps)
    | intro y hy

theorem State.renewInst_keeps {r₀ s : State} (h : Keeps r₀ s) (i : Nat) :
    Keeps r₀ (State.renewInst s i) := by
  unfold State.renewInst
  try dsimp only
  repeat' first
    | with_reducible (first | assumption | apply State.clearAll_keeps | apply State.unfenceQueues_keeps
                            | apply State.zeroMem_keeps | apply State.clear_keeps | apply State.put_keeps
                            | apply State.setInst_keeps | apply State.applyHeap_keeps | apply State.loadImage_keeps
                            | apply State.laneOwner_keeps | apply Keeps.ite)
    | (with_reducible apply Keeps.foldl <;> [skip; intros])
    | (with_reducible apply Keeps.foldl1 <;> [skip; intros])
    | intro y hy
    | split

theorem execInstanceResetComplete_keeps {r₀ s : State} (h : Keeps r₀ s) (inst : Nat) :
    KeepsOut r₀ (execInstanceResetComplete inst s) := by
  unfold execInstanceResetComplete
  refine Keeps.out ?_
  repeat' first
    | with_reducible (first | assumption | apply State.renewInst_keeps | apply State.placeAgain_keeps
                            | apply State.startCold_keeps | apply State.instTo_keeps | apply Keeps.ite)
    | intro y hy

theorem State.putRes_keeps {r₀ s : State} (h : Keeps r₀ s) (i : Nat) (o : Nat) (endLo : Nat) (r : PRes) :
    Keeps r₀ (State.putRes s i o endLo r) := by
  unfold State.putRes
  repeat' first
    | with_reducible (first | assumption | apply State.dataPut_keeps)
    | intro y hy

theorem State.divUnit_keeps {r₀ s : State} (h : Keeps r₀ s) (i : Nat) (d : PDesc) (p : Nat) :
    Keeps r₀ (State.divUnit s i d p).1 := by
  unfold State.divUnit
  repeat' first
    | with_reducible (first | assumption | apply State.draw_keeps | apply Keeps.ite | apply Keeps.ite1)
    | intro y hy

theorem State.phasorUnit_keeps {r₀ s : State} (h : Keeps r₀ s) (i : Nat) (d : PDesc) (p : Nat) :
    Keeps r₀ (State.phasorUnit s i d p).1 := by
  unfold State.phasorUnit
  repeat' first
    | with_reducible (first | assumption | apply State.divUnit_keeps | apply Keeps.ite | apply Keeps.ite1)
    | intro y hy

theorem State.phasorRun_keeps {r₀ s : State} (h : Keeps r₀ s) (i : Nat) (d : PDesc) :
    Keeps r₀ (State.phasorRun s i d).1 := by
  unfold State.phasorRun
  repeat' first
    | with_reducible (first | assumption | apply State.count_keeps | apply State.phasorUnit_keeps
                            | apply State.putRes_keeps)
    | (with_reducible apply Keeps.foldl <;> [skip; intros])
    | (with_reducible apply Keeps.foldl1 <;> [skip; intros])
    | intro y hy

theorem State.phasorExec_keeps {r₀ s : State} (h : Keeps r₀ s) (i : Nat) (o : Nat) :
    Keeps r₀ (State.phasorExec s i o) := by
  unfold State.phasorExec
  repeat' first
    | with_reducible (first | assumption | apply State.draw_keeps | apply State.phasorRun_keeps
                            | apply State.dataPut_keeps | apply Keeps.ite | apply Keeps.ite1)
    | intro y hy

theorem State.showPhq_keeps {r₀ s : State} (h : Keeps r₀ s) (p : Nat) :
    Keeps r₀ (State.showPhq s p) := by
  unfold State.showPhq
  repeat' first
    | with_reducible (first | assumption | apply State.put_keeps | apply State.putB_keeps | apply State.peak_keeps)
    | intro y hy

theorem State.phqPush_keeps {r₀ s : State} (h : Keeps r₀ s) (p : Nat) (ofs : Nat) :
    Keeps r₀ (State.phqPush s p ofs) := by
  unfold State.phqPush
  repeat' first
    | with_reducible (first | assumption | apply State.put_keeps | apply State.setPf_keeps | apply State.showPhq_keeps
                            | apply Keeps.ite)
    | intro y hy

theorem execPhasorDescriptorDone_keeps {r₀ s : State} (h : Keeps r₀ s) (pf : Nat) :
    KeepsOut r₀ (execPhasorDescriptorDone pf s) := by
  unfold execPhasorDescriptorDone
  refine Keeps.out ?_
  try dsimp only
  repeat' first
    | with_reducible (first | assumption | apply State.phasorExec_keeps | apply State.setPf_keeps
                            | apply State.showPhq_keeps)
    | intro y hy
    | split

theorem State.iflag_keeps {r₀ s : State} (h : Keeps r₀ s) (f : Nat → Fld) (l : Launch) :
    Keeps r₀ (State.iflag s f l) := by
  unfold State.iflag
  repeat' first
    | with_reducible (first | assumption | apply State.put_keeps)
    | intro y hy

theorem State.endRun_keeps {r₀ s : State} (h : Keeps r₀ s) (p : Nat) (r : Running) (clocks : Nat) (cl : Nat) (dtc : Option Nat) :
    Keeps r₀ (State.endRun s p r clocks cl dtc) := by
  unfold State.endRun
  repeat' first
    | with_reducible (first | assumption | apply State.digestNote_keeps | apply State.enterRun_keeps
                            | apply State.busy_keeps)
    | intro y hy

theorem State.trapTask_keeps {r₀ s : State} (h : Keeps r₀ s) (p : Nat) (r : Running) (cause : Nat) (clocks : Nat) (cl : Nat) (dtc : Option Nat) :
    Keeps r₀ (State.trapTask s p r cause clocks cl dtc) := by
  unfold State.trapTask
  repeat' first
    | with_reducible (first | assumption | apply State.count_keeps | apply State.iflag_keeps | apply State.put_keeps
                            | apply State.cause_keeps | apply State.endRun_keeps | apply State.endTask_keeps
                            | apply State.resetInst_keeps)
    | intro y hy

theorem State.accessFault_keeps {r₀ s : State} (h : Keeps r₀ s) (p : Nat) (r : Running) (cause : Nat) :
    Keeps r₀ (State.accessFault s p r cause) := by
  unfold State.accessFault
  repeat' first
    | with_reducible (first | assumption | apply State.trapTask_keeps | apply State.cause_keeps)
    | intro y hy

theorem State.startLaunch_keeps {r₀ s : State} (h : Keeps r₀ s) (p : Nat) (l : Launch) :
    Keeps r₀ (State.startLaunch s p l) := by
  unfold State.startLaunch
  try dsimp only
  repeat' first
    | with_reducible (first | assumption | apply State.startTask_keeps | apply State.accessFault_keeps | apply Keeps.ite | apply
                            Keeps.ite1)
    | intro y hy
    | split

theorem State.showLq_keeps {r₀ s : State} (h : Keeps r₀ s) (p : Nat) :
    Keeps r₀ (State.showLq s p) := by
  unfold State.showLq
  repeat' first
    | with_reducible (first | assumption | apply State.put_keeps)
    | intro y hy

theorem State.spaced_keeps {r₀ s : State} (h : Keeps r₀ s) (slot : Nat) (p : Nat) (t : Nat) :
    Keeps r₀ (State.spaced s slot p t).1 := by
  unfold State.spaced
  try dsimp only
  repeat' first
    | with_reducible (first | assumption | apply State.setTtb_keeps | apply State.filter_keeps
                            | apply State.count_keeps | apply State.raise_keeps | apply Keeps.ite | apply Keeps.ite1)
    | intro y hy
    | split

theorem State.launch_keeps {r₀ s : State} (h : Keeps r₀ s) (p : Nat) (l : Launch) (at_ : Nat) :
    Keeps r₀ (State.launch s p l at_) := by
  unfold State.launch
  try dsimp only
  repeat' first
    | with_reducible (first | assumption | apply State.missed_keeps | apply State.startLaunch_keeps | apply State.setPf_keeps | apply
                            State.showLq_keeps | apply Keeps.ite | apply Keeps.ite1)
    | intro y hy
    | split

theorem execLaunchTask_keeps {r₀ s : State} (h : Keeps r₀ s) (slot : Nat) (k : Nat) (t : Nat) :
    KeepsOut r₀ (execLaunchTask slot k t s) := by
  unfold execLaunchTask
  refine Keeps.out ?_
  try dsimp only
  repeat' first
    | with_reducible (first | assumption | apply State.advance_keeps | apply State.shuntAtLaunch_keeps
                            | apply State.missed_keeps | apply State.spaced_keeps | apply State.launch_keeps
                            | apply Keeps.ite)
    | intro y hy
    | (with_reducible refine State.depart_keeps ?_ _ _ _ (by assumption))
    | split

theorem State.serveLq_keeps {r₀ : State} : ∀ (n : Nat) {s : State} (_ : Keeps r₀ s) (a0 : Nat),
    Keeps r₀ (State.serveLq n s a0)
  | 0, _, h, _ => by unfold State.serveLq; exact h
  | n + 1, s, h, a0 => by
    unfold State.serveLq
    try dsimp only
    repeat' first
      | with_reducible (first | assumption | apply State.serveLq_keeps n | apply State.setPf_keeps
                              | apply State.showLq_keeps | apply State.missed_keeps | apply State.startLaunch_keeps
                              | apply Keeps.ite)
      | intro y hy
      | split

theorem execLaunchQueueServed_keeps {r₀ s : State} (h : Keeps r₀ s) (pf : Nat) (t : Nat) :
    KeepsOut r₀ (execLaunchQueueServed pf t s) := by
  unfold execLaunchQueueServed
  refine Keeps.out ?_
  repeat' first
    | with_reducible (first | assumption | apply State.advance_keeps | apply State.serveLq_keeps | apply Keeps.ite)
    | intro y hy

theorem State.stopAtDeadline_keeps {r₀ s : State} (h : Keeps r₀ s) (p : Nat) (r : Running) (clocks : Nat) (cl : Nat) :
    Keeps r₀ (State.stopAtDeadline s p r clocks cl) := by
  unfold State.stopAtDeadline
  repeat' first
    | with_reducible (first | assumption | apply State.raiseI_keeps | apply State.count_keeps
                            | apply State.iflag_keeps | apply State.endRun_keeps | apply State.endTask_keeps
                            | apply State.pubTaskEnd_keeps)
    | intro y hy

theorem execBudgetOverrun_keeps {r₀ s : State} (h : Keeps r₀ s) (pf : Nat) :
    KeepsOut r₀ (execBudgetOverrun pf s) := by
  unfold execBudgetOverrun
  refine Keeps.out ?_
  try dsimp only
  repeat' first
    | with_reducible (first | assumption | apply State.coreActs_keeps | apply State.setPf_keeps | apply State.raiseI_keeps | apply
                            State.count_keeps | apply State.put_keeps | apply State.iflag_keeps | apply Keeps.ite | apply Keeps.ite1)
    | intro y hy
    | split

theorem State.afterAccs_keeps {r₀ s : State} (h : Keeps r₀ s) (p : Nat) (r : Running) (accs : List TaskAcc) (clocks : Nat) (cl : Nat) (f : State → State) (hf : ∀ y, Keeps r₀ y → Keeps r₀ (f y)) :
    Keeps r₀ (State.afterAccs s p r accs clocks cl f) := by
  unfold State.afterAccs
  try dsimp only
  repeat' first
    | with_reducible (first | assumption | apply State.runAccs_keeps | apply State.trapTask_keeps | apply hf)
    | intro y hy
    | split

theorem execDeadline_keeps {r₀ s : State} (h : Keeps r₀ s) (pf : Nat) (clocks : Nat) (cl : Nat) (accs : List TaskAcc) (t : Nat) :
    KeepsOut r₀ (execDeadline pf clocks cl accs t s) := by
  unfold execDeadline
  refine Keeps.out ?_
  try dsimp only
  repeat' first
    | with_reducible (first | assumption | apply State.advance_keeps | apply State.parkDue_keeps | apply State.afterAccs_keeps | apply
                            State.stopAtDeadline_keeps | apply Keeps.ite | apply Keeps.ite1)
    | intro y hy
    | split

theorem execTrap_keeps {r₀ s : State} (h : Keeps r₀ s) (pf : Nat) (cause : Nat) (clocks : Nat) (cl : Nat) (accs : List TaskAcc) (t : Nat) :
    KeepsOut r₀ (execTrap pf cause clocks cl accs t s) := by
  unfold execTrap
  refine Keeps.out ?_
  try dsimp only
  repeat' first
    | with_reducible (first | assumption | apply State.runAccs_keeps | apply State.advance_keeps | apply State.parkDue_keeps | apply State.stopAtDeadline_keeps |
                            apply State.afterAccs_keeps | apply State.trapTask_keeps | apply State.cause_keeps | apply Keeps.ite |
                            apply Keeps.ite1)
    | intro y hy
    | split

theorem State.accsNow_keeps {r₀ s : State} (h : Keeps r₀ s) (p : Nat) (r : Running) (accs : List TaskAcc) (f : State → State) (hf : ∀ y, Keeps r₀ y → Keeps r₀ (f y)) :
    Keeps r₀ (State.accsNow s p r accs f) := by
  unfold State.accsNow
  try dsimp only
  repeat' first
    | with_reducible (first | assumption | apply State.runAccs_keeps | apply State.coreActs_keeps | apply State.runAccs_keeps | apply State.accessFault_keeps |
                            apply hf)
    | intro y hy
    | split

theorem execPhasorPush_keeps {r₀ s : State} (h : Keeps r₀ s) (pf : Nat) (ofs : Word) (accs : List TaskAcc) :
    KeepsOut r₀ (execPhasorPush pf ofs accs s) := by
  unfold execPhasorPush
  refine Keeps.out ?_
  try dsimp only
  repeat' first
    | with_reducible (first | assumption | apply State.accsNow_keeps | apply State.phqPush_keeps)
    | intro y hy
    | split

theorem State.beginCommit_keeps {r₀ s : State} (h : Keeps r₀ s) (p : Nat) (r : Running) (clocks : Nat) (cl : Nat) :
    Keeps r₀ (State.beginCommit s p r clocks cl) := by
  unfold State.beginCommit
  repeat' first
    | with_reducible (first | assumption | apply State.setPf_keeps | apply State.put_keeps)
    | intro y hy

theorem execEcall_keeps {r₀ s : State} (h : Keeps r₀ s) (pf : Nat) (a7 : Nat) (clocks : Nat) (cl : Nat) (accs : List TaskAcc) (t : Nat) :
    KeepsOut r₀ (execEcall pf a7 clocks cl accs t s) := by
  unfold execEcall
  refine Keeps.out ?_
  try dsimp only
  repeat' first
    | with_reducible (first | assumption | apply State.runAccs_keeps | apply State.advance_keeps | apply State.parkDue_keeps | apply State.stopAtDeadline_keeps |
                            apply State.afterAccs_keeps | apply State.beginCommit_keeps | apply State.endRun_keeps | apply
                            State.endTask_keeps | apply State.pubTaskEnd_keeps | apply State.trapTask_keeps | apply Keeps.ite |
                            apply Keeps.ite1)
    | intro y hy
    | split

theorem State.snapshotAt_keeps {r₀ s : State} (h : Keeps r₀ s) (p : Nat) (i : Nat) :
    Keeps r₀ (State.snapshotAt s p i) := by
  unfold State.snapshotAt
  try dsimp only
  repeat' first
    | with_reducible (first | assumption | apply State.setInst_keeps | apply State.setPf_keeps
                            | apply State.busy_keeps | apply Keeps.ite)
    | intro y hy
    | split

theorem State.commitTask_keeps {r₀ s : State} (h : Keeps r₀ s) (p : Nat) (r : Running) (e : Ending) :
    Keeps r₀ (State.commitTask s p r e) := by
  unfold State.commitTask
  try dsimp only
  repeat' first
    | with_reducible (first | assumption | apply State.setInst_keeps | apply State.tripBits_keeps
                            | apply State.tripOwner_keeps | apply State.fzRefresh_keeps | apply State.pubCommit_keeps
                            | apply State.digestNote_keeps | apply State.enterRun_keeps | apply State.busy_keeps
                            | apply State.snapshotAt_keeps | apply State.endTask_keeps | apply State.pubTaskEnd_keeps
                            | apply Keeps.ite)
    | intro y hy
    | split

theorem execCommit_keeps {r₀ s : State} (h : Keeps r₀ s) (pf : Nat) (t : Nat) :
    KeepsOut r₀ (execCommit pf t s) := by
  unfold execCommit
  refine Keeps.out ?_
  try dsimp only
  repeat' first
    | with_reducible (first | assumption | apply State.advance_keeps | apply State.parkDue_keeps
                            | apply State.stopAtDeadline_keeps | apply State.commitTask_keeps | apply Keeps.ite)
    | intro y hy
    | split

theorem State.shuntQuar_keeps {r₀ s : State} (h : Keeps r₀ s) (p : Nat) :
    Keeps r₀ (State.shuntQuar s p) := by
  unfold State.shuntQuar
  repeat' first
    | with_reducible (first | assumption | apply State.shuntAbandon_keeps | apply Keeps.ite)
    | intro y hy
    | split

theorem State.quarantine_keeps {r₀ s : State} (h : Keeps r₀ s) (p : Nat) (cause : Nat) :
    Keeps r₀ (State.quarantine s p cause) := by
  unfold State.quarantine
  try dsimp only
  repeat' first
    | with_reducible (first | assumption | apply State.dropTask_keeps | apply State.countN_keeps | apply State.setPf_keeps | apply
                            State.showLq_keeps | apply State.put_keeps | apply State.cause_keeps | apply State.raise_keeps | apply
                            State.shuntQuar_keeps | apply State.filter_keeps | apply State.instTo_keeps | apply
                            State.semBreakAll_keeps | apply State.setMar_keeps | apply State.showLoads_keeps | apply
                            State.restartQueue_keeps | apply Keeps.ite | apply Keeps.ite1)
    | (with_reducible apply Keeps.foldl <;> [skip; intros])
    | (with_reducible apply Keeps.foldl1 <;> [skip; intros])
    | intro y hy
    | split

theorem execLockstepMismatch_keeps {r₀ s : State} (h : Keeps r₀ s) (pf : Nat) (t : Nat) :
    KeepsOut r₀ (execLockstepMismatch pf t s) := by
  unfold execLockstepMismatch
  refine Keeps.out ?_
  repeat' first
    | with_reducible (first | assumption | apply State.parkDue_keeps | apply State.advance_keeps
                            | apply State.quarantine_keeps)
    | intro y hy

theorem execCorrectableEccError_keeps {r₀ s : State} (h : Keeps r₀ s) (memory : Nat) (pf : Nat) :
    KeepsOut r₀ (execCorrectableEccError memory pf s) := by
  unfold execCorrectableEccError
  refine Keeps.out ?_
  repeat' first
    | with_reducible (first | assumption | apply State.count_keeps | apply State.raise_keeps | apply Keeps.ite)
    | intro y hy

theorem State.dramError_keeps {r₀ s : State} (h : Keeps r₀ s) (a : Nat) :
    Keeps r₀ (State.dramError s a) := by
  unfold State.dramError
  try dsimp only
  repeat' first
    | with_reducible (first | assumption | apply State.dropWrites_keeps | apply State.settleWrites_keeps | apply State.setInst_keeps | apply State.setLge_keeps
                            | apply State.setRecd_keeps | apply State.setAcq_keeps | apply Keeps.ite)
    | intro y hy
    | split

theorem execUncorrectableEccError_keeps {r₀ s : State} (h : Keeps r₀ s) (memory : Nat) (pf : Nat) (addr : Nat) (t : Nat) :
    KeepsOut r₀ (execUncorrectableEccError memory pf addr t s) := by
  unfold execUncorrectableEccError
  refine Keeps.out ?_
  repeat' first
    | with_reducible (first | assumption | apply State.advance_keeps | apply State.count_keeps | apply State.put_keeps
                            | apply State.raise_keeps | apply State.parkDue_keeps | apply State.quarantine_keeps
                            | apply State.dramError_keeps | apply Keeps.ite)
    | intro y hy

theorem State.lgTo_keeps {r₀ s : State} (h : Keeps r₀ s) (m : Nat) :
    Keeps r₀ (State.lgTo s m) := by
  unfold State.lgTo
  repeat' first
    | with_reducible (first | assumption | apply State.put_keeps | apply State.raise_keeps | apply Keeps.ite)
    | intro y hy

theorem State.showProg_keeps {r₀ s : State} (h : Keeps r₀ s) :
    Keeps r₀ (State.showProg s) := by
  unfold State.showProg
  try dsimp only
  repeat' first
    | with_reducible (first | assumption | apply State.putB_keeps | apply State.put_keeps)
    | intro y hy
    | split

theorem State.lgReport_keeps {r₀ s : State} (h : Keeps r₀ s) (k : Nat) :
    Keeps r₀ (State.lgReport s k) := by
  unfold State.lgReport
  repeat' first
    | with_reducible (first | assumption | apply State.setLge_keeps | apply State.put_keeps)
    | intro y hy

theorem State.lgRestart_keeps {r₀ s : State} (h : Keeps r₀ s) (ret : Option RetImg) :
    Keeps r₀ (State.lgRestart s ret) := by
  unfold State.lgRestart
  try dsimp only
  repeat' first
    | with_reducible (first | assumption | apply State.setLge_keeps | apply State.lgReport_keeps | apply State.draw_keeps)
    | intro y hy
    | split

theorem State.lgLoad_keeps {r₀ s : State} (h : Keeps r₀ s) (p : Option Prog) (ret : Option RetImg) :
    Keeps r₀ (State.lgLoad s p ret) := by
  unfold State.lgLoad
  try dsimp only
  repeat' first
    | with_reducible (first | assumption | apply State.setLge_keeps | apply State.showProg_keeps | apply State.lgRestart_keeps | apply
                            State.lgTo_keeps)
    | intro y hy
    | split

theorem State.lgExchange_keeps {r₀ s : State} (h : Keeps r₀ s) (new : Prog) :
    Keeps r₀ (State.lgExchange s new) := by
  unfold State.lgExchange
  try dsimp only
  repeat' first
    | with_reducible (first | assumption | apply State.setLge_keeps | apply State.showProg_keeps
                            | apply State.put_keeps | apply State.raise_keeps)
    | (with_reducible apply Keeps.foldl <;> [skip; intros])
    | (with_reducible apply Keeps.foldl1 <;> [skip; intros])
    | intro y hy
    | split

theorem State.unfresh_keeps {r₀ s : State} (h : Keeps r₀ s) :
    Keeps r₀ (State.unfresh s) := by
  unfold State.unfresh
  repeat' first
    | with_reducible (first | assumption | apply State.setHlx_keeps | apply State.put_keeps)
    | (with_reducible apply Keeps.each <;> [skip; intros])
    | intro y hy

theorem State.setHaltOk_keeps {r₀ s : State} (h : Keeps r₀ s) (h : Nat) (b : Bool) :
    Keeps r₀ (State.setHaltOk s h b) := by
  unfold State.setHaltOk
  repeat' first
    | with_reducible (first | assumption | apply State.putBit_keeps | apply Keeps.ite)
    | intro y hy

theorem State.haltEnd_keeps {r₀ s : State} (h : Keeps r₀ s) (h : Nat) :
    Keeps r₀ (State.haltEnd s h) := by
  unfold State.haltEnd
  repeat' first
    | with_reducible (first | assumption | apply State.setHalt_keeps | apply State.setHaltOk_keeps
                            | apply State.raise_keeps | apply State.count_keeps | apply Keeps.ite)
    | intro y hy

theorem State.haltComplete_keeps {r₀ s : State} (h : Keeps r₀ s) :
    Keeps r₀ (State.haltComplete s) := by
  unfold State.haltComplete
  repeat' first
    | with_reducible (first | assumption | apply State.haltEnd_keeps | apply State.put_keeps
                            | apply State.setHlx_keeps)
    | (with_reducible apply Keeps.each <;> [skip; intros])
    | intro y hy

theorem State.windowDue_keeps {r₀ s : State} (h : Keeps r₀ s) (t : Nat) :
    Keeps r₀ (State.windowDue s t) := by
  unfold State.windowDue
  try dsimp only
  repeat' first
    | with_reducible (first | assumption | apply State.haltComplete_keeps | apply Keeps.ite | apply Keeps.ite1)
    | intro y hy
    | split

theorem State.freshOutputs_keeps {r₀ s : State} (h : Keeps r₀ s) :
    Keeps r₀ (State.freshOutputs s) := by
  unfold State.freshOutputs
  try dsimp only
  repeat' first
    | with_reducible (first | assumption | apply State.setPorts_keeps | apply Keeps.ite | apply Keeps.ite1)
    | intro y hy
    | split

theorem State.lgSkip_keeps {r₀ s : State} (h : Keeps r₀ s) :
    Keeps r₀ (State.lgSkip s) := by
  unfold State.lgSkip
  repeat' first
    | with_reducible (first | assumption | apply State.setLge_keeps | apply State.count_keeps
                            | apply State.raise_keeps | apply State.lgTo_keeps | apply Keeps.ite)
    | intro y hy

theorem State.lgStart_keeps {r₀ s : State} (h : Keeps r₀ s) (dep : Nat) (t : Nat) :
    Keeps r₀ (State.lgStart s dep t) := by
  unfold State.lgStart
  repeat' first
    | with_reducible (first | assumption | apply State.setLge_keeps | apply State.unfresh_keeps | apply Keeps.ite)
    | intro y hy

theorem State.lgWaiting_keeps {r₀ s : State} (h : Keeps r₀ s) :
    Keeps r₀ (State.lgWaiting s) := by
  unfold State.lgWaiting
  try dsimp only
  repeat' first
    | with_reducible (first | assumption | apply State.lgExchange_keeps | apply State.lgRestart_keeps | apply State.lgTo_keeps | apply
                            Keeps.ite | apply Keeps.ite1)
    | intro y hy
    | split

theorem execLogicCycleStart_keeps {r₀ s : State} (h : Keeps r₀ s) (slot : Nat) (k : Nat) (t : Nat) :
    KeepsOut r₀ (execLogicCycleStart slot k t s) := by
  unfold execLogicCycleStart
  refine Keeps.out ?_
  try dsimp only
  repeat' first
    | with_reducible (first | assumption | apply State.advance_keeps | apply State.lgSkip_keeps | apply
                            State.windowDue_keeps | apply State.lgWaiting_keeps | apply State.lgStart_keeps | apply
                            State.setLge_keeps | apply Keeps.ite | apply Keeps.ite1)
    | intro y hy
    | (with_reducible refine State.depart_keeps ?_ _ _ _ (by assumption))
    | split

theorem State.sendLines_keeps {r₀ s : State} (h : Keeps r₀ s) (cyc : Nat) (b : Bytes) (l : List Nat) :
    Keeps r₀ (State.sendLines s cyc b l) := by
  unfold State.sendLines
  repeat' first
    | with_reducible (first | assumption | apply State.plSend_keeps)
    | (with_reducible apply Keeps.foldl <;> [skip; intros])
    | (with_reducible apply Keeps.foldl1 <;> [skip; intros])
    | intro y hy

theorem State.streamRetain_keeps {r₀ s : State} (h : Keeps r₀ s) (cyc : Nat) (b : Bytes) :
    Keeps r₀ (State.streamRetain s cyc b) := by
  unfold State.streamRetain
  try dsimp only
  repeat' first
    | with_reducible (first | assumption | apply State.filter_keeps | apply State.sendLines_keeps
                            | apply State.setTok_keeps | apply Keeps.ite)
    | intro y hy
    | split

theorem State.lgSems_keeps {r₀ s : State} (h : Keeps r₀ s) (p : Prog) :
    Keeps r₀ (State.lgSems s p) := by
  unfold State.lgSems
  repeat' first
    | with_reducible (first | assumption | apply State.semTry_keeps | apply State.setLge_keeps
                            | apply State.semRelease_keeps | apply Keeps.ite)
    | (with_reducible apply Keeps.foldl <;> [skip; intros])
    | (with_reducible apply Keeps.foldl1 <;> [skip; intros])
    | intro y hy

theorem State.stageRetain_keeps {r₀ s : State} (h : Keeps r₀ s) :
    Keeps r₀ (State.stageRetain s) := by
  unfold State.stageRetain
  try dsimp only
  repeat' first
    | with_reducible (first | assumption | apply State.setLge_keeps | apply Keeps.ite)
    | intro y hy
    | split

theorem State.lgCommand_keeps {r₀ s : State} (h : Keeps r₀ s) :
    Keeps r₀ (State.lgCommand s) := by
  unfold State.lgCommand
  repeat' first
    | with_reducible (first | assumption | apply State.setLge_keeps | apply State.lgTo_keeps | apply Keeps.ite)
    | intro y hy

theorem State.recVars_keeps {r₀ s : State} (h : Keeps r₀ s) (p : Prog) (dep : Nat) (cyc : Nat) :
    Keeps r₀ (State.recVars s p dep cyc) := by
  unfold State.recVars
  try dsimp only
  repeat' first
    | with_reducible (first | assumption | apply State.filter_keeps | apply State.recSample_keeps)
    | (with_reducible apply Keeps.each <;> [skip; intros])
    | intro y hy
    | split

theorem execLogicCommit_keeps {r₀ s : State} (h : Keeps r₀ s) (clocks : Nat) (t : Nat) :
    KeepsOut r₀ (execLogicCommit clocks t s) := by
  unfold execLogicCommit
  refine Keeps.out ?_
  try dsimp only
  repeat' first
    | with_reducible (first | assumption | apply State.advance_keeps | apply State.parkDue_keeps | apply State.lgSems_keeps | apply
                            State.setLge_keeps | apply State.put_keeps | apply State.recVars_keeps | apply State.peak_keeps | apply
                            State.stageRetain_keeps | apply State.streamRetain_keeps | apply State.lgCommand_keeps | apply
                            State.freshOutputs_keeps | apply Keeps.ite | apply Keeps.ite1)
    | (with_reducible apply Keeps.each <;> [skip; intros])
    | intro y hy
    | split

theorem State.lgAbandon_keeps {r₀ s : State} (h : Keeps r₀ s) :
    Keeps r₀ (State.lgAbandon s) := by
  unfold State.lgAbandon
  try dsimp only
  repeat' first
    | with_reducible (first | assumption | apply State.draw_keeps | apply State.setLge_keeps | apply step_keeps
                            | apply State.semBreakAll_keeps | apply State.lgTo_keeps)
    | intro y hy
    | split

theorem execLogicCycleAbort_keeps {r₀ s : State} (h : Keeps r₀ s) (t : Nat) :
    KeepsOut r₀ (execLogicCycleAbort t s) := by
  unfold execLogicCycleAbort
  refine Keeps.out ?_
  try dsimp only
  repeat' first
    | with_reducible (first | assumption | apply State.advance_keeps | apply State.parkDue_keeps
                            | apply State.lgAbandon_keeps | apply Keeps.ite)
    | intro y hy
    | split

theorem State.lgRun_keeps {r₀ s : State} (h : Keeps r₀ s) :
    Keeps r₀ (State.lgRun s) := by
  unfold State.lgRun
  repeat' first
    | with_reducible (first | assumption | apply State.setLge_keeps | apply State.lgTo_keeps | apply Keeps.ite)
    | intro y hy

theorem State.lgStop_keeps {r₀ s : State} (h : Keeps r₀ s) :
    Keeps r₀ (State.lgStop s) := by
  unfold State.lgStop
  repeat' first
    | with_reducible (first | assumption | apply State.lgAbandon_keeps | apply State.setLge_keeps
                            | apply State.lgTo_keeps | apply Keeps.ite)
    | intro y hy

theorem State.lgHold_keeps {r₀ s : State} (h : Keeps r₀ s) :
    Keeps r₀ (State.lgHold s) := by
  unfold State.lgHold
  repeat' first
    | with_reducible (first | assumption | apply State.setLge_keeps | apply State.count_keeps | apply Keeps.ite)
    | intro y hy

theorem State.lgContinue_keeps {r₀ s : State} (h : Keeps r₀ s) :
    Keeps r₀ (State.lgContinue s) := by
  unfold State.lgContinue
  repeat' first
    | with_reducible (first | assumption | apply State.setLge_keeps | apply step_keeps | apply State.lgTo_keeps
                            | apply Keeps.ite)
    | intro y hy

theorem State.lgStep_keeps {r₀ s : State} (h : Keeps r₀ s) :
    Keeps r₀ (State.lgStep s) := by
  unfold State.lgStep
  repeat' first
    | with_reducible (first | assumption | apply State.setLge_keeps | apply step_keeps | apply Keeps.ite)
    | intro y hy

theorem State.lgAskRestart_keeps {r₀ s : State} (h : Keeps r₀ s) (k : Nat) :
    Keeps r₀ (State.lgAskRestart s k) := by
  unfold State.lgAskRestart
  repeat' first
    | with_reducible (first | assumption | apply State.setLge_keeps | apply Keeps.ite)
    | intro y hy

theorem execLogicRun_keeps {r₀ s : State} (h : Keeps r₀ s) :
    KeepsOut r₀ (execLogicRun s) := by
  unfold execLogicRun
  refine Keeps.out ?_
  repeat' first
    | with_reducible (first | assumption | apply State.lgRun_keeps)
    | intro y hy

theorem execLogicStop_keeps {r₀ s : State} (h : Keeps r₀ s) :
    KeepsOut r₀ (execLogicStop s) := by
  unfold execLogicStop
  refine Keeps.out ?_
  repeat' first
    | with_reducible (first | assumption | apply State.lgStop_keeps)
    | intro y hy

theorem execLogicHold_keeps {r₀ s : State} (h : Keeps r₀ s) :
    KeepsOut r₀ (execLogicHold s) := by
  unfold execLogicHold
  refine Keeps.out ?_
  repeat' first
    | with_reducible (first | assumption | apply State.lgHold_keeps)
    | intro y hy

theorem execLogicContinue_keeps {r₀ s : State} (h : Keeps r₀ s) :
    KeepsOut r₀ (execLogicContinue s) := by
  unfold execLogicContinue
  refine Keeps.out ?_
  repeat' first
    | with_reducible (first | assumption | apply State.lgContinue_keeps)
    | intro y hy

theorem execLogicStep_keeps {r₀ s : State} (h : Keeps r₀ s) :
    KeepsOut r₀ (execLogicStep s) := by
  unfold execLogicStep
  refine Keeps.out ?_
  repeat' first
    | with_reducible (first | assumption | apply State.lgStep_keeps)
    | intro y hy

theorem execLogicCold_keeps {r₀ s : State} (h : Keeps r₀ s) :
    KeepsOut r₀ (execLogicCold s) := by
  unfold execLogicCold
  refine Keeps.out ?_
  repeat' first
    | with_reducible (first | assumption | apply State.lgAskRestart_keeps)
    | intro y hy

theorem execLogicWarm_keeps {r₀ s : State} (h : Keeps r₀ s) :
    KeepsOut r₀ (execLogicWarm s) := by
  unfold execLogicWarm
  refine Keeps.out ?_
  repeat' first
    | with_reducible (first | assumption | apply State.lgAskRestart_keeps)
    | intro y hy

theorem State.lgPause_keeps {r₀ s : State} (h : Keeps r₀ s) (pc : Nat) :
    Keeps r₀ (State.lgPause s pc) := by
  unfold State.lgPause
  repeat' first
    | with_reducible (first | assumption | apply State.setLge_keeps | apply step_keeps | apply State.put_keeps
                            | apply State.lgTo_keeps)
    | intro y hy

theorem execCyclePause_keeps {r₀ s : State} (h : Keeps r₀ s) (pc : Nat) :
    KeepsOut r₀ (execCyclePause pc s) := by
  unfold execCyclePause
  refine Keeps.out ?_
  repeat' first
    | with_reducible (first | assumption | apply step_keeps | apply State.lgPause_keeps | apply Keeps.ite)
    | intro y hy

theorem execBreakpointHit_keeps {r₀ s : State} (h : Keeps r₀ s) (n : Nat) :
    KeepsOut r₀ (execBreakpointHit n s) := by
  unfold execBreakpointHit
  refine Keeps.out ?_
  repeat' first
    | with_reducible (first | assumption | apply State.lgPause_keeps | apply State.put_keeps | apply Keeps.ite)
    | intro y hy

theorem State.sendRequest_keeps {r₀ s : State} (h : Keeps r₀ s) (hd : Nat) :
    Keeps r₀ (State.sendRequest s hd) := by
  unfold State.sendRequest
  repeat' first
    | with_reducible (first | assumption | apply State.sendPaired_keeps | apply State.haltFrame_keeps)
    | intro y hy

theorem execHaltExchangeStart_keeps {r₀ s : State} (h : Keeps r₀ s) (slot : Nat) (k : Nat) (t : Nat) :
    KeepsOut r₀ (execHaltExchangeStart slot k t s) := by
  unfold execHaltExchangeStart
  refine Keeps.out ?_
  try dsimp only
  repeat' first
    | with_reducible (first | assumption | apply State.advance_keeps | apply State.windowDue_keeps | apply
                            State.count_keeps | apply State.put_keeps | apply State.setHalt_keeps | apply State.sendRequest_keeps |
                            apply State.setHlx_keeps | apply State.haltComplete_keeps | apply Keeps.ite | apply Keeps.ite1)
    | (with_reducible apply Keeps.each <;> [skip; intros])
    | intro y hy
    | (with_reducible refine State.depart_keeps ?_ _ _ _ (by assumption))
    | split

theorem State.haltEdges_keeps {r₀ s : State} (h : Keeps r₀ s) (h : Nat) (old : Nat) (new : Nat) (t : Int) :
    Keeps r₀ (State.haltEdges s h old new t) := by
  unfold State.haltEdges
  repeat' first
    | with_reducible (first | assumption | apply State.trigger_keeps | apply Keeps.ite)
    | (with_reducible apply Keeps.each <;> [skip; intros])
    | intro y hy

theorem State.haltValid_keeps {r₀ s : State} (h : Keeps r₀ s) (h : Nat) (p : Nat) (b : Bytes) (capture : Nat) :
    Keeps r₀ (State.haltValid s h p b capture) := by
  unfold State.haltValid
  repeat' first
    | with_reducible (first | assumption | apply State.setHalt_keeps | apply State.put_keeps
                            | apply State.setHaltOk_keeps | apply State.raise_keeps | apply State.haltEdges_keeps
                            | apply State.haltComplete_keeps | apply Keeps.ite)
    | intro y hy

theorem State.haltReply_keeps {r₀ s : State} (h : Keeps r₀ s) (p : Nat) (b : Bytes) (capture : Nat) :
    Keeps r₀ (State.haltReply s p b capture) := by
  unfold State.haltReply
  repeat' first
    | with_reducible (first | assumption | apply State.count_keeps | apply State.haltValid_keeps | apply Keeps.ite)
    | intro y hy

theorem execHaltReply_keeps {r₀ s : State} (h : Keeps r₀ s) (port : Nat) (payload : Bytes) (t : Nat) :
    KeepsOut r₀ (execHaltReply port payload t s) := by
  unfold execHaltReply
  refine Keeps.out ?_
  repeat' first
    | with_reducible (first | assumption | apply State.advance_keeps | apply State.haltReply_keeps)
    | intro y hy

theorem execReplyWindowClose_keeps {r₀ s : State} (h : Keeps r₀ s) (t : Nat) :
    KeepsOut r₀ (execReplyWindowClose t s) := by
  unfold execReplyWindowClose
  refine Keeps.out ?_
  try dsimp only
  repeat' first
    | with_reducible (first | assumption | apply State.advance_keeps | apply State.windowDue_keeps)
    | intro y hy

theorem State.setWord_keeps {r₀ s : State} (h : Keeps r₀ s) (a : Nat) (v : Word) :
    Keeps r₀ (State.setWord s a v) := by
  unfold State.setWord
  try dsimp only
  repeat' first
    | with_reducible (first | assumption | apply State.setFields_keeps | apply State.writeTxthr_keeps)
    | intro y hy
    | split

theorem State.setWords_keeps {r₀ s : State} (h : Keeps r₀ s) (l : List (Nat × Word)) :
    Keeps r₀ (State.setWords s l) := by
  unfold State.setWords
  repeat' first
    | with_reducible (first | assumption | apply State.setWord_keeps)
    | (with_reducible apply Keeps.each <;> [skip; intros])
    | intro y hy

theorem State.addExm_keeps {r₀ s : State} (h : Keeps r₀ s) (lo : Nat) (hi : Nat) (ports : Nat) (dest : Nat) :
    Keeps r₀ (State.addExm s lo hi ports dest).1 := by
  unfold State.addExm
  repeat' first
    | with_reducible (first | assumption | apply State.put_keeps)
    | intro y hy
    | split

theorem State.fillExm_keeps {r₀ s : State} (h : Keeps r₀ s) :
    Keeps r₀ (State.fillExm s).1 := by
  unfold State.fillExm
  repeat' first
    | with_reducible (first | assumption | apply State.addExm_keeps)
    | (with_reducible apply Keeps.foldl <;> [skip; intros])
    | (with_reducible apply Keeps.foldl1 <;> [skip; intros])
    | intro y hy

theorem State.declInst_keeps {r₀ s : State} (h : Keeps r₀ s) (d : InstDecl) :
    Keeps r₀ (State.declInst s d) := by
  unfold State.declInst
  repeat' first
    | with_reducible (first | assumption | apply State.put_keeps)
    | intro y hy

theorem State.setRoles_keeps {r₀ s : State} (h : Keeps r₀ s) (d : Decl) :
    Keeps r₀ (State.setRoles s d) := by
  unfold State.setRoles
  repeat' first
    | with_reducible (first | assumption | apply State.put_keeps | apply Keeps.ite)
    | (with_reducible apply Keeps.each <;> [skip; intros])
    | intro y hy

theorem State.applyDecl_keeps {r₀ s : State} (h : Keeps r₀ s) (d : Decl) :
    Keeps r₀ (State.applyDecl s d) := by
  unfold State.applyDecl
  repeat' first
    | with_reducible (first | assumption | apply State.setWords_keeps | apply State.setRoles_keeps
                            | apply State.declInst_keeps | apply State.fillExm_keeps | apply State.setFch_keeps
                            | apply State.put_keeps | apply State.setAcq_keeps)
    | (with_reducible apply Keeps.each <;> [skip; intros])
    | intro y hy

theorem State.scratch_keeps {r₀ s : State} (h : Keeps r₀ s) (d : Decl) :
    Keeps r₀ (State.scratch s d) := by
  unfold State.scratch
  repeat' first
    | with_reducible (first | assumption | apply State.clearKind_keeps | apply State.setRbk_keeps
                            | apply State.applyDecl_keeps)
    | intro y hy

theorem State.bankRequest_keeps {r₀ s : State} (h : Keeps r₀ s) :
    Keeps r₀ (State.bankRequest s) := by
  unfold State.bankRequest
  repeat' first
    | with_reducible (first | assumption | apply State.put_keeps | apply State.setTtb_keeps | apply Keeps.ite)
    | intro y hy

theorem State.bankIdle_keeps {r₀ s : State} (h : Keeps r₀ s) :
    Keeps r₀ (State.bankIdle s) := by
  unfold State.bankIdle
  repeat' first
    | with_reducible (first | assumption | apply State.put_keeps | apply State.setTtb_keeps)
    | intro y hy

theorem State.bankChecked_keeps {r₀ s : State} (h : Keeps r₀ s) :
    Keeps r₀ (State.bankChecked s) := by
  unfold State.bankChecked
  try dsimp only
  repeat' first
    | with_reducible (first | assumption | apply State.bankIdle_keeps | apply State.put_keeps
                            | apply State.count_keeps | apply State.raise_keeps | apply State.setTtb_keeps
                            | apply Keeps.ite)
    | intro y hy
    | split

theorem State.bankCancel_keeps {r₀ s : State} (h : Keeps r₀ s) :
    Keeps r₀ (State.bankCancel s) := by
  unfold State.bankCancel
  repeat' first
    | with_reducible (first | assumption | apply State.bankIdle_keeps | apply Keeps.ite)
    | intro y hy

theorem State.bankBoundary_keeps {r₀ s : State} (h : Keeps r₀ s) :
    Keeps r₀ (State.bankBoundary s) := by
  unfold State.bankBoundary
  try dsimp only
  repeat' first
    | with_reducible (first | assumption | apply State.put_keeps | apply State.bankIdle_keeps | apply State.raise_keeps | apply
                            Keeps.ite | apply Keeps.ite1)
    | intro y hy
    | split

theorem State.writeSlot_keeps {r₀ s : State} (h : Keeps r₀ s) (b : Nat) (i : Nat) (w : Nat) (v : Word) :
    Keeps r₀ (State.writeSlot s b i w v) := by
  unfold State.writeSlot
  repeat' first
    | with_reducible (first | assumption | apply State.count_keeps | apply State.raise_keeps
                            | apply State.storeWord_keeps | apply Keeps.ite)
    | intro y hy

theorem State.putBank_keeps {r₀ s : State} (h : Keeps r₀ s) (b : Nat) (l : List SlotV) :
    Keeps r₀ (State.putBank s b l) := by
  unfold State.putBank
  repeat' first
    | with_reducible (first | assumption | apply State.putSlot_keeps)
    | (with_reducible apply Keeps.foldl <;> [skip; intros])
    | (with_reducible apply Keeps.foldl1 <;> [skip; intros])
    | intro y hy

theorem execBankSwitchRequest_keeps {r₀ s : State} (h : Keeps r₀ s) (t : Nat) :
    KeepsOut r₀ (execBankSwitchRequest t s) := by
  unfold execBankSwitchRequest
  refine Keeps.out ?_
  repeat' first
    | with_reducible (first | assumption | apply State.advance_keeps | apply State.bankRequest_keeps)
    | intro y hy

theorem execBankCheckComplete_keeps {r₀ s : State} (h : Keeps r₀ s) (t : Nat) :
    KeepsOut r₀ (execBankCheckComplete t s) := by
  unfold execBankCheckComplete
  refine Keeps.out ?_
  repeat' first
    | with_reducible (first | assumption | apply State.advance_keeps | apply State.bankChecked_keeps)
    | intro y hy

theorem execBankSwitchCancel_keeps {r₀ s : State} (h : Keeps r₀ s) (switch : Bool) (t : Nat) :
    KeepsOut r₀ (execBankSwitchCancel switch t s) := by
  unfold execBankSwitchCancel
  refine Keeps.out ?_
  repeat' first
    | with_reducible (first | assumption | apply State.advance_keeps | apply State.bankCancel_keeps
                            | apply State.bankRequest_keeps | apply Keeps.ite)
    | intro y hy

theorem execSlotWrite_keeps {r₀ s : State} (h : Keeps r₀ s) (bank : Nat) (slot : Nat) (w : Nat) (val : Word) :
    KeepsOut r₀ (execSlotWrite bank slot w val s) := by
  unfold execSlotWrite
  refine Keeps.out ?_
  repeat' first
    | with_reducible (first | assumption | apply State.writeSlot_keeps)
    | intro y hy

theorem execCycnumLoRead_keeps {r₀ s : State} (h : Keeps r₀ s) :
    KeepsOut r₀ (execCycnumLoRead s) := by
  unfold execCycnumLoRead
  refine Keeps.out ?_
  repeat' first
    | with_reducible (first | assumption | apply State.latchHi_keeps)
    | intro y hy

theorem State.sendStatus_keeps {r₀ s : State} (h : Keeps r₀ s) :
    Keeps r₀ (State.sendStatus s) := by
  unfold State.sendStatus
  repeat' first
    | with_reducible (first | assumption | apply State.send_keeps)
    | intro y hy

theorem State.reportStage_keeps {r₀ s : State} (h : Keeps r₀ s) (old : State) :
    Keeps r₀ (State.reportStage s old) := by
  unfold State.reportStage
  repeat' first
    | with_reducible (first | assumption | apply State.sendStatus_keeps | apply Keeps.ite)
    | intro y hy

theorem State.showStore_keeps {r₀ s : State} (h : Keeps r₀ s) :
    Keeps r₀ (State.showStore s) := by
  unfold State.showStore
  repeat' first
    | with_reducible (first | assumption | apply State.put_keeps | apply State.putB_keeps)
    | intro y hy

theorem State.storeIs_keeps {r₀ s : State} (h : Keeps r₀ s) (v : Nat) :
    Keeps r₀ (State.storeIs s v) := by
  unfold State.storeIs
  repeat' first
    | with_reducible (first | assumption | apply State.setPower_keeps)
    | intro y hy

theorem State.hostReset_keeps {r₀ s : State} (h : Keeps r₀ s) : Keeps r₀ s.hostReset :=
  State.setHost_keeps (State.setPorts_keeps (State.setRegs_keeps h _ (Sp.rising_filter _ _ _)) _) _

theorem State.hostNotReady_keeps {r₀ s : State} (h : Keeps r₀ s) :
    Keeps r₀ (State.hostNotReady s) := by
  unfold State.hostNotReady
  repeat' first
    | with_reducible (first | assumption | apply State.setHost_keeps | apply Keeps.ite)
    | intro y hy

theorem State.cause_keeps {r₀ s : State} (h : Keeps r₀ s) (k : Kind) (src : Nat) (wdog : Nat) :
    Keeps r₀ (State.cause s k src wdog) := by
  unfold State.cause
  repeat' first
    | with_reducible (first | assumption | apply State.put_keeps)
    | intro y hy

theorem State.linkReset_keeps {r₀ s : State} (h : Keeps r₀ s) (k : Kind) :
    Keeps r₀ (State.linkReset s k) := by
  unfold State.linkReset
  try dsimp only
  repeat' first
    | with_reducible (first | assumption | apply State.setLink_keeps)
    | intro y hy

theorem State.notice_keeps {r₀ s : State} (h : Keeps r₀ s) (op : Nat) (payload : Bytes) :
    Keeps r₀ (State.notice s op payload) := by
  unfold State.notice
  repeat' first
    | with_reducible (first | assumption | apply State.setCtx_keeps | apply State.setLink_keeps)
    | intro y hy

theorem State.rbkReset_keeps {r₀ s : State} (h : Keeps r₀ s) :
    Keeps r₀ (State.rbkReset s) := by
  unfold State.rbkReset
  repeat' first
    | with_reducible (first | assumption | apply State.setRbk_keeps)
    | intro y hy

theorem State.lgeReset_keeps {r₀ s : State} (h : Keeps r₀ s) (k : Kind) :
    Keeps r₀ (State.lgeReset s k) := by
  unfold State.lgeReset
  repeat' first
    | with_reducible (first | assumption | apply State.setLge_keeps | apply Keeps.ite)
    | intro y hy

theorem State.memReset_keeps {r₀ s : State} (h : Keeps r₀ s) (k : Kind) : Keeps r₀ (s.memReset k) := by
  unfold State.memReset
  split
  · exact State.zeroMem_keeps h _ _
  · exact State.setMem_keeps h _ (fun _ => rfl)

theorem State.tbReset_keeps {r₀ s : State} (h : Keeps r₀ s) (k : Kind) :
    Keeps r₀ (State.tbReset s k) := by
  unfold State.tbReset
  repeat' first
    | with_reducible (first | assumption | apply State.setTbs_keeps | apply State.setTin_keeps | apply Keeps.ite)
    | intro y hy

theorem State.acqReset_keeps {r₀ s : State} (h : Keeps r₀ s) (k : Kind) :
    Keeps r₀ (State.acqReset s k) := by
  unfold State.acqReset
  try dsimp only
  repeat' first
    | with_reducible (first | assumption | apply State.setAcq_keeps | apply Keeps.ite | apply Keeps.ite1)
    | intro y hy
    | split

theorem State.unitsReset_keeps {r₀ s : State} (h : Keeps r₀ s) (k : Kind) :
    Keeps r₀ (State.unitsReset s k) := by
  unfold State.unitsReset
  try dsimp only
  repeat' first
    | with_reducible (first | assumption | apply State.setPorts_keeps | apply State.filter_keeps | apply State.setTrips_keeps | apply
                            State.setTtb_keeps | apply State.setSvi_keeps | apply State.setFch_keeps | apply State.setPfs_keeps |
                            apply State.setMar_keeps | apply State.setPub_keeps | apply State.acqReset_keeps | apply
                            State.setHlx_keeps | apply State.setIns_keeps | apply State.setTok_keeps)
    | intro y hy

theorem State.powerReset_keeps {r₀ s : State} (h : Keeps r₀ s) (k : Kind) :
    Keeps r₀ (State.powerReset s k) := by
  unfold State.powerReset
  repeat' first
    | with_reducible (first | assumption | apply State.setPower_keeps | apply Keeps.ite)
    | intro y hy

theorem State.regsReset_keeps {r₀ s : State} (h : Keeps r₀ s) (k : Kind) :
    Keeps r₀ (State.regsReset s k) := by
  unfold State.regsReset
  try dsimp only
  repeat' first
    | with_reducible (first | assumption | apply State.clearKind_keeps | apply State.put_keeps | apply State.showStore_keeps | apply
                            State.setPower_keeps)
    | intro y hy

theorem State.beginReset_keeps {r₀ s : State} (h : Keeps r₀ s) (k : Kind) (src : Nat) (wdog : Nat) :
    Keeps r₀ (State.beginReset s k src wdog) := by
  unfold State.beginReset
  try dsimp only
  repeat' first
    | with_reducible (first | assumption | apply State.settleWrites_keeps | apply State.rootCut_keeps | apply State.notice_keeps |
                            apply State.hostNotReady_keeps | apply State.openTrip_keeps | apply State.powerReset_keeps | apply
                            State.regsReset_keeps | apply State.linkReset_keeps | apply State.rbkReset_keeps | apply
                            State.lgeReset_keeps | apply State.memReset_keeps | apply State.tbReset_keeps | apply
                            State.unitsReset_keeps | apply State.vaultReset_keeps | apply State.cause_keeps | apply State.put_keeps
                            | apply State.raise_keeps | apply State.driveTrips_keeps | apply Keeps.ite | apply Keeps.ite1)
    | intro y hy
    | split

theorem State.dmaB_keeps {r₀ s : State} (h : Keeps r₀ s) :
    Keeps r₀ (State.dmaB s) := by
  unfold State.dmaB
  repeat' first
    | with_reducible (first | assumption | apply State.fenceQueues_keeps | apply State.endDesc_keeps
                            | apply State.unfenceQueues_keeps | apply Keeps.ite)
    | (with_reducible apply Keeps.each <;> [skip; intros])
    | intro y hy

theorem State.semsB_keeps {r₀ s : State} (h : Keeps r₀ s) :
    Keeps r₀ (State.semsB s) := by
  unfold State.semsB
  repeat' first
    | with_reducible (first | assumption | apply State.filter_keeps | apply State.semBreak_keeps)
    | (with_reducible apply Keeps.each <;> [skip; intros])
    | intro y hy

theorem State.unitsB_keeps {r₀ s : State} (h : Keeps r₀ s) :
    Keeps r₀ (State.unitsB s) := by
  unfold State.unitsB
  repeat' first
    | with_reducible (first | assumption | apply State.setTtb_keeps | apply State.setSvi_keeps
                            | apply State.setFch_keeps | apply State.setPfs_keeps | apply State.setMar_keeps
                            | apply State.setHlx_keeps | apply State.setAcq_keeps | apply State.setTok_keeps
                            | apply State.setPub_keeps | apply State.setIns_keeps)
    | intro y hy

theorem State.beginB_keeps {r₀ s : State} (h : Keeps r₀ s) :
    Keeps r₀ (State.beginB s) := by
  unfold State.beginB
  try dsimp only
  repeat' first
    | with_reducible (first | assumption | apply State.setPower_keeps | apply State.setRbk_keeps | apply State.shuntAbandon_keeps |
                            apply State.recBReset_keeps | apply State.dmaB_keeps | apply State.semsB_keeps | apply
                            State.clearKind_keeps | apply State.unitsB_keeps | apply State.showDrift_keeps | apply
                            State.zeroMem_keeps | apply State.cause_keeps | apply State.put_keeps | apply State.reportStage_keeps |
                            apply State.reportRedOf_keeps)
    | intro y hy

theorem State.setSlot_keeps {r₀ s : State} (h : Keeps r₀ s) (n : Nat) (v : Slot) :
    Keeps r₀ (State.setSlot s n v) := by
  unfold State.setSlot
  repeat' first
    | with_reducible (first | assumption | apply State.setRbk_keeps | apply Keeps.ite)
    | intro y hy

theorem State.showSlots_keeps {r₀ s : State} (h : Keeps r₀ s) :
    Keeps r₀ (State.showSlots s) := by
  unfold State.showSlots
  repeat' first
    | with_reducible (first | assumption | apply State.put_keeps | apply State.putB_keeps)
    | intro y hy

theorem State.showJournal_keeps {r₀ s : State} (h : Keeps r₀ s) :
    Keeps r₀ (State.showJournal s) := by
  unfold State.showJournal
  repeat' first
    | with_reducible (first | assumption | apply State.put_keeps)
    | intro y hy

theorem State.failCode_keeps {r₀ s : State} (h : Keeps r₀ s) (code : Nat) (slot : Nat) (sect : Nat) :
    Keeps r₀ (State.failCode s code slot sect) := by
  unfold State.failCode
  repeat' first
    | with_reducible (first | assumption | apply State.put_keeps)
    | intro y hy

theorem State.recordersSet_keeps {r₀ s : State} (h : Keeps r₀ s) (l : List (Nat × Word)) (p : Nat → Bool) :
    Keeps r₀ (State.recordersSet s l p) := by
  unfold State.recordersSet
  try dsimp only
  repeat' first
    | with_reducible (first | assumption | apply State.resetSets_keeps | apply State.setWords_keeps | apply State.filter_keeps)
    | intro y hy

theorem State.amdCoeff_keeps {r₀ s : State} (h : Keeps r₀ s) (a : Amd) :
    Keeps r₀ (State.amdCoeff s a) := by
  unfold State.amdCoeff
  repeat' first
    | with_reducible (first | assumption | apply State.setFch_keeps | apply Keeps.ite)
    | intro y hy
    | split

theorem State.showCost_keeps {r₀ s : State} (h : Keeps r₀ s) :
    Keeps r₀ (State.showCost s) := by
  unfold State.showCost
  repeat' first
    | with_reducible (first | assumption | apply State.put_keeps)
    | intro y hy

theorem State.amdCurves_keeps {r₀ s : State} (h : Keeps r₀ s) (a : Amd) (live : Bool) :
    Keeps r₀ (State.amdCurves s a live) := by
  unfold State.amdCurves
  try dsimp only
  repeat' first
    | with_reducible (first | assumption | apply State.setRbk_keeps | apply State.resetSets_keeps | apply State.setWords_keeps | apply
                            Keeps.ite | apply Keeps.ite1)
    | intro y hy
    | split

theorem State.recChanged_keeps {r₀ s : State} (h : Keeps r₀ s) (r : Nat) :
    Keeps r₀ (State.recChanged s r) := by
  unfold State.recChanged
  try dsimp only
  repeat' first
    | with_reducible (first | assumption | apply State.placeBuffer_keeps | apply State.recTo_keeps | apply Keeps.ite | apply
                            Keeps.ite1)
    | intro y hy
    | split

theorem State.amdRecorders_keeps {r₀ s : State} (h : Keeps r₀ s) (a : Amd) (live : Bool) :
    Keeps r₀ (State.amdRecorders s a live) := by
  unfold State.amdRecorders
  try dsimp only
  repeat' first
    | with_reducible (first | assumption | apply State.busy_keeps | apply State.filter_keeps | apply State.recordersSet_keeps | apply
                            State.setAcq_keeps | apply State.setRbk_keeps | apply State.recChanged_keeps | apply State.showUse_keeps
                            | apply State.showDrift_keeps | apply Keeps.ite | apply Keeps.ite1)
    | (with_reducible apply Keeps.each <;> [skip; intros])
    | intro y hy
    | split

theorem State.progAmended_keeps {r₀ s : State} (h : Keeps r₀ s) (a : Amd) :
    Keeps r₀ (State.progAmended s a) := by
  unfold State.progAmended
  try dsimp only
  repeat' first
    | with_reducible (first | assumption | apply State.setRbk_keeps)
    | intro y hy
    | split

theorem State.amdApply_keeps {r₀ s : State} (h : Keeps r₀ s) (a : Amd) :
    Keeps r₀ (State.amdApply s a) := by
  unfold State.amdApply
  try dsimp only
  repeat' first
    | with_reducible (first | assumption | apply State.amdCoeff_keeps | apply State.showCost_keeps | apply State.putBank_keeps | apply
                            State.bankRequest_keeps | apply State.amdCurves_keeps | apply State.setLge_keeps | apply
                            State.progAmended_keeps | apply State.amdRecorders_keeps | apply Keeps.ite | apply Keeps.ite1)
    | intro y hy
    | split

theorem State.amdReplay_keeps {r₀ s : State} (h : Keeps r₀ s) (a : Amd) :
    Keeps r₀ (State.amdReplay s a) := by
  unfold State.amdReplay
  try dsimp only
  repeat' first
    | with_reducible (first | assumption | apply State.amdCoeff_keeps | apply State.putBank_keeps | apply State.put_keeps | apply
                            State.amdCurves_keeps | apply State.progAmended_keeps | apply State.amdRecorders_keeps | apply Keeps.ite
                            | apply Keeps.ite1)
    | intro y hy
    | split

theorem State.replay_keeps {r₀ : State} (slot : Nat) : ∀ (l : List JRec) {s : State} (_ : Keeps r₀ s), Keeps r₀ (s.replay slot l)
  | [], _, h => h
  | j :: l, s, h => by
    unfold State.replay
    split
    · exact State.replay_keeps slot l (State.put_keeps (State.amdReplay_keeps h _) _ _)
    · exact State.raise_keeps (State.failCode_keeps h _ _ _) _ _

theorem State.baseChange_keeps {r₀ s : State} (h : Keeps r₀ s) (b : Nat) :
    Keeps r₀ (State.baseChange s b) := by
  unfold State.baseChange
  repeat' first
    | with_reducible (first | assumption | apply State.setTb_keeps | apply State.holdover_keeps
                            | apply State.toFree_keeps | apply Keeps.ite)
    | intro y hy

theorem State.baseFollow_keeps {r₀ s : State} (h : Keeps r₀ s) (b : Nat) :
    Keeps r₀ (State.baseFollow s b) := by
  unfold State.baseFollow
  repeat' first
    | with_reducible (first | assumption | apply State.setTb_keeps | apply State.putI_keeps | apply State.put_keeps
                            | apply Keeps.ite)
    | intro y hy

theorem State.loadBases_keeps {r₀ s : State} (h : Keeps r₀ s) :
    Keeps r₀ (State.loadBases s) := by
  unfold State.loadBases
  repeat' first
    | with_reducible (first | assumption | apply State.baseChange_keeps | apply State.baseFollow_keeps)
    | (with_reducible apply Keeps.each <;> [skip; intros])
    | intro y hy

theorem State.loadLogic_keeps {r₀ s : State} (h : Keeps r₀ s) (k : Kind) :
    Keeps r₀ (State.loadLogic s k) := by
  unfold State.loadLogic
  try dsimp only
  repeat' first
    | with_reducible (first | assumption | apply State.lgLoad_keeps | apply State.setLge_keeps | apply State.lgExchange_keeps | apply
                            State.lgTo_keeps | apply Keeps.ite | apply Keeps.ite1)
    | intro y hy
    | split

theorem State.autoStart_keeps {r₀ s : State} (h : Keeps r₀ s) (d : InstDecl) :
    Keeps r₀ (State.autoStart s d) := by
  unfold State.autoStart
  repeat' first
    | with_reducible (first | assumption | apply State.startCold_keeps | apply State.startWarm_keeps | apply Keeps.ite)
    | intro y hy
    | split

theorem State.loadInsts_keeps {r₀ s : State} (h : Keeps r₀ s) :
    Keeps r₀ (State.loadInsts s) := by
  unfold State.loadInsts
  repeat' first
    | with_reducible (first | assumption | apply State.showPool_keeps | apply State.showUse_keeps | apply State.filter_keeps
                            | apply State.autoStart_keeps | apply Keeps.ite)
    | (with_reducible apply Keeps.foldl <;> [skip; intros])
    | (with_reducible apply Keeps.foldl1 <;> [skip; intros])
    | intro y hy

theorem State.declareInsts_keeps {r₀ s : State} (h : Keeps r₀ s) :
    Keeps r₀ (State.declareInsts s) := by
  unfold State.declareInsts
  repeat' first
    | with_reducible (first | assumption | apply State.instTo_keeps | apply State.setIns_keeps
                            | apply State.filter_keeps | apply State.setTok_keeps | apply Keeps.ite)
    | (with_reducible apply Keeps.each <;> [skip; intros])
    | intro y hy

theorem State.showActive_keeps {r₀ s : State} (h : Keeps r₀ s) (img : Bytes) :
    Keeps r₀ (State.showActive s img) := by
  unfold State.showActive
  repeat' first
    | with_reducible (first | assumption | apply State.put_keeps | apply State.putB_keeps)
    | (with_reducible apply Keeps.each <;> [skip; intros])
    | intro y hy

theorem State.install_keeps {r₀ s : State} (h : Keeps r₀ s) (slot : Nat) (k : Kind) (d : Decl) :
    Keeps r₀ (State.install s slot k d) := by
  unfold State.install
  try dsimp only
  repeat' first
    | with_reducible (first | assumption | apply State.placeAll_getD_keeps | apply State.setRbk_keeps | apply State.showActive_keeps | apply State.applyDecl_keeps |
                            apply State.put_keeps | apply State.declareInsts_keeps | apply
                            State.placeBuffers_keeps | apply State.placeHeaps_keeps | apply State.replay_keeps | apply
                            State.showSlots_keeps | apply State.showJournal_keeps | apply State.showLoads_keeps | apply
                            State.showAwait_keeps | apply State.showCost_keeps | apply State.putB_keeps | apply
                            State.loadBases_keeps | apply State.showSdinh_keeps | apply State.loadLogic_keeps | apply
                            State.loadInsts_keeps | apply State.groupsStart_keeps | apply State.remapLanes_keeps | apply
                            State.ingressWait_keeps | apply State.autoArm_keeps | apply State.showLats_keeps | apply
                            State.showDrift_keeps | apply State.fzRefresh_keeps | apply State.setTtb_keeps | apply
                            State.reportRedOf_keeps)
    | (with_reducible apply Keeps.each <;> [skip; intros])
    | intro y hy

theorem State.slotFails_keeps {r₀ s : State} (h : Keeps r₀ s) (slot : Nat) (code : Nat) (sect : Nat) :
    Keeps r₀ (State.slotFails s slot code sect) := by
  unfold State.slotFails
  repeat' first
    | with_reducible (first | assumption | apply State.setSlot_keeps | apply State.showSlots_keeps
                            | apply State.failCode_keeps | apply State.put_keeps | apply State.raise_keeps)
    | intro y hy

theorem State.tryLoad_keeps {r₀ s : State} (h : Keeps r₀ s) (slot : Nat) (k : Kind) :
    Keeps r₀ (State.tryLoad s slot k).1 := by
  unfold State.tryLoad
  try dsimp only
  repeat' first
    | with_reducible (first | assumption | apply State.slotFails_keeps | apply State.scratch_keeps
                            | apply State.install_keeps | apply Keeps.ite | apply Keeps.ite1)
    | intro y hy
    | split

theorem State.noRulebook_keeps {r₀ s : State} (h : Keeps r₀ s) :
    Keeps r₀ (State.noRulebook s) := by
  unfold State.noRulebook
  try dsimp only
  repeat' first
    | with_reducible (first | assumption | apply State.setRbk_keeps | apply State.put_keeps | apply State.declareInsts_keeps | apply
                            State.toFree_keeps | apply State.lgLoad_keeps | apply State.showSlots_keeps | apply Keeps.ite | apply
                            Keeps.ite1)
    | (with_reducible apply Keeps.each <;> [skip; intros])
    | intro y hy
    | split

theorem State.loadStage_keeps {r₀ s : State} (h : Keeps r₀ s) (k : Kind) :
    Keeps r₀ (State.loadStage s k).1 := by
  unfold State.loadStage
  repeat' first
    | with_reducible (first | assumption | apply State.showSlots_keeps | apply State.put_keeps
                            | apply State.tryLoad_keeps | apply State.raise_keeps | apply State.noRulebook_keeps
                            | apply Keeps.ite | apply Keeps.ite1)
    | intro y hy

theorem State.rbkRefuse_keeps {r₀ s : State} (h : Keeps r₀ s) :
    Keeps r₀ (State.rbkRefuse s) := by
  unfold State.rbkRefuse
  repeat' first
    | with_reducible (first | assumption | apply State.count_keeps)
    | intro y hy

theorem State.chunk_keeps {r₀ s : State} (h : Keeps r₀ s) (h : Hdr) (act : State → State) (hact : ∀ y, Keeps r₀ y → Keeps r₀ (act y)) :
    Keeps r₀ (State.chunk s h act) := by
  unfold State.chunk
  repeat' first
    | with_reducible (first | assumption | apply State.receive_keeps | apply State.rbkRefuse_keeps | apply Keeps.ite
                            | apply hact)
    | intro y hy

theorem State.rbkOpen_keeps {r₀ s : State} (h : Keeps r₀ s) (totlen : Nat) :
    Keeps r₀ (State.rbkOpen s totlen) := by
  unfold State.rbkOpen
  repeat' first
    | with_reducible (first | assumption | apply State.rbkRefuse_keeps | apply State.setSlot_keeps
                            | apply State.setRbk_keeps | apply State.showSlots_keeps | apply State.put_keeps
                            | apply Keeps.ite)
    | intro y hy

theorem State.loadEnds_keeps {r₀ s : State} (h : Keeps r₀ s) (code : Nat) :
    Keeps r₀ (State.loadEnds s code) := by
  unfold State.loadEnds
  repeat' first
    | with_reducible (first | assumption | apply State.failCode_keeps | apply State.put_keeps
                            | apply State.raise_keeps)
    | intro y hy

theorem State.rbkData_keeps {r₀ s : State} (h : Keeps r₀ s) (offset : Nat) (b : Bytes) :
    Keeps r₀ (State.rbkData s offset b) := by
  unfold State.rbkData
  repeat' first
    | with_reducible (first | assumption | apply State.rbkRefuse_keeps | apply State.loadEnds_keeps
                            | apply State.setSlot_keeps | apply State.put_keeps | apply Keeps.ite)
    | intro y hy

theorem execOpenLoad_keeps {r₀ s : State} (h : Keeps r₀ s) (h : Hdr) (totlen : Nat) :
    KeepsOut r₀ (execOpenLoad h totlen s) := by
  unfold execOpenLoad
  refine Keeps.out ?_
  repeat' first
    | with_reducible (first | assumption | apply State.chunk_keeps | apply State.rbkOpen_keeps)
    | intro y hy

theorem execDataChunk_keeps {r₀ s : State} (h : Keeps r₀ s) (h : Hdr) (offset : Nat) (bytes : Bytes) :
    KeepsOut r₀ (execDataChunk h offset bytes s) := by
  unfold execDataChunk
  refine Keeps.out ?_
  repeat' first
    | with_reducible (first | assumption | apply State.receive_keeps | apply State.malformed_keeps
                            | apply State.rbkRefuse_keeps | apply State.rbkData_keeps | apply Keeps.ite)
    | intro y hy

theorem execCloseLoad_keeps {r₀ s : State} (h : Keeps r₀ s) (h : Hdr) :
    KeepsOut r₀ (execCloseLoad h s) := by
  unfold execCloseLoad
  refine Keeps.out ?_
  repeat' first
    | with_reducible (first | assumption | apply State.chunk_keeps | apply State.put_keeps
                            | apply State.rbkRefuse_keeps | apply Keeps.ite)
    | intro y hy

theorem execRulebookAbort_keeps {r₀ s : State} (h : Keeps r₀ s) (h : Hdr) :
    KeepsOut r₀ (execRulebookAbort h s) := by
  unfold execRulebookAbort
  refine Keeps.out ?_
  repeat' first
    | with_reducible (first | assumption | apply State.chunk_keeps | apply State.loadEnds_keeps
                            | apply State.rbkRefuse_keeps | apply Keeps.ite)
    | intro y hy

theorem execVerificationComplete_keeps {r₀ s : State} (h : Keeps r₀ s) :
    KeepsOut r₀ (execVerificationComplete s) := by
  unfold execVerificationComplete
  refine Keeps.out ?_
  repeat' first
    | with_reducible (first | assumption | apply State.setSlot_keeps | apply State.showSlots_keeps
                            | apply State.put_keeps | apply State.failCode_keeps | apply State.raise_keeps
                            | apply Keeps.ite)
    | intro y hy

theorem State.activateRefused_keeps {r₀ s : State} (h : Keeps r₀ s) (slot : Nat) :
    Keeps r₀ (State.activateRefused s slot) := by
  unfold State.activateRefused
  repeat' first
    | with_reducible (first | assumption | apply State.rbkRefuse_keeps | apply State.failCode_keeps | apply State.raise_keeps)
    | intro y hy

theorem State.rbkActivate_keeps {r₀ s : State} (h : Keeps r₀ s) (slot : Nat) (digest : Bytes) :
    Keeps r₀ (State.rbkActivate s slot digest) := by
  unfold State.rbkActivate
  repeat' first
    | with_reducible (first | assumption | apply State.rbkRefuse_keeps | apply State.setRbk_keeps
                            | apply State.showSlots_keeps | apply State.put_keeps | apply State.bankIdle_keeps
                            | apply State.beginB_keeps | apply State.activateRefused_keeps | apply Keeps.ite)
    | intro y hy

theorem execActivate_keeps {r₀ s : State} (h : Keeps r₀ s) (h : Hdr) (slot : Nat) (digest : Bytes) (t : Nat) :
    KeepsOut r₀ (execActivate h slot digest t s) := by
  unfold execActivate
  refine Keeps.out ?_
  repeat' first
    | with_reducible (first | assumption | apply State.advance_keeps | apply State.chunk_keeps
                            | apply State.rbkActivate_keeps)
    | intro y hy

theorem State.stageMirror_keeps {r₀ s : State} (h : Keeps r₀ s) :
    Keeps r₀ (State.stageMirror s) := by
  unfold State.stageMirror
  try dsimp only
  repeat' first
    | with_reducible (first | assumption | apply State.setLge_keeps | apply Keeps.ite | apply Keeps.ite1)
    | intro y hy
    | split

theorem State.flushImages_keeps {r₀ s : State} (h : Keeps r₀ s) :
    Keeps r₀ (State.flushImages s) := by
  unfold State.flushImages
  try dsimp only
  repeat' first
    | with_reducible (first | assumption | apply State.stageMirror_keeps | apply State.setLge_keeps | apply State.writeImages_keeps |
                            apply Keeps.ite | apply Keeps.ite1)
    | intro y hy
    | split

theorem execActivationFlushComplete_keeps {r₀ s : State} (h : Keeps r₀ s) (t : Nat) :
    KeepsOut r₀ (execActivationFlushComplete t s) := by
  unfold execActivationFlushComplete
  refine Keeps.out ?_
  repeat' first
    | with_reducible (first | assumption | apply State.advance_keeps | apply State.flushImages_keeps
                            | apply State.beginB_keeps | apply Keeps.ite)
    | intro y hy

theorem State.amdRefuse_keeps {r₀ s : State} (h : Keeps r₀ s) (code : Nat) (type : Nat) :
    Keeps r₀ (State.amdRefuse s code type) := by
  unfold State.amdRefuse
  repeat' first
    | with_reducible (first | assumption | apply State.put_keeps | apply State.rbkRefuse_keeps
                            | apply State.raise_keeps)
    | intro y hy

theorem State.amendment_keeps {r₀ s : State} (h : Keeps r₀ s) (b : Bytes) :
    Keeps r₀ (State.amendment s b) := by
  unfold State.amendment
  try dsimp only
  repeat' first
    | with_reducible (first | assumption | apply State.amdRefuse_keeps | apply State.setSlot_keeps
                            | apply State.showJournal_keeps | apply State.amdApply_keeps | apply State.put_keeps
                            | apply State.count_keeps | apply State.raise_keeps | apply Keeps.ite)
    | intro y hy
    | split

theorem execAmendmentRecord_keeps {r₀ s : State} (h : Keeps r₀ s) (h : Hdr) (payload : Bytes) (t : Nat) :
    KeepsOut r₀ (execAmendmentRecord h payload t s) := by
  unfold execAmendmentRecord
  refine Keeps.out ?_
  repeat' first
    | with_reducible (first | assumption | apply State.advance_keeps | apply State.receive_keeps
                            | apply State.rbkRefuse_keeps | apply State.setRbk_keeps | apply State.amendment_keeps
                            | apply Keeps.ite)
    | intro y hy

theorem State.lgeCmd_keeps {r₀ s : State} (h : Keeps r₀ s) (v : Nat) :
    Keeps r₀ (State.lgeCmd s v) := by
  unfold State.lgeCmd
  repeat' first
    | with_reducible (first | assumption | apply State.lgAskRestart_keeps | apply State.lgStep_keeps
                            | apply State.lgContinue_keeps | apply State.lgHold_keeps | apply State.lgStop_keeps
                            | apply State.lgRun_keeps | apply Keeps.ite)
    | intro y hy

theorem State.coefRequest_keeps {r₀ s : State} (h : Keeps r₀ s) :
    Keeps r₀ (State.coefRequest s) := by
  unfold State.coefRequest
  repeat' first
    | with_reducible (first | assumption | apply State.put_keeps)
    | intro y hy

theorem State.writeStream_keeps {r₀ s : State} (h : Keeps r₀ s) (a : Nat) (v : Word) :
    Keeps r₀ (State.writeStream s a v) := by
  unfold State.writeStream
  try dsimp only
  repeat' first
    | with_reducible (first | assumption | apply State.coefRequest_keeps | apply State.storeWord_keeps
                            | apply State.fzRefresh_keeps | apply State.writeDelay_keeps | apply State.resetDc_keeps
                            | apply Keeps.ite)
    | intro y hy
    | split

theorem State.writeTile_keeps {r₀ s : State} (h : Keeps r₀ s) (a : Nat) (v : Word) :
    Keeps r₀ (State.writeTile s a v) := by
  unfold State.writeTile
  repeat' first
    | with_reducible (first | assumption | apply State.lgeCmd_keeps | apply State.storeWord_keeps | apply Keeps.ite)
    | intro y hy

theorem State.writeIsland_keeps {r₀ s : State} (h : Keeps r₀ s) (a : Nat) (v : Word) :
    Keeps r₀ (State.writeIsland s a v) := by
  unfold State.writeIsland
  repeat' first
    | with_reducible (first | assumption | apply State.writeStream_keeps | apply State.writeTile_keeps
                            | apply Keeps.ite)
    | intro y hy
    | split

theorem State.unshadow_keeps {r₀ s : State} (h : Keeps r₀ s) :
    Keeps r₀ (State.unshadow s) := by
  unfold State.unshadow
  repeat' first
    | with_reducible (first | assumption | apply State.writeIsland_keeps | apply State.setLink_keeps)
    | (with_reducible apply Keeps.foldl <;> [skip; intros])
    | (with_reducible apply Keeps.foldl1 <;> [skip; intros])
    | intro y hy

theorem State.armWdt3_keeps {r₀ s : State} (h : Keeps r₀ s) :
    Keeps r₀ (State.armWdt3 s) := by
  unfold State.armWdt3
  repeat' first
    | with_reducible (first | assumption | apply State.setPower_keeps | apply Keeps.ite)
    | intro y hy

theorem State.linkComesUp_keeps {r₀ s : State} (h : Keeps r₀ s) :
    Keeps r₀ (State.linkComesUp s) := by
  unfold State.linkComesUp
  repeat' first
    | with_reducible (first | assumption | apply State.put_keeps | apply State.setLink_keeps | apply State.raise_keeps
                            | apply State.setPower_keeps | apply State.reexport_keeps | apply State.armWdt3_keeps)
    | (with_reducible apply Keeps.foldl <;> [skip; intros])
    | (with_reducible apply Keeps.foldl1 <;> [skip; intros])
    | intro y hy

theorem State.moduleReset_keeps {r₀ s : State} (h : Keeps r₀ s) (src : Nat) (wdog : Nat) :
    Keeps r₀ (State.moduleReset s src wdog) := by
  unfold State.moduleReset
  repeat' first
    | with_reducible (first | assumption | apply State.beginReset_keeps | apply State.setPower_keeps
                            | apply State.linkComesUp_keeps | apply State.reportStage_keeps | apply Keeps.ite)
    | intro y hy

theorem State.warmReset_keeps {r₀ s : State} (h : Keeps r₀ s) (wdog : Nat) :
    Keeps r₀ (State.warmReset s wdog) := by
  unfold State.warmReset
  try dsimp only
  repeat' first
    | with_reducible (first | assumption | apply State.settleWrites_keeps | apply State.hostReset_keeps | apply State.beginReset_keeps
                            | apply Keeps.ite | apply Keeps.ite1)
    | intro y hy
    | split

theorem State.watchdogW_keeps {r₀ s : State} (h : Keeps r₀ s) (n : Nat) :
    Keeps r₀ (State.watchdogW s n) := by
  unfold State.watchdogW
  repeat' first
    | with_reducible (first | assumption | apply State.warmReset_keeps | apply State.setPower_keeps
                            | apply State.reportStage_keeps | apply Keeps.ite)
    | intro y hy

theorem State.pinToHost_keeps {r₀ s : State} (h : Keeps r₀ s) :
    Keeps r₀ (State.pinToHost s) := by
  unfold State.pinToHost
  repeat' first
    | with_reducible (first | assumption | apply State.notice_keeps | apply State.hostReset_keeps | apply Keeps.ite)
    | intro y hy

theorem State.hostPin_keeps {r₀ s : State} (h : Keeps r₀ s) :
    Keeps r₀ (State.hostPin s) := by
  unfold State.hostPin
  repeat' first
    | with_reducible (first | assumption | apply State.setHost_keeps | apply State.hostReset_keeps | apply Keeps.ite)
    | intro y hy

theorem State.rstPin_keeps {r₀ s : State} (h : Keeps r₀ s) :
    Keeps r₀ (State.rstPin s) := by
  unfold State.rstPin
  repeat' first
    | with_reducible (first | assumption | apply State.send_keeps | apply State.hostReset_keeps | apply State.setPower_keeps | apply State.pinToHost_keeps
                            | apply State.beginReset_keeps | apply State.reportStage_keeps
                            | apply State.moduleReset_keeps | apply Keeps.ite)
    | intro y hy

theorem execRstNLow_keeps {r₀ s : State} (h : Keeps r₀ s) (hrst : Bool) (t : Nat) :
    KeepsOut r₀ (execRstNLow hrst t s) := by
  unfold execRstNLow
  refine Keeps.out ?_
  repeat' first
    | with_reducible (first | assumption | apply State.advance_keeps | apply State.rstPin_keeps
                            | apply State.hostPin_keeps | apply Keeps.ite)
    | intro y hy

theorem execHrstNLow_keeps {r₀ s : State} (h : Keeps r₀ s) :
    KeepsOut r₀ (execHrstNLow s) := by
  unfold execHrstNLow
  refine Keeps.out ?_
  repeat' first
    | with_reducible (first | assumption | apply State.hostPin_keeps)
    | intro y hy

theorem execHlPerstN_keeps {r₀ s : State} (h : Keeps r₀ s) :
    KeepsOut r₀ (execHlPerstN s) := by
  unfold execHlPerstN
  refine Keeps.out ?_
  repeat' first
    | with_reducible (first | assumption | apply State.setHost_keeps)
    | intro y hy

theorem execPllLostLock_keeps {r₀ s : State} (h : Keeps r₀ s) (isl : Island) :
    KeepsOut r₀ (execPllLostLock isl s) := by
  unfold execPllLostLock
  refine Keeps.out ?_
  repeat' first
    | with_reducible (first | assumption | apply State.raise_keeps)
    | intro y hy

theorem execModuleResetRequest_keeps {r₀ s : State} (h : Keeps r₀ s) (h : Hdr) :
    KeepsOut r₀ (execModuleResetRequest h s) := by
  unfold execModuleResetRequest
  refine Keeps.out ?_
  repeat' first
    | with_reducible (first | assumption | apply State.moduleReset_keeps | apply Keeps.ite)
    | intro y hy

theorem execManagerKeepAlive_keeps {r₀ s : State} (h : Keeps r₀ s) (h : Hdr) (t : Nat) :
    KeepsOut r₀ (execManagerKeepAlive h t s) := by
  unfold execManagerKeepAlive
  refine Keeps.out ?_
  repeat' first
    | with_reducible (first | assumption | apply State.advance_keeps | apply State.put_keeps
                            | apply State.armWdt3_keeps | apply Keeps.ite)
    | intro y hy

theorem execWatchdog1Expiry_keeps {r₀ s : State} (h : Keeps r₀ s) (t : Nat) :
    KeepsOut r₀ (execWatchdog1Expiry t s) := by
  unfold execWatchdog1Expiry
  refine Keeps.out ?_
  repeat' first
    | with_reducible (first | assumption | apply State.advance_keeps | apply State.watchdogW_keeps)
    | intro y hy

theorem execWatchdog2Expiry_keeps {r₀ s : State} (h : Keeps r₀ s) (t : Nat) :
    KeepsOut r₀ (execWatchdog2Expiry t s) := by
  unfold execWatchdog2Expiry
  refine Keeps.out ?_
  repeat' first
    | with_reducible (first | assumption | apply State.advance_keeps | apply State.watchdogW_keeps | apply Keeps.ite)
    | intro y hy

theorem execWatchdog3Expiry_keeps {r₀ s : State} (h : Keeps r₀ s) (t : Nat) :
    KeepsOut r₀ (execWatchdog3Expiry t s) := by
  unfold execWatchdog3Expiry
  refine Keeps.out ?_
  try dsimp only
  repeat' first
    | with_reducible (first | assumption | apply State.advance_keeps | apply State.pinToHost_keeps | apply State.raise_keeps | apply
                            State.armWdt3_keeps | apply Keeps.ite | apply Keeps.ite1)
    | intro y hy
    | split

theorem State.writeWdt_keeps {r₀ s : State} (h : Keeps r₀ s) (mgr : Nat) :
    Keeps r₀ (State.writeWdt s mgr) := by
  unfold State.writeWdt
  repeat' first
    | with_reducible (first | assumption | apply State.put_keeps | apply State.armWdt3_keeps)
    | intro y hy

theorem execPwrWdtWrite_keeps {r₀ s : State} (h : Keeps r₀ s) (mgr : Nat) (t : Nat) :
    KeepsOut r₀ (execPwrWdtWrite mgr t s) := by
  unfold execPwrWdtWrite
  refine Keeps.out ?_
  repeat' first
    | with_reducible (first | assumption | apply State.advance_keeps | apply State.writeWdt_keeps)
    | intro y hy

theorem State.parkCmd_keeps {r₀ s : State} (h : Keeps r₀ s) :
    Keeps r₀ (State.parkCmd s) := by
  unfold State.parkCmd
  repeat' first
    | with_reducible (first | assumption | apply State.setPower_keeps | apply State.askPark_keeps | apply Keeps.ite)
    | intro y hy

theorem State.wakeStart_keeps {r₀ s : State} (h : Keeps r₀ s) :
    Keeps r₀ (State.wakeStart s) := by
  unfold State.wakeStart
  repeat' first
    | with_reducible (first | assumption | apply State.setPower_keeps | apply State.put_keeps | apply Keeps.ite)
    | intro y hy

theorem State.wakeCmd_keeps {r₀ s : State} (h : Keeps r₀ s) :
    Keeps r₀ (State.wakeCmd s) := by
  unfold State.wakeCmd
  repeat' first
    | with_reducible (first | assumption | apply State.wakeStart_keeps | apply Keeps.ite)
    | intro y hy

theorem State.restoreTcm_keeps {r₀ s : State} (h : Keeps r₀ s) (d : InstDecl) :
    Keeps r₀ (State.restoreTcm s d) := by
  unfold State.restoreTcm
  try dsimp only
  repeat' first
    | with_reducible (first | assumption | apply State.pubRestore_keeps | apply State.pubResume_keeps | apply State.loadImage_keeps | apply State.loadCkpt_keeps | apply Keeps.ite)
    | intro y hy
    | split

theorem State.startTaken_keeps {r₀ s : State} (h : Keeps r₀ s) (d : InstDecl) :
    Keeps r₀ (State.startTaken s d) := by
  unfold State.startTaken
  try dsimp only
  repeat' first
    | with_reducible (first | assumption | apply State.startCold_keeps | apply State.startWarm_keeps | apply Keeps.ite)
    | intro y hy
    | split

theorem State.wakeLogic_keeps {r₀ s : State} (h : Keeps r₀ s) (ret : Option RetImg) :
    Keeps r₀ (State.wakeLogic s ret) := by
  unfold State.wakeLogic
  try dsimp only
  repeat' first
    | with_reducible (first | assumption | apply State.lgRestart_keeps | apply State.lgTo_keeps)
    | intro y hy
    | split

theorem State.wakeEnd_keeps {r₀ s : State} (h : Keeps r₀ s) :
    Keeps r₀ (State.wakeEnd s) := by
  unfold State.wakeEnd
  try dsimp only
  repeat' first
    | with_reducible (first | assumption | apply State.put_keeps | apply State.unshadow_keeps | apply State.restoreTcm_keeps | apply
                            State.startTaken_keeps | apply State.setTok_keeps | apply State.wakeLogic_keeps | apply
                            State.setHlx_keeps | apply State.ingressWait_keeps | apply State.groupsStart_keeps | apply
                            State.remapLanes_keeps | apply State.autoArm_keeps | apply State.fzRefresh_keeps | apply
                            State.driveTrips_keeps | apply Keeps.ite | apply Keeps.ite1)
    | (with_reducible apply Keeps.each <;> [skip; intros])
    | (with_reducible apply Keeps.foldl <;> [skip; intros])
    | (with_reducible apply Keeps.foldl1 <;> [skip; intros])
    | intro y hy
    | split

theorem execPark_keeps {r₀ s : State} (h : Keeps r₀ s) (key : Nat) (t : Nat) :
    KeepsOut r₀ (execPark key t s) := by
  unfold execPark
  refine Keeps.out ?_
  repeat' first
    | with_reducible (first | assumption | apply State.advance_keeps | apply State.parkCmd_keeps | apply Keeps.ite)
    | intro y hy

theorem execWake_keeps {r₀ s : State} (h : Keeps r₀ s) (key : Nat) (t : Nat) :
    KeepsOut r₀ (execWake key t s) := by
  unfold execWake
  refine Keeps.out ?_
  repeat' first
    | with_reducible (first | assumption | apply State.advance_keeps | apply State.wakeCmd_keeps | apply Keeps.ite)
    | intro y hy

theorem execWakeComplete_keeps {r₀ s : State} (h : Keeps r₀ s) (t : Nat) :
    KeepsOut r₀ (execWakeComplete t s) := by
  unfold execWakeComplete
  refine Keeps.out ?_
  repeat' first
    | with_reducible (first | assumption | apply State.advance_keeps | apply State.wakeEnd_keeps | apply Keeps.ite)
    | intro y hy

theorem execMreset_keeps {r₀ s : State} (h : Keeps r₀ s) (key : Nat) (t : Nat) :
    KeepsOut r₀ (execMreset key t s) := by
  unfold execMreset
  refine Keeps.out ?_
  repeat' first
    | with_reducible (first | assumption | apply State.advance_keeps | apply State.moduleReset_keeps | apply Keeps.ite)
    | intro y hy

theorem State.voidCmd_keeps {r₀ s : State} (h : Keeps r₀ s) :
    Keeps r₀ (State.voidCmd s) := by
  unfold State.voidCmd
  repeat' first
    | with_reducible (first | assumption | apply State.setPower_keeps)
    | intro y hy

theorem execVoid_keeps {r₀ s : State} (h : Keeps r₀ s) (key : Nat) :
    KeepsOut r₀ (execVoid key s) := by
  unfold execVoid
  refine Keeps.out ?_
  repeat' first
    | with_reducible (first | assumption | apply State.voidCmd_keeps | apply Keeps.ite)
    | intro y hy

theorem State.showDoze_keeps {r₀ s : State} (h : Keeps r₀ s) :
    Keeps r₀ (State.showDoze s) := by
  unfold State.showDoze
  repeat' first
    | with_reducible (first | assumption | apply State.putB_keeps | apply Keeps.ite)
    | intro y hy

theorem execDozeEntry_keeps {r₀ s : State} (h : Keeps r₀ s) (pf : Nat) :
    KeepsOut r₀ (execDozeEntry pf s) := by
  unfold execDozeEntry
  refine Keeps.out ?_
  repeat' first
    | with_reducible (first | assumption | apply State.put_keeps | apply State.showDoze_keeps | apply Keeps.ite)
    | intro y hy

theorem execDozeUngate_keeps {r₀ s : State} (h : Keeps r₀ s) (pf : Nat) :
    KeepsOut r₀ (execDozeUngate pf s) := by
  unfold execDozeUngate
  refine Keeps.out ?_
  repeat' first
    | with_reducible (first | assumption | apply State.put_keeps | apply State.showDoze_keeps | apply Keeps.ite)
    | intro y hy

theorem State.measured_keeps {r₀ s : State} (h : Keeps r₀ s) (vin : Nat) :
    Keeps r₀ (State.measured s vin) := by
  unfold State.measured
  repeat' first
    | with_reducible (first | assumption | apply State.setPower_keeps | apply State.put_keeps)
    | intro y hy

theorem execPowerFailWarning_keeps {r₀ s : State} (h : Keeps r₀ s) (vin : Nat) (t : Nat) :
    KeepsOut r₀ (execPowerFailWarning vin t s) := by
  unfold execPowerFailWarning
  refine Keeps.out ?_
  try dsimp only
  repeat' first
    | with_reducible (first | assumption | apply State.advance_keeps | apply State.measured_keeps | apply State.storeIs_keeps | apply
                            State.put_keeps | apply State.raise_keeps | apply State.setHost_keeps | apply State.showStore_keeps |
                            apply State.setPower_keeps | apply Keeps.ite | apply Keeps.ite1)
    | intro y hy
    | split

theorem execFinalFlushComplete_keeps {r₀ s : State} (h : Keeps r₀ s) :
    KeepsOut r₀ (execFinalFlushComplete s) := by
  unfold execFinalFlushComplete
  refine Keeps.out ?_
  repeat' first
    | with_reducible (first | assumption | apply State.flushImages_keeps | apply State.setPower_keeps
                            | apply Keeps.ite)
    | intro y hy

theorem execHoldUpLeft_keeps {r₀ s : State} (h : Keeps r₀ s) (vin : Nat) (t : Nat) :
    KeepsOut r₀ (execHoldUpLeft vin t s) := by
  unfold execHoldUpLeft
  refine Keeps.out ?_
  try dsimp only
  repeat' first
    | with_reducible (first | assumption | apply State.advance_keeps | apply State.measured_keeps | apply State.storeIs_keeps | apply
                            State.put_keeps | apply State.raise_keeps | apply State.showStore_keeps | apply State.rootCut_keeps |
                            apply State.setPower_keeps | apply State.armWdt3_keeps | apply State.hostReset_keeps | apply
                            State.setHost_keeps | apply State.askPark_keeps | apply Keeps.ite | apply Keeps.ite1)
    | intro y hy
    | split

theorem execHostDieResumed_keeps {r₀ s : State} (h : Keeps r₀ s) :
    KeepsOut r₀ (execHostDieResumed s) := by
  unfold execHostDieResumed
  refine Keeps.out ?_
  repeat' first
    | with_reducible (first | assumption | apply State.setHost_keeps | apply Keeps.ite)
    | intro y hy

theorem execStoreCharged_keeps {r₀ s : State} (h : Keeps r₀ s) (t : Nat) :
    KeepsOut r₀ (execStoreCharged s t) := by
  unfold execStoreCharged
  refine Keeps.out ?_
  try dsimp only
  repeat' first
    | with_reducible (first | assumption | apply State.advance_keeps | apply State.storeIs_keeps | apply State.showStore_keeps | apply
                            Keeps.ite | apply Keeps.ite1)
    | intro y hy
    | split

theorem State.powerDown_keeps {r₀ s : State} (h : Keeps r₀ s) :
    Keeps r₀ (State.powerDown s) := by
  unfold State.powerDown
  try dsimp only
  repeat' first
    | with_reducible (first | assumption | apply State.settleWrites_keeps | apply State.rootCut_keeps | apply State.hostReset_keeps |
                            apply State.powerReset_keeps | apply State.regsReset_keeps | apply State.setLink_keeps | apply
                            State.put_keeps | apply State.linkReset_keeps | apply State.rbkReset_keeps | apply State.lgeReset_keeps
                            | apply State.memReset_keeps | apply State.tbReset_keeps | apply State.unitsReset_keeps | apply
                            State.setPower_keeps)
    | intro y hy

theorem execOrderlyStop_keeps {r₀ s : State} (h : Keeps r₀ s) (t : Nat) :
    KeepsOut r₀ (execOrderlyStop t s) := by
  unfold execOrderlyStop
  refine Keeps.out ?_
  repeat' first
    | with_reducible (first | assumption | apply State.advance_keeps | apply State.openTrip_keeps
                            | apply State.setPower_keeps | apply State.powerDown_keeps | apply Keeps.ite)
    | intro y hy

theorem execPowerUp_keeps {r₀ s : State} (h : Keeps r₀ s) (vin : Nat) :
    KeepsOut r₀ (execPowerUp vin s) := by
  unfold execPowerUp
  refine Keeps.out ?_
  repeat' first
    | with_reducible (first | assumption | apply State.hostReset_keeps | apply State.setPower_keeps
                            | apply State.warmReset_keeps | apply State.reportStage_keeps | apply Keeps.ite)
    | intro y hy

theorem State.toStage_keeps {r₀ s : State} (h : Keeps r₀ s) (st : Nat) :
    Keeps r₀ (State.toStage s st) := by
  unfold State.toStage
  repeat' first
    | with_reducible (first | assumption | apply State.put_keeps | apply State.setPower_keeps)
    | intro y hy

theorem State.stageFails_keeps {r₀ s : State} (h : Keeps r₀ s) (st : Nat) :
    Keeps r₀ (State.stageFails s st) := by
  unfold State.stageFails
  repeat' first
    | with_reducible (first | assumption | apply State.raise_keeps | apply State.put_keeps)
    | intro y hy

theorem State.calibrate_keeps {r₀ s : State} (h : Keeps r₀ s) (e : StageEnd) :
    Keeps r₀ (State.calibrate s e) := by
  unfold State.calibrate
  try dsimp only
  repeat' first
    | with_reducible (first | assumption | apply State.draw_keeps | apply State.setPower_keeps | apply State.stageFails_keeps | apply
                            State.put_keeps | apply State.putB_keeps | apply State.raise_keeps | apply State.showPage_keeps | apply
                            State.showDrift_keeps | apply State.showLats_keeps | apply Keeps.ite | apply Keeps.ite1)
    | intro y hy
    | split

theorem State.heldPage_keeps {r₀ s : State} (h : Keeps r₀ s) :
    Keeps r₀ (State.heldPage s) := by
  unfold State.heldPage
  repeat' first
    | with_reducible (first | assumption | apply State.setAcq_keeps | apply State.servePage_keeps)
    | intro y hy
    | split

theorem State.readyUp_keeps {r₀ s : State} (h : Keeps r₀ s) :
    Keeps r₀ (State.readyUp s) := by
  unfold State.readyUp
  repeat' first
    | with_reducible (first | assumption | apply State.toStage_keeps | apply State.put_keeps
                            | apply State.setPower_keeps | apply State.driveTrips_keeps | apply State.askPark_keeps
                            | apply Keeps.ite)
    | (with_reducible apply Keeps.each <;> [skip; intros])
    | intro y hy

theorem State.startBases_keeps {r₀ s : State} (h : Keeps r₀ s) :
    Keeps r₀ (State.startBases s) := by
  unfold State.startBases
  repeat' first
    | with_reducible (first | assumption | apply State.setTb_keeps)
    | (with_reducible apply Keeps.each <;> [skip; intros])
    | intro y hy

theorem State.lastStage_keeps {r₀ s : State} (h : Keeps r₀ s) (k : Kind) :
    Keeps r₀ (State.lastStage s k) := by
  unfold State.lastStage
  repeat' first
    | with_reducible (first | assumption | apply State.startBases_keeps | apply State.loadStage_keeps
                            | apply State.stageFails_keeps | apply State.readyUp_keeps | apply Keeps.ite)
    | intro y hy

theorem State.dramTrained_keeps {r₀ s : State} (h : Keeps r₀ s) (st : Nat) (temp : Int) :
    Keeps r₀ (State.dramTrained s st temp) := by
  unfold State.dramTrained
  repeat' first
    | with_reducible (first | assumption | apply State.putI_keeps | apply Keeps.ite)
    | intro y hy

theorem State.stageEnd_keeps {r₀ s : State} (h : Keeps r₀ s) (k : Kind) (e : StageEnd) :
    Keeps r₀ (State.stageEnd s k e) := by
  unfold State.stageEnd
  repeat' first
    | with_reducible (first | assumption | apply State.dramTrained_keeps | apply State.toStage_keeps | apply State.linkComesUp_keeps
                            | apply State.vaultStage_keeps | apply State.stageFails_keeps
                            | apply State.calibrate_keeps | apply State.heldPage_keeps | apply State.lastStage_keeps
                            | apply State.setPower_keeps | apply Keeps.ite)
    | intro y hy

theorem execStartUpStageEnd_keeps {r₀ s : State} (h : Keeps r₀ s) (e : StageEnd) (t : Nat) :
    KeepsOut r₀ (execStartUpStageEnd e t s) := by
  unfold execStartUpStageEnd
  refine Keeps.out ?_
  try dsimp only
  repeat' first
    | with_reducible (first | assumption | apply State.advance_keeps | apply State.stageEnd_keeps
                            | apply State.reportStage_keeps | apply Keeps.ite)
    | intro y hy
    | split

theorem execRstNReleased_keeps {r₀ s : State} (h : Keeps r₀ s) :
    KeepsOut r₀ (execRstNReleased s) := by
  unfold execRstNReleased
  refine Keeps.out ?_
  repeat' first
    | with_reducible (first | assumption | apply State.setPower_keeps | apply State.toStage_keeps
                            | apply State.linkComesUp_keeps | apply State.reportStage_keeps | apply Keeps.ite)
    | intro y hy

theorem State.showCycle_keeps {r₀ s : State} (h : Keeps r₀ s) (n : Nat) :
    Keeps r₀ (State.showCycle s n) := by
  unfold State.showCycle
  repeat' first
    | with_reducible (first | assumption | apply State.put_keeps)
    | intro y hy

theorem State.serveBoundary_keeps {r₀ s : State} (h : Keeps r₀ s) (n : Nat) :
    Keeps r₀ (State.serveBoundary s n) := by
  unfold State.serveBoundary
  try dsimp only
  repeat' first
    | with_reducible (first | assumption | apply State.put_keeps | apply State.showCycle_keeps | apply State.setTtb_keeps | apply
                            State.bankBoundary_keeps | apply State.mapEffect_keeps | apply State.sharesEffect_keeps | apply
                            State.showAwait_keeps | apply State.coefBoundary_keeps | apply State.setRbk_keeps | apply Keeps.ite |
                            apply Keeps.ite1)
    | intro y hy
    | split

theorem execCycleBoundary_keeps {r₀ s : State} (h : Keeps r₀ s) (t : Nat) :
    KeepsOut r₀ (execCycleBoundary t s) := by
  unfold execCycleBoundary
  refine Keeps.out ?_
  repeat' first
    | with_reducible (first | assumption | apply State.advance_keeps | apply State.serveBoundary_keeps
                            | apply Keeps.ite)
    | intro y hy

theorem State.retrainDram_keeps {r₀ s : State} (h : Keeps r₀ s) (temp : Int) :
    Keeps r₀ (State.retrainDram s temp) := by
  unfold State.retrainDram
  repeat' first
    | with_reducible (first | assumption | apply State.putI_keeps | apply State.raise_keeps | apply Keeps.ite)
    | intro y hy

theorem execMaintenanceWindow_keeps {r₀ s : State} (h : Keeps r₀ s) (slot : Nat) (k : Nat) (temp : Int) (t : Nat) :
    KeepsOut r₀ (execMaintenanceWindow slot k temp t s) := by
  unfold execMaintenanceWindow
  refine Keeps.out ?_
  try dsimp only
  repeat' first
    | with_reducible (first | assumption | apply State.advance_keeps | apply State.setTtb_keeps
                            | apply State.retrainDram_keeps | apply State.writeWindow_keeps | apply Keeps.ite)
    | intro y hy
    | (with_reducible refine State.depart_keeps ?_ _ _ _ (by assumption))
    | split

theorem State.countGated_keeps {r₀ s : State} (h : Keeps r₀ s) (b : TxBody) :
    Keeps r₀ (State.countGated s b) := by
  unfold State.countGated
  repeat' first
    | with_reducible (first | assumption | apply State.count_keeps)
    | intro y hy
    | split

theorem State.discardGated_keeps {r₀ s : State} (h : Keeps r₀ s) :
    Keeps r₀ (State.discardGated s) := by
  unfold State.discardGated
  repeat' first
    | with_reducible (first | assumption | apply State.filter_keeps | apply State.countGated_keeps
                            | apply State.setPort_keeps)
    | (with_reducible apply Keeps.each <;> [skip; intros])
    | (with_reducible apply Keeps.foldl <;> [skip; intros])
    | (with_reducible apply Keeps.foldl1 <;> [skip; intros])
    | intro y hy

theorem State.loseToken_keeps {r₀ s : State} (h : Keeps r₀ s) (p : Nat) :
    Keeps r₀ (State.loseToken s p) := by
  unfold State.loseToken
  repeat' first
    | with_reducible (first | assumption | apply State.putBit_keeps | apply State.put_keeps | apply State.setTok_keeps
                            | apply State.setPos_keeps | apply State.raise_keeps | apply State.driveTrips_keeps
                            | apply State.discardGated_keeps | apply State.askPark_keeps | apply Keeps.ite)
    | intro y hy

theorem execLeaseExpiry_keeps {r₀ s : State} (h : Keeps r₀ s) (t : Nat) :
    KeepsOut r₀ (execLeaseExpiry t s) := by
  unfold execLeaseExpiry
  refine Keeps.out ?_
  try dsimp only
  repeat' first
    | with_reducible (first | assumption | apply State.advance_keeps | apply State.reportRed_keeps
                            | apply State.loseToken_keeps | apply State.count_keeps | apply State.put_keeps
                            | apply State.setTok_keeps | apply Keeps.ite)
    | intro y hy
    | split

theorem State.renew_keeps {r₀ s : State} (h : Keeps r₀ s) :
    Keeps r₀ (State.renew s) := by
  unfold State.renew
  try dsimp only
  repeat' first
    | with_reducible (first | assumption | apply State.setTok_keeps | apply State.plSend_keeps
                            | apply State.filter_keeps | apply State.setPos_keeps | apply Keeps.ite)
    | intro y hy
    | split

theorem execTokenRenewal_keeps {r₀ s : State} (h : Keeps r₀ s) (slot : Nat) (k : Nat) (t : Nat) :
    KeepsOut r₀ (execTokenRenewal slot k t s) := by
  unfold execTokenRenewal
  refine Keeps.out ?_
  try dsimp only
  repeat' first
    | with_reducible (first | assumption | apply State.advance_keeps | apply State.reportRed_keeps
                            | apply State.renew_keeps | apply Keeps.ite)
    | intro y hy
    | (with_reducible refine State.depart_keeps ?_ _ _ _ (by assumption))
    | split

theorem execCatchupRenewal_keeps {r₀ s : State} (h : Keeps r₀ s) (t : Nat) :
    KeepsOut r₀ (execCatchupRenewal t s) := by
  unfold execCatchupRenewal
  refine Keeps.out ?_
  repeat' first
    | with_reducible (first | assumption | apply State.advance_keeps | apply State.reportRed_keeps
                            | apply State.renew_keeps | apply State.count_keeps | apply Keeps.ite)
    | intro y hy

theorem State.heardRenewal_keeps {r₀ s : State} (h : Keeps r₀ s) (p : Nat) (rseq : Nat) (at_ : Nat) :
    Keeps r₀ (State.heardRenewal s p rseq at_) := by
  unfold State.heardRenewal
  try dsimp only
  repeat' first
    | with_reducible (first | assumption | apply State.setPos_keeps | apply Keeps.ite)
    | intro y hy
    | split

theorem State.heardRelay_keeps {r₀ s : State} (h : Keeps r₀ s) (p : Nat) (e : Nat × Nat) :
    Keeps r₀ (State.heardRelay s p e) := by
  unfold State.heardRelay
  repeat' first
    | with_reducible (first | assumption | apply State.heardRenewal_keeps | apply Keeps.ite)
    | intro y hy

theorem State.conflict_keeps {r₀ s : State} (h : Keeps r₀ s) (p : Nat) (takeseq : Nat) (serial : Nat) :
    Keeps r₀ (State.conflict s p takeseq serial) := by
  unfold State.conflict
  repeat' first
    | with_reducible (first | assumption | apply State.loseToken_keeps | apply Keeps.ite)
    | intro y hy

theorem State.renewIn_keeps {r₀ s : State} (h : Keeps r₀ s) (tw : Nat) (h : PlHdr) (pos : Nat) (rseq : Nat) (takeseq : Nat) (relay : List (Nat × Nat)) :
    Keeps r₀ (State.renewIn s tw h pos rseq takeseq relay) := by
  unfold State.renewIn
  repeat' first
    | with_reducible (first | assumption | apply State.plReceive_keeps | apply State.setTok_keeps
                            | apply State.heardRelay_keeps | apply State.heardRenewal_keeps
                            | apply State.plSendOn_keeps | apply State.conflict_keeps | apply Keeps.ite)
    | (with_reducible apply Keeps.foldl <;> [skip; intros])
    | (with_reducible apply Keeps.foldl1 <;> [skip; intros])
    | intro y hy

theorem execRenewFrame_keeps {r₀ s : State} (h : Keeps r₀ s) (tw : Nat) (h : PlHdr) (pos : Nat) (rseq : Nat) (takeseq : Nat) (relay : List (Nat × Nat)) (t : Nat) :
    KeepsOut r₀ (execRenewFrame tw h pos rseq takeseq relay t s) := by
  unfold execRenewFrame
  refine Keeps.out ?_
  repeat' first
    | with_reducible (first | assumption | apply State.advance_keeps | apply State.renewIn_keeps)
    | intro y hy

theorem State.acknowledged_keeps {r₀ s : State} (h : Keeps r₀ s) (p : Nat) (rseq : Nat) :
    Keeps r₀ (State.acknowledged s p rseq) := by
  unfold State.acknowledged
  repeat' first
    | with_reducible (first | assumption | apply State.count_keeps | apply State.setTok_keeps | apply Keeps.ite)
    | intro y hy
    | split

theorem State.ackIn_keeps {r₀ s : State} (h : Keeps r₀ s) (tw : Nat) (h : PlHdr) (pos : Nat) (rseq : Nat) :
    Keeps r₀ (State.ackIn s tw h pos rseq) := by
  unfold State.ackIn
  repeat' first
    | with_reducible (first | assumption | apply State.plReceive_keeps | apply State.acknowledged_keeps
                            | apply Keeps.ite)
    | intro y hy

theorem execAcknowledgeFrame_keeps {r₀ s : State} (h : Keeps r₀ s) (tw : Nat) (h : PlHdr) (pos : Nat) (rseq : Nat) (t : Nat) :
    KeepsOut r₀ (execAcknowledgeFrame tw h pos rseq t s) := by
  unfold execAcknowledgeFrame
  refine Keeps.out ?_
  repeat' first
    | with_reducible (first | assumption | apply State.advance_keeps | apply State.ackIn_keeps)
    | intro y hy

theorem State.wholeSet_keeps {r₀ s : State} (h : Keeps r₀ s) :
    Keeps r₀ (State.wholeSet s) := by
  unfold State.wholeSet
  repeat' first
    | with_reducible (first | assumption | apply State.setTok_keeps | apply Keeps.ite)
    | intro y hy

theorem State.takeToken_keeps {r₀ s : State} (h : Keeps r₀ s) (p : Nat) :
    Keeps r₀ (State.takeToken s p) := by
  unfold State.takeToken
  repeat' first
    | with_reducible (first | assumption | apply State.wholeSet_keeps | apply State.put_keeps
                            | apply State.putBit_keeps | apply State.setPos_keeps | apply State.setTok_keeps
                            | apply State.raise_keeps | apply State.count_keeps | apply State.wakeStart_keeps
                            | apply State.driveTrips_keeps)
    | intro y hy

theorem execTokenTake_keeps {r₀ s : State} (h : Keeps r₀ s) (pos : Nat) (renewal : Bool) (t : Nat) :
    KeepsOut r₀ (execTokenTake pos t s renewal) := by
  unfold execTokenTake
  refine Keeps.out ?_
  try dsimp only
  repeat' first
    | with_reducible (first | assumption | apply State.advance_keeps | apply State.reportRed_keeps | apply State.takeToken_keeps |
                            apply Keeps.ite | apply Keeps.ite1)
    | intro y hy
    | split

theorem State.takeCmd_keeps {r₀ s : State} (h : Keeps r₀ s) (p : Nat) :
    Keeps r₀ (State.takeCmd s p) := by
  unfold State.takeCmd
  repeat' first
    | with_reducible (first | assumption | apply State.count_keeps | apply State.reportRed_keeps
                            | apply State.takeToken_keeps | apply Keeps.ite)
    | intro y hy

theorem State.releaseCmd_keeps {r₀ s : State} (h : Keeps r₀ s) :
    Keeps r₀ (State.releaseCmd s) := by
  unfold State.releaseCmd
  repeat' first
    | with_reducible (first | assumption | apply State.count_keeps | apply State.reportRed_keeps
                            | apply State.loseToken_keeps)
    | intro y hy
    | split

theorem execTake_keeps {r₀ s : State} (h : Keeps r₀ s) (key : Nat) (pos : Nat) (t : Nat) :
    KeepsOut r₀ (execTake key pos t s) := by
  unfold execTake
  refine Keeps.out ?_
  repeat' first
    | with_reducible (first | assumption | apply State.advance_keeps | apply State.takeCmd_keeps | apply Keeps.ite)
    | intro y hy

theorem execRelease_keeps {r₀ s : State} (h : Keeps r₀ s) (key : Nat) (t : Nat) :
    KeepsOut r₀ (execRelease key t s) := by
  unfold execRelease
  refine Keeps.out ?_
  repeat' first
    | with_reducible (first | assumption | apply State.advance_keeps | apply State.releaseCmd_keeps | apply Keeps.ite)
    | intro y hy

theorem State.pairDown_keeps {r₀ s : State} (h : Keeps r₀ s) (tw : Nat) :
    Keeps r₀ (State.pairDown s tw) := by
  unfold State.pairDown
  try dsimp only
  repeat' first
    | with_reducible (first | assumption | apply State.reportRed_keeps | apply State.putBit_keeps | apply State.raise_keeps | apply
                            State.count_keeps | apply Keeps.ite | apply Keeps.ite1)
    | intro y hy
    | split

theorem execPairLinkDown_keeps {r₀ s : State} (h : Keeps r₀ s) (tw : Nat) (t : Nat) :
    KeepsOut r₀ (execPairLinkDown tw t s) := by
  unfold execPairLinkDown
  refine Keeps.out ?_
  try dsimp only
  repeat' first
    | with_reducible (first | assumption | apply State.advance_keeps | apply State.pairDown_keeps | apply Keeps.ite | apply Keeps.ite1)
    | intro y hy
    | split

theorem execPortLinkDown_keeps {r₀ s : State} (h : Keeps r₀ s) (port : Nat) :
    KeepsOut r₀ (execPortLinkDown port s) := by
  unfold execPortLinkDown
  refine Keeps.out ?_
  repeat' first
    | with_reducible (first | assumption | apply State.portDown_keeps | apply State.pairDown_keeps | apply Keeps.ite | apply
                            Keeps.ite1)
    | intro y hy
    | split

theorem execPeerLost_keeps {r₀ s : State} (h : Keeps r₀ s) (peer : Nat) (t : Nat) :
    KeepsOut r₀ (execPeerLost peer t s) := by
  unfold execPeerLost
  refine Keeps.out ?_
  repeat' first
    | with_reducible (first | assumption | apply State.advance_keeps | apply State.reportRed_keeps
                            | apply State.putBit_keeps | apply State.raise_keeps | apply Keeps.ite)
    | (with_reducible apply Keeps.each <;> [skip; intros])
    | intro y hy

theorem State.sendImage_keeps {r₀ s : State} (h : Keeps r₀ s) (i : Nat) (dhash : Nat) (period : Nat) (b : Bytes) :
    Keeps r₀ (State.sendImage s i dhash period b) := by
  unfold State.sendImage
  repeat' first
    | with_reducible (first | assumption | apply State.plSend_keeps)
    | (with_reducible apply Keeps.each <;> [skip; intros])
    | intro y hy

theorem State.streamInst_keeps {r₀ s : State} (h : Keeps r₀ s) (d : InstDecl) :
    Keeps r₀ (State.streamInst s d) := by
  unfold State.streamInst
  repeat' first
    | with_reducible (first | assumption | apply State.sendImage_keeps)
    | intro y hy
    | split

theorem execCheckpointStream_keeps {r₀ s : State} (h : Keeps r₀ s) (t : Nat) :
    KeepsOut r₀ (execCheckpointStream t s) := by
  unfold execCheckpointStream
  refine Keeps.out ?_
  repeat' first
    | with_reducible (first | assumption | apply State.advance_keeps | apply State.setTok_keeps
                            | apply State.streamInst_keeps | apply Keeps.ite)
    | (with_reducible apply Keeps.foldl <;> [skip; intros])
    | (with_reducible apply Keeps.foldl1 <;> [skip; intros])
    | intro y hy

theorem State.acceptImage_keeps {r₀ s : State} (h : Keeps r₀ s) (i : Nat) (dhash : Nat) (b : Bytes) :
    Keeps r₀ (State.acceptImage s i dhash b) := by
  unfold State.acceptImage
  try dsimp only
  repeat' first
    | with_reducible (first | assumption | apply State.setTok_keeps | apply State.filter_keeps | apply State.setInst_keeps | apply
                            State.writeNow_keeps | apply State.count_keeps | apply Keeps.ite | apply Keeps.ite1)
    | intro y hy
    | split

theorem State.newSet_keeps {r₀ s : State} (h : Keeps r₀ s) (period : Nat) :
    Keeps r₀ (State.newSet s period) := by
  unfold State.newSet
  repeat' first
    | with_reducible (first | assumption | apply State.setTok_keeps | apply Keeps.ite)
    | intro y hy

theorem State.checkpointPart_keeps {r₀ s : State} (h : Keeps r₀ s) (h : PlHdr) (i : Nat) (dhash : Nat) (period : Nat) (offset : Nat) (total : Nat) (image : Bytes) :
    Keeps r₀ (State.checkpointPart s h i dhash period offset total image) := by
  unfold State.checkpointPart
  try dsimp only
  repeat' first
    | with_reducible (first | assumption | apply State.newSet_keeps | apply State.filter_keeps
                            | apply State.setTok_keeps | apply State.acceptImage_keeps | apply Keeps.ite)
    | intro y hy
    | split

theorem State.checkpointIn_keeps {r₀ s : State} (h : Keeps r₀ s) (tw : Nat) (h : PlHdr) (inst : Nat) (dhash : Nat) (period : Nat) (offset : Nat) (total : Nat) (image : Bytes) :
    Keeps r₀ (State.checkpointIn s tw h inst dhash period offset total image) := by
  unfold State.checkpointIn
  repeat' first
    | with_reducible (first | assumption | apply State.plReceive_keeps | apply State.checkpointPart_keeps
                            | apply Keeps.ite)
    | intro y hy

theorem execCheckpointFrame_keeps {r₀ s : State} (h : Keeps r₀ s) (tw : Nat) (h : PlHdr) (inst : Nat) (dhash : Nat) (period : Nat) (offset : Nat) (total : Nat) (image : Bytes) (t : Nat) :
    KeepsOut r₀ (execCheckpointFrame tw h inst dhash period offset total image t s) := by
  unfold execCheckpointFrame
  refine Keeps.out ?_
  repeat' first
    | with_reducible (first | assumption | apply State.advance_keeps | apply State.checkpointIn_keeps)
    | intro y hy

theorem State.retainLines_keeps {r₀ s : State} (h : Keeps r₀ s) (cycle : Nat) (first : Nat) (lines : Bytes) :
    Keeps r₀ (State.retainLines s cycle first lines) := by
  unfold State.retainLines
  repeat' first
    | with_reducible (first | assumption | apply State.setTok_keeps | apply State.put_keeps | apply Keeps.ite)
    | intro y hy

theorem State.retainIn_keeps {r₀ s : State} (h : Keeps r₀ s) (tw : Nat) (h : PlHdr) (cycle : Nat) (first : Nat) (lines : Bytes) :
    Keeps r₀ (State.retainIn s tw h cycle first lines) := by
  unfold State.retainIn
  repeat' first
    | with_reducible (first | assumption | apply State.plReceive_keeps | apply State.retainLines_keeps
                            | apply Keeps.ite)
    | intro y hy

theorem execRetainFrame_keeps {r₀ s : State} (h : Keeps r₀ s) (tw : Nat) (h : PlHdr) (cycle : Nat) (first : Nat) (lines : Bytes) (t : Nat) :
    KeepsOut r₀ (execRetainFrame tw h cycle first lines t s) := by
  unfold execRetainFrame
  refine Keeps.out ?_
  repeat' first
    | with_reducible (first | assumption | apply State.advance_keeps | apply State.retainIn_keeps)
    | intro y hy

theorem execRetainMirrorWrite_keeps {r₀ s : State} (h : Keeps r₀ s) (t : Nat) :
    KeepsOut r₀ (execRetainMirrorWrite s t) := by
  unfold execRetainMirrorWrite
  refine Keeps.out ?_
  try dsimp only
  repeat' first
    | with_reducible (first | assumption | apply State.advance_keeps | apply State.stageMirror_keeps | apply State.setTok_keeps |
                            apply State.writeNow_keeps | apply Keeps.ite | apply Keeps.ite1)
    | intro y hy
    | split

theorem execRedundancyStatus_keeps {r₀ s : State} (h : Keeps r₀ s) (t : Nat) :
    KeepsOut r₀ (execRedundancyStatus t s) := by
  unfold execRedundancyStatus
  refine Keeps.out ?_
  repeat' first
    | with_reducible (first | assumption | apply State.advance_keeps | apply State.sendRedStatus_keeps)
    | intro y hy

theorem State.countRx_keeps {r₀ s : State} (h : Keeps r₀ s) (p : Nat) (len : Nat) :
    Keeps r₀ (State.countRx s p len) := by
  unfold State.countRx
  repeat' first
    | with_reducible (first | assumption | apply State.stat_keeps | apply Keeps.ite)
    | intro y hy

theorem State.mcDrop_keeps {r₀ s : State} (h : Keeps r₀ s) (p : Nat) :
    Keeps r₀ (State.mcDrop s p) := by
  unfold State.mcDrop
  repeat' first
    | with_reducible (first | assumption | apply State.stat_keeps)
    | intro y hy

theorem State.enterDup_keeps {r₀ s : State} (h : Keeps r₀ s) (k : Nat) (p : Nat) (src : Bytes) (seq : Nat) :
    Keeps r₀ (State.enterDup s k p src seq) := by
  unfold State.enterDup
  repeat' first
    | with_reducible (first | assumption | apply State.setSvi_keeps | apply State.put_keeps)
    | intro y hy

theorem State.takeLower_keeps {r₀ s : State} (h : Keeps r₀ s) (p : Nat) (high : Nat) (f : RxFrame) (stamp : Nat) :
    Keeps r₀ (State.takeLower s p high f stamp) := by
  unfold State.takeLower
  try dsimp only
  repeat' first
    | with_reducible (first | assumption | apply State.setSvi_keeps | apply State.setPort_keeps | apply State.queueTx_keeps | apply
                            Keeps.ite | apply Keeps.ite1)
    | intro y hy
    | split

theorem State.dupCheck_keeps {r₀ s : State} (h : Keeps r₀ s) (p : Nat) (f : RxFrame) (seq : Nat) (capture : Nat) :
    Keeps r₀ (State.dupCheck s p f seq capture).1 := by
  unfold State.dupCheck
  try dsimp only
  repeat' first
    | with_reducible (first | assumption | apply State.stat_keeps | apply State.takeLower_keeps | apply State.enterDup_keeps | apply
                            Keeps.ite | apply Keeps.ite1)
    | intro y hy
    | split

theorem State.pairCheck_keeps {r₀ s : State} (h : Keeps r₀ s) (p : Nat) (f : RxFrame) (capture : Nat) :
    Keeps r₀ (State.pairCheck s p f capture).1 := by
  unfold State.pairCheck
  try dsimp only
  repeat' first
    | with_reducible (first | assumption | apply State.count_keeps | apply State.dupCheck_keeps | apply Keeps.ite | apply Keeps.ite1)
    | intro y hy
    | split

theorem State.hsrForward_keeps {r₀ s : State} (h : Keeps r₀ s) (p : Nat) (f : RxFrame) (capture : Nat) :
    Keeps r₀ (State.hsrForward s p f capture) := by
  unfold State.hsrForward
  try dsimp only
  repeat' first
    | with_reducible (first | assumption | apply State.tcRelay_keeps | apply State.queueTx_keeps | apply Keeps.ite | apply Keeps.ite1)
    | intro y hy
    | split

theorem State.pairFrame_keeps {r₀ s : State} (h : Keeps r₀ s) (tw : Nat) (b : Bytes) :
    Keeps r₀ (State.pairFrame s tw b) := by
  unfold State.pairFrame
  try dsimp only
  repeat' first
    | with_reducible (first | assumption | apply State.renewIn_keeps | apply State.ackIn_keeps
                            | apply State.checkpointIn_keeps | apply State.retainIn_keeps | apply State.digestIn_keeps)
    | intro y hy
    | split

theorem State.toHalts_keeps {r₀ s : State} (h : Keeps r₀ s) (p : Nat) (f : RxFrame) (capture : Nat) :
    Keeps r₀ (State.toHalts s p f capture) := by
  unfold State.toHalts
  repeat' first
    | with_reducible (first | assumption | apply State.pairFrame_keeps | apply State.haltReply_keeps | apply Keeps.ite)
    | intro y hy
    | split

theorem State.toTsu_keeps {r₀ s : State} (h : Keeps r₀ s) (p : Nat) (f : RxFrame) (capture : Nat) :
    Keeps r₀ (State.toTsu s p f capture) := by
  unfold State.toTsu
  try dsimp only
  repeat' first
    | with_reducible (first | assumption | apply State.tcRelay_keeps | apply State.ptpMessage_keeps | apply Keeps.ite | apply
                            Keeps.ite1)
    | intro y hy
    | split

theorem State.dispatch_keeps {r₀ s : State} (h : Keeps r₀ s) (p : Nat) (f : RxFrame) (capture : Nat) :
    Keeps r₀ (State.dispatch s p f capture) := by
  unfold State.dispatch
  repeat' first
    | with_reducible (first | assumption | apply State.classify_keeps | apply State.toTsu_keeps
                            | apply State.toHalts_keeps | apply State.mcDrop_keeps | apply Keeps.ite)
    | intro y hy

theorem State.deliver_keeps {r₀ s : State} (h : Keeps r₀ s) (p : Nat) (i : Nat) (f : RxFrame) (capture : Nat) :
    Keeps r₀ (State.deliver s p i f capture) := by
  unfold State.deliver
  repeat' first
    | with_reducible (first | assumption | apply State.classify_keeps | apply State.dmaReceive_keeps
                            | apply State.toTsu_keeps | apply State.toHalts_keeps)
    | intro y hy
    | split

theorem State.filter_keeps {r₀ s : State} (h : Keeps r₀ s) (p : Nat) (f : RxFrame) (capture : Nat) :
    Keeps r₀ (State.filter s p f capture) := by
  unfold State.filter
  repeat' first
    | with_reducible (first | assumption | apply State.dispatch_keeps | apply State.mcDrop_keeps
                            | apply State.deliver_keeps | apply Keeps.ite)
    | intro y hy
    | split

theorem State.takeFrameOn_keeps {r₀ s : State} (h : Keeps r₀ s) (p : Nat) (f : RxFrame) (capture : Nat) :
    Keeps r₀ (State.takeFrameOn s p f capture) := by
  unfold State.takeFrameOn
  try dsimp only
  repeat' first
    | with_reducible (first | assumption | apply State.pairCheck_keeps | apply State.hsrForward_keeps | apply State.filter_keeps |
                            apply Keeps.ite | apply Keeps.ite1)
    | intro y hy
    | split

theorem State.hostFrame_keeps {r₀ s : State} (h : Keeps r₀ s) (p : Nat) (f : RxFrame) (capture : Nat) :
    Keeps r₀ (State.hostFrame s p f capture) := by
  unfold State.hostFrame
  try dsimp only
  repeat' first
    | with_reducible (first | assumption | apply State.tcRelay_keeps | apply State.pdelayTake_keeps | apply Keeps.ite | apply
                            Keeps.ite1)
    | intro y hy
    | split

theorem State.receiveFrame_keeps {r₀ s : State} (h : Keeps r₀ s) (p : Nat) (f : RxFrame) (t : Nat) :
    Keeps r₀ (State.receiveFrame s p f t) := by
  unfold State.receiveFrame
  try dsimp only
  repeat' first
    | with_reducible (first | assumption | apply State.setHost_keeps | apply State.count_keeps | apply State.countRx_keeps | apply
                            State.pauseFrame_keeps | apply State.hostFrame_keeps | apply State.takeFrameOn_keeps | apply Keeps.ite |
                            apply Keeps.ite1)
    | intro y hy
    | split

theorem execFrameReceived_keeps {r₀ s : State} (h : Keeps r₀ s) (port : Nat) (f : RxFrame) (t : Nat) :
    KeepsOut r₀ (execFrameReceived port f t s) := by
  unfold execFrameReceived
  refine Keeps.out ?_
  repeat' first
    | with_reducible (first | assumption | apply State.advance_keeps | apply State.receiveFrame_keeps)
    | intro y hy

theorem execSubscriptionMirror_keeps {r₀ s : State} (h : Keeps r₀ s) (h : Hdr) (queue : Nat) (kind : Nat) (sbport : Nat) (stamp : Word) (body : Bytes) :
    KeepsOut r₀ (execSubscriptionMirror h queue kind sbport stamp body s) := by
  unfold execSubscriptionMirror
  refine Keeps.out ?_
  repeat' first
    | with_reducible (first | assumption | apply State.receive_keeps | apply State.malformed_keeps
                            | apply State.count_keeps | apply State.dmaReceive_keeps | apply Keeps.ite)
    | intro y hy

theorem State.onBit_keeps {r₀ s : State} (h : Keeps r₀ s) (v : Word) (i : Nat) (f : State → State) (hf : ∀ y, Keeps r₀ y → Keeps r₀ (f y)) :
    Keeps r₀ (State.onBit s v i f) := by
  unfold State.onBit
  repeat' first
    | with_reducible (first | assumption | apply Keeps.ite | apply hf)
    | intro y hy

theorem State.storeBits_keeps {r₀ s : State} (h : Keeps r₀ s) (a : Nat) (v : Word) (mask : Word) :
    Keeps r₀ (State.storeBits s a v mask) := by
  unfold State.storeBits
  repeat' first
    | with_reducible (first | assumption | apply State.storeWord_keeps)
    | intro y hy

theorem State.writeCmd_keeps {r₀ s : State} (h : Keeps r₀ s) (v : Word) :
    Keeps r₀ (State.writeCmd s v) := by
  unfold State.writeCmd
  repeat' first
    | with_reducible (first | assumption | apply State.onBit_keeps | apply State.voidCmd_keeps
                            | apply State.moduleReset_keeps | apply State.parkCmd_keeps | apply State.wakeCmd_keeps
                            | apply Keeps.ite)
    | intro y hy

theorem State.writePwr_keeps {r₀ s : State} (h : Keeps r₀ s) (a : Nat) (v : Word) :
    Keeps r₀ (State.writePwr s a v) := by
  unfold State.writePwr
  repeat' first
    | with_reducible (first | assumption | apply State.writeCmd_keeps | apply State.writeWdt_keeps
                            | apply State.storeWord_keeps | apply Keeps.ite)
    | intro y hy

theorem State.writePrt_keeps {r₀ s : State} (h : Keeps r₀ s) (a : Nat) (v : Word) :
    Keeps r₀ (State.writePrt s a v) := by
  unfold State.writePrt
  try dsimp only
  repeat' first
    | with_reducible (first | assumption | apply State.writeTxthr_keeps | apply State.storeBits_keeps | apply State.storeWord_keeps |
                            apply Keeps.ite | apply Keeps.ite1)
    | intro y hy
    | split

theorem State.writePop_keeps {r₀ s : State} (h : Keeps r₀ s) (p : Nat) (v : Word) :
    Keeps r₀ (State.writePop s p v) := by
  unfold State.writePop
  repeat' first
    | with_reducible (first | assumption | apply State.onBit_keeps | apply State.popStamp_keeps)
    | intro y hy

theorem State.writeTsu_keeps {r₀ s : State} (h : Keeps r₀ s) (a : Nat) (v : Word) :
    Keeps r₀ (State.writeTsu s a v) := by
  unfold State.writeTsu
  repeat' first
    | with_reducible (first | assumption | apply State.storeBits_keeps | apply State.onBit_keeps
                            | apply State.armSetsec_keeps | apply State.writePop_keeps | apply State.storeWord_keeps)
    | intro y hy
    | split

theorem State.writeTtb_keeps {r₀ s : State} (h : Keeps r₀ s) (manager : Bool) (a : Nat) (v : Word) :
    Keeps r₀ (State.writeTtb s manager a v) := by
  unfold State.writeTtb
  try dsimp only
  repeat' first
    | with_reducible (first | assumption | apply State.storeBits_keeps | apply State.onBit_keeps | apply State.bankCancel_keeps |
                            apply State.bankRequest_keeps | apply State.writeSlot_keeps | apply State.storeWord_keeps | apply
                            Keeps.ite | apply Keeps.ite1)
    | intro y hy
    | split

theorem State.writeMar_keeps {r₀ s : State} (h : Keeps r₀ s) (a : Nat) (v : Word) :
    Keeps r₀ (State.writeMar s a v) := by
  unfold State.writeMar
  repeat' first
    | with_reducible (first | assumption | apply State.storeBits_keeps | apply State.showMeas_keeps
                            | apply State.onBit_keeps | apply State.clearMeas_keeps | apply State.writeBound_keeps
                            | apply State.storeWord_keeps | apply Keeps.ite)
    | intro y hy
    | split

theorem State.writeAcq_keeps {r₀ s : State} (h : Keeps r₀ s) (a : Nat) (v : Word) :
    Keeps r₀ (State.writeAcq s a v) := by
  unfold State.writeAcq
  repeat' first
    | with_reducible (first | assumption | apply State.storeBits_keeps | apply State.onBit_keeps
                            | apply State.historyReq_keeps | apply State.recArm_keeps | apply State.recDisarm_keeps
                            | apply State.trigNow_keeps | apply State.recRelease_keeps | apply State.storeWord_keeps
                            | apply Keeps.ite)
    | intro y hy
    | split

theorem State.writeIns_keeps {r₀ s : State} (h : Keeps r₀ s) (manager : Bool) (a : Nat) (v : Word) :
    Keeps r₀ (State.writeIns s manager a v) := by
  unfold State.writeIns
  try dsimp only
  repeat' first
    | with_reducible (first | assumption | apply State.semRelease_keeps | apply State.writeOwner_keeps
                            | apply State.storeWord_keeps | apply State.onBit_keeps | apply State.startInst_keeps
                            | apply State.resetCmd_keeps | apply State.parkDue_keeps | apply State.writeQuota_keeps
                            | apply State.writeHeap_keeps | apply Keeps.ite)
    | intro y hy
    | split

theorem State.writeNfree_keeps {r₀ s : State} (h : Keeps r₀ s) (a : Nat) (v : Word) :
    Keeps r₀ (State.writeNfree s a v) := by
  unfold State.writeNfree
  repeat' first
    | with_reducible (first | assumption | apply State.storeWord_keeps | apply Keeps.ite)
    | intro y hy

theorem State.writeDmx_keeps {r₀ s : State} (h : Keeps r₀ s) (a : Nat) (v : Word) :
    Keeps r₀ (State.writeDmx s a v) := by
  unfold State.writeDmx
  try dsimp only
  repeat' first
    | with_reducible (first | assumption | apply State.storeBits_keeps | apply State.onBit_keeps
                            | apply State.startChannel_keeps | apply State.ringDoorbell_keeps
                            | apply State.resumeChan_keeps | apply State.abortChan_keeps | apply State.clearErr_keeps
                            | apply State.pushDesc_keeps | apply State.writeNfree_keeps | apply State.storeWord_keeps
                            | apply Keeps.ite)
    | intro y hy
    | split

theorem State.writeMem_keeps {r₀ s : State} (h : Keeps r₀ s) (a : Nat) (v : Word) :
    Keeps r₀ (State.writeMem s a v) := by
  unfold State.writeMem
  repeat' first
    | with_reducible (first | assumption | apply State.writeNfree_keeps | apply State.storeWord_keeps
                            | apply Keeps.ite)
    | intro y hy

theorem State.writeTok_keeps {r₀ s : State} (h : Keeps r₀ s) (a : Nat) (v : Word) :
    Keeps r₀ (State.writeTok s a v) := by
  unfold State.writeTok
  repeat' first
    | with_reducible (first | assumption | apply State.onBit_keeps | apply State.takeCmd_keeps
                            | apply State.releaseCmd_keeps | apply State.storeWord_keeps | apply Keeps.ite)
    | intro y hy

theorem State.writeHostCtrl_keeps {r₀ s : State} (h : Keeps r₀ s) (i : Nat) (a : Nat) (v : Word) :
    Keeps r₀ (State.writeHostCtrl s i a v) := by
  unfold State.writeHostCtrl
  try dsimp only
  repeat' first
    | with_reducible (first | assumption | apply State.storeWord_keeps | apply State.put_keeps | apply State.showLat_keeps | apply
                            State.showSdinh_keeps | apply Keeps.ite | apply Keeps.ite1)
    | intro y hy
    | split

theorem State.holdTcen_keeps {r₀ s : State} (h : Keeps r₀ s) (i : Nat) :
    Keeps r₀ (State.holdTcen s i) := by
  unfold State.holdTcen
  repeat' first
    | with_reducible (first | assumption | apply State.put_keeps | apply State.showSdinh_keeps | apply Keeps.ite | apply Keeps.ite1)
    | intro y hy
    | split

theorem State.writeHost_keeps {r₀ s : State} (h : Keeps r₀ s) (a : Nat) (v : Word) :
    Keeps r₀ (State.writeHost s a v) := by
  unfold State.writeHost
  try dsimp only
  repeat' first
    | with_reducible (first | assumption | apply State.writeTxthr_keeps | apply State.writePop_keeps | apply State.writeHostCtrl_keeps
                            | apply State.holdTcen_keeps | apply State.storeWord_keeps | apply Keeps.ite | apply Keeps.ite1)
    | (with_reducible apply Keeps.foldl <;> [skip; intros])
    | (with_reducible apply Keeps.foldl1 <;> [skip; intros])
    | intro y hy
    | split

theorem State.writeLocal_keeps {r₀ s : State} (h : Keeps r₀ s) (p : Nat) (o : Nat) (v : Word) :
    Keeps r₀ (State.writeLocal s p o v) := by
  unfold State.writeLocal
  try dsimp only
  repeat' first
    | with_reducible (first | assumption | apply State.coreActs_keeps | apply State.phqPush_keeps | apply State.rectrig_keeps | apply
                            State.onBit_keeps | apply State.setInst_keeps | apply State.showMail_keeps | apply State.mbPop_keeps |
                            apply State.mbPush_keeps | apply State.put_keeps | apply State.semRelease_keeps | apply
                            State.writeDmx_keeps | apply Keeps.ite | apply Keeps.ite1)
    | intro y hy
    | split

theorem State.writeTcm_keeps {r₀ s : State} (h : Keeps r₀ s) (a : Nat) (v : Word) :
    Keeps r₀ (State.writeTcm s a v) := by
  unfold State.writeTcm
  generalize pfOfTcm a = p
  dsimp only
  split
  · exact h
  · exact State.accsNow_keeps h _ _ _ id (fun _ hy => hy)

theorem State.writeBlock_keeps {r₀ s : State} (h : Keeps r₀ s) (src : Island) (b : Block) (a : Nat) (v : Word) :
    Keeps r₀ (State.writeBlock s src b a v) := by
  unfold State.writeBlock
  try dsimp only
  repeat' first
    | with_reducible (first | assumption | apply State.setLink_keeps | apply State.writePwr_keeps | apply State.writePrt_keeps | apply
                            State.writeTsu_keeps | apply State.writeTtb_keeps | apply State.writeStream_keeps | apply
                            State.writeTile_keeps | apply State.writeMar_keeps | apply State.writeAcq_keeps | apply
                            State.writeIns_keeps | apply State.writeDmx_keeps | apply State.writeMem_keeps | apply
                            State.writeTok_keeps | apply State.storeWord_keeps | apply Keeps.ite | apply Keeps.ite1)
    | intro y hy
    | split

theorem State.writeEffect_keeps {r₀ s : State} (h : Keeps r₀ s) (src : Island) (a : Nat) (v : Word) :
    Keeps r₀ (State.writeEffect s src a v) := by
  unfold State.writeEffect
  repeat' first
    | with_reducible (first | assumption | apply State.writeHost_keeps | apply State.writeTcm_keeps
                            | apply State.writeLocal_keeps | apply State.writeBlock_keeps | apply Keeps.ite)
    | intro y hy
    | split

theorem State.issue_keeps {r₀ s : State} (h : Keeps r₀ s) (src : Island) (addr : Word) (v : Word) (cfg : Option Word) :
    Keeps r₀ (State.issue s src addr v cfg) := by
  unfold State.issue
  repeat' first
    | with_reducible (first | assumption | apply State.writeEffect_keeps | apply State.post_keeps | apply Keeps.ite)
    | intro y hy
    | split

theorem execRegisterWrite_keeps {r₀ s : State} (h : Keeps r₀ s) (src : Island) (addr : Word) (val : Word) :
    KeepsOut r₀ (execRegisterWrite src addr val s) := by
  unfold execRegisterWrite
  refine Keeps.out ?_
  repeat' first
    | with_reducible (first | assumption | apply State.issue_keeps)
    | intro y hy

theorem State.serveJunction_keeps {r₀ s : State} (h : Keeps r₀ s) (src : Island) (dst : Island) :
    Keeps r₀ (State.serveJunction s src dst) := by
  unfold State.serveJunction
  repeat' first
    | with_reducible (first | assumption | apply State.writeEffect_keeps)
    | intro y hy
    | (with_reducible refine State.popJunc_keeps ?_ _ _ (by assumption))
    | split

theorem State.hwUpdate_keeps {r₀ s : State} (h : Keeps r₀ s) (dst : Island) (u : HwUpd) :
    Keeps r₀ (State.hwUpdate s dst u) := by
  unfold State.hwUpdate
  try dsimp only
  repeat' first
    | with_reducible (first | assumption | apply State.put_keeps | apply Keeps.ite | apply Keeps.ite1)
    | intro y hy
    | split

theorem State.hwCount_keeps {r₀ s : State} (h : Keeps r₀ s) (dst : Island) (u : HwUpd) :
    Keeps r₀ (State.hwCount s dst u) := by
  unfold State.hwCount
  try dsimp only
  repeat' first
    | with_reducible (first | assumption | apply State.put_keeps | apply State.countN_keeps | apply Keeps.ite | apply Keeps.ite1)
    | intro y hy
    | split

theorem execJunctionAccessEffect_keeps {r₀ s : State} (h : Keeps r₀ s) (dst : Island) (srcs : List Island) (hw : List HwUpd) :
    KeepsOut r₀ (execJunctionAccessEffect dst srcs s hw) := by
  unfold execJunctionAccessEffect
  refine Keeps.out ?_
  try dsimp only
  repeat' first
    | with_reducible (first | assumption | apply State.hwUpdate_keeps | apply State.filter_keeps | apply State.serveJunction_keeps |
                            apply State.hwCount_keeps)
    | (with_reducible apply Keeps.foldl <;> [skip; intros])
    | (with_reducible apply Keeps.foldl1 <;> [skip; intros])
    | intro y hy

theorem execJunctionFifoDrain_keeps {r₀ s : State} (h : Keeps r₀ s) (src : Island) (dst : Island) :
    KeepsOut r₀ (execJunctionFifoDrain src dst s) := by
  unfold execJunctionFifoDrain
  refine Keeps.out ?_
  repeat' first
    | with_reducible (first | assumption | apply State.serveJunction_keeps | apply Keeps.ite)
    | intro y hy

theorem execJunctionHung_keeps {r₀ s : State} (h : Keeps r₀ s) (src : Island) (dst : Island) :
    KeepsOut r₀ (execJunctionHung src dst s) := by
  unfold execJunctionHung
  refine Keeps.out ?_
  repeat' first
    | with_reducible (first | assumption | apply State.raise_keeps | apply State.moduleReset_keeps)
    | intro y hy

theorem State.readLatch_keeps {r₀ s : State} (h : Keeps r₀ s) (a : Nat) :
    Keeps r₀ (State.readLatch s a) := by
  unfold State.readLatch
  try dsimp only
  repeat' first
    | with_reducible (first | assumption | apply State.latchHi_keeps | apply State.showStore_keeps | apply State.showDrift_keeps |
                            apply State.showCore_keeps | apply State.showPause_keeps | apply State.latchTb_keeps | apply
                            State.showSync_keeps | apply State.latchRq_keeps | apply Keeps.ite | apply Keeps.ite1)
    | intro y hy
    | split

theorem State.shadowed_keeps {r₀ s : State} (h : Keeps r₀ s) (a : Nat) :
    Keeps r₀ (State.shadowed s a) := by
  unfold State.shadowed
  repeat' first
    | with_reducible (first | assumption | apply State.filter_keeps | apply State.storeWord_keeps)
    | (with_reducible apply Keeps.foldl <;> [skip; intros])
    | (with_reducible apply Keeps.foldl1 <;> [skip; intros])
    | intro y hy

theorem State.readWord_keeps {r₀ s : State} (h : Keeps r₀ s) (a : Nat) :
    Keeps r₀ (State.readWord s a).1 := by
  unfold State.readWord
  try dsimp only
  repeat' first
    | with_reducible (first | assumption | apply State.semTry_keeps | apply State.put_keeps
                            | apply State.shadowed_keeps | apply State.readLatch_keeps | apply Keeps.ite
                            | apply Keeps.ite1)
    | intro y hy
    | split

theorem State.ackClass_keeps {r₀ s : State} (h : Keeps r₀ s) (cls : Nat) (seq : Word) :
    Keeps r₀ (State.ackClass s cls seq) := by
  unfold State.ackClass
  repeat' first
    | with_reducible (first | assumption | apply State.filter_keeps | apply State.setCtx_keeps
                            | apply State.mbFreed_keeps)
    | (with_reducible apply Keeps.foldl <;> [skip; intros])
    | (with_reducible apply Keeps.foldl1 <;> [skip; intros])
    | intro y hy

theorem execAcknowledgement_keeps {r₀ s : State} (h : Keeps r₀ s) (entries : List (Nat × Word)) :
    KeepsOut r₀ (execAcknowledgement entries s) := by
  unfold execAcknowledgement
  refine Keeps.out ?_
  repeat' first
    | with_reducible (first | assumption | apply State.filter_keeps | apply State.ackClass_keeps | apply Keeps.ite)
    | (with_reducible apply Keeps.foldl <;> [skip; intros])
    | (with_reducible apply Keeps.foldl1 <;> [skip; intros])
    | intro y hy

theorem State.retrain_keeps {r₀ s : State} (h : Keeps r₀ s) :
    Keeps r₀ (State.retrain s) := by
  unfold State.retrain
  repeat' first
    | with_reducible (first | assumption | apply State.put_keeps)
    | intro y hy

theorem State.resendFrom_keeps {r₀ s : State} (h : Keeps r₀ s) (cls : Nat) (seq : Word) :
    Keeps r₀ (State.resendFrom s cls seq) := by
  unfold State.resendFrom
  repeat' first
    | with_reducible (first | assumption | apply State.retrain_keeps | apply State.setCtx_keeps | apply Keeps.ite)
    | intro y hy

theorem execNegativeAcknowledgement_keeps {r₀ s : State} (h : Keeps r₀ s) (cls : Nat) (seq : Word) :
    KeepsOut r₀ (execNegativeAcknowledgement cls seq s) := by
  unfold execNegativeAcknowledgement
  refine Keeps.out ?_
  repeat' first
    | with_reducible (first | assumption | apply State.resendFrom_keeps | apply Keeps.ite)
    | intro y hy

theorem execAckTimeout_keeps {r₀ s : State} (h : Keeps r₀ s) (cls : Nat) :
    KeepsOut r₀ (execAckTimeout cls s) := by
  unfold execAckTimeout
  refine Keeps.out ?_
  repeat' first
    | with_reducible (first | assumption | apply State.resendFrom_keeps | apply Keeps.ite)
    | intro y hy
    | split

theorem execMessageBadFraming_keeps {r₀ s : State} (h : Keeps r₀ s) (octets : Bytes) :
    KeepsOut r₀ (execMessageBadFraming octets s) := by
  unfold execMessageBadFraming
  refine Keeps.out ?_
  try dsimp only
  repeat' first
    | with_reducible (first | assumption | apply State.count_keeps | apply State.sendNak_keeps | apply Keeps.ite | apply Keeps.ite1)
    | intro y hy
    | split

theorem State.resendAll_keeps {r₀ s : State} (h : Keeps r₀ s) :
    Keeps r₀ (State.resendAll s) := by
  unfold State.resendAll
  repeat' first
    | with_reducible (first | assumption | apply State.setLink_keeps | apply Keeps.ite)
    | intro y hy

theorem State.dropClass_keeps {r₀ s : State} (h : Keeps r₀ s) (cls : Nat) :
    Keeps r₀ (State.dropClass s cls) := by
  unfold State.dropClass
  try dsimp only
  repeat' first
    | with_reducible (first | assumption | apply State.setCtx_keeps | apply State.filter_keeps)
    | intro y hy
    | split

theorem State.dropUnsent_keeps {r₀ s : State} (h : Keeps r₀ s) :
    Keeps r₀ (State.dropUnsent s) := by
  unfold State.dropUnsent
  try dsimp only
  repeat' first
    | with_reducible (first | assumption | apply State.countN_keeps | apply State.filter_keeps | apply State.dropClass_keeps | apply
                            State.exportsCut_keeps)
    | (with_reducible apply Keeps.each <;> [skip; intros])
    | intro y hy

theorem State.linkDown_keeps {r₀ s : State} (h : Keeps r₀ s) :
    Keeps r₀ (State.linkDown s) := by
  unfold State.linkDown
  try dsimp only
  repeat' first
    | with_reducible (first | assumption | apply State.put_keeps | apply State.raise_keeps | apply State.dropUnsent_keeps | apply
                            State.hostNotReady_keeps | apply State.sourceLost_keeps | apply State.setHost_keeps | apply
                            State.setPower_keeps)
    | (with_reducible apply Keeps.foldl <;> [skip; intros])
    | (with_reducible apply Keeps.foldl1 <;> [skip; intros])
    | intro y hy

theorem execRetrainEnd_keeps {r₀ s : State} (h : Keeps r₀ s) (lanes : Nat) :
    KeepsOut r₀ (execRetrainEnd lanes s) := by
  unfold execRetrainEnd
  refine Keeps.out ?_
  repeat' first
    | with_reducible (first | assumption | apply State.put_keeps | apply State.raise_keeps | apply State.setLink_keeps
                            | apply State.resendAll_keeps | apply State.linkDown_keeps | apply State.retrain_keeps
                            | apply Keeps.ite)
    | intro y hy

theorem execRetrainRetry_keeps {r₀ s : State} (h : Keeps r₀ s) (lanes : Nat) :
    KeepsOut r₀ (execRetrainRetry lanes s) := by
  unfold execRetrainRetry
  refine Keeps.out ?_
  repeat' first
    | with_reducible (first | assumption | apply State.put_keeps | apply State.resendAll_keeps
                            | apply State.linkComesUp_keeps | apply Keeps.ite)
    | intro y hy

theorem State.packEvents_keeps {r₀ s : State} (h : Keeps r₀ s) :
    Keeps r₀ (State.packEvents s) := by
  unfold State.packEvents
  repeat' first
    | with_reducible (first | assumption | apply State.setLink_keeps | apply State.setCtx_keeps | apply Keeps.ite)
    | intro y hy

theorem State.hostAligns_keeps {r₀ s : State} (h : Keeps r₀ s) (b : Bytes) :
    Keeps r₀ (State.hostAligns s b) := by
  unfold State.hostAligns
  try dsimp only
  repeat' first
    | with_reducible (first | assumption | apply State.setHost_keeps)
    | intro y hy
    | split

theorem State.hostRates_keeps {r₀ s : State} (h : Keeps r₀ s) (b : Bytes) :
    Keeps r₀ (State.hostRates s b) := by
  unfold State.hostRates
  try dsimp only
  repeat' first
    | with_reducible (first | assumption | apply State.setHost_keeps)
    | intro y hy

theorem State.hostPtp_keeps {r₀ s : State} (h : Keeps r₀ s) (b : Bytes) :
    Keeps r₀ (State.hostPtp s b) := by
  unfold State.hostPtp
  try dsimp only
  repeat' first
    | with_reducible (first | assumption | apply State.queuePtp_keeps | apply Keeps.ite | apply Keeps.ite1)
    | intro y hy
    | split

theorem State.hostMirror_keeps {r₀ s : State} (h : Keeps r₀ s) (b : Bytes) :
    Keeps r₀ (State.hostMirror s b) := by
  unfold State.hostMirror
  try dsimp only
  repeat' first
    | with_reducible (first | assumption | apply State.queueTx_keeps | apply Keeps.ite | apply Keeps.ite1)
    | intro y hy
    | split

theorem State.hostTakes_keeps {r₀ s : State} (h : Keeps r₀ s) (m : Msg) :
    Keeps r₀ (State.hostTakes s m) := by
  unfold State.hostTakes
  repeat' first
    | with_reducible (first | assumption | apply State.hostAligns_keeps | apply State.setHost_keeps | apply State.hostMirror_keeps |
                            apply State.hostRates_keeps | apply State.hostPtp_keeps | apply Keeps.ite | apply Keeps.ite1)
    | intro y hy
    | split

theorem State.sendClass_keeps {r₀ s : State} (h : Keeps r₀ s) (cls : Nat) :
    Keeps r₀ (State.sendClass s cls) := by
  unfold State.sendClass
  try dsimp only
  repeat' first
    | with_reducible (first | assumption | apply State.packEvents_keeps | apply State.count_keeps
                            | apply State.setCtx_keeps | apply State.setLink_keeps | apply State.hostTakes_keeps
                            | apply Keeps.ite)
    | intro y hy
    | split

theorem execLinkMessageSent_keeps {r₀ s : State} (h : Keeps r₀ s) :
    KeepsOut r₀ (execLinkMessageSent s) := by
  unfold execLinkMessageSent
  refine Keeps.out ?_
  repeat' first
    | with_reducible (first | assumption | apply State.sendClass_keeps | apply Keeps.ite)
    | intro y hy
    | split

theorem execStatusMessage_keeps {r₀ s : State} (h : Keeps r₀ s) :
    KeepsOut r₀ (execStatusMessage s) := by
  unfold execStatusMessage
  refine Keeps.out ?_
  repeat' first
    | with_reducible (first | assumption | apply State.showStore_keeps | apply State.sendStatus_keeps | apply Keeps.ite | apply
                            Keeps.ite1)
    | intro y hy
    | split

theorem execHostStatusMessage_keeps {r₀ s : State} (h : Keeps r₀ s) (h : Hdr) (hostState : Word) (fw : Word) :
    KeepsOut r₀ (execHostStatusMessage h hostState fw s) := by
  unfold execHostStatusMessage
  refine Keeps.out ?_
  repeat' first
    | with_reducible (first | assumption | apply State.receive_keeps | apply State.setHost_keeps)
    | intro y hy

theorem State.noteWrite_keeps {r₀ s : State} (h : Keeps r₀ s) (h : Hdr) :
    Keeps r₀ (State.noteWrite s h) := by
  unfold State.noteWrite
  repeat' first
    | with_reducible (first | assumption | apply State.setLink_keeps | apply Keeps.ite)
    | intro y hy

theorem State.cfgIssue_keeps {r₀ s : State} (h : Keeps r₀ s) (seq : Word) (l : List (Word × Word)) :
    Keeps r₀ (State.cfgIssue s seq l) := by
  unfold State.cfgIssue
  repeat' first
    | with_reducible (first | assumption | apply State.issue_keeps | apply Keeps.ite)
    | (with_reducible apply Keeps.foldl <;> [skip; intros])
    | (with_reducible apply Keeps.foldl1 <;> [skip; intros])
    | intro y hy

theorem execConfigurationWrite_keeps {r₀ s : State} (h : Keeps r₀ s) (h : Hdr) (entries : List (Word × Word)) :
    KeepsOut r₀ (execConfigurationWrite h entries s) := by
  unfold execConfigurationWrite
  refine Keeps.out ?_
  repeat' first
    | with_reducible (first | assumption | apply State.noteWrite_keeps | apply State.receive_keeps
                            | apply State.malformed_keeps | apply State.refuseCfg_keeps | apply State.cfgIssue_keeps
                            | apply Keeps.ite)
    | intro y hy
    | split

theorem execConfigurationRead_keeps {r₀ s : State} (h : Keeps r₀ s) (h : Hdr) (addrs : List Word) :
    KeepsOut r₀ (execConfigurationRead h addrs s) := by
  unfold execConfigurationRead
  refine Keeps.out ?_
  repeat' first
    | with_reducible (first | assumption | apply State.receive_keeps | apply State.malformed_keeps
                            | apply State.setLink_keeps | apply Keeps.ite)
    | intro y hy

theorem State.readAll_keeps {r₀ s : State} (h : Keeps r₀ s) (src : Nat) (l : List Word) :
    Keeps r₀ (State.readAll s src l).1 := by
  unfold State.readAll
  repeat' first
    | with_reducible (first | assumption | apply State.put_keeps | apply State.readWord_keeps | apply Keeps.ite
                            | apply Keeps.ite1)
    | (with_reducible apply Keeps.foldl <;> [skip; intros])
    | (with_reducible apply Keeps.foldl1 <;> [skip; intros])
    | intro y hy

theorem execConfigurationReadServed_keeps {r₀ s : State} (h : Keeps r₀ s) (t : Nat) :
    KeepsOut r₀ (execConfigurationReadServed t s) := by
  unfold execConfigurationReadServed
  refine Keeps.out ?_
  try dsimp only
  repeat' first
    | with_reducible (first | assumption | apply State.advance_keeps | apply State.setLink_keeps
                            | apply State.readAll_keeps | apply State.send_keeps | apply Keeps.ite)
    | intro y hy
    | split

theorem execMalformedMessage_keeps {r₀ s : State} (h : Keeps r₀ s) (cls : Nat) (op : Nat) (h : Hdr) :
    KeepsOut r₀ (execMalformedMessage cls op h s) := by
  unfold execMalformedMessage
  refine Keeps.out ?_
  repeat' first
    | with_reducible (first | assumption | apply State.count_keeps | apply State.vltRequest_keeps
                            | apply State.noteWrite_keeps | apply State.receive_keeps | apply State.malformed_keeps
                            | apply Keeps.ite)
    | intro y hy

theorem State.idle_keeps {r₀ s : State} (h : Keeps r₀ s) :
    Keeps r₀ (State.idle s) := by
  unfold State.idle
  repeat' first
    | with_reducible (first | assumption | apply State.advance_keeps)
    | intro y hy

/-- Every command answers a next state, and keeps what `Keeps` says. -/
theorem exec_keeps (i : Instr) (s : State) : KeepsOut s (exec i s) := by
  cases i with
  | registerWrite src addr val => exact execRegisterWrite_keeps (Keeps.refl s) src addr val
  | junctionAccessEffect dst srcs hw => exact execJunctionAccessEffect_keeps (Keeps.refl s) dst srcs hw
  | junctionFifoDrain src dst => exact execJunctionFifoDrain_keeps (Keeps.refl s) src dst
  | junctionHung src dst => exact execJunctionHung_keeps (Keeps.refl s) src dst
  | messageBadFraming octets => exact execMessageBadFraming_keeps (Keeps.refl s) octets
  | acknowledgement entries => exact execAcknowledgement_keeps (Keeps.refl s) entries
  | negativeAcknowledgement cls seq => exact execNegativeAcknowledgement_keeps (Keeps.refl s) cls seq
  | ackTimeout cls => exact execAckTimeout_keeps (Keeps.refl s) cls
  | retrainEnd lanes => exact execRetrainEnd_keeps (Keeps.refl s) lanes
  | retrainRetry lanes => exact execRetrainRetry_keeps (Keeps.refl s) lanes
  | linkMessageSent => exact execLinkMessageSent_keeps (Keeps.refl s)
  | moduleResetRequest h => exact execModuleResetRequest_keeps (Keeps.refl s) h
  | managerKeepAlive h t => exact execManagerKeepAlive_keeps (Keeps.refl s) h t
  | timeBaseMirrorAlignment t => exact execTimeBaseMirrorAlignment_keeps (Keeps.refl s) t
  | statusMessage => exact execStatusMessage_keeps (Keeps.refl s)
  | hostStatusMessage h hostState fw => exact execHostStatusMessage_keeps (Keeps.refl s) h hostState fw
  | configurationWrite h entries => exact execConfigurationWrite_keeps (Keeps.refl s) h entries
  | configurationRead h addrs => exact execConfigurationRead_keeps (Keeps.refl s) h addrs
  | configurationReadServed t => exact execConfigurationReadServed_keeps (Keeps.refl s) t
  | powerFailWarning vin t => exact execPowerFailWarning_keeps (Keeps.refl s) vin t
  | finalFlushComplete => exact execFinalFlushComplete_keeps (Keeps.refl s)
  | holdUpLeft vin t => exact execHoldUpLeft_keeps (Keeps.refl s) vin t
  | orderlyStop t => exact execOrderlyStop_keeps (Keeps.refl s) t
  | hostDieResumed => exact execHostDieResumed_keeps (Keeps.refl s)
  | storeCharged t => exact execStoreCharged_keeps (Keeps.refl s) t
  | powerUp vin => exact execPowerUp_keeps (Keeps.refl s) vin
  | startUpStageEnd e t => exact execStartUpStageEnd_keeps (Keeps.refl s) e t
  | rstNLow hrst t => exact execRstNLow_keeps (Keeps.refl s) hrst t
  | mreset key t => exact execMreset_keeps (Keeps.refl s) key t
  | park key t => exact execPark_keeps (Keeps.refl s) key t
  | wake key t => exact execWake_keeps (Keeps.refl s) key t
  | void key => exact execVoid_keeps (Keeps.refl s) key
  | wakeComplete t => exact execWakeComplete_keeps (Keeps.refl s) t
  | dozeEntry pf => exact execDozeEntry_keeps (Keeps.refl s) pf
  | dozeUngate pf => exact execDozeUngate_keeps (Keeps.refl s) pf
  | watchdog1Expiry t => exact execWatchdog1Expiry_keeps (Keeps.refl s) t
  | watchdog2Expiry t => exact execWatchdog2Expiry_keeps (Keeps.refl s) t
  | watchdog3Expiry t => exact execWatchdog3Expiry_keeps (Keeps.refl s) t
  | pwrWdtWrite mgr t => exact execPwrWdtWrite_keeps (Keeps.refl s) mgr t
  | openLoad h totlen => exact execOpenLoad_keeps (Keeps.refl s) h totlen
  | dataChunk h offset bytes => exact execDataChunk_keeps (Keeps.refl s) h offset bytes
  | closeLoad h => exact execCloseLoad_keeps (Keeps.refl s) h
  | activate h slot digest t => exact execActivate_keeps (Keeps.refl s) h slot digest t
  | rulebookAbort h => exact execRulebookAbort_keeps (Keeps.refl s) h
  | verificationComplete => exact execVerificationComplete_keeps (Keeps.refl s)
  | activationFlushComplete t => exact execActivationFlushComplete_keeps (Keeps.refl s) t
  | amendmentRecord h payload t => exact execAmendmentRecord_keeps (Keeps.refl s) h payload t
  | frameReceived port f t => exact execFrameReceived_keeps (Keeps.refl s) port f t
  | pauseFrame port quanta t => exact execPauseFrame_keeps (Keeps.refl s) port quanta t
  | pauseExpired port t => exact execPauseExpired_keeps (Keeps.refl s) port t
  | transmitStart port buffered t ftag => exact execTransmitStart_keeps (Keeps.refl s) port buffered ftag t
  | transmitUnderrun port => exact execTransmitUnderrun_keeps (Keeps.refl s) port
  | utilisationWindow sb rxBits txBits => exact execUtilisationWindow_keeps (Keeps.refl s) sb rxBits txBits
  | renegotiationComplete sb => exact execRenegotiationComplete_keeps (Keeps.refl s) sb
  | collision bits t => exact execCollision_keeps (Keeps.refl s) bits t
  | rollExpired t => exact execRollExpired_keeps (Keeps.refl s) t
  | ft3Frame ft ok data t => exact execFt3Frame_keeps (Keeps.refl s) ft ok data t
  | ft3FrameMissing ft => exact execFt3FrameMissing_keeps (Keeps.refl s) ft
  | minonExpired drive t => exact execMinonExpired_keeps (Keeps.refl s) drive t
  | tripOverload drive => exact execTripOverload_keeps (Keeps.refl s) drive
  | overloadRetry drive overloaded t => exact execOverloadRetry_keeps (Keeps.refl s) drive overloaded t
  | openLoadFound drive => exact execOpenLoadFound_keeps (Keeps.refl s) drive
  | openLoadCleared drive => exact execOpenLoadCleared_keeps (Keeps.refl s) drive
  | portLinkUp port rate => exact execPortLinkUp_keeps (Keeps.refl s) port rate
  | linkStable port => exact execLinkStable_keeps (Keeps.refl s) port
  | portLinkDown port => exact execPortLinkDown_keeps (Keeps.refl s) port
  | statCounterLoRead addr => exact execStatCounterLoRead_keeps (Keeps.refl s) addr
  | syncTimeout tb => exact execSyncTimeout_keeps (Keeps.refl s) tb
  | announceReceiptTimeout tb => exact execAnnounceReceiptTimeout_keeps (Keeps.refl s) tb
  | holdoverExpired tb => exact execHoldoverExpired_keeps (Keeps.refl s) tb
  | irigFrame good toy yearStart leap qual t => exact execIrigFrame_keeps (Keeps.refl s) good toy yearStart leap qual t
  | irigFrameMissing => exact execIrigFrameMissing_keeps (Keeps.refl s)
  | leapSecond ins => exact execLeapSecond_keeps (Keeps.refl s) ins
  | ppsEdge t => exact execPpsEdge_keeps (Keeps.refl s) t
  | ppsEdgeMissing => exact execPpsEdgeMissing_keeps (Keeps.refl s)
  | setsecGo tb => exact execSetsecGo_keeps (Keeps.refl s) tb
  | toutOutput t => exact execToutOutput_keeps (Keeps.refl s) t
  | ptpQueuePop port => exact execPtpQueuePop_keeps (Keeps.refl s) port
  | generalQueuePop port => exact execGeneralQueuePop_keeps (Keeps.refl s) port
  | tbNsRead tb t => exact execTbNsRead_keeps (Keeps.refl s) tb t
  | timeStatusMessage => exact execTimeStatusMessage_keeps (Keeps.refl s)
  | sbPtpFrame h sb stamp m => exact execSbPtpFrame_keeps (Keeps.refl s) h sb stamp m
  | sbEgressStamp h ftag stamp => exact execSbEgressStamp_keeps (Keeps.refl s) h ftag stamp
  | cycleBoundary t => exact execCycleBoundary_keeps (Keeps.refl s) t
  | launchTask slot k t => exact execLaunchTask_keeps (Keeps.refl s) slot k t
  | launchQueueServed pf t => exact execLaunchQueueServed_keeps (Keeps.refl s) pf t
  | startAfeConversion slot k t => exact execStartAfeConversion_keeps (Keeps.refl s) slot k t
  | frameMark slot k t => exact execFrameMark_keeps (Keeps.refl s) slot k t
  | armRecorder slot k t => exact execArmRecorder_keeps (Keeps.refl s) slot k t
  | disarmRecorder slot k t => exact execDisarmRecorder_keeps (Keeps.refl s) slot k t
  | triggerRecorder slot k t => exact execTriggerRecorder_keeps (Keeps.refl s) slot k t
  | logicCycleStart slot k t => exact execLogicCycleStart_keeps (Keeps.refl s) slot k t
  | haltExchangeStart slot k t => exact execHaltExchangeStart_keeps (Keeps.refl s) slot k t
  | svRelease slot k t => exact execSvRelease_keeps (Keeps.refl s) slot k t
  | maintenanceWindow slot k temp t => exact execMaintenanceWindow_keeps (Keeps.refl s) slot k temp t
  | tokenRenewal slot k t => exact execTokenRenewal_keeps (Keeps.refl s) slot k t
  | bankSwitchRequest t => exact execBankSwitchRequest_keeps (Keeps.refl s) t
  | bankCheckComplete t => exact execBankCheckComplete_keeps (Keeps.refl s) t
  | bankSwitchCancel switch t => exact execBankSwitchCancel_keeps (Keeps.refl s) switch t
  | slotWrite bank slot w val => exact execSlotWrite_keeps (Keeps.refl s) bank slot w val
  | cycnumLoRead => exact execCycnumLoRead_keeps (Keeps.refl s)
  | frameParse t => exact execFrameParse_keeps (Keeps.refl s) t
  | sampleDeadline stream t parsing => exact execSampleDeadline_keeps (Keeps.refl s) stream parsing t
  | loadWindow t => exact execLoadWindow_keeps (Keeps.refl s) t
  | smpsynchReport stream t => exact execSmpsynchReport_keeps (Keeps.refl s) stream t
  | laneOutput lane t => exact execLaneOutput_keeps (Keeps.refl s) lane t
  | coastingHoldExpired fg atPoint => exact execCoastingHoldExpired_keeps (Keeps.refl s) fg atPoint
  | coeffBankSwitchRequest => exact execCoeffBankSwitchRequest_keeps (Keeps.refl s)
  | phaseDelayWrite lane int frac => exact execPhaseDelayWrite_keeps (Keeps.refl s) lane int frac
  | dcrst lane => exact execDcrst_keeps (Keeps.refl s) lane
  | fgIdxLoRead fg => exact execFgIdxLoRead_keeps (Keeps.refl s) fg
  | phasorPush pf ofs accs => exact execPhasorPush_keeps (Keeps.refl s) pf ofs accs
  | phasorDescriptorDone pf => exact execPhasorDescriptorDone_keeps (Keeps.refl s) pf
  | budgetOverrun pf => exact execBudgetOverrun_keeps (Keeps.refl s) pf
  | deadline pf clocks cl accs t => exact execDeadline_keeps (Keeps.refl s) pf clocks cl accs t
  | ecall pf a7 clocks cl accs t => exact execEcall_keeps (Keeps.refl s) pf a7 clocks cl accs t
  | trap pf cause clocks cl accs t => exact execTrap_keeps (Keeps.refl s) pf cause clocks cl accs t
  | commit pf t => exact execCommit_keeps (Keeps.refl s) pf t
  | lockstepMismatch pf t => exact execLockstepMismatch_keeps (Keeps.refl s) pf t
  | uncorrectableEccError memory pf addr t => exact execUncorrectableEccError_keeps (Keeps.refl s) memory pf addr t
  | correctableEccError memory pf => exact execCorrectableEccError_keeps (Keeps.refl s) memory pf
  | spareRestartComplete t => exact execSpareRestartComplete_keeps (Keeps.refl s) t
  | decisionPeriod cl t => exact execDecisionPeriod_keeps (Keeps.refl s) cl t
  | measurementClear task inst => exact execMeasurementClear_keeps (Keeps.refl s) task inst
  | boundWrite inst reg val => exact execBoundWrite_keeps (Keeps.refl s) inst reg val
  | retransmissionPoint tpl t atCommit => exact execRetransmissionPoint_keeps (Keeps.refl s) tpl atCommit t
  | digestSend cycle t => exact execDigestSend_keeps (Keeps.refl s) cycle t
  | digestFrame tw h cycle digest t => exact execDigestFrame_keeps (Keeps.refl s) tw h cycle digest t
  | digestTimeout cycle => exact execDigestTimeout_keeps (Keeps.refl s) cycle
  | subscriptionMirror h queue kind sbport stamp body => exact execSubscriptionMirror_keeps (Keeps.refl s) h queue kind sbport stamp body
  | acqArm rec => exact execAcqArm_keeps (Keeps.refl s) rec
  | acqDisarm rec => exact execAcqDisarm_keeps (Keeps.refl s) rec
  | acqTrig rec t => exact execAcqTrig_keeps (Keeps.refl s) rec t
  | acqRelease rec => exact execAcqRelease_keeps (Keeps.refl s) rec
  | lclRectrig pf mask t => exact execLclRectrig_keeps (Keeps.refl s) pf mask t
  | prefillComplete rec => exact execPrefillComplete_keeps (Keeps.refl s) rec
  | captureWindowEnd rec t => exact execCaptureWindowEnd_keeps (Keeps.refl s) rec t
  | holdOffEnd rec t => exact execHoldOffEnd_keeps (Keeps.refl s) rec t
  | exportComplete rec => exact execExportComplete_keeps (Keeps.refl s) rec
  | historyRequest => exact execHistoryRequest_keeps (Keeps.refl s)
  | historyRequestComplete => exact execHistoryRequestComplete_keeps (Keeps.refl s)
  | conversionComplete ch code => exact execConversionComplete_keeps (Keeps.refl s) ch code
  | afeResRead ch => exact execAfeResRead_keeps (Keeps.refl s) ch
  | calibrationPageRead h => exact execCalibrationPageRead_keeps (Keeps.refl s) h
  | calibrationPageWrite h image => exact execCalibrationPageWrite_keeps (Keeps.refl s) h image
  | calibrationPageWriteComplete t => exact execCalibrationPageWriteComplete_keeps (Keeps.refl s) t
  | logicCommit clocks t => exact execLogicCommit_keeps (Keeps.refl s) clocks t
  | logicCycleAbort t => exact execLogicCycleAbort_keeps (Keeps.refl s) t
  | logicRun => exact execLogicRun_keeps (Keeps.refl s)
  | logicStop => exact execLogicStop_keeps (Keeps.refl s)
  | logicHold => exact execLogicHold_keeps (Keeps.refl s)
  | logicContinue => exact execLogicContinue_keeps (Keeps.refl s)
  | logicStep => exact execLogicStep_keeps (Keeps.refl s)
  | logicCold => exact execLogicCold_keeps (Keeps.refl s)
  | logicWarm => exact execLogicWarm_keeps (Keeps.refl s)
  | cyclePause pc => exact execCyclePause_keeps (Keeps.refl s) pc
  | breakpointHit n => exact execBreakpointHit_keeps (Keeps.refl s) n
  | haltReply port payload t => exact execHaltReply_keeps (Keeps.refl s) port payload t
  | replyWindowClose t => exact execReplyWindowClose_keeps (Keeps.refl s) t
  | instanceStart inst => exact execInstanceStart_keeps (Keeps.refl s) inst
  | instanceReset inst t => exact execInstanceReset_keeps (Keeps.refl s) inst t
  | instanceRestart inst t => exact execInstanceRestart_keeps (Keeps.refl s) inst t
  | instanceResetComplete inst => exact execInstanceResetComplete_keeps (Keeps.refl s) inst
  | quotaWrite inst reg val => exact execQuotaWrite_keeps (Keeps.refl s) inst reg val
  | heapSizeWrite inst size => exact execHeapSizeWrite_keeps (Keeps.refl s) inst size
  | queueOwnerWrite q owner => exact execQueueOwnerWrite_keeps (Keeps.refl s) q owner
  | mailboxToInstance h op payload => exact execMailboxToInstance_keeps (Keeps.refl s) h op payload
  | mailboxDoorbell h => exact execMailboxDoorbell_keeps (Keeps.refl s) h
  | mailboxPop pf => exact execMailboxPop_keeps (Keeps.refl s) pf
  | mailboxPush pf op len staging t => exact execMailboxPush_keeps (Keeps.refl s) pf op len staging t
  | semaphoreTry who n => exact execSemaphoreTry_keeps (Keeps.refl s) who n
  | semaphoreRelease who n clearBroken => exact execSemaphoreRelease_keeps (Keeps.refl s) who n clearBroken
  | channelStart c => exact execChannelStart_keeps (Keeps.refl s) c
  | queuePush q desc => exact execQueuePush_keeps (Keeps.refl s) q desc
  | channelDoorbell c => exact execChannelDoorbell_keeps (Keeps.refl s) c
  | channelResume c => exact execChannelResume_keeps (Keeps.refl s) c
  | channelAbort c => exact execChannelAbort_keeps (Keeps.refl s) c
  | errclr c => exact execErrclr_keeps (Keeps.refl s) c
  | descriptorComplete c => exact execDescriptorComplete_keeps (Keeps.refl s) c
  | busError c addr write moved => exact execBusError_keeps (Keeps.refl s) c addr write moved
  | grantDecision arb reqs => exact execGrantDecision_keeps (Keeps.refl s) arb reqs
  | keyinfo h slot => exact execKeyinfo_keeps (Keeps.refl s) h slot
  | importKey h slot wslot use alg attest kcv wrapped => exact execImportKey_keeps (Keeps.refl s) h slot wslot use alg attest kcv wrapped
  | vaultCommit h slot => exact execVaultCommit_keeps (Keeps.refl s) h slot
  | vaultCancel h slot => exact execVaultCancel_keeps (Keeps.refl s) h slot
  | erase h slot => exact execErase_keeps (Keeps.refl s) h slot
  | derive h sslot tslot use alg attest salt info => exact execDerive_keeps (Keeps.refl s) h sslot tslot use alg attest salt info
  | mac h slot iv data => exact execMac_keeps (Keeps.refl s) h slot iv data
  | verify h slot iv dataTag => exact execVerify_keeps (Keeps.refl s) h slot iv dataTag
  | encrypt h slot aad plain => exact execEncrypt_keeps (Keeps.refl s) h slot aad plain
  | decrypt h slot iv aad cipher gtag => exact execDecrypt_keeps (Keeps.refl s) h slot iv aad cipher gtag
  | anchor h idx key sig => exact execAnchor_keeps (Keeps.refl s) h idx key sig
  | attest h slot nonce => exact execAttest_keeps (Keeps.refl s) h slot nonce
  | selftest h => exact execSelftest_keeps (Keeps.refl s) h
  | selftestComplete firstFail badSlots => exact execSelftestComplete_keeps (Keeps.refl s) firstFail badSlots
  | catchupRenewal t => exact execCatchupRenewal_keeps (Keeps.refl s) t
  | renewFrame tw h pos rseq takeseq relay t => exact execRenewFrame_keeps (Keeps.refl s) tw h pos rseq takeseq relay t
  | acknowledgeFrame tw h pos rseq t => exact execAcknowledgeFrame_keeps (Keeps.refl s) tw h pos rseq t
  | checkpointFrame tw h inst dhash period offset total image t => exact execCheckpointFrame_keeps (Keeps.refl s) tw h inst dhash period offset total image t
  | retainFrame tw h cycle first lines t => exact execRetainFrame_keeps (Keeps.refl s) tw h cycle first lines t
  | leaseExpiry t => exact execLeaseExpiry_keeps (Keeps.refl s) t
  | tokenTake pos t renewal => exact execTokenTake_keeps (Keeps.refl s) pos renewal t
  | take key pos t => exact execTake_keeps (Keeps.refl s) key pos t
  | release key t => exact execRelease_keeps (Keeps.refl s) key t
  | pairLinkDown tw t => exact execPairLinkDown_keeps (Keeps.refl s) tw t
  | peerLost peer t => exact execPeerLost_keeps (Keeps.refl s) peer t
  | checkpointStream t => exact execCheckpointStream_keeps (Keeps.refl s) t
  | retainMirrorWrite t => exact execRetainMirrorWrite_keeps (Keeps.refl s) t
  | redundancyStatus t => exact execRedundancyStatus_keeps (Keeps.refl s) t
  | hrstNLow => exact execHrstNLow_keeps (Keeps.refl s)
  | hlPerstN => exact execHlPerstN_keeps (Keeps.refl s)
  | pllLostLock isl => exact execPllLostLock_keeps (Keeps.refl s) isl
  | syncTransmission tb kind => exact execSyncTransmission_keeps (Keeps.refl s) tb kind
  | malformedMessage cls op h => exact execMalformedMessage_keeps (Keeps.refl s) cls op h
  | transmitBufferHalfFull sb => exact execTransmitBufferHalfFull_keeps (Keeps.refl s) sb
  | rstNReleased => exact execRstNReleased_keeps (Keeps.refl s)

end Sys2Proof.Machine
end

