-- ==== Sys2Proof/Laws/State.lean ====
section
/-!
SUPPORT. One lemma per field per setter of State, each true by unfolding, so that no proof unfolds a record update.
-/
namespace Sys2Proof.Machine

@[simp] theorem State.setPending_pending (s : State) (v : List Instr) : (s.setPending v).pending = v := rfl
@[simp] theorem State.setPending_regs (s : State) (v : List Instr) : (s.setPending v).regs = s.regs := rfl
@[simp] theorem State.setPending_mem (s : State) (v : List Instr) : (s.setPending v).mem = s.mem := rfl
@[simp] theorem State.setPending_now (s : State) (v : List Instr) : (s.setPending v).now = s.now := rfl
@[simp] theorem State.setPending_free (s : State) (v : List Instr) : (s.setPending v).free = s.free := rfl
@[simp] theorem State.setPending_log (s : State) (v : List Instr) : (s.setPending v).log = s.log := rfl
@[simp] theorem State.setPending_snap (s : State) (v : List Instr) : (s.setPending v).snap = s.snap := rfl
@[simp] theorem State.setPending_link (s : State) (v : List Instr) : (s.setPending v).link = s.link := rfl
@[simp] theorem State.setPending_host (s : State) (v : List Instr) : (s.setPending v).host = s.host := rfl
@[simp] theorem State.setPending_power (s : State) (v : List Instr) : (s.setPending v).power = s.power := rfl
@[simp] theorem State.setPending_rbk (s : State) (v : List Instr) : (s.setPending v).rbk = s.rbk := rfl
@[simp] theorem State.setPending_ports (s : State) (v : List Instr) : (s.setPending v).ports = s.ports := rfl
@[simp] theorem State.setPending_trips (s : State) (v : List Instr) : (s.setPending v).trips = s.trips := rfl
@[simp] theorem State.setPending_tbs (s : State) (v : List Instr) : (s.setPending v).tbs = s.tbs := rfl
@[simp] theorem State.setPending_tin (s : State) (v : List Instr) : (s.setPending v).tin = s.tin := rfl
@[simp] theorem State.setPending_ttb (s : State) (v : List Instr) : (s.setPending v).ttb = s.ttb := rfl
@[simp] theorem State.setPending_svi (s : State) (v : List Instr) : (s.setPending v).svi = s.svi := rfl
@[simp] theorem State.setPending_fch (s : State) (v : List Instr) : (s.setPending v).fch = s.fch := rfl
@[simp] theorem State.setPending_pfs (s : State) (v : List Instr) : (s.setPending v).pfs = s.pfs := rfl
@[simp] theorem State.setPending_mar (s : State) (v : List Instr) : (s.setPending v).mar = s.mar := rfl
@[simp] theorem State.setPending_pub (s : State) (v : List Instr) : (s.setPending v).pub = s.pub := rfl
@[simp] theorem State.setPending_acq (s : State) (v : List Instr) : (s.setPending v).acq = s.acq := rfl
@[simp] theorem State.setPending_lge (s : State) (v : List Instr) : (s.setPending v).lge = s.lge := rfl
@[simp] theorem State.setPending_hlx (s : State) (v : List Instr) : (s.setPending v).hlx = s.hlx := rfl
@[simp] theorem State.setPending_ins (s : State) (v : List Instr) : (s.setPending v).ins = s.ins := rfl
@[simp] theorem State.setPending_vlt (s : State) (v : List Instr) : (s.setPending v).vlt = s.vlt := rfl
@[simp] theorem State.setPending_tok (s : State) (v : List Instr) : (s.setPending v).tok = s.tok := rfl

@[simp] theorem State.setRegs_pending (s : State) (v : List (Nat × Nat)) : (s.setRegs v).pending = s.pending := rfl
@[simp] theorem State.setRegs_regs (s : State) (v : List (Nat × Nat)) : (s.setRegs v).regs = v := rfl
@[simp] theorem State.setRegs_mem (s : State) (v : List (Nat × Nat)) : (s.setRegs v).mem = s.mem := rfl
@[simp] theorem State.setRegs_now (s : State) (v : List (Nat × Nat)) : (s.setRegs v).now = s.now := rfl
@[simp] theorem State.setRegs_free (s : State) (v : List (Nat × Nat)) : (s.setRegs v).free = s.free := rfl
@[simp] theorem State.setRegs_log (s : State) (v : List (Nat × Nat)) : (s.setRegs v).log = s.log := rfl
@[simp] theorem State.setRegs_snap (s : State) (v : List (Nat × Nat)) : (s.setRegs v).snap = s.snap := rfl
@[simp] theorem State.setRegs_link (s : State) (v : List (Nat × Nat)) : (s.setRegs v).link = s.link := rfl
@[simp] theorem State.setRegs_host (s : State) (v : List (Nat × Nat)) : (s.setRegs v).host = s.host := rfl
@[simp] theorem State.setRegs_power (s : State) (v : List (Nat × Nat)) : (s.setRegs v).power = s.power := rfl
@[simp] theorem State.setRegs_rbk (s : State) (v : List (Nat × Nat)) : (s.setRegs v).rbk = s.rbk := rfl
@[simp] theorem State.setRegs_ports (s : State) (v : List (Nat × Nat)) : (s.setRegs v).ports = s.ports := rfl
@[simp] theorem State.setRegs_trips (s : State) (v : List (Nat × Nat)) : (s.setRegs v).trips = s.trips := rfl
@[simp] theorem State.setRegs_tbs (s : State) (v : List (Nat × Nat)) : (s.setRegs v).tbs = s.tbs := rfl
@[simp] theorem State.setRegs_tin (s : State) (v : List (Nat × Nat)) : (s.setRegs v).tin = s.tin := rfl
@[simp] theorem State.setRegs_ttb (s : State) (v : List (Nat × Nat)) : (s.setRegs v).ttb = s.ttb := rfl
@[simp] theorem State.setRegs_svi (s : State) (v : List (Nat × Nat)) : (s.setRegs v).svi = s.svi := rfl
@[simp] theorem State.setRegs_fch (s : State) (v : List (Nat × Nat)) : (s.setRegs v).fch = s.fch := rfl
@[simp] theorem State.setRegs_pfs (s : State) (v : List (Nat × Nat)) : (s.setRegs v).pfs = s.pfs := rfl
@[simp] theorem State.setRegs_mar (s : State) (v : List (Nat × Nat)) : (s.setRegs v).mar = s.mar := rfl
@[simp] theorem State.setRegs_pub (s : State) (v : List (Nat × Nat)) : (s.setRegs v).pub = s.pub := rfl
@[simp] theorem State.setRegs_acq (s : State) (v : List (Nat × Nat)) : (s.setRegs v).acq = s.acq := rfl
@[simp] theorem State.setRegs_lge (s : State) (v : List (Nat × Nat)) : (s.setRegs v).lge = s.lge := rfl
@[simp] theorem State.setRegs_hlx (s : State) (v : List (Nat × Nat)) : (s.setRegs v).hlx = s.hlx := rfl
@[simp] theorem State.setRegs_ins (s : State) (v : List (Nat × Nat)) : (s.setRegs v).ins = s.ins := rfl
@[simp] theorem State.setRegs_vlt (s : State) (v : List (Nat × Nat)) : (s.setRegs v).vlt = s.vlt := rfl
@[simp] theorem State.setRegs_tok (s : State) (v : List (Nat × Nat)) : (s.setRegs v).tok = s.tok := rfl

@[simp] theorem State.setMem_pending (s : State) (v : List Host.Cell) : (s.setMem v).pending = s.pending := rfl
@[simp] theorem State.setMem_regs (s : State) (v : List Host.Cell) : (s.setMem v).regs = s.regs := rfl
@[simp] theorem State.setMem_mem (s : State) (v : List Host.Cell) : (s.setMem v).mem = v := rfl
@[simp] theorem State.setMem_now (s : State) (v : List Host.Cell) : (s.setMem v).now = s.now := rfl
@[simp] theorem State.setMem_free (s : State) (v : List Host.Cell) : (s.setMem v).free = s.free := rfl
@[simp] theorem State.setMem_log (s : State) (v : List Host.Cell) : (s.setMem v).log = s.log := rfl
@[simp] theorem State.setMem_snap (s : State) (v : List Host.Cell) : (s.setMem v).snap = s.snap := rfl
@[simp] theorem State.setMem_link (s : State) (v : List Host.Cell) : (s.setMem v).link = s.link := rfl
@[simp] theorem State.setMem_host (s : State) (v : List Host.Cell) : (s.setMem v).host = s.host := rfl
@[simp] theorem State.setMem_power (s : State) (v : List Host.Cell) : (s.setMem v).power = s.power := rfl
@[simp] theorem State.setMem_rbk (s : State) (v : List Host.Cell) : (s.setMem v).rbk = s.rbk := rfl
@[simp] theorem State.setMem_ports (s : State) (v : List Host.Cell) : (s.setMem v).ports = s.ports := rfl
@[simp] theorem State.setMem_trips (s : State) (v : List Host.Cell) : (s.setMem v).trips = s.trips := rfl
@[simp] theorem State.setMem_tbs (s : State) (v : List Host.Cell) : (s.setMem v).tbs = s.tbs := rfl
@[simp] theorem State.setMem_tin (s : State) (v : List Host.Cell) : (s.setMem v).tin = s.tin := rfl
@[simp] theorem State.setMem_ttb (s : State) (v : List Host.Cell) : (s.setMem v).ttb = s.ttb := rfl
@[simp] theorem State.setMem_svi (s : State) (v : List Host.Cell) : (s.setMem v).svi = s.svi := rfl
@[simp] theorem State.setMem_fch (s : State) (v : List Host.Cell) : (s.setMem v).fch = s.fch := rfl
@[simp] theorem State.setMem_pfs (s : State) (v : List Host.Cell) : (s.setMem v).pfs = s.pfs := rfl
@[simp] theorem State.setMem_mar (s : State) (v : List Host.Cell) : (s.setMem v).mar = s.mar := rfl
@[simp] theorem State.setMem_pub (s : State) (v : List Host.Cell) : (s.setMem v).pub = s.pub := rfl
@[simp] theorem State.setMem_acq (s : State) (v : List Host.Cell) : (s.setMem v).acq = s.acq := rfl
@[simp] theorem State.setMem_lge (s : State) (v : List Host.Cell) : (s.setMem v).lge = s.lge := rfl
@[simp] theorem State.setMem_hlx (s : State) (v : List Host.Cell) : (s.setMem v).hlx = s.hlx := rfl
@[simp] theorem State.setMem_ins (s : State) (v : List Host.Cell) : (s.setMem v).ins = s.ins := rfl
@[simp] theorem State.setMem_vlt (s : State) (v : List Host.Cell) : (s.setMem v).vlt = s.vlt := rfl
@[simp] theorem State.setMem_tok (s : State) (v : List Host.Cell) : (s.setMem v).tok = s.tok := rfl

@[simp] theorem State.setNow_pending (s : State) (v : Nat) : (s.setNow v).pending = s.pending := rfl
@[simp] theorem State.setNow_regs (s : State) (v : Nat) : (s.setNow v).regs = s.regs := rfl
@[simp] theorem State.setNow_mem (s : State) (v : Nat) : (s.setNow v).mem = s.mem := rfl
@[simp] theorem State.setNow_now (s : State) (v : Nat) : (s.setNow v).now = v := rfl
@[simp] theorem State.setNow_free (s : State) (v : Nat) : (s.setNow v).free = s.free := rfl
@[simp] theorem State.setNow_log (s : State) (v : Nat) : (s.setNow v).log = s.log := rfl
@[simp] theorem State.setNow_snap (s : State) (v : Nat) : (s.setNow v).snap = s.snap := rfl
@[simp] theorem State.setNow_link (s : State) (v : Nat) : (s.setNow v).link = s.link := rfl
@[simp] theorem State.setNow_host (s : State) (v : Nat) : (s.setNow v).host = s.host := rfl
@[simp] theorem State.setNow_power (s : State) (v : Nat) : (s.setNow v).power = s.power := rfl
@[simp] theorem State.setNow_rbk (s : State) (v : Nat) : (s.setNow v).rbk = s.rbk := rfl
@[simp] theorem State.setNow_ports (s : State) (v : Nat) : (s.setNow v).ports = s.ports := rfl
@[simp] theorem State.setNow_trips (s : State) (v : Nat) : (s.setNow v).trips = s.trips := rfl
@[simp] theorem State.setNow_tbs (s : State) (v : Nat) : (s.setNow v).tbs = s.tbs := rfl
@[simp] theorem State.setNow_tin (s : State) (v : Nat) : (s.setNow v).tin = s.tin := rfl
@[simp] theorem State.setNow_ttb (s : State) (v : Nat) : (s.setNow v).ttb = s.ttb := rfl
@[simp] theorem State.setNow_svi (s : State) (v : Nat) : (s.setNow v).svi = s.svi := rfl
@[simp] theorem State.setNow_fch (s : State) (v : Nat) : (s.setNow v).fch = s.fch := rfl
@[simp] theorem State.setNow_pfs (s : State) (v : Nat) : (s.setNow v).pfs = s.pfs := rfl
@[simp] theorem State.setNow_mar (s : State) (v : Nat) : (s.setNow v).mar = s.mar := rfl
@[simp] theorem State.setNow_pub (s : State) (v : Nat) : (s.setNow v).pub = s.pub := rfl
@[simp] theorem State.setNow_acq (s : State) (v : Nat) : (s.setNow v).acq = s.acq := rfl
@[simp] theorem State.setNow_lge (s : State) (v : Nat) : (s.setNow v).lge = s.lge := rfl
@[simp] theorem State.setNow_hlx (s : State) (v : Nat) : (s.setNow v).hlx = s.hlx := rfl
@[simp] theorem State.setNow_ins (s : State) (v : Nat) : (s.setNow v).ins = s.ins := rfl
@[simp] theorem State.setNow_vlt (s : State) (v : Nat) : (s.setNow v).vlt = s.vlt := rfl
@[simp] theorem State.setNow_tok (s : State) (v : Nat) : (s.setNow v).tok = s.tok := rfl

@[simp] theorem State.setFree_pending (s : State) (v : Nat) : (s.setFree v).pending = s.pending := rfl
@[simp] theorem State.setFree_regs (s : State) (v : Nat) : (s.setFree v).regs = s.regs := rfl
@[simp] theorem State.setFree_mem (s : State) (v : Nat) : (s.setFree v).mem = s.mem := rfl
@[simp] theorem State.setFree_now (s : State) (v : Nat) : (s.setFree v).now = s.now := rfl
@[simp] theorem State.setFree_free (s : State) (v : Nat) : (s.setFree v).free = v := rfl
@[simp] theorem State.setFree_log (s : State) (v : Nat) : (s.setFree v).log = s.log := rfl
@[simp] theorem State.setFree_snap (s : State) (v : Nat) : (s.setFree v).snap = s.snap := rfl
@[simp] theorem State.setFree_link (s : State) (v : Nat) : (s.setFree v).link = s.link := rfl
@[simp] theorem State.setFree_host (s : State) (v : Nat) : (s.setFree v).host = s.host := rfl
@[simp] theorem State.setFree_power (s : State) (v : Nat) : (s.setFree v).power = s.power := rfl
@[simp] theorem State.setFree_rbk (s : State) (v : Nat) : (s.setFree v).rbk = s.rbk := rfl
@[simp] theorem State.setFree_ports (s : State) (v : Nat) : (s.setFree v).ports = s.ports := rfl
@[simp] theorem State.setFree_trips (s : State) (v : Nat) : (s.setFree v).trips = s.trips := rfl
@[simp] theorem State.setFree_tbs (s : State) (v : Nat) : (s.setFree v).tbs = s.tbs := rfl
@[simp] theorem State.setFree_tin (s : State) (v : Nat) : (s.setFree v).tin = s.tin := rfl
@[simp] theorem State.setFree_ttb (s : State) (v : Nat) : (s.setFree v).ttb = s.ttb := rfl
@[simp] theorem State.setFree_svi (s : State) (v : Nat) : (s.setFree v).svi = s.svi := rfl
@[simp] theorem State.setFree_fch (s : State) (v : Nat) : (s.setFree v).fch = s.fch := rfl
@[simp] theorem State.setFree_pfs (s : State) (v : Nat) : (s.setFree v).pfs = s.pfs := rfl
@[simp] theorem State.setFree_mar (s : State) (v : Nat) : (s.setFree v).mar = s.mar := rfl
@[simp] theorem State.setFree_pub (s : State) (v : Nat) : (s.setFree v).pub = s.pub := rfl
@[simp] theorem State.setFree_acq (s : State) (v : Nat) : (s.setFree v).acq = s.acq := rfl
@[simp] theorem State.setFree_lge (s : State) (v : Nat) : (s.setFree v).lge = s.lge := rfl
@[simp] theorem State.setFree_hlx (s : State) (v : Nat) : (s.setFree v).hlx = s.hlx := rfl
@[simp] theorem State.setFree_ins (s : State) (v : Nat) : (s.setFree v).ins = s.ins := rfl
@[simp] theorem State.setFree_vlt (s : State) (v : Nat) : (s.setFree v).vlt = s.vlt := rfl
@[simp] theorem State.setFree_tok (s : State) (v : Nat) : (s.setFree v).tok = s.tok := rfl

@[simp] theorem State.setLog_pending (s : State) (v : List Event) : (s.setLog v).pending = s.pending := rfl
@[simp] theorem State.setLog_regs (s : State) (v : List Event) : (s.setLog v).regs = s.regs := rfl
@[simp] theorem State.setLog_mem (s : State) (v : List Event) : (s.setLog v).mem = s.mem := rfl
@[simp] theorem State.setLog_now (s : State) (v : List Event) : (s.setLog v).now = s.now := rfl
@[simp] theorem State.setLog_free (s : State) (v : List Event) : (s.setLog v).free = s.free := rfl
@[simp] theorem State.setLog_log (s : State) (v : List Event) : (s.setLog v).log = v := rfl
@[simp] theorem State.setLog_snap (s : State) (v : List Event) : (s.setLog v).snap = s.snap := rfl
@[simp] theorem State.setLog_link (s : State) (v : List Event) : (s.setLog v).link = s.link := rfl
@[simp] theorem State.setLog_host (s : State) (v : List Event) : (s.setLog v).host = s.host := rfl
@[simp] theorem State.setLog_power (s : State) (v : List Event) : (s.setLog v).power = s.power := rfl
@[simp] theorem State.setLog_rbk (s : State) (v : List Event) : (s.setLog v).rbk = s.rbk := rfl
@[simp] theorem State.setLog_ports (s : State) (v : List Event) : (s.setLog v).ports = s.ports := rfl
@[simp] theorem State.setLog_trips (s : State) (v : List Event) : (s.setLog v).trips = s.trips := rfl
@[simp] theorem State.setLog_tbs (s : State) (v : List Event) : (s.setLog v).tbs = s.tbs := rfl
@[simp] theorem State.setLog_tin (s : State) (v : List Event) : (s.setLog v).tin = s.tin := rfl
@[simp] theorem State.setLog_ttb (s : State) (v : List Event) : (s.setLog v).ttb = s.ttb := rfl
@[simp] theorem State.setLog_svi (s : State) (v : List Event) : (s.setLog v).svi = s.svi := rfl
@[simp] theorem State.setLog_fch (s : State) (v : List Event) : (s.setLog v).fch = s.fch := rfl
@[simp] theorem State.setLog_pfs (s : State) (v : List Event) : (s.setLog v).pfs = s.pfs := rfl
@[simp] theorem State.setLog_mar (s : State) (v : List Event) : (s.setLog v).mar = s.mar := rfl
@[simp] theorem State.setLog_pub (s : State) (v : List Event) : (s.setLog v).pub = s.pub := rfl
@[simp] theorem State.setLog_acq (s : State) (v : List Event) : (s.setLog v).acq = s.acq := rfl
@[simp] theorem State.setLog_lge (s : State) (v : List Event) : (s.setLog v).lge = s.lge := rfl
@[simp] theorem State.setLog_hlx (s : State) (v : List Event) : (s.setLog v).hlx = s.hlx := rfl
@[simp] theorem State.setLog_ins (s : State) (v : List Event) : (s.setLog v).ins = s.ins := rfl
@[simp] theorem State.setLog_vlt (s : State) (v : List Event) : (s.setLog v).vlt = s.vlt := rfl
@[simp] theorem State.setLog_tok (s : State) (v : List Event) : (s.setLog v).tok = s.tok := rfl

@[simp] theorem State.setSnap_pending (s : State) (v : List (Nat × Nat)) : (s.setSnap v).pending = s.pending := rfl
@[simp] theorem State.setSnap_regs (s : State) (v : List (Nat × Nat)) : (s.setSnap v).regs = s.regs := rfl
@[simp] theorem State.setSnap_mem (s : State) (v : List (Nat × Nat)) : (s.setSnap v).mem = s.mem := rfl
@[simp] theorem State.setSnap_now (s : State) (v : List (Nat × Nat)) : (s.setSnap v).now = s.now := rfl
@[simp] theorem State.setSnap_free (s : State) (v : List (Nat × Nat)) : (s.setSnap v).free = s.free := rfl
@[simp] theorem State.setSnap_log (s : State) (v : List (Nat × Nat)) : (s.setSnap v).log = s.log := rfl
@[simp] theorem State.setSnap_snap (s : State) (v : List (Nat × Nat)) : (s.setSnap v).snap = v := rfl
@[simp] theorem State.setSnap_link (s : State) (v : List (Nat × Nat)) : (s.setSnap v).link = s.link := rfl
@[simp] theorem State.setSnap_host (s : State) (v : List (Nat × Nat)) : (s.setSnap v).host = s.host := rfl
@[simp] theorem State.setSnap_power (s : State) (v : List (Nat × Nat)) : (s.setSnap v).power = s.power := rfl
@[simp] theorem State.setSnap_rbk (s : State) (v : List (Nat × Nat)) : (s.setSnap v).rbk = s.rbk := rfl
@[simp] theorem State.setSnap_ports (s : State) (v : List (Nat × Nat)) : (s.setSnap v).ports = s.ports := rfl
@[simp] theorem State.setSnap_trips (s : State) (v : List (Nat × Nat)) : (s.setSnap v).trips = s.trips := rfl
@[simp] theorem State.setSnap_tbs (s : State) (v : List (Nat × Nat)) : (s.setSnap v).tbs = s.tbs := rfl
@[simp] theorem State.setSnap_tin (s : State) (v : List (Nat × Nat)) : (s.setSnap v).tin = s.tin := rfl
@[simp] theorem State.setSnap_ttb (s : State) (v : List (Nat × Nat)) : (s.setSnap v).ttb = s.ttb := rfl
@[simp] theorem State.setSnap_svi (s : State) (v : List (Nat × Nat)) : (s.setSnap v).svi = s.svi := rfl
@[simp] theorem State.setSnap_fch (s : State) (v : List (Nat × Nat)) : (s.setSnap v).fch = s.fch := rfl
@[simp] theorem State.setSnap_pfs (s : State) (v : List (Nat × Nat)) : (s.setSnap v).pfs = s.pfs := rfl
@[simp] theorem State.setSnap_mar (s : State) (v : List (Nat × Nat)) : (s.setSnap v).mar = s.mar := rfl
@[simp] theorem State.setSnap_pub (s : State) (v : List (Nat × Nat)) : (s.setSnap v).pub = s.pub := rfl
@[simp] theorem State.setSnap_acq (s : State) (v : List (Nat × Nat)) : (s.setSnap v).acq = s.acq := rfl
@[simp] theorem State.setSnap_lge (s : State) (v : List (Nat × Nat)) : (s.setSnap v).lge = s.lge := rfl
@[simp] theorem State.setSnap_hlx (s : State) (v : List (Nat × Nat)) : (s.setSnap v).hlx = s.hlx := rfl
@[simp] theorem State.setSnap_ins (s : State) (v : List (Nat × Nat)) : (s.setSnap v).ins = s.ins := rfl
@[simp] theorem State.setSnap_vlt (s : State) (v : List (Nat × Nat)) : (s.setSnap v).vlt = s.vlt := rfl
@[simp] theorem State.setSnap_tok (s : State) (v : List (Nat × Nat)) : (s.setSnap v).tok = s.tok := rfl

@[simp] theorem State.setLink_pending (s : State) (v : LinkS) : (s.setLink v).pending = s.pending := rfl
@[simp] theorem State.setLink_regs (s : State) (v : LinkS) : (s.setLink v).regs = s.regs := rfl
@[simp] theorem State.setLink_mem (s : State) (v : LinkS) : (s.setLink v).mem = s.mem := rfl
@[simp] theorem State.setLink_now (s : State) (v : LinkS) : (s.setLink v).now = s.now := rfl
@[simp] theorem State.setLink_free (s : State) (v : LinkS) : (s.setLink v).free = s.free := rfl
@[simp] theorem State.setLink_log (s : State) (v : LinkS) : (s.setLink v).log = s.log := rfl
@[simp] theorem State.setLink_snap (s : State) (v : LinkS) : (s.setLink v).snap = s.snap := rfl
@[simp] theorem State.setLink_link (s : State) (v : LinkS) : (s.setLink v).link = v := rfl
@[simp] theorem State.setLink_host (s : State) (v : LinkS) : (s.setLink v).host = s.host := rfl
@[simp] theorem State.setLink_power (s : State) (v : LinkS) : (s.setLink v).power = s.power := rfl
@[simp] theorem State.setLink_rbk (s : State) (v : LinkS) : (s.setLink v).rbk = s.rbk := rfl
@[simp] theorem State.setLink_ports (s : State) (v : LinkS) : (s.setLink v).ports = s.ports := rfl
@[simp] theorem State.setLink_trips (s : State) (v : LinkS) : (s.setLink v).trips = s.trips := rfl
@[simp] theorem State.setLink_tbs (s : State) (v : LinkS) : (s.setLink v).tbs = s.tbs := rfl
@[simp] theorem State.setLink_tin (s : State) (v : LinkS) : (s.setLink v).tin = s.tin := rfl
@[simp] theorem State.setLink_ttb (s : State) (v : LinkS) : (s.setLink v).ttb = s.ttb := rfl
@[simp] theorem State.setLink_svi (s : State) (v : LinkS) : (s.setLink v).svi = s.svi := rfl
@[simp] theorem State.setLink_fch (s : State) (v : LinkS) : (s.setLink v).fch = s.fch := rfl
@[simp] theorem State.setLink_pfs (s : State) (v : LinkS) : (s.setLink v).pfs = s.pfs := rfl
@[simp] theorem State.setLink_mar (s : State) (v : LinkS) : (s.setLink v).mar = s.mar := rfl
@[simp] theorem State.setLink_pub (s : State) (v : LinkS) : (s.setLink v).pub = s.pub := rfl
@[simp] theorem State.setLink_acq (s : State) (v : LinkS) : (s.setLink v).acq = s.acq := rfl
@[simp] theorem State.setLink_lge (s : State) (v : LinkS) : (s.setLink v).lge = s.lge := rfl
@[simp] theorem State.setLink_hlx (s : State) (v : LinkS) : (s.setLink v).hlx = s.hlx := rfl
@[simp] theorem State.setLink_ins (s : State) (v : LinkS) : (s.setLink v).ins = s.ins := rfl
@[simp] theorem State.setLink_vlt (s : State) (v : LinkS) : (s.setLink v).vlt = s.vlt := rfl
@[simp] theorem State.setLink_tok (s : State) (v : LinkS) : (s.setLink v).tok = s.tok := rfl

@[simp] theorem State.setHost_pending (s : State) (v : HostS) : (s.setHost v).pending = s.pending := rfl
@[simp] theorem State.setHost_regs (s : State) (v : HostS) : (s.setHost v).regs = s.regs := rfl
@[simp] theorem State.setHost_mem (s : State) (v : HostS) : (s.setHost v).mem = s.mem := rfl
@[simp] theorem State.setHost_now (s : State) (v : HostS) : (s.setHost v).now = s.now := rfl
@[simp] theorem State.setHost_free (s : State) (v : HostS) : (s.setHost v).free = s.free := rfl
@[simp] theorem State.setHost_log (s : State) (v : HostS) : (s.setHost v).log = s.log := rfl
@[simp] theorem State.setHost_snap (s : State) (v : HostS) : (s.setHost v).snap = s.snap := rfl
@[simp] theorem State.setHost_link (s : State) (v : HostS) : (s.setHost v).link = s.link := rfl
@[simp] theorem State.setHost_host (s : State) (v : HostS) : (s.setHost v).host = v := rfl
@[simp] theorem State.setHost_power (s : State) (v : HostS) : (s.setHost v).power = s.power := rfl
@[simp] theorem State.setHost_rbk (s : State) (v : HostS) : (s.setHost v).rbk = s.rbk := rfl
@[simp] theorem State.setHost_ports (s : State) (v : HostS) : (s.setHost v).ports = s.ports := rfl
@[simp] theorem State.setHost_trips (s : State) (v : HostS) : (s.setHost v).trips = s.trips := rfl
@[simp] theorem State.setHost_tbs (s : State) (v : HostS) : (s.setHost v).tbs = s.tbs := rfl
@[simp] theorem State.setHost_tin (s : State) (v : HostS) : (s.setHost v).tin = s.tin := rfl
@[simp] theorem State.setHost_ttb (s : State) (v : HostS) : (s.setHost v).ttb = s.ttb := rfl
@[simp] theorem State.setHost_svi (s : State) (v : HostS) : (s.setHost v).svi = s.svi := rfl
@[simp] theorem State.setHost_fch (s : State) (v : HostS) : (s.setHost v).fch = s.fch := rfl
@[simp] theorem State.setHost_pfs (s : State) (v : HostS) : (s.setHost v).pfs = s.pfs := rfl
@[simp] theorem State.setHost_mar (s : State) (v : HostS) : (s.setHost v).mar = s.mar := rfl
@[simp] theorem State.setHost_pub (s : State) (v : HostS) : (s.setHost v).pub = s.pub := rfl
@[simp] theorem State.setHost_acq (s : State) (v : HostS) : (s.setHost v).acq = s.acq := rfl
@[simp] theorem State.setHost_lge (s : State) (v : HostS) : (s.setHost v).lge = s.lge := rfl
@[simp] theorem State.setHost_hlx (s : State) (v : HostS) : (s.setHost v).hlx = s.hlx := rfl
@[simp] theorem State.setHost_ins (s : State) (v : HostS) : (s.setHost v).ins = s.ins := rfl
@[simp] theorem State.setHost_vlt (s : State) (v : HostS) : (s.setHost v).vlt = s.vlt := rfl
@[simp] theorem State.setHost_tok (s : State) (v : HostS) : (s.setHost v).tok = s.tok := rfl

@[simp] theorem State.setPower_pending (s : State) (v : PowerS) : (s.setPower v).pending = s.pending := rfl
@[simp] theorem State.setPower_regs (s : State) (v : PowerS) : (s.setPower v).regs = s.regs := rfl
@[simp] theorem State.setPower_mem (s : State) (v : PowerS) : (s.setPower v).mem = s.mem := rfl
@[simp] theorem State.setPower_now (s : State) (v : PowerS) : (s.setPower v).now = s.now := rfl
@[simp] theorem State.setPower_free (s : State) (v : PowerS) : (s.setPower v).free = s.free := rfl
@[simp] theorem State.setPower_log (s : State) (v : PowerS) : (s.setPower v).log = s.log := rfl
@[simp] theorem State.setPower_snap (s : State) (v : PowerS) : (s.setPower v).snap = s.snap := rfl
@[simp] theorem State.setPower_link (s : State) (v : PowerS) : (s.setPower v).link = s.link := rfl
@[simp] theorem State.setPower_host (s : State) (v : PowerS) : (s.setPower v).host = s.host := rfl
@[simp] theorem State.setPower_power (s : State) (v : PowerS) : (s.setPower v).power = v := rfl
@[simp] theorem State.setPower_rbk (s : State) (v : PowerS) : (s.setPower v).rbk = s.rbk := rfl
@[simp] theorem State.setPower_ports (s : State) (v : PowerS) : (s.setPower v).ports = s.ports := rfl
@[simp] theorem State.setPower_trips (s : State) (v : PowerS) : (s.setPower v).trips = s.trips := rfl
@[simp] theorem State.setPower_tbs (s : State) (v : PowerS) : (s.setPower v).tbs = s.tbs := rfl
@[simp] theorem State.setPower_tin (s : State) (v : PowerS) : (s.setPower v).tin = s.tin := rfl
@[simp] theorem State.setPower_ttb (s : State) (v : PowerS) : (s.setPower v).ttb = s.ttb := rfl
@[simp] theorem State.setPower_svi (s : State) (v : PowerS) : (s.setPower v).svi = s.svi := rfl
@[simp] theorem State.setPower_fch (s : State) (v : PowerS) : (s.setPower v).fch = s.fch := rfl
@[simp] theorem State.setPower_pfs (s : State) (v : PowerS) : (s.setPower v).pfs = s.pfs := rfl
@[simp] theorem State.setPower_mar (s : State) (v : PowerS) : (s.setPower v).mar = s.mar := rfl
@[simp] theorem State.setPower_pub (s : State) (v : PowerS) : (s.setPower v).pub = s.pub := rfl
@[simp] theorem State.setPower_acq (s : State) (v : PowerS) : (s.setPower v).acq = s.acq := rfl
@[simp] theorem State.setPower_lge (s : State) (v : PowerS) : (s.setPower v).lge = s.lge := rfl
@[simp] theorem State.setPower_hlx (s : State) (v : PowerS) : (s.setPower v).hlx = s.hlx := rfl
@[simp] theorem State.setPower_ins (s : State) (v : PowerS) : (s.setPower v).ins = s.ins := rfl
@[simp] theorem State.setPower_vlt (s : State) (v : PowerS) : (s.setPower v).vlt = s.vlt := rfl
@[simp] theorem State.setPower_tok (s : State) (v : PowerS) : (s.setPower v).tok = s.tok := rfl

@[simp] theorem State.setRbk_pending (s : State) (v : RbkS) : (s.setRbk v).pending = s.pending := rfl
@[simp] theorem State.setRbk_regs (s : State) (v : RbkS) : (s.setRbk v).regs = s.regs := rfl
@[simp] theorem State.setRbk_mem (s : State) (v : RbkS) : (s.setRbk v).mem = s.mem := rfl
@[simp] theorem State.setRbk_now (s : State) (v : RbkS) : (s.setRbk v).now = s.now := rfl
@[simp] theorem State.setRbk_free (s : State) (v : RbkS) : (s.setRbk v).free = s.free := rfl
@[simp] theorem State.setRbk_log (s : State) (v : RbkS) : (s.setRbk v).log = s.log := rfl
@[simp] theorem State.setRbk_snap (s : State) (v : RbkS) : (s.setRbk v).snap = s.snap := rfl
@[simp] theorem State.setRbk_link (s : State) (v : RbkS) : (s.setRbk v).link = s.link := rfl
@[simp] theorem State.setRbk_host (s : State) (v : RbkS) : (s.setRbk v).host = s.host := rfl
@[simp] theorem State.setRbk_power (s : State) (v : RbkS) : (s.setRbk v).power = s.power := rfl
@[simp] theorem State.setRbk_rbk (s : State) (v : RbkS) : (s.setRbk v).rbk = v := rfl
@[simp] theorem State.setRbk_ports (s : State) (v : RbkS) : (s.setRbk v).ports = s.ports := rfl
@[simp] theorem State.setRbk_trips (s : State) (v : RbkS) : (s.setRbk v).trips = s.trips := rfl
@[simp] theorem State.setRbk_tbs (s : State) (v : RbkS) : (s.setRbk v).tbs = s.tbs := rfl
@[simp] theorem State.setRbk_tin (s : State) (v : RbkS) : (s.setRbk v).tin = s.tin := rfl
@[simp] theorem State.setRbk_ttb (s : State) (v : RbkS) : (s.setRbk v).ttb = s.ttb := rfl
@[simp] theorem State.setRbk_svi (s : State) (v : RbkS) : (s.setRbk v).svi = s.svi := rfl
@[simp] theorem State.setRbk_fch (s : State) (v : RbkS) : (s.setRbk v).fch = s.fch := rfl
@[simp] theorem State.setRbk_pfs (s : State) (v : RbkS) : (s.setRbk v).pfs = s.pfs := rfl
@[simp] theorem State.setRbk_mar (s : State) (v : RbkS) : (s.setRbk v).mar = s.mar := rfl
@[simp] theorem State.setRbk_pub (s : State) (v : RbkS) : (s.setRbk v).pub = s.pub := rfl
@[simp] theorem State.setRbk_acq (s : State) (v : RbkS) : (s.setRbk v).acq = s.acq := rfl
@[simp] theorem State.setRbk_lge (s : State) (v : RbkS) : (s.setRbk v).lge = s.lge := rfl
@[simp] theorem State.setRbk_hlx (s : State) (v : RbkS) : (s.setRbk v).hlx = s.hlx := rfl
@[simp] theorem State.setRbk_ins (s : State) (v : RbkS) : (s.setRbk v).ins = s.ins := rfl
@[simp] theorem State.setRbk_vlt (s : State) (v : RbkS) : (s.setRbk v).vlt = s.vlt := rfl
@[simp] theorem State.setRbk_tok (s : State) (v : RbkS) : (s.setRbk v).tok = s.tok := rfl

@[simp] theorem State.setPorts_pending (s : State) (v : List (Nat × PortS)) : (s.setPorts v).pending = s.pending := rfl
@[simp] theorem State.setPorts_regs (s : State) (v : List (Nat × PortS)) : (s.setPorts v).regs = s.regs := rfl
@[simp] theorem State.setPorts_mem (s : State) (v : List (Nat × PortS)) : (s.setPorts v).mem = s.mem := rfl
@[simp] theorem State.setPorts_now (s : State) (v : List (Nat × PortS)) : (s.setPorts v).now = s.now := rfl
@[simp] theorem State.setPorts_free (s : State) (v : List (Nat × PortS)) : (s.setPorts v).free = s.free := rfl
@[simp] theorem State.setPorts_log (s : State) (v : List (Nat × PortS)) : (s.setPorts v).log = s.log := rfl
@[simp] theorem State.setPorts_snap (s : State) (v : List (Nat × PortS)) : (s.setPorts v).snap = s.snap := rfl
@[simp] theorem State.setPorts_link (s : State) (v : List (Nat × PortS)) : (s.setPorts v).link = s.link := rfl
@[simp] theorem State.setPorts_host (s : State) (v : List (Nat × PortS)) : (s.setPorts v).host = s.host := rfl
@[simp] theorem State.setPorts_power (s : State) (v : List (Nat × PortS)) : (s.setPorts v).power = s.power := rfl
@[simp] theorem State.setPorts_rbk (s : State) (v : List (Nat × PortS)) : (s.setPorts v).rbk = s.rbk := rfl
@[simp] theorem State.setPorts_ports (s : State) (v : List (Nat × PortS)) : (s.setPorts v).ports = v := rfl
@[simp] theorem State.setPorts_trips (s : State) (v : List (Nat × PortS)) : (s.setPorts v).trips = s.trips := rfl
@[simp] theorem State.setPorts_tbs (s : State) (v : List (Nat × PortS)) : (s.setPorts v).tbs = s.tbs := rfl
@[simp] theorem State.setPorts_tin (s : State) (v : List (Nat × PortS)) : (s.setPorts v).tin = s.tin := rfl
@[simp] theorem State.setPorts_ttb (s : State) (v : List (Nat × PortS)) : (s.setPorts v).ttb = s.ttb := rfl
@[simp] theorem State.setPorts_svi (s : State) (v : List (Nat × PortS)) : (s.setPorts v).svi = s.svi := rfl
@[simp] theorem State.setPorts_fch (s : State) (v : List (Nat × PortS)) : (s.setPorts v).fch = s.fch := rfl
@[simp] theorem State.setPorts_pfs (s : State) (v : List (Nat × PortS)) : (s.setPorts v).pfs = s.pfs := rfl
@[simp] theorem State.setPorts_mar (s : State) (v : List (Nat × PortS)) : (s.setPorts v).mar = s.mar := rfl
@[simp] theorem State.setPorts_pub (s : State) (v : List (Nat × PortS)) : (s.setPorts v).pub = s.pub := rfl
@[simp] theorem State.setPorts_acq (s : State) (v : List (Nat × PortS)) : (s.setPorts v).acq = s.acq := rfl
@[simp] theorem State.setPorts_lge (s : State) (v : List (Nat × PortS)) : (s.setPorts v).lge = s.lge := rfl
@[simp] theorem State.setPorts_hlx (s : State) (v : List (Nat × PortS)) : (s.setPorts v).hlx = s.hlx := rfl
@[simp] theorem State.setPorts_ins (s : State) (v : List (Nat × PortS)) : (s.setPorts v).ins = s.ins := rfl
@[simp] theorem State.setPorts_vlt (s : State) (v : List (Nat × PortS)) : (s.setPorts v).vlt = s.vlt := rfl
@[simp] theorem State.setPorts_tok (s : State) (v : List (Nat × PortS)) : (s.setPorts v).tok = s.tok := rfl

@[simp] theorem State.setTrips_pending (s : State) (v : List (Nat × TripS)) : (s.setTrips v).pending = s.pending := rfl
@[simp] theorem State.setTrips_regs (s : State) (v : List (Nat × TripS)) : (s.setTrips v).regs = s.regs := rfl
@[simp] theorem State.setTrips_mem (s : State) (v : List (Nat × TripS)) : (s.setTrips v).mem = s.mem := rfl
@[simp] theorem State.setTrips_now (s : State) (v : List (Nat × TripS)) : (s.setTrips v).now = s.now := rfl
@[simp] theorem State.setTrips_free (s : State) (v : List (Nat × TripS)) : (s.setTrips v).free = s.free := rfl
@[simp] theorem State.setTrips_log (s : State) (v : List (Nat × TripS)) : (s.setTrips v).log = s.log := rfl
@[simp] theorem State.setTrips_snap (s : State) (v : List (Nat × TripS)) : (s.setTrips v).snap = s.snap := rfl
@[simp] theorem State.setTrips_link (s : State) (v : List (Nat × TripS)) : (s.setTrips v).link = s.link := rfl
@[simp] theorem State.setTrips_host (s : State) (v : List (Nat × TripS)) : (s.setTrips v).host = s.host := rfl
@[simp] theorem State.setTrips_power (s : State) (v : List (Nat × TripS)) : (s.setTrips v).power = s.power := rfl
@[simp] theorem State.setTrips_rbk (s : State) (v : List (Nat × TripS)) : (s.setTrips v).rbk = s.rbk := rfl
@[simp] theorem State.setTrips_ports (s : State) (v : List (Nat × TripS)) : (s.setTrips v).ports = s.ports := rfl
@[simp] theorem State.setTrips_trips (s : State) (v : List (Nat × TripS)) : (s.setTrips v).trips = v := rfl
@[simp] theorem State.setTrips_tbs (s : State) (v : List (Nat × TripS)) : (s.setTrips v).tbs = s.tbs := rfl
@[simp] theorem State.setTrips_tin (s : State) (v : List (Nat × TripS)) : (s.setTrips v).tin = s.tin := rfl
@[simp] theorem State.setTrips_ttb (s : State) (v : List (Nat × TripS)) : (s.setTrips v).ttb = s.ttb := rfl
@[simp] theorem State.setTrips_svi (s : State) (v : List (Nat × TripS)) : (s.setTrips v).svi = s.svi := rfl
@[simp] theorem State.setTrips_fch (s : State) (v : List (Nat × TripS)) : (s.setTrips v).fch = s.fch := rfl
@[simp] theorem State.setTrips_pfs (s : State) (v : List (Nat × TripS)) : (s.setTrips v).pfs = s.pfs := rfl
@[simp] theorem State.setTrips_mar (s : State) (v : List (Nat × TripS)) : (s.setTrips v).mar = s.mar := rfl
@[simp] theorem State.setTrips_pub (s : State) (v : List (Nat × TripS)) : (s.setTrips v).pub = s.pub := rfl
@[simp] theorem State.setTrips_acq (s : State) (v : List (Nat × TripS)) : (s.setTrips v).acq = s.acq := rfl
@[simp] theorem State.setTrips_lge (s : State) (v : List (Nat × TripS)) : (s.setTrips v).lge = s.lge := rfl
@[simp] theorem State.setTrips_hlx (s : State) (v : List (Nat × TripS)) : (s.setTrips v).hlx = s.hlx := rfl
@[simp] theorem State.setTrips_ins (s : State) (v : List (Nat × TripS)) : (s.setTrips v).ins = s.ins := rfl
@[simp] theorem State.setTrips_vlt (s : State) (v : List (Nat × TripS)) : (s.setTrips v).vlt = s.vlt := rfl
@[simp] theorem State.setTrips_tok (s : State) (v : List (Nat × TripS)) : (s.setTrips v).tok = s.tok := rfl

@[simp] theorem State.setTbs_pending (s : State) (v : List (Nat × TbS)) : (s.setTbs v).pending = s.pending := rfl
@[simp] theorem State.setTbs_regs (s : State) (v : List (Nat × TbS)) : (s.setTbs v).regs = s.regs := rfl
@[simp] theorem State.setTbs_mem (s : State) (v : List (Nat × TbS)) : (s.setTbs v).mem = s.mem := rfl
@[simp] theorem State.setTbs_now (s : State) (v : List (Nat × TbS)) : (s.setTbs v).now = s.now := rfl
@[simp] theorem State.setTbs_free (s : State) (v : List (Nat × TbS)) : (s.setTbs v).free = s.free := rfl
@[simp] theorem State.setTbs_log (s : State) (v : List (Nat × TbS)) : (s.setTbs v).log = s.log := rfl
@[simp] theorem State.setTbs_snap (s : State) (v : List (Nat × TbS)) : (s.setTbs v).snap = s.snap := rfl
@[simp] theorem State.setTbs_link (s : State) (v : List (Nat × TbS)) : (s.setTbs v).link = s.link := rfl
@[simp] theorem State.setTbs_host (s : State) (v : List (Nat × TbS)) : (s.setTbs v).host = s.host := rfl
@[simp] theorem State.setTbs_power (s : State) (v : List (Nat × TbS)) : (s.setTbs v).power = s.power := rfl
@[simp] theorem State.setTbs_rbk (s : State) (v : List (Nat × TbS)) : (s.setTbs v).rbk = s.rbk := rfl
@[simp] theorem State.setTbs_ports (s : State) (v : List (Nat × TbS)) : (s.setTbs v).ports = s.ports := rfl
@[simp] theorem State.setTbs_trips (s : State) (v : List (Nat × TbS)) : (s.setTbs v).trips = s.trips := rfl
@[simp] theorem State.setTbs_tbs (s : State) (v : List (Nat × TbS)) : (s.setTbs v).tbs = v := rfl
@[simp] theorem State.setTbs_tin (s : State) (v : List (Nat × TbS)) : (s.setTbs v).tin = s.tin := rfl
@[simp] theorem State.setTbs_ttb (s : State) (v : List (Nat × TbS)) : (s.setTbs v).ttb = s.ttb := rfl
@[simp] theorem State.setTbs_svi (s : State) (v : List (Nat × TbS)) : (s.setTbs v).svi = s.svi := rfl
@[simp] theorem State.setTbs_fch (s : State) (v : List (Nat × TbS)) : (s.setTbs v).fch = s.fch := rfl
@[simp] theorem State.setTbs_pfs (s : State) (v : List (Nat × TbS)) : (s.setTbs v).pfs = s.pfs := rfl
@[simp] theorem State.setTbs_mar (s : State) (v : List (Nat × TbS)) : (s.setTbs v).mar = s.mar := rfl
@[simp] theorem State.setTbs_pub (s : State) (v : List (Nat × TbS)) : (s.setTbs v).pub = s.pub := rfl
@[simp] theorem State.setTbs_acq (s : State) (v : List (Nat × TbS)) : (s.setTbs v).acq = s.acq := rfl
@[simp] theorem State.setTbs_lge (s : State) (v : List (Nat × TbS)) : (s.setTbs v).lge = s.lge := rfl
@[simp] theorem State.setTbs_hlx (s : State) (v : List (Nat × TbS)) : (s.setTbs v).hlx = s.hlx := rfl
@[simp] theorem State.setTbs_ins (s : State) (v : List (Nat × TbS)) : (s.setTbs v).ins = s.ins := rfl
@[simp] theorem State.setTbs_vlt (s : State) (v : List (Nat × TbS)) : (s.setTbs v).vlt = s.vlt := rfl
@[simp] theorem State.setTbs_tok (s : State) (v : List (Nat × TbS)) : (s.setTbs v).tok = s.tok := rfl

@[simp] theorem State.setTin_pending (s : State) (v : TinS) : (s.setTin v).pending = s.pending := rfl
@[simp] theorem State.setTin_regs (s : State) (v : TinS) : (s.setTin v).regs = s.regs := rfl
@[simp] theorem State.setTin_mem (s : State) (v : TinS) : (s.setTin v).mem = s.mem := rfl
@[simp] theorem State.setTin_now (s : State) (v : TinS) : (s.setTin v).now = s.now := rfl
@[simp] theorem State.setTin_free (s : State) (v : TinS) : (s.setTin v).free = s.free := rfl
@[simp] theorem State.setTin_log (s : State) (v : TinS) : (s.setTin v).log = s.log := rfl
@[simp] theorem State.setTin_snap (s : State) (v : TinS) : (s.setTin v).snap = s.snap := rfl
@[simp] theorem State.setTin_link (s : State) (v : TinS) : (s.setTin v).link = s.link := rfl
@[simp] theorem State.setTin_host (s : State) (v : TinS) : (s.setTin v).host = s.host := rfl
@[simp] theorem State.setTin_power (s : State) (v : TinS) : (s.setTin v).power = s.power := rfl
@[simp] theorem State.setTin_rbk (s : State) (v : TinS) : (s.setTin v).rbk = s.rbk := rfl
@[simp] theorem State.setTin_ports (s : State) (v : TinS) : (s.setTin v).ports = s.ports := rfl
@[simp] theorem State.setTin_trips (s : State) (v : TinS) : (s.setTin v).trips = s.trips := rfl
@[simp] theorem State.setTin_tbs (s : State) (v : TinS) : (s.setTin v).tbs = s.tbs := rfl
@[simp] theorem State.setTin_tin (s : State) (v : TinS) : (s.setTin v).tin = v := rfl
@[simp] theorem State.setTin_ttb (s : State) (v : TinS) : (s.setTin v).ttb = s.ttb := rfl
@[simp] theorem State.setTin_svi (s : State) (v : TinS) : (s.setTin v).svi = s.svi := rfl
@[simp] theorem State.setTin_fch (s : State) (v : TinS) : (s.setTin v).fch = s.fch := rfl
@[simp] theorem State.setTin_pfs (s : State) (v : TinS) : (s.setTin v).pfs = s.pfs := rfl
@[simp] theorem State.setTin_mar (s : State) (v : TinS) : (s.setTin v).mar = s.mar := rfl
@[simp] theorem State.setTin_pub (s : State) (v : TinS) : (s.setTin v).pub = s.pub := rfl
@[simp] theorem State.setTin_acq (s : State) (v : TinS) : (s.setTin v).acq = s.acq := rfl
@[simp] theorem State.setTin_lge (s : State) (v : TinS) : (s.setTin v).lge = s.lge := rfl
@[simp] theorem State.setTin_hlx (s : State) (v : TinS) : (s.setTin v).hlx = s.hlx := rfl
@[simp] theorem State.setTin_ins (s : State) (v : TinS) : (s.setTin v).ins = s.ins := rfl
@[simp] theorem State.setTin_vlt (s : State) (v : TinS) : (s.setTin v).vlt = s.vlt := rfl
@[simp] theorem State.setTin_tok (s : State) (v : TinS) : (s.setTin v).tok = s.tok := rfl

@[simp] theorem State.setTtb_pending (s : State) (v : TtbS) : (s.setTtb v).pending = s.pending := rfl
@[simp] theorem State.setTtb_regs (s : State) (v : TtbS) : (s.setTtb v).regs = s.regs := rfl
@[simp] theorem State.setTtb_mem (s : State) (v : TtbS) : (s.setTtb v).mem = s.mem := rfl
@[simp] theorem State.setTtb_now (s : State) (v : TtbS) : (s.setTtb v).now = s.now := rfl
@[simp] theorem State.setTtb_free (s : State) (v : TtbS) : (s.setTtb v).free = s.free := rfl
@[simp] theorem State.setTtb_log (s : State) (v : TtbS) : (s.setTtb v).log = s.log := rfl
@[simp] theorem State.setTtb_snap (s : State) (v : TtbS) : (s.setTtb v).snap = s.snap := rfl
@[simp] theorem State.setTtb_link (s : State) (v : TtbS) : (s.setTtb v).link = s.link := rfl
@[simp] theorem State.setTtb_host (s : State) (v : TtbS) : (s.setTtb v).host = s.host := rfl
@[simp] theorem State.setTtb_power (s : State) (v : TtbS) : (s.setTtb v).power = s.power := rfl
@[simp] theorem State.setTtb_rbk (s : State) (v : TtbS) : (s.setTtb v).rbk = s.rbk := rfl
@[simp] theorem State.setTtb_ports (s : State) (v : TtbS) : (s.setTtb v).ports = s.ports := rfl
@[simp] theorem State.setTtb_trips (s : State) (v : TtbS) : (s.setTtb v).trips = s.trips := rfl
@[simp] theorem State.setTtb_tbs (s : State) (v : TtbS) : (s.setTtb v).tbs = s.tbs := rfl
@[simp] theorem State.setTtb_tin (s : State) (v : TtbS) : (s.setTtb v).tin = s.tin := rfl
@[simp] theorem State.setTtb_ttb (s : State) (v : TtbS) : (s.setTtb v).ttb = v := rfl
@[simp] theorem State.setTtb_svi (s : State) (v : TtbS) : (s.setTtb v).svi = s.svi := rfl
@[simp] theorem State.setTtb_fch (s : State) (v : TtbS) : (s.setTtb v).fch = s.fch := rfl
@[simp] theorem State.setTtb_pfs (s : State) (v : TtbS) : (s.setTtb v).pfs = s.pfs := rfl
@[simp] theorem State.setTtb_mar (s : State) (v : TtbS) : (s.setTtb v).mar = s.mar := rfl
@[simp] theorem State.setTtb_pub (s : State) (v : TtbS) : (s.setTtb v).pub = s.pub := rfl
@[simp] theorem State.setTtb_acq (s : State) (v : TtbS) : (s.setTtb v).acq = s.acq := rfl
@[simp] theorem State.setTtb_lge (s : State) (v : TtbS) : (s.setTtb v).lge = s.lge := rfl
@[simp] theorem State.setTtb_hlx (s : State) (v : TtbS) : (s.setTtb v).hlx = s.hlx := rfl
@[simp] theorem State.setTtb_ins (s : State) (v : TtbS) : (s.setTtb v).ins = s.ins := rfl
@[simp] theorem State.setTtb_vlt (s : State) (v : TtbS) : (s.setTtb v).vlt = s.vlt := rfl
@[simp] theorem State.setTtb_tok (s : State) (v : TtbS) : (s.setTtb v).tok = s.tok := rfl

@[simp] theorem State.setSvi_pending (s : State) (v : SviS) : (s.setSvi v).pending = s.pending := rfl
@[simp] theorem State.setSvi_regs (s : State) (v : SviS) : (s.setSvi v).regs = s.regs := rfl
@[simp] theorem State.setSvi_mem (s : State) (v : SviS) : (s.setSvi v).mem = s.mem := rfl
@[simp] theorem State.setSvi_now (s : State) (v : SviS) : (s.setSvi v).now = s.now := rfl
@[simp] theorem State.setSvi_free (s : State) (v : SviS) : (s.setSvi v).free = s.free := rfl
@[simp] theorem State.setSvi_log (s : State) (v : SviS) : (s.setSvi v).log = s.log := rfl
@[simp] theorem State.setSvi_snap (s : State) (v : SviS) : (s.setSvi v).snap = s.snap := rfl
@[simp] theorem State.setSvi_link (s : State) (v : SviS) : (s.setSvi v).link = s.link := rfl
@[simp] theorem State.setSvi_host (s : State) (v : SviS) : (s.setSvi v).host = s.host := rfl
@[simp] theorem State.setSvi_power (s : State) (v : SviS) : (s.setSvi v).power = s.power := rfl
@[simp] theorem State.setSvi_rbk (s : State) (v : SviS) : (s.setSvi v).rbk = s.rbk := rfl
@[simp] theorem State.setSvi_ports (s : State) (v : SviS) : (s.setSvi v).ports = s.ports := rfl
@[simp] theorem State.setSvi_trips (s : State) (v : SviS) : (s.setSvi v).trips = s.trips := rfl
@[simp] theorem State.setSvi_tbs (s : State) (v : SviS) : (s.setSvi v).tbs = s.tbs := rfl
@[simp] theorem State.setSvi_tin (s : State) (v : SviS) : (s.setSvi v).tin = s.tin := rfl
@[simp] theorem State.setSvi_ttb (s : State) (v : SviS) : (s.setSvi v).ttb = s.ttb := rfl
@[simp] theorem State.setSvi_svi (s : State) (v : SviS) : (s.setSvi v).svi = v := rfl
@[simp] theorem State.setSvi_fch (s : State) (v : SviS) : (s.setSvi v).fch = s.fch := rfl
@[simp] theorem State.setSvi_pfs (s : State) (v : SviS) : (s.setSvi v).pfs = s.pfs := rfl
@[simp] theorem State.setSvi_mar (s : State) (v : SviS) : (s.setSvi v).mar = s.mar := rfl
@[simp] theorem State.setSvi_pub (s : State) (v : SviS) : (s.setSvi v).pub = s.pub := rfl
@[simp] theorem State.setSvi_acq (s : State) (v : SviS) : (s.setSvi v).acq = s.acq := rfl
@[simp] theorem State.setSvi_lge (s : State) (v : SviS) : (s.setSvi v).lge = s.lge := rfl
@[simp] theorem State.setSvi_hlx (s : State) (v : SviS) : (s.setSvi v).hlx = s.hlx := rfl
@[simp] theorem State.setSvi_ins (s : State) (v : SviS) : (s.setSvi v).ins = s.ins := rfl
@[simp] theorem State.setSvi_vlt (s : State) (v : SviS) : (s.setSvi v).vlt = s.vlt := rfl
@[simp] theorem State.setSvi_tok (s : State) (v : SviS) : (s.setSvi v).tok = s.tok := rfl

@[simp] theorem State.setFch_pending (s : State) (v : FchS) : (s.setFch v).pending = s.pending := rfl
@[simp] theorem State.setFch_regs (s : State) (v : FchS) : (s.setFch v).regs = s.regs := rfl
@[simp] theorem State.setFch_mem (s : State) (v : FchS) : (s.setFch v).mem = s.mem := rfl
@[simp] theorem State.setFch_now (s : State) (v : FchS) : (s.setFch v).now = s.now := rfl
@[simp] theorem State.setFch_free (s : State) (v : FchS) : (s.setFch v).free = s.free := rfl
@[simp] theorem State.setFch_log (s : State) (v : FchS) : (s.setFch v).log = s.log := rfl
@[simp] theorem State.setFch_snap (s : State) (v : FchS) : (s.setFch v).snap = s.snap := rfl
@[simp] theorem State.setFch_link (s : State) (v : FchS) : (s.setFch v).link = s.link := rfl
@[simp] theorem State.setFch_host (s : State) (v : FchS) : (s.setFch v).host = s.host := rfl
@[simp] theorem State.setFch_power (s : State) (v : FchS) : (s.setFch v).power = s.power := rfl
@[simp] theorem State.setFch_rbk (s : State) (v : FchS) : (s.setFch v).rbk = s.rbk := rfl
@[simp] theorem State.setFch_ports (s : State) (v : FchS) : (s.setFch v).ports = s.ports := rfl
@[simp] theorem State.setFch_trips (s : State) (v : FchS) : (s.setFch v).trips = s.trips := rfl
@[simp] theorem State.setFch_tbs (s : State) (v : FchS) : (s.setFch v).tbs = s.tbs := rfl
@[simp] theorem State.setFch_tin (s : State) (v : FchS) : (s.setFch v).tin = s.tin := rfl
@[simp] theorem State.setFch_ttb (s : State) (v : FchS) : (s.setFch v).ttb = s.ttb := rfl
@[simp] theorem State.setFch_svi (s : State) (v : FchS) : (s.setFch v).svi = s.svi := rfl
@[simp] theorem State.setFch_fch (s : State) (v : FchS) : (s.setFch v).fch = v := rfl
@[simp] theorem State.setFch_pfs (s : State) (v : FchS) : (s.setFch v).pfs = s.pfs := rfl
@[simp] theorem State.setFch_mar (s : State) (v : FchS) : (s.setFch v).mar = s.mar := rfl
@[simp] theorem State.setFch_pub (s : State) (v : FchS) : (s.setFch v).pub = s.pub := rfl
@[simp] theorem State.setFch_acq (s : State) (v : FchS) : (s.setFch v).acq = s.acq := rfl
@[simp] theorem State.setFch_lge (s : State) (v : FchS) : (s.setFch v).lge = s.lge := rfl
@[simp] theorem State.setFch_hlx (s : State) (v : FchS) : (s.setFch v).hlx = s.hlx := rfl
@[simp] theorem State.setFch_ins (s : State) (v : FchS) : (s.setFch v).ins = s.ins := rfl
@[simp] theorem State.setFch_vlt (s : State) (v : FchS) : (s.setFch v).vlt = s.vlt := rfl
@[simp] theorem State.setFch_tok (s : State) (v : FchS) : (s.setFch v).tok = s.tok := rfl

@[simp] theorem State.setPfs_pending (s : State) (v : List (Nat × PfS)) : (s.setPfs v).pending = s.pending := rfl
@[simp] theorem State.setPfs_regs (s : State) (v : List (Nat × PfS)) : (s.setPfs v).regs = s.regs := rfl
@[simp] theorem State.setPfs_mem (s : State) (v : List (Nat × PfS)) : (s.setPfs v).mem = s.mem := rfl
@[simp] theorem State.setPfs_now (s : State) (v : List (Nat × PfS)) : (s.setPfs v).now = s.now := rfl
@[simp] theorem State.setPfs_free (s : State) (v : List (Nat × PfS)) : (s.setPfs v).free = s.free := rfl
@[simp] theorem State.setPfs_log (s : State) (v : List (Nat × PfS)) : (s.setPfs v).log = s.log := rfl
@[simp] theorem State.setPfs_snap (s : State) (v : List (Nat × PfS)) : (s.setPfs v).snap = s.snap := rfl
@[simp] theorem State.setPfs_link (s : State) (v : List (Nat × PfS)) : (s.setPfs v).link = s.link := rfl
@[simp] theorem State.setPfs_host (s : State) (v : List (Nat × PfS)) : (s.setPfs v).host = s.host := rfl
@[simp] theorem State.setPfs_power (s : State) (v : List (Nat × PfS)) : (s.setPfs v).power = s.power := rfl
@[simp] theorem State.setPfs_rbk (s : State) (v : List (Nat × PfS)) : (s.setPfs v).rbk = s.rbk := rfl
@[simp] theorem State.setPfs_ports (s : State) (v : List (Nat × PfS)) : (s.setPfs v).ports = s.ports := rfl
@[simp] theorem State.setPfs_trips (s : State) (v : List (Nat × PfS)) : (s.setPfs v).trips = s.trips := rfl
@[simp] theorem State.setPfs_tbs (s : State) (v : List (Nat × PfS)) : (s.setPfs v).tbs = s.tbs := rfl
@[simp] theorem State.setPfs_tin (s : State) (v : List (Nat × PfS)) : (s.setPfs v).tin = s.tin := rfl
@[simp] theorem State.setPfs_ttb (s : State) (v : List (Nat × PfS)) : (s.setPfs v).ttb = s.ttb := rfl
@[simp] theorem State.setPfs_svi (s : State) (v : List (Nat × PfS)) : (s.setPfs v).svi = s.svi := rfl
@[simp] theorem State.setPfs_fch (s : State) (v : List (Nat × PfS)) : (s.setPfs v).fch = s.fch := rfl
@[simp] theorem State.setPfs_pfs (s : State) (v : List (Nat × PfS)) : (s.setPfs v).pfs = v := rfl
@[simp] theorem State.setPfs_mar (s : State) (v : List (Nat × PfS)) : (s.setPfs v).mar = s.mar := rfl
@[simp] theorem State.setPfs_pub (s : State) (v : List (Nat × PfS)) : (s.setPfs v).pub = s.pub := rfl
@[simp] theorem State.setPfs_acq (s : State) (v : List (Nat × PfS)) : (s.setPfs v).acq = s.acq := rfl
@[simp] theorem State.setPfs_lge (s : State) (v : List (Nat × PfS)) : (s.setPfs v).lge = s.lge := rfl
@[simp] theorem State.setPfs_hlx (s : State) (v : List (Nat × PfS)) : (s.setPfs v).hlx = s.hlx := rfl
@[simp] theorem State.setPfs_ins (s : State) (v : List (Nat × PfS)) : (s.setPfs v).ins = s.ins := rfl
@[simp] theorem State.setPfs_vlt (s : State) (v : List (Nat × PfS)) : (s.setPfs v).vlt = s.vlt := rfl
@[simp] theorem State.setPfs_tok (s : State) (v : List (Nat × PfS)) : (s.setPfs v).tok = s.tok := rfl

@[simp] theorem State.setMar_pending (s : State) (v : MarS) : (s.setMar v).pending = s.pending := rfl
@[simp] theorem State.setMar_regs (s : State) (v : MarS) : (s.setMar v).regs = s.regs := rfl
@[simp] theorem State.setMar_mem (s : State) (v : MarS) : (s.setMar v).mem = s.mem := rfl
@[simp] theorem State.setMar_now (s : State) (v : MarS) : (s.setMar v).now = s.now := rfl
@[simp] theorem State.setMar_free (s : State) (v : MarS) : (s.setMar v).free = s.free := rfl
@[simp] theorem State.setMar_log (s : State) (v : MarS) : (s.setMar v).log = s.log := rfl
@[simp] theorem State.setMar_snap (s : State) (v : MarS) : (s.setMar v).snap = s.snap := rfl
@[simp] theorem State.setMar_link (s : State) (v : MarS) : (s.setMar v).link = s.link := rfl
@[simp] theorem State.setMar_host (s : State) (v : MarS) : (s.setMar v).host = s.host := rfl
@[simp] theorem State.setMar_power (s : State) (v : MarS) : (s.setMar v).power = s.power := rfl
@[simp] theorem State.setMar_rbk (s : State) (v : MarS) : (s.setMar v).rbk = s.rbk := rfl
@[simp] theorem State.setMar_ports (s : State) (v : MarS) : (s.setMar v).ports = s.ports := rfl
@[simp] theorem State.setMar_trips (s : State) (v : MarS) : (s.setMar v).trips = s.trips := rfl
@[simp] theorem State.setMar_tbs (s : State) (v : MarS) : (s.setMar v).tbs = s.tbs := rfl
@[simp] theorem State.setMar_tin (s : State) (v : MarS) : (s.setMar v).tin = s.tin := rfl
@[simp] theorem State.setMar_ttb (s : State) (v : MarS) : (s.setMar v).ttb = s.ttb := rfl
@[simp] theorem State.setMar_svi (s : State) (v : MarS) : (s.setMar v).svi = s.svi := rfl
@[simp] theorem State.setMar_fch (s : State) (v : MarS) : (s.setMar v).fch = s.fch := rfl
@[simp] theorem State.setMar_pfs (s : State) (v : MarS) : (s.setMar v).pfs = s.pfs := rfl
@[simp] theorem State.setMar_mar (s : State) (v : MarS) : (s.setMar v).mar = v := rfl
@[simp] theorem State.setMar_pub (s : State) (v : MarS) : (s.setMar v).pub = s.pub := rfl
@[simp] theorem State.setMar_acq (s : State) (v : MarS) : (s.setMar v).acq = s.acq := rfl
@[simp] theorem State.setMar_lge (s : State) (v : MarS) : (s.setMar v).lge = s.lge := rfl
@[simp] theorem State.setMar_hlx (s : State) (v : MarS) : (s.setMar v).hlx = s.hlx := rfl
@[simp] theorem State.setMar_ins (s : State) (v : MarS) : (s.setMar v).ins = s.ins := rfl
@[simp] theorem State.setMar_vlt (s : State) (v : MarS) : (s.setMar v).vlt = s.vlt := rfl
@[simp] theorem State.setMar_tok (s : State) (v : MarS) : (s.setMar v).tok = s.tok := rfl

@[simp] theorem State.setPub_pending (s : State) (v : PubS) : (s.setPub v).pending = s.pending := rfl
@[simp] theorem State.setPub_regs (s : State) (v : PubS) : (s.setPub v).regs = s.regs := rfl
@[simp] theorem State.setPub_mem (s : State) (v : PubS) : (s.setPub v).mem = s.mem := rfl
@[simp] theorem State.setPub_now (s : State) (v : PubS) : (s.setPub v).now = s.now := rfl
@[simp] theorem State.setPub_free (s : State) (v : PubS) : (s.setPub v).free = s.free := rfl
@[simp] theorem State.setPub_log (s : State) (v : PubS) : (s.setPub v).log = s.log := rfl
@[simp] theorem State.setPub_snap (s : State) (v : PubS) : (s.setPub v).snap = s.snap := rfl
@[simp] theorem State.setPub_link (s : State) (v : PubS) : (s.setPub v).link = s.link := rfl
@[simp] theorem State.setPub_host (s : State) (v : PubS) : (s.setPub v).host = s.host := rfl
@[simp] theorem State.setPub_power (s : State) (v : PubS) : (s.setPub v).power = s.power := rfl
@[simp] theorem State.setPub_rbk (s : State) (v : PubS) : (s.setPub v).rbk = s.rbk := rfl
@[simp] theorem State.setPub_ports (s : State) (v : PubS) : (s.setPub v).ports = s.ports := rfl
@[simp] theorem State.setPub_trips (s : State) (v : PubS) : (s.setPub v).trips = s.trips := rfl
@[simp] theorem State.setPub_tbs (s : State) (v : PubS) : (s.setPub v).tbs = s.tbs := rfl
@[simp] theorem State.setPub_tin (s : State) (v : PubS) : (s.setPub v).tin = s.tin := rfl
@[simp] theorem State.setPub_ttb (s : State) (v : PubS) : (s.setPub v).ttb = s.ttb := rfl
@[simp] theorem State.setPub_svi (s : State) (v : PubS) : (s.setPub v).svi = s.svi := rfl
@[simp] theorem State.setPub_fch (s : State) (v : PubS) : (s.setPub v).fch = s.fch := rfl
@[simp] theorem State.setPub_pfs (s : State) (v : PubS) : (s.setPub v).pfs = s.pfs := rfl
@[simp] theorem State.setPub_mar (s : State) (v : PubS) : (s.setPub v).mar = s.mar := rfl
@[simp] theorem State.setPub_pub (s : State) (v : PubS) : (s.setPub v).pub = v := rfl
@[simp] theorem State.setPub_acq (s : State) (v : PubS) : (s.setPub v).acq = s.acq := rfl
@[simp] theorem State.setPub_lge (s : State) (v : PubS) : (s.setPub v).lge = s.lge := rfl
@[simp] theorem State.setPub_hlx (s : State) (v : PubS) : (s.setPub v).hlx = s.hlx := rfl
@[simp] theorem State.setPub_ins (s : State) (v : PubS) : (s.setPub v).ins = s.ins := rfl
@[simp] theorem State.setPub_vlt (s : State) (v : PubS) : (s.setPub v).vlt = s.vlt := rfl
@[simp] theorem State.setPub_tok (s : State) (v : PubS) : (s.setPub v).tok = s.tok := rfl

@[simp] theorem State.setAcq_pending (s : State) (v : AcqS) : (s.setAcq v).pending = s.pending := rfl
@[simp] theorem State.setAcq_regs (s : State) (v : AcqS) : (s.setAcq v).regs = s.regs := rfl
@[simp] theorem State.setAcq_mem (s : State) (v : AcqS) : (s.setAcq v).mem = s.mem := rfl
@[simp] theorem State.setAcq_now (s : State) (v : AcqS) : (s.setAcq v).now = s.now := rfl
@[simp] theorem State.setAcq_free (s : State) (v : AcqS) : (s.setAcq v).free = s.free := rfl
@[simp] theorem State.setAcq_log (s : State) (v : AcqS) : (s.setAcq v).log = s.log := rfl
@[simp] theorem State.setAcq_snap (s : State) (v : AcqS) : (s.setAcq v).snap = s.snap := rfl
@[simp] theorem State.setAcq_link (s : State) (v : AcqS) : (s.setAcq v).link = s.link := rfl
@[simp] theorem State.setAcq_host (s : State) (v : AcqS) : (s.setAcq v).host = s.host := rfl
@[simp] theorem State.setAcq_power (s : State) (v : AcqS) : (s.setAcq v).power = s.power := rfl
@[simp] theorem State.setAcq_rbk (s : State) (v : AcqS) : (s.setAcq v).rbk = s.rbk := rfl
@[simp] theorem State.setAcq_ports (s : State) (v : AcqS) : (s.setAcq v).ports = s.ports := rfl
@[simp] theorem State.setAcq_trips (s : State) (v : AcqS) : (s.setAcq v).trips = s.trips := rfl
@[simp] theorem State.setAcq_tbs (s : State) (v : AcqS) : (s.setAcq v).tbs = s.tbs := rfl
@[simp] theorem State.setAcq_tin (s : State) (v : AcqS) : (s.setAcq v).tin = s.tin := rfl
@[simp] theorem State.setAcq_ttb (s : State) (v : AcqS) : (s.setAcq v).ttb = s.ttb := rfl
@[simp] theorem State.setAcq_svi (s : State) (v : AcqS) : (s.setAcq v).svi = s.svi := rfl
@[simp] theorem State.setAcq_fch (s : State) (v : AcqS) : (s.setAcq v).fch = s.fch := rfl
@[simp] theorem State.setAcq_pfs (s : State) (v : AcqS) : (s.setAcq v).pfs = s.pfs := rfl
@[simp] theorem State.setAcq_mar (s : State) (v : AcqS) : (s.setAcq v).mar = s.mar := rfl
@[simp] theorem State.setAcq_pub (s : State) (v : AcqS) : (s.setAcq v).pub = s.pub := rfl
@[simp] theorem State.setAcq_acq (s : State) (v : AcqS) : (s.setAcq v).acq = v := rfl
@[simp] theorem State.setAcq_lge (s : State) (v : AcqS) : (s.setAcq v).lge = s.lge := rfl
@[simp] theorem State.setAcq_hlx (s : State) (v : AcqS) : (s.setAcq v).hlx = s.hlx := rfl
@[simp] theorem State.setAcq_ins (s : State) (v : AcqS) : (s.setAcq v).ins = s.ins := rfl
@[simp] theorem State.setAcq_vlt (s : State) (v : AcqS) : (s.setAcq v).vlt = s.vlt := rfl
@[simp] theorem State.setAcq_tok (s : State) (v : AcqS) : (s.setAcq v).tok = s.tok := rfl

@[simp] theorem State.setLge_pending (s : State) (v : LgeS) : (s.setLge v).pending = s.pending := rfl
@[simp] theorem State.setLge_regs (s : State) (v : LgeS) : (s.setLge v).regs = s.regs := rfl
@[simp] theorem State.setLge_mem (s : State) (v : LgeS) : (s.setLge v).mem = s.mem := rfl
@[simp] theorem State.setLge_now (s : State) (v : LgeS) : (s.setLge v).now = s.now := rfl
@[simp] theorem State.setLge_free (s : State) (v : LgeS) : (s.setLge v).free = s.free := rfl
@[simp] theorem State.setLge_log (s : State) (v : LgeS) : (s.setLge v).log = s.log := rfl
@[simp] theorem State.setLge_snap (s : State) (v : LgeS) : (s.setLge v).snap = s.snap := rfl
@[simp] theorem State.setLge_link (s : State) (v : LgeS) : (s.setLge v).link = s.link := rfl
@[simp] theorem State.setLge_host (s : State) (v : LgeS) : (s.setLge v).host = s.host := rfl
@[simp] theorem State.setLge_power (s : State) (v : LgeS) : (s.setLge v).power = s.power := rfl
@[simp] theorem State.setLge_rbk (s : State) (v : LgeS) : (s.setLge v).rbk = s.rbk := rfl
@[simp] theorem State.setLge_ports (s : State) (v : LgeS) : (s.setLge v).ports = s.ports := rfl
@[simp] theorem State.setLge_trips (s : State) (v : LgeS) : (s.setLge v).trips = s.trips := rfl
@[simp] theorem State.setLge_tbs (s : State) (v : LgeS) : (s.setLge v).tbs = s.tbs := rfl
@[simp] theorem State.setLge_tin (s : State) (v : LgeS) : (s.setLge v).tin = s.tin := rfl
@[simp] theorem State.setLge_ttb (s : State) (v : LgeS) : (s.setLge v).ttb = s.ttb := rfl
@[simp] theorem State.setLge_svi (s : State) (v : LgeS) : (s.setLge v).svi = s.svi := rfl
@[simp] theorem State.setLge_fch (s : State) (v : LgeS) : (s.setLge v).fch = s.fch := rfl
@[simp] theorem State.setLge_pfs (s : State) (v : LgeS) : (s.setLge v).pfs = s.pfs := rfl
@[simp] theorem State.setLge_mar (s : State) (v : LgeS) : (s.setLge v).mar = s.mar := rfl
@[simp] theorem State.setLge_pub (s : State) (v : LgeS) : (s.setLge v).pub = s.pub := rfl
@[simp] theorem State.setLge_acq (s : State) (v : LgeS) : (s.setLge v).acq = s.acq := rfl
@[simp] theorem State.setLge_lge (s : State) (v : LgeS) : (s.setLge v).lge = v := rfl
@[simp] theorem State.setLge_hlx (s : State) (v : LgeS) : (s.setLge v).hlx = s.hlx := rfl
@[simp] theorem State.setLge_ins (s : State) (v : LgeS) : (s.setLge v).ins = s.ins := rfl
@[simp] theorem State.setLge_vlt (s : State) (v : LgeS) : (s.setLge v).vlt = s.vlt := rfl
@[simp] theorem State.setLge_tok (s : State) (v : LgeS) : (s.setLge v).tok = s.tok := rfl

@[simp] theorem State.setHlx_pending (s : State) (v : HlxS) : (s.setHlx v).pending = s.pending := rfl
@[simp] theorem State.setHlx_regs (s : State) (v : HlxS) : (s.setHlx v).regs = s.regs := rfl
@[simp] theorem State.setHlx_mem (s : State) (v : HlxS) : (s.setHlx v).mem = s.mem := rfl
@[simp] theorem State.setHlx_now (s : State) (v : HlxS) : (s.setHlx v).now = s.now := rfl
@[simp] theorem State.setHlx_free (s : State) (v : HlxS) : (s.setHlx v).free = s.free := rfl
@[simp] theorem State.setHlx_log (s : State) (v : HlxS) : (s.setHlx v).log = s.log := rfl
@[simp] theorem State.setHlx_snap (s : State) (v : HlxS) : (s.setHlx v).snap = s.snap := rfl
@[simp] theorem State.setHlx_link (s : State) (v : HlxS) : (s.setHlx v).link = s.link := rfl
@[simp] theorem State.setHlx_host (s : State) (v : HlxS) : (s.setHlx v).host = s.host := rfl
@[simp] theorem State.setHlx_power (s : State) (v : HlxS) : (s.setHlx v).power = s.power := rfl
@[simp] theorem State.setHlx_rbk (s : State) (v : HlxS) : (s.setHlx v).rbk = s.rbk := rfl
@[simp] theorem State.setHlx_ports (s : State) (v : HlxS) : (s.setHlx v).ports = s.ports := rfl
@[simp] theorem State.setHlx_trips (s : State) (v : HlxS) : (s.setHlx v).trips = s.trips := rfl
@[simp] theorem State.setHlx_tbs (s : State) (v : HlxS) : (s.setHlx v).tbs = s.tbs := rfl
@[simp] theorem State.setHlx_tin (s : State) (v : HlxS) : (s.setHlx v).tin = s.tin := rfl
@[simp] theorem State.setHlx_ttb (s : State) (v : HlxS) : (s.setHlx v).ttb = s.ttb := rfl
@[simp] theorem State.setHlx_svi (s : State) (v : HlxS) : (s.setHlx v).svi = s.svi := rfl
@[simp] theorem State.setHlx_fch (s : State) (v : HlxS) : (s.setHlx v).fch = s.fch := rfl
@[simp] theorem State.setHlx_pfs (s : State) (v : HlxS) : (s.setHlx v).pfs = s.pfs := rfl
@[simp] theorem State.setHlx_mar (s : State) (v : HlxS) : (s.setHlx v).mar = s.mar := rfl
@[simp] theorem State.setHlx_pub (s : State) (v : HlxS) : (s.setHlx v).pub = s.pub := rfl
@[simp] theorem State.setHlx_acq (s : State) (v : HlxS) : (s.setHlx v).acq = s.acq := rfl
@[simp] theorem State.setHlx_lge (s : State) (v : HlxS) : (s.setHlx v).lge = s.lge := rfl
@[simp] theorem State.setHlx_hlx (s : State) (v : HlxS) : (s.setHlx v).hlx = v := rfl
@[simp] theorem State.setHlx_ins (s : State) (v : HlxS) : (s.setHlx v).ins = s.ins := rfl
@[simp] theorem State.setHlx_vlt (s : State) (v : HlxS) : (s.setHlx v).vlt = s.vlt := rfl
@[simp] theorem State.setHlx_tok (s : State) (v : HlxS) : (s.setHlx v).tok = s.tok := rfl

@[simp] theorem State.setIns_pending (s : State) (v : InsS) : (s.setIns v).pending = s.pending := rfl
@[simp] theorem State.setIns_regs (s : State) (v : InsS) : (s.setIns v).regs = s.regs := rfl
@[simp] theorem State.setIns_mem (s : State) (v : InsS) : (s.setIns v).mem = s.mem := rfl
@[simp] theorem State.setIns_now (s : State) (v : InsS) : (s.setIns v).now = s.now := rfl
@[simp] theorem State.setIns_free (s : State) (v : InsS) : (s.setIns v).free = s.free := rfl
@[simp] theorem State.setIns_log (s : State) (v : InsS) : (s.setIns v).log = s.log := rfl
@[simp] theorem State.setIns_snap (s : State) (v : InsS) : (s.setIns v).snap = s.snap := rfl
@[simp] theorem State.setIns_link (s : State) (v : InsS) : (s.setIns v).link = s.link := rfl
@[simp] theorem State.setIns_host (s : State) (v : InsS) : (s.setIns v).host = s.host := rfl
@[simp] theorem State.setIns_power (s : State) (v : InsS) : (s.setIns v).power = s.power := rfl
@[simp] theorem State.setIns_rbk (s : State) (v : InsS) : (s.setIns v).rbk = s.rbk := rfl
@[simp] theorem State.setIns_ports (s : State) (v : InsS) : (s.setIns v).ports = s.ports := rfl
@[simp] theorem State.setIns_trips (s : State) (v : InsS) : (s.setIns v).trips = s.trips := rfl
@[simp] theorem State.setIns_tbs (s : State) (v : InsS) : (s.setIns v).tbs = s.tbs := rfl
@[simp] theorem State.setIns_tin (s : State) (v : InsS) : (s.setIns v).tin = s.tin := rfl
@[simp] theorem State.setIns_ttb (s : State) (v : InsS) : (s.setIns v).ttb = s.ttb := rfl
@[simp] theorem State.setIns_svi (s : State) (v : InsS) : (s.setIns v).svi = s.svi := rfl
@[simp] theorem State.setIns_fch (s : State) (v : InsS) : (s.setIns v).fch = s.fch := rfl
@[simp] theorem State.setIns_pfs (s : State) (v : InsS) : (s.setIns v).pfs = s.pfs := rfl
@[simp] theorem State.setIns_mar (s : State) (v : InsS) : (s.setIns v).mar = s.mar := rfl
@[simp] theorem State.setIns_pub (s : State) (v : InsS) : (s.setIns v).pub = s.pub := rfl
@[simp] theorem State.setIns_acq (s : State) (v : InsS) : (s.setIns v).acq = s.acq := rfl
@[simp] theorem State.setIns_lge (s : State) (v : InsS) : (s.setIns v).lge = s.lge := rfl
@[simp] theorem State.setIns_hlx (s : State) (v : InsS) : (s.setIns v).hlx = s.hlx := rfl
@[simp] theorem State.setIns_ins (s : State) (v : InsS) : (s.setIns v).ins = v := rfl
@[simp] theorem State.setIns_vlt (s : State) (v : InsS) : (s.setIns v).vlt = s.vlt := rfl
@[simp] theorem State.setIns_tok (s : State) (v : InsS) : (s.setIns v).tok = s.tok := rfl

@[simp] theorem State.setVlt_pending (s : State) (v : VltS) : (s.setVlt v).pending = s.pending := rfl
@[simp] theorem State.setVlt_regs (s : State) (v : VltS) : (s.setVlt v).regs = s.regs := rfl
@[simp] theorem State.setVlt_mem (s : State) (v : VltS) : (s.setVlt v).mem = s.mem := rfl
@[simp] theorem State.setVlt_now (s : State) (v : VltS) : (s.setVlt v).now = s.now := rfl
@[simp] theorem State.setVlt_free (s : State) (v : VltS) : (s.setVlt v).free = s.free := rfl
@[simp] theorem State.setVlt_log (s : State) (v : VltS) : (s.setVlt v).log = s.log := rfl
@[simp] theorem State.setVlt_snap (s : State) (v : VltS) : (s.setVlt v).snap = s.snap := rfl
@[simp] theorem State.setVlt_link (s : State) (v : VltS) : (s.setVlt v).link = s.link := rfl
@[simp] theorem State.setVlt_host (s : State) (v : VltS) : (s.setVlt v).host = s.host := rfl
@[simp] theorem State.setVlt_power (s : State) (v : VltS) : (s.setVlt v).power = s.power := rfl
@[simp] theorem State.setVlt_rbk (s : State) (v : VltS) : (s.setVlt v).rbk = s.rbk := rfl
@[simp] theorem State.setVlt_ports (s : State) (v : VltS) : (s.setVlt v).ports = s.ports := rfl
@[simp] theorem State.setVlt_trips (s : State) (v : VltS) : (s.setVlt v).trips = s.trips := rfl
@[simp] theorem State.setVlt_tbs (s : State) (v : VltS) : (s.setVlt v).tbs = s.tbs := rfl
@[simp] theorem State.setVlt_tin (s : State) (v : VltS) : (s.setVlt v).tin = s.tin := rfl
@[simp] theorem State.setVlt_ttb (s : State) (v : VltS) : (s.setVlt v).ttb = s.ttb := rfl
@[simp] theorem State.setVlt_svi (s : State) (v : VltS) : (s.setVlt v).svi = s.svi := rfl
@[simp] theorem State.setVlt_fch (s : State) (v : VltS) : (s.setVlt v).fch = s.fch := rfl
@[simp] theorem State.setVlt_pfs (s : State) (v : VltS) : (s.setVlt v).pfs = s.pfs := rfl
@[simp] theorem State.setVlt_mar (s : State) (v : VltS) : (s.setVlt v).mar = s.mar := rfl
@[simp] theorem State.setVlt_pub (s : State) (v : VltS) : (s.setVlt v).pub = s.pub := rfl
@[simp] theorem State.setVlt_acq (s : State) (v : VltS) : (s.setVlt v).acq = s.acq := rfl
@[simp] theorem State.setVlt_lge (s : State) (v : VltS) : (s.setVlt v).lge = s.lge := rfl
@[simp] theorem State.setVlt_hlx (s : State) (v : VltS) : (s.setVlt v).hlx = s.hlx := rfl
@[simp] theorem State.setVlt_ins (s : State) (v : VltS) : (s.setVlt v).ins = s.ins := rfl
@[simp] theorem State.setVlt_vlt (s : State) (v : VltS) : (s.setVlt v).vlt = v := rfl
@[simp] theorem State.setVlt_tok (s : State) (v : VltS) : (s.setVlt v).tok = s.tok := rfl

@[simp] theorem State.setTok_pending (s : State) (v : TokS) : (s.setTok v).pending = s.pending := rfl
@[simp] theorem State.setTok_regs (s : State) (v : TokS) : (s.setTok v).regs = s.regs := rfl
@[simp] theorem State.setTok_mem (s : State) (v : TokS) : (s.setTok v).mem = s.mem := rfl
@[simp] theorem State.setTok_now (s : State) (v : TokS) : (s.setTok v).now = s.now := rfl
@[simp] theorem State.setTok_free (s : State) (v : TokS) : (s.setTok v).free = s.free := rfl
@[simp] theorem State.setTok_log (s : State) (v : TokS) : (s.setTok v).log = s.log := rfl
@[simp] theorem State.setTok_snap (s : State) (v : TokS) : (s.setTok v).snap = s.snap := rfl
@[simp] theorem State.setTok_link (s : State) (v : TokS) : (s.setTok v).link = s.link := rfl
@[simp] theorem State.setTok_host (s : State) (v : TokS) : (s.setTok v).host = s.host := rfl
@[simp] theorem State.setTok_power (s : State) (v : TokS) : (s.setTok v).power = s.power := rfl
@[simp] theorem State.setTok_rbk (s : State) (v : TokS) : (s.setTok v).rbk = s.rbk := rfl
@[simp] theorem State.setTok_ports (s : State) (v : TokS) : (s.setTok v).ports = s.ports := rfl
@[simp] theorem State.setTok_trips (s : State) (v : TokS) : (s.setTok v).trips = s.trips := rfl
@[simp] theorem State.setTok_tbs (s : State) (v : TokS) : (s.setTok v).tbs = s.tbs := rfl
@[simp] theorem State.setTok_tin (s : State) (v : TokS) : (s.setTok v).tin = s.tin := rfl
@[simp] theorem State.setTok_ttb (s : State) (v : TokS) : (s.setTok v).ttb = s.ttb := rfl
@[simp] theorem State.setTok_svi (s : State) (v : TokS) : (s.setTok v).svi = s.svi := rfl
@[simp] theorem State.setTok_fch (s : State) (v : TokS) : (s.setTok v).fch = s.fch := rfl
@[simp] theorem State.setTok_pfs (s : State) (v : TokS) : (s.setTok v).pfs = s.pfs := rfl
@[simp] theorem State.setTok_mar (s : State) (v : TokS) : (s.setTok v).mar = s.mar := rfl
@[simp] theorem State.setTok_pub (s : State) (v : TokS) : (s.setTok v).pub = s.pub := rfl
@[simp] theorem State.setTok_acq (s : State) (v : TokS) : (s.setTok v).acq = s.acq := rfl
@[simp] theorem State.setTok_lge (s : State) (v : TokS) : (s.setTok v).lge = s.lge := rfl
@[simp] theorem State.setTok_hlx (s : State) (v : TokS) : (s.setTok v).hlx = s.hlx := rfl
@[simp] theorem State.setTok_ins (s : State) (v : TokS) : (s.setTok v).ins = s.ins := rfl
@[simp] theorem State.setTok_vlt (s : State) (v : TokS) : (s.setTok v).vlt = s.vlt := rfl
@[simp] theorem State.setTok_tok (s : State) (v : TokS) : (s.setTok v).tok = v := rfl

end Sys2Proof.Machine
end

