-- ==== Sys2Proof/Laws/Ops.lean ====
section
/-!
SUPPORT. What the shared operations do, said once: a field or a byte read after a write, time going on, a counter, an event, a message
taken in its turn.
-/
namespace Sys2Proof.Machine

/-! ## Sparse tables -/

theorem Sp.get_above {α : Type} (d : α) : ∀ (l : List (Nat × α)) (lo k : Nat), Sp.rising (some lo) l = true → k ≤ lo →
    Sp.get d l k = d
  | [], _, _, _, _ => rfl
  | (j, v) :: r, lo, k, h, hk => by
    simp only [Sp.rising, Bool.and_eq_true, decide_eq_true_eq] at h
    rw [Sp.get, if_pos (by omega)]

theorem Sp.get_insert {α : Type} (d : α) (k : Nat) (v : α) (x : Nat) : ∀ l : List (Nat × α),
    Sp.get d (Sp.insert l k v) x = if x = k then v else Sp.get d l x
  | [] => by
    simp only [Sp.insert, Sp.get]; split <;> split <;> first | rfl | omega
  | (j, w) :: r => by
    have ih := Sp.get_insert d k v x r
    unfold Sp.insert
    split
    · by_cases hx : x = k
      · subst hx; simp [Sp.get]
      · simp only [Sp.get, if_neg hx]; split
        · rw [if_pos (by omega)]
        · rfl
    · split
      · subst_vars; simp only [Sp.get]; split
        · rw [if_neg (by omega)]
        · split <;> rfl
      · simp only [Sp.get, ih]; split
        · rw [if_neg (by omega)]
        · split
          · rw [if_neg (by omega)]
          · rfl

theorem Sp.get_erase {α : Type} (d : α) (k x : Nat) : ∀ l : List (Nat × α), Sp.rising none l = true →
    Sp.get d (Sp.erase l k) x = if x = k then d else Sp.get d l x
  | [], _ => by simp [Sp.erase, Sp.get]
  | (j, w) :: r, h => by
    have hr : Sp.rising (some j) r = true := h
    have ih := Sp.get_erase d k x r (Sp.rising_none_of_some hr)
    unfold Sp.erase
    split
    · split
      · subst_vars; rw [Sp.get, if_pos (by assumption)]
      · rfl
    · split
      · subst_vars
        by_cases hx : x = j
        · subst hx; rw [if_pos rfl, Sp.get_above d r x x hr (by omega)]
        · rw [if_neg hx, Sp.get]; split
          · rw [Sp.get_above d r j x hr (by omega)]
          · rfl
      · simp only [Sp.get, ih]; split
        · rw [if_neg (by omega)]
        · split
          · rw [if_neg (by omega)]
          · rfl

/-- What a table reads after a write. -/
theorem Sp.get_put {α : Type} [DecidableEq α] (d : α) {l : List (Nat × α)} (k : Nat) (v : α) (x : Nat) (h : Sp.rising none l = true) :
    Sp.get d (Sp.put d l k v) x = if x = k then v else Sp.get d l x := by
  unfold Sp.put
  split
  · subst_vars; exact Sp.get_erase _ _ _ _ h
  · exact Sp.get_insert _ _ _ _ _

/-- A write leaves what every other key reads as, whatever default it is read with. -/
theorem Sp.get_put_ne {α : Type} [DecidableEq α] (d e : α) {l : List (Nat × α)} (k : Nat) (v : α) (x : Nat) (h : Sp.rising none l = true)
    (hx : x ≠ k) : Sp.get d (Sp.put e l k v) x = Sp.get d l x := by
  unfold Sp.put
  split
  · rw [Sp.get_erase _ _ _ _ h, if_neg hx]
  · rw [Sp.get_insert, if_neg hx]

/-! ## Fields and bytes -/

theorem State.Sound.rising {s : State} (h : s.Sound) : Sp.rising none s.regs = true := h.2.1
theorem State.Sound.memRising {s : State} (h : s.Sound) : Sp.rising none s.mem = true := by
  have := h.1
  simp only [Memory.wf, Sp.wf, Bool.and_eq_true] at this
  exact this.1

/-- A field reads back what was stored, within its width. -/
theorem State.get_put_same {s : State} (h : Sp.rising none s.regs = true) (f : Fld) (v : Nat) : (s.put f v).get f = v % 2 ^ f.width := by
  unfold State.get State.put
  rw [State.setRegs_regs, Sp.get_put _ _ _ _ h, if_pos rfl]

/-- A store changes no other field. -/
theorem State.get_put_ne {s : State} (h : Sp.rising none s.regs = true) (f g : Fld) (v : Nat) (hg : g.key ≠ f.key) :
    (s.put f v).get g = s.get g := by
  unfold State.get State.put
  rw [State.setRegs_regs, Sp.get_put_ne _ _ _ _ _ h hg]

/-- The register table keeps its form. -/
theorem State.put_rising {s : State} (h : Sp.rising none s.regs = true) (f : Fld) (v : Nat) : Sp.rising none (s.put f v).regs = true :=
  Sp.rising_put _ _ _ h

/-- A byte of memory after a write. -/
theorem State.rd_wr {s : State} (h : Sp.rising none s.mem = true) (a : Nat) (b : Byte) (x : Nat) :
    (s.wr a b).rd x = if x = a then b else s.rd x := by
  unfold State.rd State.wr
  rw [State.setMem_mem, Sp.get_put _ _ _ _ h]

/-- Memory keeps its form. -/
theorem State.wr_rising {s : State} (h : Sp.rising none s.mem = true) (a : Nat) (b : Byte) : Sp.rising none (s.wr a b).mem = true :=
  Sp.rising_put _ _ _ h

/-- Bytes outside a stored run read as before. -/
theorem State.rd_wrN (x : Nat) : ∀ (b : Bytes) (s : State) (a : Nat), Sp.rising none s.mem = true → (x < a ∨ a + b.length ≤ x) →
    (s.wrN a b).rd x = s.rd x
  | [], _, _, _, _ => rfl
  | c :: r, s, a, h, hx => by
    unfold State.wrN
    simp only [List.length_cons] at hx
    rw [State.rd_wrN x r _ _ (State.wr_rising h a c) (by omega), State.rd_wr h, if_neg (by omega)]

/-! ## Messages taken in their turn -/

/-- Sending changes the link alone. -/
theorem State.send_regs (s : State) (m : Msg) : (s.send m).regs = s.regs := by
  unfold State.send
  split
  · rfl
  · split <;> rfl

/-- Taking a message changes the link alone. -/
theorem State.took_get (s : State) (cls : Nat) (h : Hdr) (f : Fld) : (s.took cls h).get f = s.get f := by
  unfold State.took State.sendAck State.get
  rw [State.send_regs]; rfl

/-- A message in its turn is acted on. -/
theorem State.receive_inTurn {s : State} {cls : Nat} {h : Hdr} (act : State → State) (hi : s.inTurn cls h = true) :
    s.receive cls h act = act (s.took cls h) := by
  simp only [State.inTurn, Bool.and_eq_true, beq_iff_eq] at hi
  obtain ⟨⟨hu, he⟩, hs⟩ := hi
  have hg : (s.took cls h).flag F.XNG_STATUS_EARLY = s.flag F.XNG_STATUS_EARLY := by
    unfold State.flag; rw [State.took_get]
  unfold State.took at hg ⊢
  unfold State.receive
  simp only [hu, hs, seqCase, Bool.not_true, Bool.false_eq_true, if_false, if_true]
  rw [hs] at hg
  rw [hg, if_neg]
  revert he
  cases s.flag F.XNG_STATUS_EARLY <;> cases earlyClass cls <;> simp

end Sys2Proof.Machine
end

