-- ==== Sys2Proof/WellFormed.lean ====
section
/-!
DEFINITION. Which terms of `Instr` are commands of this hardware: every unit number and every coded field within the range
that the manual gives it. A term outside names a unit that does not exist; no rule speaks of it.
-/
namespace Sys2Proof

/-- A port as R106 numbers them: 0 to 15 PB, 16 and 17 TW, 0x20 to 0x23 SB, 0x24 MT. -/
def portOk (p : Nat) : Bool := decide (p < 18) || (decide (0x20 ≤ p) && decide (p ≤ 0x24))

/-- A class of R30. -/
def classOk (c : Nat) : Bool := decide (c < 16)

/-- The header's SRC and TGT are bytes (R29). -/
def Hdr.wf (h : Hdr) : Bool := decide (h.src < 256) && decide (h.tgt < 256)

/-- A frame's fields fit their octets (R87, R89, R164). -/
def RxFrame.wf (f : RxFrame) : Bool :=
  f.dst.length == 6 && f.src.length == 6 && decide (f.etherType < 65536) &&
  (match f.vlan with | none => true | some v => decide (v.1 < 4096) && decide (v.2 < 8)) &&
  (match f.prp with | none => true | some r => decide (r.seq < 65536)) &&
  (match f.hsr with | none => true | some r => decide (r.seq < 65536))

/-- A holder of a semaphore (R342): the manager, an instance 1 to 63, the stationmaster or the logic engine. -/
def holderOk (w : Holder) : Bool := decide (w ≤ 0x41)

/-- The well-formed commands. -/
def Instr.wf (i : Instr) : Bool :=
  match i with
  | .registerWrite _ a _ => a.toNat % 4 == 0
  | .messageBadFraming b => decide (b.length ≤ 2068)
  | .acknowledgement es => es.all (fun e => classOk e.1)
  | .negativeAcknowledgement c _ => classOk c
  | .ackTimeout c => classOk c
  | .retrainEnd l => decide (l < 16)
  | .retrainRetry l => decide (l < 16)
  | .moduleResetRequest h => h.wf
  | .managerKeepAlive h _ => h.wf
  | .hostStatusMessage h _ _ => h.wf
  | .configurationWrite h es => h.wf && decide (1 ≤ es.length)
  | .configurationRead h as => h.wf && decide (1 ≤ as.length)
  | .startUpStageEnd e _ => e.readings.length == 0 || e.readings.length == 16
  | .dozeEntry pf => decide (pf < 24)
  | .dozeUngate pf => decide (pf < 24)
  | .pwrWdtWrite m _ => decide (m < 256)
  | .openLoad h _ => h.wf
  | .dataChunk h _ _ => h.wf
  | .closeLoad h => h.wf
  | .activate h _ d _ => h.wf && d.length == 32
  | .rulebookAbort h => h.wf
  | .amendmentRecord h _ _ => h.wf
  | .frameReceived p f _ => portOk p && f.wf
  | .pauseFrame p q _ => portOk p && decide (q < 65536)
  | .pauseExpired p _ => portOk p
  | .transmitStart p _ _ _ => portOk p
  | .transmitUnderrun p => portOk p
  | .utilisationWindow sb _ _ => decide (sb < 4)
  | .renegotiationComplete sb => decide (sb < 4)
  | .ft3Frame f _ _ _ => decide (f < 4)
  | .ft3FrameMissing f => decide (f < 4)
  | .minonExpired d _ => decide (d < 2)
  | .tripOverload d => decide (d < 2)
  | .overloadRetry d _ _ => decide (d < 2)
  | .openLoadFound d => decide (d < 2)
  | .openLoadCleared d => decide (d < 2)
  | .portLinkUp p r => portOk p && decide (r < 16)
  | .linkStable p => portOk p
  | .portLinkDown p => portOk p
  | .statCounterLoRead a => a.toNat % 4 == 0
  | .syncTimeout b => decide (b < 4)
  | .announceReceiptTimeout b => decide (b < 4)
  | .holdoverExpired b => decide (b < 4)
  | .setsecGo b => decide (b < 4)
  | .ptpQueuePop p => portOk p
  | .generalQueuePop p => portOk p
  | .tbNsRead b _ => decide (b < 4)
  | .sbPtpFrame h sb _ _ => h.wf && decide (sb < 4)
  | .sbEgressStamp h _ _ => h.wf
  | .launchTask i _ _ => decide (i < 512)
  | .launchQueueServed pf _ => decide (pf < 24)
  | .startAfeConversion i _ _ => decide (i < 512)
  | .frameMark i _ _ => decide (i < 512)
  | .armRecorder i _ _ => decide (i < 512)
  | .disarmRecorder i _ _ => decide (i < 512)
  | .triggerRecorder i _ _ => decide (i < 512)
  | .logicCycleStart i _ _ => decide (i < 512)
  | .haltExchangeStart i _ _ => decide (i < 512)
  | .svRelease i _ _ => decide (i < 512)
  | .maintenanceWindow i _ _ _ => decide (i < 512)
  | .tokenRenewal i _ _ => decide (i < 512)
  | .slotWrite b i w _ => decide (b < 2) && decide (i < 512) && decide (w < 8)
  | .sampleDeadline i _ _ => decide (i < 512)
  | .smpsynchReport i _ => decide (i < 512)
  | .laneOutput l _ => decide (l < 4096)
  | .coastingHoldExpired g _ => decide (g < 64)
  | .phaseDelayWrite l i f => decide (l < 4096) && decide (i < 4096) && decide (f < 256)
  | .dcrst l => decide (l < 4096)
  | .fgIdxLoRead g => decide (g < 64)
  | .phasorPush pf _ _ => decide (pf < 24)
  | .phasorDescriptorDone pf => decide (pf < 24)
  | .budgetOverrun pf => decide (pf < 24)
  | .deadline pf _ _ _ _ => decide (pf < 24)
  | .ecall pf _ _ _ _ _ => decide (pf < 24)
  | .trap pf _ _ _ _ _ => decide (pf < 24)
  | .commit pf _ => decide (pf < 24)
  | .lockstepMismatch pf _ => decide (pf < 24)
  | .measurementClear t i => decide (t < 256) && decide (i < 64)
  | .boundWrite i r _ => decide (1 ≤ i) && decide (i < 64) && decide (r < 3)
  | .retransmissionPoint t _ _ => decide (t < 512)
  | .digestFrame tw _ _ _ _ => decide (tw < 2)
  | .subscriptionMirror h _ _ _ _ _ => h.wf
  | .acqArm r => decide (r < 16)
  | .acqDisarm r => decide (r < 16)
  | .acqTrig r _ => decide (r < 16)
  | .acqRelease r => decide (r < 16)
  | .lclRectrig pf m _ => decide (pf < 24) && decide (m < 65536)
  | .prefillComplete r => decide (r < 16)
  | .captureWindowEnd r _ => decide (r < 16)
  | .holdOffEnd r _ => decide (r < 16)
  | .exportComplete r => decide (r < 16)
  | .conversionComplete c _ => decide (c < 8)
  | .afeResRead c => decide (c < 8)
  | .calibrationPageRead h => h.wf
  | .calibrationPageWrite h b => h.wf && b.length == 1024
  | .breakpointHit n => decide (n < 16)
  | .haltReply p _ _ => portOk p
  | .instanceStart i => decide (1 ≤ i) && decide (i < 64)
  | .instanceReset i _ => decide (1 ≤ i) && decide (i < 64)
  | .instanceRestart i _ => decide (1 ≤ i) && decide (i < 64)
  | .instanceResetComplete i => decide (1 ≤ i) && decide (i < 64)
  | .quotaWrite i r _ => decide (1 ≤ i) && decide (i < 64) && decide (r < 2)
  | .heapSizeWrite i _ => decide (1 ≤ i) && decide (i < 64)
  | .queueOwnerWrite q o => decide (q < 32) && decide (o < 64)
  | .mailboxToInstance h _ _ => h.wf
  | .mailboxDoorbell h => h.wf
  | .mailboxPop pf => decide (pf < 24)
  | .mailboxPush pf _ _ _ _ => decide (pf < 24)
  | .semaphoreTry w n => holderOk w && decide (n < 256)
  | .semaphoreRelease w n _ => holderOk w && decide (n < 256)
  | .channelStart c => decide (c < 32)
  | .queuePush q _ => decide (q < 32)
  | .channelDoorbell c => decide (c < 32)
  | .channelResume c => decide (c < 32)
  | .channelAbort c => decide (c < 32)
  | .errclr c => decide (c < 32)
  | .descriptorComplete c => decide (c < 32)
  | .busError c _ _ _ => decide (c < 32)
  | .grantDecision a _ => decide (a < 3)
  | .keyinfo h _ => h.wf
  | .importKey h _ _ _ _ _ _ _ => h.wf
  | .vaultCommit h _ => h.wf
  | .vaultCancel h _ => h.wf
  | .erase h _ => h.wf
  | .derive h _ _ _ _ _ _ _ => h.wf
  | .mac h _ _ _ => h.wf
  | .verify h _ _ _ => h.wf
  | .encrypt h _ _ _ => h.wf
  | .decrypt h _ _ _ _ _ => h.wf
  | .anchor h _ _ _ => h.wf
  | .attest h _ _ => h.wf
  | .selftest h => h.wf
  | .renewFrame tw _ _ _ _ _ _ => decide (tw < 2)
  | .acknowledgeFrame tw _ _ _ _ => decide (tw < 2)
  | .checkpointFrame tw _ _ _ _ _ _ _ _ => decide (tw < 2)
  | .retainFrame tw _ _ _ _ _ => decide (tw < 2)
  | .tokenTake p _ _ => decide (p < 2)
  | .take _ p _ => decide (p < 2)
  | .pairLinkDown tw _ => decide (tw < 2)
  | .peerLost p _ => decide (p < 2)
  | .syncTransmission b k => decide (b < 4) && decide (k < 4)
  | .malformedMessage _ _ h => h.wf
  | .transmitBufferHalfFull sb => decide (sb < 4)
  | .junctionAccessEffect _ _ _ => true
  | .junctionFifoDrain _ _ => true
  | .junctionHung _ _ => true
  | .linkMessageSent => true
  | .timeBaseMirrorAlignment _ => true
  | .statusMessage => true
  | .configurationReadServed _ => true
  | .powerFailWarning _ _ => true
  | .finalFlushComplete => true
  | .holdUpLeft _ _ => true
  | .orderlyStop _ => true
  | .hostDieResumed => true
  | .storeCharged _ => true
  | .powerUp _ => true
  | .rstNLow _ _ => true
  | .mreset _ _ => true
  | .park _ _ => true
  | .wake _ _ => true
  | .void _ => true
  | .wakeComplete _ => true
  | .watchdog1Expiry _ => true
  | .watchdog2Expiry _ => true
  | .watchdog3Expiry _ => true
  | .verificationComplete => true
  | .activationFlushComplete _ => true
  | .collision _ _ => true
  | .rollExpired _ => true
  | .irigFrame _ _ _ _ _ _ => true
  | .irigFrameMissing => true
  | .leapSecond _ => true
  | .ppsEdge _ => true
  | .ppsEdgeMissing => true
  | .toutOutput _ => true
  | .timeStatusMessage => true
  | .cycleBoundary _ => true
  | .bankSwitchRequest _ => true
  | .bankCheckComplete _ => true
  | .bankSwitchCancel _ _ => true
  | .cycnumLoRead => true
  | .frameParse _ => true
  | .loadWindow _ => true
  | .coeffBankSwitchRequest => true
  | .uncorrectableEccError _ _ _ _ => true
  | .correctableEccError _ _ => true
  | .spareRestartComplete _ => true
  | .decisionPeriod _ _ => true
  | .digestSend _ _ => true
  | .digestTimeout _ => true
  | .historyRequest => true
  | .historyRequestComplete => true
  | .calibrationPageWriteComplete _ => true
  | .logicCommit _ _ => true
  | .logicCycleAbort _ => true
  | .logicRun => true
  | .logicStop => true
  | .logicHold => true
  | .logicContinue => true
  | .logicStep => true
  | .logicCold => true
  | .logicWarm => true
  | .cyclePause _ => true
  | .replyWindowClose _ => true
  | .selftestComplete _ _ => true
  | .catchupRenewal _ => true
  | .leaseExpiry _ => true
  | .release _ _ => true
  | .checkpointStream _ => true
  | .retainMirrorWrite _ => true
  | .redundancyStatus _ => true
  | .hrstNLow => true
  | .hlPerstN => true
  | .pllLostLock _ => true
  | .rstNReleased => true

end Sys2Proof
end

