-- ==== Sys2Proof/Tests/Slice0.lean ====
section
/-!
SUPPORT. Tests: terms that WellFormed refuses, one step of commands on small states with results taken from the manual's rules, and for every
statement of Certificates/Slice0/Obligations.lean with hypotheses a witness `wit_<statement>` that concrete states and operands meet them, clause
by clause. A clause whose hypothesis says what an opaque constant of Config answers has no witness for that part.
-/
namespace Sys2Proof.Machine

-- One theorem after another: a thread for each would be more than the checks allow.
set_option Elab.async false

/-! ## Small states -/

/-- A state with some fields set, from the reset state. -/
def withFields (l : List (Fld × Nat)) : State := l.foldl (fun s e => s.put e.1 e.2) State.reset

/-- READY with the link up. -/
def linkFields : List (Fld × Nat) := [(F.XNG_STATUS_UP, 1), (F.PWR_STAGE_READY, 1), (F.XNG_STATUS_EARLY, 0)]

/-- READY with the link up, no reset in progress. -/
def up (l : List (Fld × Nat)) : State :=
  (withFields (linkFields ++ l)).setPower { PowerS.init with powered := true }

/-- With a rulebook active. -/
def act (l : List (Fld × Nat)) : State := up ((F.PWR_STAGE_CFG, 1) :: l)

/-- A header of the manager's first message of a class. -/
def hd : Hdr := { seq := 0, src := 0, tgt := 0, last := true, tag := 7 }

/-- The same from instance 1. -/
def hdI : Hdr := { hd with src := 1 }

/-- The next state of a command. -/
def after (c : Instr) (s : State) : State := match exec c s with
  | .next t => t
  | _ => s

/-! ## WellFormed refuses -/

theorem test_wf_registerWrite : (Instr.registerWrite .aon 0x01000001 0).wf = false ∧ (Instr.registerWrite .aon 0x01000004 0).wf = true := by decide
theorem test_wf_class : (Instr.acknowledgement [(16, 0)]).wf = false ∧
    (Instr.negativeAcknowledgement 16 0).wf = false ∧ (Instr.ackTimeout 16).wf = false ∧ (Instr.ackTimeout 15).wf = true := by decide
theorem test_wf_lanes : (Instr.retrainEnd 16).wf = false ∧ (Instr.retrainRetry 16).wf = false ∧ (Instr.retrainEnd 15).wf = true := by decide
theorem test_wf_hdr : (Instr.moduleResetRequest { hd with src := 256 }).wf = false ∧ (Instr.managerKeepAlive { hd with tgt := 256 } 0).wf = false ∧
    (Instr.hostStatusMessage { hd with src := 256 } 0 0).wf = false ∧ (Instr.openLoad { hd with src := 256 } 0).wf = false ∧
    (Instr.dataChunk { hd with src := 256 } 0 []).wf = false ∧ (Instr.closeLoad { hd with src := 256 }).wf = false ∧
    (Instr.rulebookAbort { hd with src := 256 }).wf = false ∧ (Instr.amendmentRecord { hd with src := 256 } [] 0).wf = false ∧
    (Instr.sbEgressStamp { hd with src := 256 } 0 none).wf = false ∧ (Instr.subscriptionMirror { hd with src := 256 } 0 0 0 0 []).wf = false ∧
    (Instr.calibrationPageRead { hd with src := 256 }).wf = false ∧ (Instr.malformedMessage 1 1 { hd with tgt := 256 }).wf = false ∧
    (Instr.mailboxToInstance { hd with src := 256 } 1 []).wf = false ∧ (Instr.mailboxDoorbell { hd with src := 256 }).wf = false := by decide
theorem test_wf_hdr_vault : (Instr.keyinfo { hd with src := 256 } 0).wf = false ∧ (Instr.importKey { hd with src := 256 } 0 0 0 0 false [] []).wf = false ∧
    (Instr.vaultCommit { hd with src := 256 } 0).wf = false ∧ (Instr.vaultCancel { hd with src := 256 } 0).wf = false ∧
    (Instr.erase { hd with src := 256 } 0).wf = false ∧ (Instr.derive { hd with src := 256 } 0 0 0 0 false [] []).wf = false ∧
    (Instr.mac { hd with src := 256 } 0 [] []).wf = false ∧ (Instr.verify { hd with src := 256 } 0 [] []).wf = false ∧
    (Instr.encrypt { hd with src := 256 } 0 [] []).wf = false ∧ (Instr.decrypt { hd with src := 256 } 0 [] [] [] []).wf = false ∧
    (Instr.anchor { hd with src := 256 } 0 [] []).wf = false ∧ (Instr.attest { hd with src := 256 } 0 []).wf = false ∧
    (Instr.selftest { hd with src := 256 }).wf = false := by decide
theorem test_wf_lengths : (Instr.configurationWrite hd []).wf = false ∧ (Instr.configurationRead hd []).wf = false ∧
    (Instr.activate hd 0 [] 0).wf = false ∧ (Instr.calibrationPageWrite hd []).wf = false ∧
    (Instr.startUpStageEnd { ok := true, vaultTest := 0, badSlots := [], entropy := [], stampsOk := true, linkOk := true, readings := [(0, 0)], temp := 0 } 0).wf =
      false := by decide
/-- A frame of EtherType 0x0800 to a group address. -/
def plainFrame : RxFrame :=
  { dst := [1, 0, 0, 0, 0, 0], src := [2, 0, 0, 0, 0, 1], vlan := none, prp := none, hsr := none, etherType := 0x0800, len := 64, fcsOk := true,
    body := .raw [] }
theorem test_wf_frame : (Instr.frameReceived 18 plainFrame 0).wf = false ∧ (Instr.frameReceived 0 { plainFrame with dst := [] } 0).wf = false ∧
    (Instr.frameReceived 0 { plainFrame with src := [] } 0).wf = false ∧ (Instr.frameReceived 0 { plainFrame with etherType := 65536 } 0).wf = false ∧
    (Instr.frameReceived 0 { plainFrame with vlan := some (4096, 0) } 0).wf = false ∧
    (Instr.frameReceived 0 { plainFrame with prp := some { seq := 65536, lan := 0, ok := true } } 0).wf = false ∧
    (Instr.frameReceived 0 { plainFrame with hsr := some { seq := 65536, lan := 0, ok := true } } 0).wf = false ∧
    (Instr.frameReceived 0x24 plainFrame 0).wf = true := by decide
theorem test_wf_ports : (Instr.pauseFrame 0x25 0 0).wf = false ∧ (Instr.pauseFrame 0 65536 0).wf = false ∧ (Instr.pauseExpired 18 0).wf = false ∧
    (Instr.transmitStart 18 0 0 none).wf = false ∧ (Instr.transmitUnderrun 18).wf = false ∧ (Instr.portLinkUp 18 0).wf = false ∧
    (Instr.portLinkUp 0 16).wf = false ∧ (Instr.linkStable 18).wf = false ∧ (Instr.portLinkDown 18).wf = false ∧
    (Instr.ptpQueuePop 18).wf = false ∧ (Instr.generalQueuePop 18).wf = false ∧ (Instr.haltReply 18 [] 0).wf = false ∧
    (Instr.statCounterLoRead 0x01020002).wf = false := by decide
theorem test_wf_sb : (Instr.utilisationWindow 4 0 0).wf = false ∧ (Instr.renegotiationComplete 4).wf = false ∧
    (Instr.transmitBufferHalfFull 4).wf = false ∧ (Instr.ft3Frame 4 true [] 0).wf = false ∧ (Instr.ft3FrameMissing 4).wf = false ∧
    (Instr.sbPtpFrame hd 4 0 { msgType := 0, domain := 0, seqId := 0, portId := 0, corr := 0, twoStep := false, content := [] }).wf = false := by decide
theorem test_wf_drives : (Instr.minonExpired 2 0).wf = false ∧ (Instr.tripOverload 2).wf = false ∧ (Instr.overloadRetry 2 false 0).wf = false ∧
    (Instr.openLoadFound 2).wf = false ∧ (Instr.openLoadCleared 2).wf = false := by decide
theorem test_wf_time : (Instr.syncTimeout 4).wf = false ∧ (Instr.announceReceiptTimeout 4).wf = false ∧ (Instr.holdoverExpired 4).wf = false ∧
    (Instr.setsecGo 4).wf = false ∧ (Instr.tbNsRead 4 0).wf = false ∧ (Instr.syncTransmission 4 0).wf = false ∧ (Instr.syncTransmission 0 4).wf = false ∧
    (Instr.pwrWdtWrite 256 0).wf = false := by decide
theorem test_wf_slots : (Instr.launchTask 512 0 0).wf = false ∧ (Instr.startAfeConversion 512 0 0).wf = false ∧ (Instr.frameMark 512 0 0).wf = false ∧
    (Instr.armRecorder 512 0 0).wf = false ∧ (Instr.disarmRecorder 512 0 0).wf = false ∧ (Instr.triggerRecorder 512 0 0).wf = false ∧
    (Instr.logicCycleStart 512 0 0).wf = false ∧ (Instr.haltExchangeStart 512 0 0).wf = false ∧ (Instr.svRelease 512 0 0).wf = false ∧
    (Instr.maintenanceWindow 512 0 20 0).wf = false ∧ (Instr.tokenRenewal 512 0 0).wf = false ∧ (Instr.slotWrite 2 0 0 0).wf = false ∧
    (Instr.slotWrite 0 512 0 0).wf = false ∧ (Instr.slotWrite 0 0 8 0).wf = false := by decide
theorem test_wf_chain : (Instr.sampleDeadline 512 0 false).wf = false ∧ (Instr.smpsynchReport 512 0).wf = false ∧ (Instr.laneOutput 4096 0).wf = false ∧
    (Instr.coastingHoldExpired 64 false).wf = false ∧ (Instr.phaseDelayWrite 4096 0 0).wf = false ∧ (Instr.phaseDelayWrite 0 4096 0).wf = false ∧
    (Instr.phaseDelayWrite 0 0 256).wf = false ∧ (Instr.dcrst 4096).wf = false ∧ (Instr.fgIdxLoRead 64).wf = false ∧
    (Instr.retransmissionPoint 512 0 false).wf = false := by decide
theorem test_wf_platforms : (Instr.dozeEntry 24).wf = false ∧ (Instr.dozeUngate 24).wf = false ∧ (Instr.launchQueueServed 24 0).wf = false ∧
    (Instr.phasorPush 24 0 []).wf = false ∧ (Instr.phasorDescriptorDone 24).wf = false ∧ (Instr.budgetOverrun 24).wf = false ∧
    (Instr.deadline 24 0 0 [] 0).wf = false ∧ (Instr.ecall 24 0 0 0 [] 0).wf = false ∧ (Instr.trap 24 0 0 0 [] 0).wf = false ∧
    (Instr.commit 24 0).wf = false ∧ (Instr.lockstepMismatch 24 0).wf = false ∧ (Instr.mailboxPop 24).wf = false ∧
    (Instr.mailboxPush 24 1 1 [] 0).wf = false ∧ (Instr.lclRectrig 24 0 0).wf = false ∧ (Instr.lclRectrig 0 65536 0).wf = false := by decide
theorem test_wf_marshalling : (Instr.measurementClear 256 0).wf = false ∧ (Instr.measurementClear 0 64).wf = false ∧ (Instr.boundWrite 64 0 0).wf = false ∧
    (Instr.boundWrite 1 3 0).wf = false := by decide
theorem test_wf_recorders : (Instr.acqArm 16).wf = false ∧ (Instr.acqDisarm 16).wf = false ∧ (Instr.acqTrig 16 0).wf = false ∧
    (Instr.acqRelease 16).wf = false ∧ (Instr.prefillComplete 16).wf = false ∧ (Instr.captureWindowEnd 16 0).wf = false ∧ (Instr.holdOffEnd 16 0).wf = false ∧
    (Instr.exportComplete 16).wf = false ∧ (Instr.conversionComplete 8 0).wf = false ∧ (Instr.afeResRead 8).wf = false ∧
    (Instr.breakpointHit 16).wf = false := by decide
theorem test_wf_instances : (Instr.instanceStart 64).wf = false ∧ (Instr.instanceStart 0).wf = false ∧ (Instr.instanceReset 0 0).wf = false ∧ (Instr.instanceRestart 0 0).wf = false ∧
    (Instr.instanceResetComplete 0).wf = false ∧ (Instr.heapSizeWrite 0 0).wf = false ∧ (Instr.quotaWrite 0 0 0).wf = false ∧ (Instr.boundWrite 0 0 0).wf = false ∧ (Instr.instanceReset 64 0).wf = false ∧ (Instr.instanceRestart 64 0).wf = false ∧
    (Instr.instanceResetComplete 64).wf = false ∧ (Instr.quotaWrite 64 0 0).wf = false ∧ (Instr.quotaWrite 1 2 0).wf = false ∧
    (Instr.heapSizeWrite 64 0).wf = false ∧ (Instr.queueOwnerWrite 32 0).wf = false ∧ (Instr.queueOwnerWrite 0 64).wf = false := by decide
theorem test_wf_semaphores : (Instr.semaphoreTry 0x42 0).wf = false ∧ (Instr.semaphoreTry 0 256).wf = false ∧ (Instr.semaphoreRelease 0x42 0 true).wf = false ∧
    (Instr.semaphoreRelease 0 256 true).wf = false ∧ (Instr.semaphoreTry 0x41 255).wf = true := by decide
theorem test_wf_channels : (Instr.channelStart 32).wf = false ∧ (Instr.queuePush 32 0).wf = false ∧ (Instr.channelDoorbell 32).wf = false ∧
    (Instr.channelResume 32).wf = false ∧ (Instr.channelAbort 32).wf = false ∧ (Instr.errclr 32).wf = false ∧ (Instr.descriptorComplete 32).wf = false ∧
    (Instr.busError 32 0 false 0).wf = false ∧ (Instr.grantDecision 3 []).wf = false := by decide
/-- A good pair-link header. -/
def plh : PlHdr := { ver := 1, from_ := 1, flags := 1, seq := 5, serial := 9, crcOk := true }
theorem test_wf_pair : (Instr.renewFrame 2 plh 0 0 0 [] 0).wf = false ∧ (Instr.acknowledgeFrame 2 plh 0 0 0).wf = false ∧
    (Instr.checkpointFrame 2 plh 0 0 0 0 0 [] 0).wf = false ∧ (Instr.retainFrame 2 plh 0 0 [] 0).wf = false ∧ (Instr.digestFrame 2 plh 0 0 0).wf = false ∧
    (Instr.tokenTake 2 0 false).wf = false ∧ (Instr.take 0 2 0).wf = false ∧ (Instr.pairLinkDown 2 0).wf = false ∧ (Instr.peerLost 2 0).wf = false := by decide

/-! ## Witnesses: the step, fields, the link -/

theorem wit_StepRunsTheFrontCommand : ((up []).setPending [.hlPerstN, .hrstNLow]).pending = .hlPerstN :: [.hrstNLow] := by decide
theorem wit_sound : Memory.wf (up []).mem = true ∧ Sp.rising none (up []).regs = true ∧ (up []).log.length = 0 := by decide
/-- `up []` is sound. -/
theorem up_sound : (up []).Sound := ⟨wit_sound.1, wit_sound.2.1, wit_sound.2.2 ▸ Nat.zero_le _⟩
theorem wit_EveryStepKeepsASoundState : (up []).Sound ∧ step (up []) = .next ((up []).advance 4) := ⟨up_sound, rfl⟩
theorem wit_TimeAndLogOnlyGrow : (up []).Sound ∧ step (up []) = .next ((up []).advance 4) := ⟨up_sound, rfl⟩
theorem wit_StoredBytesReadBack : (up []).Sound ∧ (7 : Nat) ≠ 8 ∧ (7 < 8 ∨ 8 + ([1, 2] : Bytes).length ≤ 7) ∧
    (10 < 8 ∨ 8 + ([1, 2] : Bytes).length ≤ 10) := ⟨up_sound, by decide⟩
theorem wit_FieldsFollowTheirColumns : (up []).Sound ∧ F.PWR_WDT_MGR.lo < 32 ∧ fieldOfKey F.PWR_WDT_MGR.key = some F.PWR_WDT_MGR :=
  ⟨up_sound, by decide⟩
theorem wit_CountersAndEvents : (up []).Sound ∧ (up []).get F.RBK_CNT_REFUSED < 2 ^ F.RBK_CNT_REFUSED.width ∧
    F.RBK_CNT_REFUSED.key ≠ F.XNG_REFUSED_EVLOST.key := ⟨up_sound, by decide⟩
/-- The link down, with `n` events waiting and EVLOST at `l`. -/
def evFull (n l : Nat) : State := (withFields [(F.XNG_REFUSED_EVLOST, l)]).setLink { LinkS.init with evq := List.replicate n { code := 0, inst := 0, tb := 0, arg := 0, sec := 0, ns := 0 } }
theorem wit_CountersAndEvents_lost : (evFull 1024 0xFFFE).Sound ∧ (up []).linkUp = true ∧ (evFull 1023 0).link.evq.length < 1024 ∧
    (evFull 1024 0xFFFF).get F.XNG_REFUSED_EVLOST ≠ 0xFFFE ∧ (evFull 1024 0xFFFE).linkUp = false ∧ 1024 ≤ (evFull 1024 0xFFFE).link.evq.length ∧
    (evFull 1024 0xFFFE).get F.XNG_REFUSED_EVLOST = 0xFFFE := ⟨⟨by decide, by decide, by decide⟩, by decide +kernel⟩
theorem wit_TimeGoesOn : 0 ≤ (up []).now ∧ (up []).now < 1 ∧ (up []).pending = [] := by decide
/-- A full FIFO from MEDIA to AON. -/
def fifoFull : State := (up []).setJunc .media .aon { fifo := List.replicate 8 { addr := 0x01000000, val := 1, cfg := none }, stalled := [] }
/-- One access from MEDIA to AON. -/
def oneAcc : State := (up []).setJunc .media .aon { fifo := [{ addr := 0x01000010, val := 1, cfg := none }], stalled := [] }
theorem wit_RegisterAccessesCrossJunctions : islandOf .aon (0xFFFFFFFC : Word).toNat = none ∧ islandOf .aon (0x01000000 : Word).toNat = some .aon ∧
    islandOf .media (0x01000000 : Word).toNat = some .aon ∧ ((up []).junc .media .aon).stalled = [] ∧ ((up []).junc .media .aon).fifo.length < 8 ∧
    (oneAcc.junc .media .aon).fifo = [{ addr := 0x01000010, val := 1, cfg := none }] ∧ (oneAcc.junc .media .aon).stalled = [] ∧ Island.media ≠ .host ∧
    islandNo .media < islandNo .time ∧
    (after (.junctionAccessEffect .aon [.media] []) oneAcc).get F.PWR_WDT_MGR = 1 := by decide +kernel
theorem wit_RegisterAccessesCrossJunctions_next : ∃ u, exec (.junctionAccessEffect .aon [.media] []) oneAcc = .next u := ⟨_, rfl⟩
/-- A hardware update of a field. -/
def hw (f : Fld) (k : HwKind) (v : Nat) : HwUpd := { addr := BitVec.ofNat 32 f.addr, lo := f.lo, kind := k, value := v }
theorem wit_RegisterAccessesCrossJunctions_hw : hwField (hw F.PWR_WDT_MGR .updates 7) .aon = some F.PWR_WDT_MGR ∧ F.PWR_WDT_MGR.acc = .rw ∧
    hwField (hw F.XNG_ERRCNT_CRC .counts 3) .media = some F.XNG_ERRCNT_CRC ∧
    hwField (hw F.XNG_BADMSG_COUNT .sets 1) .media = some F.XNG_BADMSG_COUNT ∧ F.XNG_BADMSG_COUNT.acc = .w1c := by decide +kernel
theorem wit_FullJunctionStallsAndDropsNothing : (fifoFull.junc .media .aon).fifo.length = 8 ∧
    islandOf .media (0x01000000 : Word).toNat = some .aon := by decide
theorem wit_MessagesAreTakenInOrder : (up []).inTurn 5 hd = true ∧ State.reset.linkUp = false ∧ (up []).linkUp = true ∧
    2 ^ 31 < (((up []).crx 5).expect - (1 : Word)).toNat ∧
    ((up []).setCrx 5 { expect := 1, taken := true }).linkUp = true ∧ (((up []).setCrx 5 { expect := 1, taken := true }).crx 5).taken = true ∧
    ((((up []).setCrx 5 { expect := 1, taken := true }).crx 5).expect - (0 : Word)).toNat ≤ 2 ^ 31 ∧ (0 : Word) ≠ 1 ∧
    (up [(F.XNG_STATUS_EARLY, 1)]).flag F.XNG_STATUS_EARLY = true ∧ 5 ∉ [0, 1, 2, 0xE] ∧ hd.seq = ((up [(F.XNG_STATUS_EARLY, 1)]).crx 5).expect := by decide
/-- A message with the greatest fields and a payload of `n` octets. -/
def bigMsg (n : Nat) : Msg :=
  { cls := 15, last := true, reply := true, err := true, src := 255, tgt := 255, op := 65535, tag := 0xFFFFFFFF, payload := zeros n }
theorem wit_MessagesAreTakenInOrder_octets : (bigMsg 2048).cls < 16 ∧ (bigMsg 2048).src < 256 ∧ (bigMsg 2048).tgt < 256 ∧ (bigMsg 2048).op < 65536 ∧
    (bigMsg 2048).payload.length ≤ 2048 := by decide +kernel
/-- A message of class `c` in a transmit queue. -/
def ent (c : Nat) (sent : Bool) (n : Nat) : TxEnt :=
  { seq := 0, sent := sent, resends := n, again := false,
    msg := { cls := c, last := true, reply := false, err := false, src := 1, tgt := 0, op := 9, tag := 0, payload := [5] } }
/-- A link whose class `c` holds `q`. -/
def withTx (c : Nat) (q : List TxEnt) : State := (up []).setCtx c { ClsTx.init with q := q }
theorem wit_AcknowledgementsResendsAndRetrains : (withTx 5 [ent 5 true 0]).linkUp = true ∧ 5 ≠ 0 ∧ (∀ e ∈ ((withTx 5 [ent 5 true 0]).ctx 5).q, e.msg.cls ≠ 8) ∧
    (let s := (withTx 8 [ent 8 true 0]).setInst 1 { InstS.init with outbox := [{ op := 9, data := [5] }] };
      s.linkUp = true ∧ (s.ctx 8).q = [ent 8 true 0] ∧ (ent 8 true 0).sent = true ∧ (ent 8 true 0).seq = 0 ∧ (ent 8 true 0).msg.cls = 8 ∧
      (ent 8 true 0).msg.reply = false ∧ (s.inst 1).outbox = [{ op := 9, data := [5] }]) ∧
    (∀ e ∈ ((withTx 5 [ent 5 true 7, ent 5 false 0]).ctx 5).q, e.resends < 8) ∧ (∃ e ∈ ((withTx 5 [ent 5 true 7, ent 5 false 0]).ctx 5).q, e.sent = false) ∧
    ent 5 true 0 ∈ ((withTx 5 [ent 5 true 0]).ctx 5).q.find? (fun e => e.sent) ∧
    (∃ e ∈ ((withTx 5 [ent 5 true 8]).ctx 5).q, e.sent = true ∧ (e.seq - 0).toNat < 2 ^ 31 ∧ 8 ≤ e.resends) ∧ State.reset.linkUp = false ∧
    (up [(F.XNG_STATUS_TRAIN, 1)]).flag F.XNG_STATUS_TRAIN = true ∧ (up [(F.XNG_STATUS_TRAIN, 1)]).flag F.XNG_STATUS_UP = true ∧ 15 % 16 = 15 ∧ 14 % 16 ≠ 15 ∧
    (let u := ((up []).setLink { LinkS.init with fails := 2 }).raise 0x0110 14; 2 ≤ u.link.fails) ∧ ((up []).raise 0x0110 14).link.fails < 2 ∧
    (let s := State.reset.setLink { LinkS.init with trained := true }; s.flag F.XNG_STATUS_UP = false ∧ s.link.trained = true) ∧
    (up []).flag F.XNG_STATUS_TRAIN = false := by decide
theorem wit_AcknowledgementsResendsAndRetrains_octets : framed [5] = false ∧ clsOf [5] = 5 ∧ framed [0] = false ∧ clsOf [0] = 0 ∧ framed ((bigMsg 0).octets 0) = true := by decide +kernel
theorem wit_AcknowledgementsResendsAndRetrains_next : ∃ u, exec (.acknowledgement [(5, 0)]) (up []) = .next u := ⟨_, rfl⟩
theorem wit_LinkSendsByPriority : (∀ e ∈ [ent 5 false 0, { ent 5 false 3 with again := true }], (withTx 5 [e]).linkUp = true ∧ ((withTx 5 [e]).ctx 5).q = [] ++ e :: [] ∧
      e.sent = false ∧ (withTx 5 [e]).link.sends < 7 ∧ ∀ d ∈ sendRanks.takeWhile (fun x => x != 5), (withTx 5 [e]).waits d = false) ∧ 5 ∈ sendRanks ∧
    ((withTx 0 [ent 0 false 0]).ctx 0).q = [] ++ ent 0 false 0 :: [] ∧ 0 ∈ sendRanks ∧
    (let s := ((withTx 5 [ent 5 false 0]).setCtx 9 { ClsTx.init with q := [ent 9 false 0], since := 3 });
      let u := s.setLink { s.link with sends := 7 };
      u.linkUp = true ∧ u.link.sends = 7 ∧ ∀ d ∈ sendRanks, d ≠ 5 → u.waits d = true → u.waitsSince 5 < u.waitsSince d) ∧
    (∀ c ∈ sendRanks, (up []).waits c = false) := by decide
theorem wit_LinkControlMessages : (up []).power.powered = true ∧ (State.reset.setPower PowerS.init).power.powered = false ∧ (up []).inTurn 1 hd = true ∧ (up []).linkUp = true ∧ hd.src = 0 ∧
    State.reset.linkUp = false ∧ hdI.src ≠ 0 ∧ (up []).power.kind ≠ some .p ∧ (up []).power.kind ≠ some .w ∧ ((up []).advance 5).linkUp = true ∧ hd.src < 256 ∧
    (State.reset.advance 5).linkUp = false ∧ 256 ≤ ({ hd with src := 256 } : Hdr).src ∧ (up []).flag F.XNG_STATUS_UP = true := by decide
theorem wit_LinkControlMessages_sound : (up []).Sound := up_sound
/-- A configuration read that needs no fence. -/
def oneRead : CfgRead := { h := hd, addrs := [0x01000000] }
/-- A rulebook that declares nothing. -/
def decl0 : Decl := { sets := [], insts := [], active := [], spare := [], coefBank := 0, coefs := [], ttbBank := 0, prog := none, masks := [], crossing := [] }
/-- `s` with a rulebook that grants the manager the power block and the ports. -/
def granted (s : State) : State := s.setRbk { s.rbk with active := some { decl0 with crossing := [(0x01000000, 1), (0x01100000, 2)] } }
theorem wit_ConfigurationMessages : (let s := granted (up []);
      (s.noteWrite hd).inTurn 3 hd = true ∧ ((s.noteWrite hd).took 3 hd).cfgCheck 0 true 0x01100000 = 0 ∧
      ((s.noteWrite hd).took 3 hd).cfgCheck 0 true 0x01000000 ≠ 0 ∧ s.inTurn 4 hd = true ∧ s.power.kind = none ∧
      (s.setPower { PowerS.init with kind := some .b }).power.kind = some .b) ∧ [((0x01100000 : Word), (0 : Word))] ≠ [] ∧
    (List.replicate 256 ((0x01100000 : Word), (0 : Word))).length ≤ 256 ∧ 256 < (List.replicate 257 ((0x01100000 : Word), (0 : Word))).length ∧
    hdI.src ≠ 0 ∧ (0x01000002 : Word).toNat % 4 ≠ 0 ∧ ((0x20000000 : Word).toNat % 4 = 0 ∧ 0x20000000 ≤ (0x20000000 : Word).toNat) ∧
    ((0x217FFFFC : Word).toNat % 4 = 0 ∧ (0x217FFFFC : Word).toNat < 0x21800000) := by decide +kernel
theorem wit_ConfigurationMessages_read : (let s := (up []).setLink { LinkS.init with reads := [oneRead], cfgLast := some 7 };
      (s.advance 0).link.reads = oneRead :: [] ∧ (s.advance 0).fencePassed oneRead = true) ∧
    (let s := ((up []).setLink { LinkS.init with reads := [oneRead], cfgLast := some 0 }).setJunc .aon .media
        { fifo := [{ addr := 0x01100000, val := 1, cfg := some 0 }], stalled := [] };
      (s.advance 0).link.reads = oneRead :: [] ∧ (s.advance 0).fencePassed oneRead = false) ∧
    (granted (up [])).cfgCheck 0 false 0x01000000 = 0 ∧ (granted (up [])).cfgCheck 0 false 0x01000002 ≠ 0 ∧ ((up []).advance 5).link.reads = [] ∧ (up []).inTurn 7 hd = true ∧
    7 ≠ 0 ∧ 7 ≠ 3 ∧ 7 ≠ 0xD ∧ ((up []).noteWrite hd).inTurn 3 hd = true ∧ (up []).linkUp = true ∧ (up []).inTurn 0xD hd = true ∧ hd.src = 0 := by decide +kernel
/-! ## Witnesses: supply, resets, rulebooks, ports -/

/-- In Hold-up. -/
def hold : State := up [(F.PWR_STATE_HOLDUP, 1)]
theorem wit_SupplyEvents : ((up []).advance 5).power.powered = true ∧ ((up []).advance 5).flag F.PWR_STATE_HOLDUP = false ∧ 13999 < 14000 ∧
    ((State.reset.setPower PowerS.init).advance 5).power.powered = false ∧ (hold.advance 5).flag F.PWR_STATE_HOLDUP = true ∧ (hold.advance 5).power.powered = true ∧
    (16000 ≤ 16000 ∧ 15999 < 16000) ∧ (((hold.advance 5).openTrip 0).openTrip 1).ready = true ∧
    ((((hold.put F.PWR_STAGE_READY 0).advance 5).openTrip 0).openTrip 1).ready = false ∧ (State.reset.setPower PowerS.init).power.powered = false ∧
    (up []).flag F.PWR_STATE_HOLDUP = false ∧ hold.flag F.PWR_STATE_HOLDUP = true ∧ (up []).power.flushing = false ∧
    ((up []).setPower { PowerS.init with powered := true, flushing := true }).power.flushing = true ∧ (up []).settleWrites.noWarm 0 ≠ none := by decide +kernel
theorem wit_SupplyEvents_sound : (up []).Sound := up_sound
/-- The conditions of a W reset: the stop marker, a checkpoint, its digest that of the slot. -/
def warm : State :=
  (((up []).setPower { PowerS.init with powered := true, stopMarker := some [], ckptDigest := some (imgDigest []) }).setInst 1 { InstS.init with
    mram := some { ckpt := [], pub := [], trip := 0, fault := false, dhash := 9, at_ := 0 } })
theorem wit_SupplyEvents_warm_fields : warm.settleWrites.power.stopMarker.isNone = false ∧ warm.settleWrites.ins.insts.any (fun e => e.2.mram.isSome) = true ∧
    warm.settleWrites.power.voided = false := by decide +kernel
theorem wit_SupplyEvents_warm_digest : warm.settleWrites.power.ckptDigest = some (imgDigest (warm.settleWrites.slotOf warm.settleWrites.rbk.ptr).image) := rfl
theorem wit_SupplyEvents_warm : warm.settleWrites.noWarm 0 = none ∧ warm.settleWrites.noWarm 2 = none := by
  obtain ⟨h, k, l⟩ := wit_SupplyEvents_warm_fields
  constructor <;> simp [State.noWarm, h, k, l, ← wit_SupplyEvents_warm_digest]
/-- Starting up with reset kind `k` in stage `n` after `r` failed attempts. -/
def starting (k : Kind) (n r : Nat) : State :=
  (up [(F.PWR_STAGE, n)]).setPower { PowerS.init with powered := true, kind := some k, retries := r }
/-- The readings of a stage that ended well, or not. -/
def se (ok : Bool) : StageEnd :=
  { ok := ok, vaultTest := 0, badSlots := [], entropy := [], stampsOk := true, linkOk := true, readings := [], temp := 20 }
theorem wit_StartUpStagesFollowEachOther : ((up []).advance 5).power.kind = none ∧ (up []).Sound ∧ 255 < 256 ∧
    (let s := ((starting .p 3 0).setPower { PowerS.init with kind := some .p, paused := true }).advance 5;
      s.power.kind = some .p ∧ s.power.paused = true) ∧
    (let s := ((starting .p 6 0).put F.PWR_STAGE_FAILED 1).advance 5; s.flag F.PWR_STAGE_FAILED = true ∧ s.get F.PWR_STAGE < 7) ∧
    (∀ n ∈ [1, 2, 3, 4, 5, 6, 7, 8], let s := (starting .m n 2).advance 5; s.power.kind = some .m ∧ s.power.powered = true ∧ s.power.paused = false ∧
      s.flag F.PWR_STAGE_FAILED = false ∧ s.get F.PWR_STAGE = n ∧ s.power.rstHeld = false ∧ s.power.retries < 3) ∧
    (let s := ((starting .p 1 0).setPower { PowerS.init with powered := true, kind := some .p, rstHeld := true }).advance 5; s.get F.PWR_STAGE = 1 ∧ s.power.rstHeld = true) ∧
    3 ≤ ((starting .p 2 3).advance 5).power.retries ∧ (se true).ok = true ∧ (se false).ok = false :=
  ⟨by decide, up_sound, by decide⟩
/-- The vault's tests of stage 0x06 pass or fail; stage 0x08 finds no rulebook. That one loads rests on Config.ecdsaOk. -/
theorem wit_StartUpStagesFollowEachOther_end : (((starting .m 6 2).advance 5).vaultStage 0 [] []).2 = true ∧ (((starting .m 6 2).advance 5).vaultStage 3 [] []).2 = false ∧
    (((starting .m 8 2).advance 5).loadStage .m).2 = false := by decide +kernel
/-- A task of instance 1. -/
def run1 : Running := { l := { inst := 1, task := 0, dep := 0, raw := 0, cyc := 0, k := 0, epoch := 0, dead := 0 }, start := 0, first := 0, core := { pc := 0, x := [], f := [], fcsr := 0 }, mpu := [], overran := false, ending := none }
/-- The same, running. -/
def busy : State := (up []).setPf 0 { PfS.init with cur := some run1 }
theorem wit_SupervisorCommandsAndDoze : (0x5A3D : Nat) ≠ 0x5A3C ∧ ((up []).advance 5).ready = true ∧ (((up []).put F.PWR_STAGE_READY 0).advance 5).ready = false ∧
    ((up []).advance 5).flag F.PWR_STATE_HOLDUP = false ∧ ((up []).advance 5).get F.PWR_STATE < 2 ∧ ((up []).advance 5).working = false ∧
    (hold.advance 5).ready = true ∧ (hold.advance 5).flag F.PWR_STATE_HOLDUP = true ∧
    (busy.advance 5).ready = true ∧ (busy.advance 5).flag F.PWR_STATE_HOLDUP = false ∧ (busy.advance 5).get F.PWR_STATE < 2 ∧
    (busy.advance 5).working = true ∧ ((up [(F.PWR_STATE, 2)]).advance 5).standby = false ∧ ((up [(F.PWR_STATE, 2)]).advance 5).get F.PWR_STATE = 2 ∧
    ((up [(F.PWR_STATE, 2)]).advance 5).ready = true ∧ ((up [(F.TOK_CTRL_MODE, 1)]).advance 5).standby = true ∧
    ((up [(F.PWR_STATE, 3)]).advance 5).get F.PWR_STATE = 3 ∧ ((up []).advance 5).get F.PWR_STATE ≠ 3 ∧
    ((up []).get (F.PFM_PSTAT_STATE 0) = 0 ∧ ((up []).pf 0).cur = none ∧ ((up []).pf 0).lq = [] ∧ (up []).get F.PWR_STATE < 2 ∧ 23 < 24) ∧
    (up [(F.PFM_PSTAT_STATE 23, 4)]).get (F.PFM_PSTAT_STATE 23) = 4 := by decide +kernel
theorem wit_SupervisorCommandsAndDoze_wake : (let u := ((up [(F.PWR_STATE, 3)]).put F.PWR_STATE 0).unshadow
    let v := u.each (List.range 24) (fun w p => if w.roleOf p = 2 then w else w.put (F.PFM_PSTAT_STATE p) 0)
    let r := v.declared.foldl State.restoreTcm v
    r.tok.taken = false) := by decide +kernel
theorem wit_SupervisorCommandsAndDoze_sound : (up []).Sound := up_sound
theorem wit_WatchdogsAndPins : ((up []).advance 5).power.powered = true ∧ (let a := (up []).advance 5; a.outranks (a.warmKind 1) = true) ∧
    ((State.reset.setPower PowerS.init).advance 5).power.powered = false ∧
    (let a := (act []).advance 1000000000; a.active = true ∧ a.power.kind = none ∧ a.rbk.flushing = false ∧ a.ttb.lastAt + 2 * a.cycleNs ≤ a.now ∧
      a.outranks (a.warmKind 2) = true) ∧ ((up []).advance 5).active = false ∧
    (let a := (starting .p 3 0).advance 5; a.outranks .w = false) ∧
    (let s := ((up []).setPower { PowerS.init with powered := true, wdt3 := some 5 }); (s.advance 5).power.wdt3 = some 5 ∧ 5 ≤ (s.advance 5).now ∧
      (s.advance 5).flag F.XNG_STATUS_UP = true ∧ (s.advance 4).now < 5) ∧ (State.reset.advance 5).flag F.XNG_STATUS_UP = false ∧ 256 % 256 = 0 ∧
    ((up []).advance 5).power.wdt3 = none ∧ ((up []).settleWrites.noWarm 1).isSome = true ∧
    (up []).flag F.PWR_STATE_HOLDUP = false ∧ hold.flag F.PWR_STATE_HOLDUP = true ∧ ((up []).advance 5).power.kind = none ∧
    (let s := (State.reset.setPower { PowerS.init with powered := true, kind := some .p }).advance 5;
      s.power.powered = true ∧ s.power.kind = some .p ∧ s.get F.PWR_STAGE ≤ 5) ∧ 5 < ((starting .w 6 0).advance 5).get F.PWR_STAGE ∧
    (let s := State.reset.setPower { PowerS.init with powered := true, kind := some .p, rstHeld := true };
      s.power.rstHeld = true ∧ s.power.powered = true ∧ s.power.paused = false ∧ s.get F.PWR_STAGE = 1) ∧
    (State.reset.setPower { PowerS.init with rstHeld := true }).power.powered = false ∧ (up []).power.rstHeld = false := by decide +kernel
/-- With a W reset due and a stronger one in progress, a watchdog's is none. -/
theorem wit_WatchdogsAndPins_weaker : warm.warmKind 2 = .w ∧ (starting .p 3 0).outranks .w = false :=
  ⟨by rw [State.warmKind, wit_SupplyEvents_warm.2]; rfl, by decide⟩
theorem wit_WatchdogsAndPins_next : (∃ u, exec (.rstNLow false 5) (up []) = .next u) ∧ ((up []).advance 5).Sound := ⟨⟨_, rfl⟩, by decide, by decide, by decide⟩
/-- A load in state `n`. -/
def load (n : Nat) : State := up [(F.RBK_STATUS_LOADST, n)]
theorem wit_RulebooksAreLoadedAndVerified : (load 1).inTurn 5 hd = true ∧ (load 1).inTurn 5 hdI = true ∧ hdI.src ≠ 0 ∧ hd.src = 0 ∧
    (∀ n ∈ [0, 1, 3, 0xF], ((load n).took 5 hd).get F.RBK_STATUS_LOADST = n ∧ ((load n).took 5 hd).rbk.pending = none) ∧
    ((((load 4).setRbk { RbkS.init with pending := some 1 }).took 5 hd).rbk.pending ≠ none) ∧
    (let a := (load 1).took 5 hd; a.get F.RBK_STATUS_LOADST = 1 ∧ 0 = a.get F.RBK_RXLEN ∧ 1 ≠ a.get F.RBK_RXLEN) ∧
    ([5#8] ≠ [] ∧ (zeros 2040).length ≤ 2040) ∧ 2040 < (zeros 2041).length ∧
    (((load 2).took 5 hd).get F.RBK_STATUS_LOADST ∈ [1, 2] ∧ ((load 3).took 5 hd).get F.RBK_STATUS_LOADST ∉ [1, 2]) ∧ ((load 3).took 5 hd).get F.RBK_STATUS_LOADST ≠ 1 ∧
    (load 2).get F.RBK_STATUS_LOADST = 2 ∧ (load 3).get F.RBK_STATUS_LOADST ≠ 2 ∧
    (let s := load 2; (s.verify (s.slotOf 1).image (s.get F.RBK_RXLEN) s.rbk.openLen).decl.isSome = false) := by
  decide +kernel
/-- A valid image of one byte in slot B. -/
def slotB : State := (up []).setRbk { RbkS.init with slotB := { image := [1], valid := true, journal := [] } }
theorem wit_ActivationsAndAmendments : (slotB.advance 5).inTurn 5 hd = true ∧ ((slotB.advance 5).took 5 hd).rbk.pending = none ∧
    ((slotB.advance 5).took 5 hd).power.kind = none ∧ 1 = 1 - ((slotB.advance 5).took 5 hd).rbk.ptr ∧ (0 : Nat) ≠ 1 - ((slotB.advance 5).took 5 hd).rbk.ptr ∧
    (((slotB.advance 5).took 5 hd).slotOf 1).valid = true ∧ ((slotB.advance 5).took 5 hd).redundant = false ∧
    ((((slotB.put F.TOK_CTRL_MODE 1).advance 5).took 5 hd).redundant = true ∧ (((slotB.put F.TOK_CTRL_MODE 1).advance 5).took 5 hd).heldPos = none) ∧
    (let a := (slotB.advance 5).took 5 hd; (((a.setRbk { a.rbk with pending := some 1 }).showSlots).put F.RBK_STATUS_LOADST 4).active = false) ∧
    (let a := ((slotB.put F.PWR_STAGE_CFG 1).advance 5).took 5 hd; (((a.setRbk { a.rbk with pending := some 1 }).showSlots).put F.RBK_STATUS_LOADST 4).active = true) ∧
    ((starting .m 3 0).took 5 hd).power.kind ≠ none ∧
    (let s := (up []).setRbk { RbkS.init with pending := some 1, flushing := true };
      s.inTurn 5 hd = true ∧ ((s.advance 5).took 5 hd).rbk.pending ≠ none ∧ (s.advance 5).rbk.flushing = true ∧ (s.advance 5).working = false) ∧
    (busy.advance 5).working = true ∧
    ((up []).advance 5).rbk.flushing = false ∧ ((up []).advance 5).inTurn 6 hd = true ∧ hdI.src ≠ 0 ∧ { hd with last := false }.last = false ∧ hd.last = true ∧
    ((granted (act [])).advance 5).inTurn 6 hd = true ∧ (((granted (act [])).advance 5).took 6 hd).rbk.active.isSome = true ∧
    (((granted (act [])).advance 5).took 6 hd).amdCheck decl0 [] ≠ 0 ∧ (((up []).advance 5).took 6 hd).rbk.active = none := by decide +kernel
theorem wit_ActivationsAndAmendments_digest (d : Bytes) : (d = imgDigest (((slotB.advance 5).took 5 hd).slotOf 1).image) →
    imgDigest (((slotB.advance 5).took 5 hd).slotOf 1).image = d := fun h => h.symm
theorem wit_NoUnverifiedRulebookIsLoaded : (slotB.slotOf 1).valid = true ∧ (slotB.verify (slotB.slotOf 1).image 1 (imgTotlen (slotB.slotOf 1).image)).decl.isNone = true := by
  decide
/-- Port `p` up. -/
def portUp (l : List (Fld × Nat)) : State := act ((F.PRT_STATUS_LINK 0, 1) :: l)
/-- The checks that come before the filter, for port `p` of state `s`. -/
def passes (s : State) (p : Nat) (f : RxFrame) : Bool :=
  s.flag (linkFld p) && !s.hostDown p && decide (64 ≤ f.len) && decide (f.len ≤ 1528) && f.fcsOk
/-- A PTP message of a type. -/
def ptp (n : Nat) : PtpMsg := { msgType := n, domain := 0, seqId := 0, portId := 0, corr := 0, twoStep := false, content := [] }
/-- Port 0 of a PRP pair with port 1, or of an HSR pair. -/
def pairSt (m : Nat) : State := portUp [(F.PRT_CTRL_PAIR 0, m), (F.PRT_CTRL_PAIR 1, m), (F.PRT_STATUS_LINK 1, 1)]
/-- A frame with a tag of LAN 0xA. -/
def tag5 : RedTag := { seq := 5, lan := 0xA, ok := true }
theorem wit_ReceivedFramesAreCheckedInOrder : ((up []).advance 5).flag (linkFld 0) = false ∧ ((portUp []).advance 5).flag (linkFld 0) = true ∧
    ((act [(F.SBP_STATUS_LINK 0, 1)]).setHost { HostS.init with suspended := true }).hostDown 0x20 = true ∧ ((portUp []).advance 5).hostDown 0 = false ∧
    (63 < 64 ∨ 1528 < 63) ∧ (1529 < 64 ∨ 1528 < 1529) ∧ 64 ≤ plainFrame.len ∧ plainFrame.len ≤ 1528 ∧ { plainFrame with fcsOk := false }.fcsOk = false ∧
    passes ((portUp []).advance 5) 0 plainFrame = true ∧ { plainFrame with body := .macControl none }.body = .macControl none ∧
    { plainFrame with body := .macControl (some 3) }.body = .macControl (some 3) ∧ plainFrame.body = .raw [] ∧
    passes ((act [(F.SBP_STATUS_LINK 3, 1)]).advance 5) 0x23 { plainFrame with body := .ptp (ptp 0) } = true ∧
    (((act [(F.SBP_STATUS_LINK 3, 1)]).advance 5).countRx 0x23 64).tcEn 0x23 = false ∧
    (((act [(F.SBP_STATUS_LINK 3, 1), (F.SBP_PORT_CTRL_TCEN 3, 1)]).advance 5).countRx 0x23 64).tcEn 0x23 = true ∧
    (((portUp []).advance 5).countRx 0 64).get (F.PRT_CTRL_PAIR 0) = 0 ∧ plainFrame.etherType ≠ 0x88F7 := by decide +kernel
theorem wit_ReceivedFramesAreCheckedInOrder_pair : (let b := ((pairSt 1).advance 5).countRx 0 64; passes b 0 plainFrame = true ∧ b.get (F.PRT_CTRL_PAIR 0) = 1 ∧
      ({ plainFrame with prp := some tag5 } : RxFrame).prp = some tag5 ∧ tag5.ok = true ∧ tag5.lan = b.lanOf 0 ∧ b.inDup (b.pairKey 0) plainFrame.src 5 = false) ∧
    (let b := ((pairSt 2).advance 5).countRx 0 64; b.get (F.PRT_CTRL_PAIR 0) = 2 ∧ ({ plainFrame with hsr := some tag5 } : RxFrame).hsr = some tag5 ∧
      plainFrame.hsr = none ∧ b.inDup (b.pairKey 0) plainFrame.src 5 = false) ∧
    (let b := (((pairSt 1).enterDup 0 0 plainFrame.src 5).advance 5).countRx 1 64; b.inDup (b.pairKey 1) plainFrame.src 5 = true ∧
      ∃ e, (Sp.get [] b.svi.dup (b.pairKey 1)).find? (fun e => e.src == plainFrame.src && e.seq == 5) = some e ∧ (e.port ≤ 1 ∨ e.at_ / 4 ≠ b.now / 4)) :=
  ⟨by decide +kernel, by decide +kernel, by decide +kernel, ⟨_, rfl, by decide +kernel⟩⟩
theorem wit_ReceivedFramesAreCheckedInOrder_filter : (let u := portUp [];
      (∀ e ∈ [0x88BA, 0x88F7, 0x88B5, 0x0800], let f := { plainFrame with dst := u.macOfPort 0, etherType := e }; f.dst = u.macOfPort 0 ∧ f.etherType = e) ∧
      0x0800 ∉ [0x88BA, 0x88F7, 0x88B5] ∧ plainFrame.dst ≠ u.macOfPort 0 ∧ plainFrame.dst ≠ List.replicate 6 0xFF#8 ∧ List.replicate 6 0xFF#8 ≠ u.macOfPort 0 ∧
      u.exactMatch 0 plainFrame.dst = none) := by decide +kernel
/-- A frame of `n` octets in queue `q`. -/
def txf (q n : Nat) : TxFrame := { queue := q, len := n, src := [], body := .dma [], red := none, stamp := none, chan := none }
/-- Port 0 up, with two frames. -/
def txState : State := (portUp []).setPort 0 { PortS.init with txq := [txf 1 100, txf 3 200], cur := some (txf 0 64) }
theorem wit_TransmissionAndPause : ((((portUp [(F.PRT_CTRL_PAUSE_EN 15, 1)]).advance 5).count (F.PRT_PAUSERX 15)).flag (F.PRT_CTRL_PAUSE_EN 15) = true) ∧
    ((((portUp []).advance 5).count (F.PRT_PAUSERX 0)).flag (F.PRT_CTRL_PAUSE_EN 0) = false) ∧ (16 ≤ 16 ∧ 0x1F < 0x20) ∧
    (((act []).setHost { HostS.init with suspended := true }).advance 5).host.suspended = true ∧ ((act []).advance 5).host.suspended = false ∧
    ((((portUp [(F.SBP_CTRL_PAUSE_EN 3, 1)]).advance 5).count (F.SBP_PAUSERX 3)).flag (F.SBP_CTRL_PAUSE_EN 3) = true) ∧ 0x23 ≠ 0x24 ∧
    ((((portUp [(F.SBP_CTRL_PAUSE_EN 4, 1)]).advance 5).count (F.SBP_PAUSERX 4)).flag (F.SBP_CTRL_PAUSE_EN 4) = true) ∧
    ((((portUp []).advance 5).count (F.SBP_PAUSERX 3)).flag (F.SBP_CTRL_PAUSE_EN 3) = false) ∧
    ((((up []).setHost { HostS.init with mtHalf := true }).advance 5).count (F.SBP_PAUSERX 4)).mtHalfDuplex = true ∧
    (((up []).advance 5).port 0).pause = none ∧ (((up []).setPort 0 { PortS.init with pause := some (0, 65535) }).port 0).pause = some (0, 65535) := by decide +kernel
theorem wit_TransmissionAndPause_start : (let a := (txState.advance 2000000).showPause 0;
      (a.flag (linkFld 0) = true ∧ a.pausedNow 0 = false ∧ a.sendEnd 0 ≤ a.now) ∧ (a.port 0).hand = none ∧ a.nextFrame 0 = some (txf 3 200, [txf 1 100]) ∧
      Nat.min (a.get (F.PRT_TXTHR_START 0)) 200 ≤ 200 ∧ 0 < Nat.min (a.get (F.PRT_TXTHR_START 0)) 200) ∧
    (let a := ((portUp []).advance 5).showPause 0; a.nextFrame 0 = none ∧ (a.port 0).hand = none) ∧
    (let a := ((up []).advance 5).showPause 0; a.flag (linkFld 0) = false) ∧
    (let a := (((act []).setHost { HostS.init with suspended := true }).advance 5).showPause 0x23; a.host.suspended = true) ∧
    (let a := ((act [(F.SBP_STATUS_RENEG 3, 1)]).advance 5).showPause 0x23; a.host.suspended = false ∧ a.flag (F.SBP_STATUS_RENEG 3) = true) ∧
    (let a := ((act [(F.SBP_STATUS_LINK 3, 1)]).advance 5).showPause 0x23; a.host.suspended = false ∧ a.flag (F.SBP_STATUS_RENEG 3) = false ∧
      (a.flag (linkFld 0x23) = true ∧ a.pausedNow 0x23 = false ∧ a.sendEnd 0x23 ≤ a.now) ∧ (a.port 0x23).hand = none ∧ a.nextFrame 0x23 = none) ∧
    ((act []).showPause 0x23).flag (linkFld 0x23) = false ∧
    (txState.port 0).cur = some (txf 0 64) ∧ txState.flag (snfFld 0) = false ∧ (txState.put (snfFld 0) 1).flag (snfFld 0) = true ∧
    ((up []).port 0).cur = none := by decide +kernel
/-- The SB ports step down. -/
def stepping (rate : Nat) (host : HostS) : State :=
  ((act [(F.SBP_CTRL_SDALLOW 0, 1), (F.SBP_STATUS_RATE 0, rate), (F.SBP_STATUS_LINK 0, 1), (F.SBP_CTRL_MODE 0, 2)])).setHost host
/-- The host die with the gigabit rate declared for the first SB port. -/
def declHost : HostS := { HostS.init with declRate := [(0, 2)] }
/-- MT in half duplex, with a frame on the line or none. -/
def mtHalf (c h : Option TxFrame) (l : List (Fld × Nat)) (x : HostS) : State :=
  ((act ((F.SBP_STATUS_LINK 4, 1) :: l)).setHost { x with mtHalf := true }).setPort 0x24 { PortS.init with cur := c, hand := h }
theorem wit_RateStepsAndCollisions : (stepping 2 HostS.init).sdApplies 0 = true ∧ (stepping 2 HostS.init).host.suspended = false ∧
    (stepping 2 HostS.init).flag (F.SBP_STATUS_RENEG 0) = false ∧ ((stepping 2 HostS.init).put (F.SBP_STATUS_RENEG 0) 1).flag (F.SBP_STATUS_RENEG 0) = true ∧
    (stepping 2 HostS.init).get (F.SBP_STATUS_RATE 0) ≠ 1 ∧ Nat.max 0 1999999 * 100 < 2 * bitsAllowed 2 ∧ 2 * bitsAllowed 2 ≤ Nat.max 0 2000000 * 100 ∧
    9 ≤ Sp.get 0 (stepping 2 { HostS.init with low := [(0, 9)] }).host.low 0 ∧ Sp.get 0 (stepping 2 { HostS.init with low := [(0, 8)] }).host.low 0 < 9 ∧
    (stepping 1 declHost).get (F.SBP_STATUS_RATE 0) = 1 ∧ (stepping 1 declHost).sdApplies 0 = true ∧ (stepping 1 declHost).declRate 0 ≠ 1 ∧
    40 * bitsAllowed 1 < Nat.max 0 4000001 * 100 ∧ Nat.max 4000000 0 * 100 ≤ 40 * bitsAllowed 1 ∧ (act []).sdApplies 0 = false ∧
    (stepping 2 { HostS.init with suspended := true }).host.suspended = true ∧ (stepping 1 { declHost with declRate := [(0, 1)] }).declRate 0 = 1 := by decide
theorem wit_RateStepsAndCollisions_mt : (let a := (mtHalf (some (txf 0 64)) none [] HostS.init).advance 5; a.mtHalfDuplex = true ∧ a.host.suspended = false ∧
      (a.port 0x24).cur = some (txf 0 64) ∧ a.host.attempts + 1 ≠ 16) ∧
    ((mtHalf (some (txf 0 64)) none [] { HostS.init with attempts := 15 }).advance 5).host.attempts + 1 = 16 ∧ (512 ≤ 512 ∧ 512 < 513) ∧
    ((act []).advance 5).mtHalfDuplex = false ∧ (((act []).advance 5).port 0x24).cur = none ∧
    (let a := (mtHalf none none [] { HostS.init with rollEnd := 6 }); a.host.rollEnd ≤ (a.advance 6).now ∧ (a.advance 5).now < a.host.rollEnd) ∧
    (let v := ((mtHalf none (some (txf 0 64)) [] HostS.init).advance 1000000).showPause 0x24; v.canStart 0x24 = true ∧ v.host.suspended = false ∧
      v.flag (F.SBP_STATUS_RENEG 4) = false ∧ (v.port 0x24).hand = some (txf 0 64)) := by decide +kernel
theorem wit_PortLinksAndFt3Receivers : (up [(F.PRT_CTRL_MODE 11, 4)]).portOn 11 = true ∧ (up [(F.PRT_CTRL_MODE 11, 5)]).portOn 11 = false ∧
    (up [(F.PRT_CTRL_MODE 17, 5)]).portOn 17 = true ∧ (up [(F.PRT_CTRL_MODE 17, 1)]).portOn 17 = false ∧ (up [(F.MTP_CTRL_MODE, 3)]).portOn 0x24 = false ∧
    (up [(F.PRT_STATUS_LINK 15, 1)]).flag (linkFld 15) = true ∧ (up [(F.SBP_STATUS_LINK 4, 1)]).flag (linkFld 0x24) = true ∧
    (up []).flag (F.SBP_STATUS_RENEG 4) = false ∧ (up [(F.SBP_STATUS_RENEG 3, 1)]).flag (F.SBP_STATUS_RENEG 3) = true ∧
    (let d := ((((act [(F.TOK_CTRL_MODE, 1), (F.TOK_STATUS_LINKS, 2), (F.PRT_STATUS_LINK 17, 1)]).put (F.PRT_STATUS_LINK 17) 0).raise 0x0302 17).count (F.PRT_LINKDN 17));
      d.redundant = true ∧ bit (d.get F.TOK_STATUS_LINKS) 1 = true) ∧
    ((((act [(F.PRT_STATUS_LINK 17, 1)]).put (F.PRT_STATUS_LINK 17) 0).raise 0x0302 17).count (F.PRT_LINKDN 17)).redundant = false ∧
    (up []).flag (linkFld 17) = false ∧ (0 ≠ 16 ∧ 0 ≠ 17) ∧ (up []).host.suspended = false ∧ ((up []).setHost { HostS.init with suspended := true }).host.suspended = true := by
  decide +kernel
theorem wit_PortLinksAndFt3Receivers_host : (up [(F.SBP_MAC_LO 4, 2), (F.SBP_MAC_HI 4, 1)]).portOn 0x24 = true ∧
    (up [(F.SBP_MAC_LO 3, 2), (F.SBP_CTRL_MODE 3, 5)]).portOn 0x23 = true ∧ (up [(F.SBP_CTRL_MODE 3, 4)]).portOn 0x23 = false ∧
    (up [(F.SBP_STATUS_RENEG 3, 1), (F.SBP_MAC_LO 3, 2), (F.SBP_CTRL_MODE 3, 2)]).portOn 0x23 = true := by decide +kernel
theorem wit_PortLinksAndFt3Receivers_ft3 : ((up [(F.PRT_FTCTRL_RATE 3, 3)]).advance 5).get (F.PRT_FTCTRL_RATE 3) = 3 ∧
    ((up [(F.PRT_FTCTRL_RATE 3, 0)]).advance 5).get (F.PRT_FTCTRL_RATE 3) ≠ 3 ∧
    (∀ n ∈ [0, 1, 2], let s := (up [(F.PRT_FTSTATUS_SYNC 3, 1), (F.PRT_FTCTRL_RATE 3, 1)]).setPort 21 { PortS.init with ftGood := n, ftBad := n };
      ((s.advance 5).port 21).ftGood = n ∧ (s.port 21).ftBad = n ∧ s.get (F.PRT_FTCTRL_RATE 3) ≠ 3 ∧ s.flag (F.PRT_FTSTATUS_SYNC 3) = true) ∧
    (let a := (up [(F.PRT_FTCTRL_RATE 3, 1)]).advance 5; let q := a.port 21;
      (((a.setPort 21 { q with ftGood := q.ftGood + 1, ftBad := 0 }).stat (F.PRT_FTFRM_LO 3) (F.PRT_FTFRM_LIVE 3) 1).flag (F.PRT_FTSTATUS_SYNC 3)) = false) ∧
    (let g := act [(F.PRT_FTSTATUS_SYNC 3, 1), (F.SVI_SUB_VALID 511, 1), (F.SVI_SUB_KIND 511, 2), (F.SVI_SUB_FTRX 511, 3)];
      g.flag (F.PRT_FTSTATUS_SYNC 3) = true ∧ g.chainOn = true ∧ (g.subs.filter (fun i => g.get (F.SVI_SUB_KIND i) == 2 && g.get (F.SVI_SUB_FTRX i) == 3)) ≠ []) ∧
    ((act []).subs.filter (fun i => (act []).get (F.SVI_SUB_KIND i) == 2)) = [] ∧ ((up []).chainOn = false) := by decide +kernel
theorem wit_PortLinksAndFt3Receivers_latch : (∃ l h, (fieldsAt (F.PRT_RXFRM_LO 17).addr).find? (fun f => f.lo == 32) = some l ∧
    (fieldsAt ((F.PRT_RXFRM_LO 17).addr + 4)).find? (fun f => f.lo == 0) = some h) ∧ (F.PRT_RXFRM_LO 17).addr < 0x01810000 := ⟨⟨_, _, rfl, rfl⟩, by decide⟩
/-- The committed bit of drive 0 with owner 1. -/
def drv (l : List (Fld × Nat)) (c : Option Nat) : State :=
  ((act ((F.PRT_TRIP_OWNER 0, 1) :: l)).setTrip 0 { TripS.init with closedAt := c }).setInst 1 { InstS.init with committed := true }
theorem wit_DrivesFollowTheirCommand_sound : ((up []).advance 5).Sound := ⟨by decide, by decide, by decide⟩
theorem wit_DrivesFollowTheirCommand : ((starting .b 8 0).advance 5).power.kind = some .b ∧ ((up []).advance 5).power.kind ≠ some .b ∧
    (State.reset.advance 5).tripForced 0 = true ∧ (State.reset.advance 5).power.kind ≠ some .b ∧ 1 < 2 ∧
    (let a := (drv [(F.PRT_TRIP_CMD 0, 1)] none).advance 5; a.tripForced 0 = false ∧ a.get (F.PRT_TRIP_OWNER 0) ≠ 0 ∧
      a.flag (F.PRT_TRIP_CMD 0) = true ∧ a.flag (F.PRT_TRIP_ON 0) = false ∧ (a.trip 0).overOff = false) ∧
    (let a := (drv [(F.PRT_TRIP_CMD 0, 1), (F.PRT_TRIP_ON 0, 1)] none).advance 5; a.flag (F.PRT_TRIP_CMD 0) = true ∧ a.flag (F.PRT_TRIP_ON 0) = true) ∧
    (let a := (drv [] none).advance 5; a.flag (F.PRT_TRIP_CMD 0) = false ∧ (a.trip 0).closedAt = none) ∧
    (let a := (drv [(F.PRT_TRIP_MINON 0, 1)] (some 0)).advance 999999; a.tripForced 0 = false ∧ a.get (F.PRT_TRIP_OWNER 0) ≠ 0 ∧ a.flag (F.PRT_TRIP_CMD 0) = false ∧
      (a.trip 0).closedAt = some 0 ∧ a.now < 0 + a.get (F.PRT_TRIP_MINON 0) * 1000000) ∧
    (let a := (drv [(F.PRT_TRIP_MINON 0, 1)] (some 0)).advance 1000000; 0 + a.get (F.PRT_TRIP_MINON 0) * 1000000 ≤ a.now) ∧
    (let a := (act []).advance 5; a.tripForced 0 = false ∧ a.get (F.PRT_TRIP_OWNER 0) = 0) ∧
    (up [(F.PRT_TRIP_ON 1, 1)]).flag (F.PRT_TRIP_ON 1) = true ∧ (up []).flag (F.PRT_TRIP_ON 1) = false ∧ (((up []).advance 5).trip 1).overOff = false ∧
    (let s := (drv [(F.PRT_TRIP_CMD 0, 1)] none).setTrip 0 { TripS.init with overOff := true };
      ((s.advance 5).trip 0).overOff = true ∧ (s.advance 5).flag (F.PRT_TRIP_CMD 0) = true ∧ (s.advance 5).tripForced 0 = false) := by decide
/-! ## Witnesses: time, the timetable, ingress, the filter chain, platforms -/

theorem wit_TimeIsLatchedAtOneInstant : 3 < 4 ∧ ((up []).advance 5).Sound := ⟨by decide, by decide, by decide, by decide⟩
theorem wit_BasesLoseAndChangeTheirState : (∀ st ∈ [0, 1, 2, 3], let s := act [(F.TSU_TB_CTRL_SRC 3, 1), (F.TSU_TB_STATUS_STATE 3, st)];
      s.srcOf 3 = 1 ∧ s.tbState 3 = st) ∧ (up [(F.TSU_TB_CTRL_SRC 3, 1)]).srcOf 3 ≠ 1 ∧ (up []).tbState 3 ≠ 3 ∧
    7 % 2 ^ 64 = (up [(F.TSU_TB_GMID_LO 3, 7)]).get (F.TSU_TB_GMID_LO 3) + 2 ^ 32 * (up [(F.TSU_TB_GMID_LO 3, 7)]).get (F.TSU_TB_GMID_HI 3) ∧
    7 % 2 ^ 64 ≠ (up []).get (F.TSU_TB_GMID_LO 3) + 2 ^ 32 * (up []).get (F.TSU_TB_GMID_HI 3) ∧
    (up []).followers 3 = [] ∧ (0x0501 : Nat) ≠ 0 ∧ (3 < 4) := by decide
theorem wit_BasesLoseAndChangeTheirState_sound : (up []).Sound := up_sound
/-- TIN in a mode, with a list of fields and a record. -/
def tinSt (m : Nat) (l : List (Fld × Nat)) (x : TinS) : State := ((up ((F.TSU_TIN_CTRL_MODE, m) :: l)).setTin x).advance 5
theorem wit_TinSynchronises : (tinSt 0 [] TinS.init).get F.TSU_TIN_CTRL_MODE ∉ [1, 2] ∧ (tinSt 2 [] TinS.init).get F.TSU_TIN_CTRL_MODE ∈ [1, 2] ∧
    (tinSt 2 [] TinS.init).tin.bad ≠ 2 ∧ (tinSt 2 [] { TinS.init with bad := 2 }).tin.bad = 2 ∧ (tinSt 3 [] TinS.init).get F.TSU_TIN_CTRL_MODE = 3 ∧
    (tinSt 2 [] TinS.init).get F.TSU_TIN_CTRL_MODE ≠ 3 ∧
    (tinSt 2 [] TinS.init).tin.good = 0 ∧ (tinSt 2 [] TinS.init).flag F.TSU_TIN_STATUS_SYNC = false ∧ (tinSt 2 [] TinS.init).flag F.TSU_TIN_CTRL_CF = false ∧
    (let l := [(F.PWR_STAGE_CFG, 1), (F.TSU_TB_CTRL_SRC 0, 3), (F.TSU_TB_CTRL_SRC 1, 3), (F.TSU_TB_CTRL_SRC 2, 3), (F.TSU_TB_CTRL_SRC 3, 3)];
      (tinSt 3 l TinS.init).tin.lastEdge = none ∧ ∀ b < 4, (tinSt 3 l TinS.init).srcOf b = 3) ∧
    (let l := [(F.TSU_TB_CTRL_SRC 0, 2), (F.TSU_TB_CTRL_SRC 1, 3), (F.TSU_TB_CTRL_SRC 2, 3), (F.TSU_TB_CTRL_SRC 3, 3)];
      let a := ((act ((F.TSU_TIN_CTRL_MODE, 3) :: l)).setTbs [(0, { TbS.init with running := true, acc := 1000000000 * 65536000000 })]).setTin
        { TinS.init with lastEdge := some 0 };
      a.get F.TSU_TIN_CTRL_MODE = 3 ∧ a.tin.lastEdge = some 0 ∧ ((a.tbNs a.tinBase : Int) - 0 - 1000000000).natAbs ≤ 1000000 ∧
      (∀ b < 4, a.srcOf b = 3 ↔ b ≠ 0)) ∧
    (let a := tinSt 1 [(F.PWR_STAGE_CFG, 1), (F.TSU_TB_CTRL_SRC 2, 2), (F.TSU_TIN_CTRL_CF, 1)] { TinS.init with good := 1 };
      a.get F.TSU_TIN_CTRL_MODE ∈ [1, 2] ∧ 1 ≤ a.tin.good ∧ a.flag F.TSU_TIN_CTRL_CF = true ∧ a.tinBases = [2]) ∧
    (up [(F.TSU_TIN_CTRL_CF, 1), (F.TSU_TIN_STATUS_LEAP, 1)]).flag F.TSU_TIN_STATUS_LEAP = true ∧ (up []).flag F.TSU_TIN_STATUS_LEAP = false ∧
    (up [(F.TSU_TIN_CTRL_CF, 1)]).flag F.TSU_TIN_CTRL_CF = true ∧ (up []).flag F.TSU_TIN_CTRL_CF = false := by decide
theorem wit_TinSynchronises_sound : (tinSt 1 [(F.TSU_TB_CTRL_SRC 2, 2)] TinS.init).Sound := ⟨by decide, by decide, by decide⟩
theorem wit_TimeOutputsAndMessages : (up []).flag (F.TSU_TB_CTRL_STEPINH 3) = false ∧ (up [(F.TSU_TB_CTRL_STEPINH 3, 1)]).flag (F.TSU_TB_CTRL_STEPINH 3) = true ∧
    ((up []).advance 5).active = false ∧ ((act []).advance 5).get F.TSU_TOUT_CTRL_MODE ∉ [1, 2] ∧
    (∀ m ∈ [1, 2], ∀ e ∈ [(0, true), (10, true), (11, false), (999999989, false), (999999990, true)],
      let a := ((act [(F.TSU_TOUT_CTRL_MODE, m)]).setTbs [(0, { TbS.init with acc := e.1 * 65536000000 })]).advance 5; a.active = true ∧
      a.get F.TSU_TOUT_CTRL_MODE = m ∧ (let x := a.tbNs 0 + a.get F.TSU_TOUT_ADV; decide (x % 1000000000 ≤ 10 ∨ 999999990 ≤ x % 1000000000) = e.2)) ∧
    (let a := ((act []).setTin { TinS.init with tout := some { irig := false, sec := 1, rise := 5, fall := 15, leap := false, qual := 0 } }).advance 5;
      a.tin.tout.isSome = true ∧ a.active = true ∧ 5 ≤ a.now ∧ a.now < 15) := by decide +kernel
theorem wit_TimeOutputsAndMessages_send : (up []).srcOf 3 ≠ 1 ∧ 1 ≠ 2 ∧ (up []).tcDelayPorts 3 = [] ∧ 3 < 4 ∧
    (let s := act [(F.TSU_TB_CTRL_SRC 3, 1)]; s.srcOf 3 = 1 ∧ s.tcDelayPorts 3 = [] ∧ s.get (F.TSU_TB_PTPPORTS_PORTS 3) = 0) ∧
    (∀ e ∈ [(2, true), (0, false)], let s := act [(F.TSU_TB_CTRL_SRC 3, 1), (F.TSU_TB_PTPPORTS_PORTS 3, 2 ^ 15), (F.PRT_STATUS_LINK 15, 1), (F.TSU_TB_PTP_ROLE 3, e.1)];
      s.srcOf 3 = 1 ∧ s.get (F.TSU_TB_PTPPORTS_PORTS 3) = 2 ^ 15 ∧ s.ptpSends 3 0 15 = e.2 ∧ 15 < 16) := by decide +kernel
theorem wit_TimeOutputsAndMessages_sound : (act [(F.TSU_TB_CTRL_SRC 3, 1)]).Sound := ⟨by decide, by decide, by decide⟩
/-- A transparent clock with a port that measures its delay for base 0. -/
theorem wit_TimeOutputsAndMessages_tc : ∃ q, (act [(F.PRT_STATUS_LINK 2, 1), (F.PRT_STATUS_LINK 3, 1), (F.TSU_PORT_CTRL_TCEN 2, 1), (F.TSU_PORT_CTRL_TCMODE 2, 1),
    (F.TSU_PORT_CTRL_TCPEER 2, 3)]).tcDelayPorts 0 = [q] := ⟨2, by decide +kernel⟩
/-- A message of base 2 sent at an SB port under tag 7 waits for its stamp. -/
def sbWait (l : List (Fld × Nat)) : State := (up l).setTin { TinS.init with sbOut := [(7, 2, 0x20, ptp 0)] }
theorem wit_TimeOutputsAndMessages_sb : (up []).inTurn 0xC hd = true ∧ ((up []).took 0xC hd).ptpBase 0x20 = none ∧
    ((act [(F.TSU_TB_CTRL_SRC 2, 1), (F.TSU_TB_PTPPORTS_PORTS 2, 2 ^ 16)]).took 0xC hd).ptpBase 0x20 = some 2 ∧ (ptp 0).msgType ≠ 2 ∧ (ptp 2).msgType = 2 ∧
    (let w := (act [(F.TSU_TB_CTRL_SRC 2, 1), (F.TSU_TB_PTPPORTS_PORTS 2, 2 ^ 16), (F.TSU_TB_PTP_P2P 2, 1)]).took 0xC hd; w.flag (F.TSU_TB_PTP_P2P 2) = true ∧
      w.tcPeerDelay 0x20 = false) ∧ (((sbWait []).took 0xC hd).tin.sbOut.find? (fun e => e.1 == 7)) = some (7, 2, 0x20, ptp 0) ∧
    (((up []).took 0xC hd).tin.sbOut.find? (fun e => e.1 == 7)) = none ∧ (((5 : Int) - (up []).tbNs 2 < 2 ^ 31) ∧ -2 ^ 31 ≤ (5 : Int) - (up []).tbNs 2) := by decide +kernel
/-- A timetable that runs, with cycle `n` being served. -/
def late (n : Nat) (l : List (Fld × Nat)) : State := (act ((F.TTB_STATUS_RUN, 1) :: l)).setTtb { TtbS.init with cyc := n }
/-- The same at the start of that cycle. -/
def serving (n : Nat) (l : List (Fld × Nat)) : State := (late n l).setTbs [(0, { TbS.init with acc := n * (late n l).cycleNs * 65536000000 })]
theorem wit_CyclesAndBanks : (let a := (late 5 []).advance 5; a.active = true ∧ a.rbk.flushing = false ∧ a.flag F.TTB_STATUS_RUN = true ∧
      (a.tbNs a.ttbTb + 4) / a.cycleNs ≠ a.ttb.cyc) ∧
    (let a := (serving 5 []).advance 5; a.flag F.TTB_STATUS_RUN = true ∧ (a.tbNs a.ttbTb + 4) / a.cycleNs = a.ttb.cyc) ∧
    ((up []).advance 5).active = false ∧ (((act []).setRbk { RbkS.init with flushing := true }).advance 5).rbk.flushing = true ∧
    (let a := ((act []).setTtb { TtbS.init with startAt := some 1000 }).advance 5; a.flag F.TTB_STATUS_RUN = false ∧ a.ttb.startAt = some 1000 ∧
      (a.tbNs a.ttbTb + 4) / a.cycleNs * a.cycleNs < 1000) ∧
    (let a := ((act []).setTtb { TtbS.init with startAt := some 0 }).advance 5; a.ttb.startAt = some 0 ∧ 0 ≤ (a.tbNs a.ttbTb + 4) / a.cycleNs * a.cycleNs) ∧
    ((act []).advance 5).ttb.startAt = none ∧
    ((act []).advance 5).flag F.TTB_BANK_SEL_PENDING = false ∧ ((act [(F.TTB_BANK_SEL_PENDING, 1)]).advance 5).flag F.TTB_BANK_SEL_PENDING = true ∧
    ((act [(F.TTB_BANK_SEL_CHECKING, 1)]).advance 5).flag F.TTB_BANK_SEL_CHECKING = true ∧ ((act []).advance 5).flag F.TTB_BANK_SEL_CHECKING = false ∧
    (∀ e ∈ [(8, true), (7, false)], let b := ((act [(F.TTB_BANK_SEL_PENDING, 1)]).setTtb { TtbS.init with checked := true, readyAt := 7 }).setNow e.1;
      b.ttb.checked = true ∧ b.flag F.TTB_BANK_SEL_PENDING = true ∧ (decide (b.ttb.readyAt / 4 < b.now / 4) = e.2)) ∧ (act []).ttb.checked = false ∧
    (act []).active = true ∧ (0 : Nat) = (act []).activeBank ∧ (1 : Nat) ≠ (act []).activeBank ∧ (1 < 2 ∧ 511 < 512 ∧ 7 < 8) := by decide
theorem wit_CyclesAndBanks_sound : ((late 5 []).advance 5).Sound := ⟨by decide, by decide, by decide⟩
theorem wit_CyclesAndBanks_wait : (∀ w ∈ [none, some 1], let a := ((late 5 []).setRbk { RbkS.init with actWait := w }).advance 5;
    let n := (a.tbNs a.ttbTb + 4) / a.cycleNs
    let b := ((a.put F.TTB_STATUS_RUN 1).put F.TTB_CYCNUM_LO_CYCLO n).put F.TTB_CYCNUM_LIVE (n / 2 ^ 32)
    let c := ((b.setTtb { b.ttb with cyc := n, startAt := none, served := [], lastAt := a.now }).bankBoundary.mapEffect).sharesEffect
    let e := if c.activeBank = b.activeBank then c else c.showAwait
    (e.coefBoundary (n * e.cycleNs)).rbk.actWait = w) := by decide +kernel
/-- A slot of the active bank, numbered 5, with an action, a target and a parameter, three times at the start of the cycle. -/
def withSlot (a target param : Nat) (s : State) : State :=
  s.putSlot 0 5 { offset := 0, valid := true, action := a, rept := 2, stride := 0, target := target, param := param }
theorem wit_NoDepartureIsServedTwice : (let a := ((withSlot 1 1 0 (serving 0 [])).setTtb { TtbS.init with served := [(5, 2)] }).advance 5; (5, 2) ∈ a.ttb.served) ∧
    (((serving 0 []).advance 5).slotV 0 6).valid = false ∧ (((withSlot 1 1 0 (serving 0 [])).advance 5).slotV 0 5).rept < 3 ∧
    ((act []).advance 5).flag F.TTB_STATUS_RUN = false ∧ (((withSlot 0 1 0 (serving 0 [])).advance 5).slotV 0 5).action = 0 ∧
    (let a := (withSlot 1 1 0 (late 5 [])).advance 5; 8 < ((a.tbNs a.ttbTb : Int) - (a.ttb.cyc * a.cycleNs : Nat)).natAbs) := by decide
theorem wit_NoDepartureIsServedTwice_departs : (let a := withSlot 1 1 0 (serving 4 []); let v := a.slotV a.activeBank 5;
      v.action = 1 ∧ v.action ≠ 2 ∧ a.flag F.TTB_STATUS_RUN = true ∧ v.valid = true ∧ 2 ≤ v.rept ∧ (5, 2) ∉ a.ttb.served ∧
      ((a.tbNs a.ttbTb : Int) - (a.ttb.cyc * a.cycleNs + 8 * (v.offset + 2 * v.stride / 256) : Nat)).natAbs ≤ 8) ∧
    (∀ b ∈ [false, true], ((((serving 4 []).setTok { TokS.init with resume := b }).setTtb { TtbS.init with served := [(5, 2)] }).put F.TTB_STATUS_LAST 5).tok.resume = b) := by
  decide +kernel
/-- The state a departure leads to. -/
def departed (act : Nat) (s : State) : State := match (s.advance 5).depart 5 2 act with
  | some (_, _, u) => u
  | none => State.reset
theorem wit_DeparturesReachTheirUnits : (∀ a ∈ [1, 2, 3, 4, 5, 6, 7, 8, 9, 0xA, 0xB], let x := (withSlot a 1 1 (serving 0 [])).advance 5;
      (x.depart 5 2 a).isSome = true) ∧ (departed 3 (withSlot 3 1 0 (serving 0 []))).chainOn = true ∧
    (departed 3 (withSlot 3 1 0 (serving 0 [(F.PWR_STATE, 2)]))).chainOn = false ∧
    (((withSlot 6 (2 ^ 15) 0 (serving 0 [])).advance 5).slotV 0 5).target = 2 ^ 15 ∧ (((withSlot 6 0 0 (serving 0 [])).advance 5).slotV 0 5).target = 0 ∧
    (departed 9 (withSlot 9 1 0 (serving 0 []))).publishing = true ∧ (departed 9 (withSlot 9 1 0 (serving 0 [(F.PWR_STATE, 2)]))).publishing = false ∧
    (((withSlot 0xA 1 7 (serving 0 [])).advance 5).slotV 0 5).param % 65536 ≠ 0 ∧
    (((withSlot 0xA 1 65536 (serving 0 [])).advance 5).slotV 0 5).param % 65536 = 0 ∧
    (departed 0xB (withSlot 0xB 1 0 (serving 0 [(F.TOK_CTRL_MODE, 1)]))).redundant = true ∧
    (departed 0xB (withSlot 0xB 1 0 (serving 0 []))).redundant = false ∧
    (let m := fun (x : Int) => ((up []).putI F.MEM_DTEMP_NOW x).getI F.MEM_DTEMP_TRAINED; ((9 - m 9).natAbs < 10 ∧ 10 ≤ (10 - m 10).natAbs)) := by decide +kernel
/-- A program whose cycle is every second one of the timetable. -/
def prog2 : Prog :=
  { ratio := 2, runOnLoad := true, holdEn := true, wcet := 100, progId := 7, code := [], types := [], fbs := [], vars := [], instLen := 16, retLen := 0,
    init := [], sems := [] }
/-- With that program, and a cycle in progress or not. -/
def logic (mode : Nat) (c : Option (Nat × Nat × Nat)) (s : State) : State :=
  (s.put F.LGE_STATUS_MODE mode).setLge { LgeS.init with prog := some prog2, cyc := c }
theorem wit_DeparturesReachTheirUnits_logic :
    (∀ c ∈ [none, some (0, 0, 0)], let u := departed 7 (withSlot 7 1 0 (logic 1 c (serving 4 [])));
      u.lge.prog = some prog2 ∧ u.awake = true ∧ u.standby = false ∧ u.lgMode ≠ 2 ∧ u.ttb.cyc % Nat.max prog2.ratio 1 = 0 ∧ u.lge.cyc = c) ∧
    (departed 7 (withSlot 7 1 0 (logic 1 none (serving 5 [])))).ttb.cyc % Nat.max prog2.ratio 1 ≠ 0 ∧
    (∀ m ∈ [0, 1], let u := departed 7 (withSlot 7 1 0 (logic m none (serving 4 []))); decide ((u.windowDue u.now).lgWaiting.lgMode = 1) = (m == 1)) ∧
    (departed 7 (withSlot 7 1 0 (serving 4 []))).lge.prog = none ∧
    (departed 8 (withSlot 8 1 0 (serving 4 []))).awake = true ∧ (departed 8 (withSlot 8 1 0 (serving 4 [(F.PWR_STATE, 2)]))).awake = false ∧
    (((departed 8 (withSlot 8 1 0 (serving 4 []))).windowDue 4).hlx.open_ = none) ∧
    ((departed 8 (withSlot 8 1 0 ((serving 4 []).setHlx { HlxS.init with open_ := some 9 }))).windowDue 4).hlx.open_.isSome = true := by decide +kernel
/-- With halt 0 valid its reply is open at once, with none every reply is there; a standby sends no request. -/
theorem wit_DeparturesReachTheirUnits_exchange : (∀ l ∈ [[], [(F.HLX_HCFG_VALID 0, 1)]], ∀ m ∈ [0, 1],
    let x := (departed 8 (withSlot 8 1 0 (serving 4 ((F.TOK_CTRL_MODE, m) :: l)))).windowDue 4
    let w := x.put F.HLX_SEQ (x.get F.HLX_SEQ + 1)
    let b := w.each w.validHalts (fun s h => s.setHalt h { s.halt h with replied := false })
    b.sendsRequests = (m == 0) ∧ b.allReplied = l.isEmpty) := by decide +kernel
/-- A task of instance 1 and the instance. -/
def task1 : TaskDecl := { entry := 0x100, budget := 100000, deadline := 1000, cls := 0, valid := true, stack := 64, wcet := 100 }
def inst1 : InstDecl :=
  { inst := 1, supervisory := false, tasks := [task1], code := 4096, data := 4096, ckpt := 0, rings := [], autostart := false, qDram := 0, qQueues := 4, qSems := 4,
    qMb := 4, dhash := 9, tb := 0, mpu := [], codeImage := [], dataImage := [], prio := 1 }
/-- A rulebook with that instance, RUNNING on platform 3. -/
def running (s : State) : State :=
  (((s.put (F.INS_ISTAT_STATE 1) 2).put (F.MAR_IPLACE_PF 1) 3).put (F.PFM_PCTRL_ROLE 3) 0).setRbk { s.rbk with active := some { decl0 with insts := [inst1], active := [3] } }
/-- A platform at work with instance 1 or 2. -/
def pfWith (i : Nat) (q : List Launch) : PfS := { PfS.init with cur := some { run1 with l := { run1.l with inst := i, dead := 100 } }, lq := q }
theorem wit_LaunchesReachTheirPlatform : (((withSlot 1 1 1 (serving 0 [])).advance 5).depart 5 2 1).isSome = true ∧
    (departed 1 (withSlot 1 1 1 (serving 0 [(F.PWR_STATE, 2)]))).awake = false ∧ (departed 1 (withSlot 1 1 1 (serving 0 []))).awake = true ∧
    (departed 1 (withSlot 1 1 1 (serving 0 []))).launchable 1 0 = false ∧
    (let w := (departed 1 (withSlot 1 1 1 (running (serving 0 [])))).shuntAtLaunch 1 0; w.launchable 1 0 = true ∧ w.taskDecl 1 0 = some task1 ∧
      w.ttb.lastDep = [] ∧ 0 < task1.deadline ∧ w.placeOf 1 = 3 ∧ (w.pf 3).cur = none ∧ (w.pf 3).lq = [] ∧ (w.pf 3).copyEnd ≤ w.now ∧ 5 ≤ w.now) ∧
    (∀ i ∈ [1, 2], let w := (departed 1 (withSlot 1 1 1 ((running (serving 0 [])).setPf 3 (pfWith i [])))).shuntAtLaunch 1 0;
      w.launchable 1 0 = true ∧ (w.pf 3).cur.isSome = true ∧ (w.pf 3).lq.length < 8) := by decide
theorem wit_LaunchesReachTheirPlatform_served :
    (∀ raw ∈ [4, 6], ∀ dead ∈ [5, 6], let m : Launch := { run1.l with inst := 1, raw := raw, dead := dead };
      let a := ((running (act [])).setPf 3 { PfS.init with lq := [m] }).advance 5
      (a.pf 3).cur = none ∧ (a.pf 3).copyEnd ≤ a.now ∧ a.awake = true ∧ a.rbk.flushing = false ∧ (a.pf 3).lq = [m] ∧ a.now = 5) ∧
    (let a := ((running (act [])).setPf 3 { PfS.init with lq := [run1.l] }).advance 5; ((a.setPf 3 { a.pf 3 with lq := [] }).showLq 3).launchable 1 0 = true) ∧
    (let a := ((act []).setPf 3 { PfS.init with lq := [run1.l] }).advance 5; ((a.setPf 3 { a.pf 3 with lq := [] }).showLq 3).launchable 1 0 = false) ∧
    (((act []).setPf 3 (pfWith 1 [])).advance 5).pf 3 ≠ PfS.init ∧ ((act []).advance 5).now < (({ PfS.init with copyEnd := 6 } : PfS).copyEnd) := by decide
/-- A launch earlier to platform 3. -/
def launched3 (n : Nat) : State := (act []).setTtb { TtbS.init with lastDep := [(3, n)] }
theorem wit_LaunchesReachTheirPlatform_core : ((running (act [])).decl run1.l.inst = some inst1 ∧ (running (act [])).taskDecl run1.l.inst run1.l.task = some task1) ∧
    mayAccess (regionsOf inst1) (.fetch task1.entry) = true ∧ mayAccess (regionsOf inst1) (.fetch 0x1000) = false ∧
    (launched3 7).ttb.lastDep.find? (fun e => e.1 == 3) = some (3, 7) ∧ 7 + 1000 ≤ 1007 ∧ 1006 < 7 + 1000 ∧
    (launched3 7).ttb.lastDep.find? (fun e => e.1 == 4) = none := by decide
theorem wit_LaunchesReachTheirPlatform_sound : (running (act [])).Sound := ⟨by decide, by decide, by decide⟩
/-- A queued SV frame for subscription 0, and an FT3 one. -/
def qf (f : Option RxFrame) : QFrame := { port := 0, ft := f.isNone, frame := f, ds := [], stamp := 0, subs := [0], at_ := 0 }
theorem wit_IngressQueuesAndDeadlines : (∀ f ∈ [some plainFrame, none], let a := ((act []).setSvi { SviS.init with urgent := [qf f] }).advance 5;
      a.svi.urgent = [qf f] ∧ (a.setSvi { a.svi with urgent := [] }).chainOn = true) ∧
    (let a := ((act []).setSvi { SviS.init with normal := [qf (some plainFrame)] }).advance 5; a.svi.urgent = [] ∧ a.svi.normal = [qf (some plainFrame)] ∧
      (a.setSvi { a.svi with normal := [] }).chainOn = true) ∧ ((act []).advance 5).svi.urgent = [] ∧ ((act []).advance 5).svi.normal = [] ∧
    (let s := (act [(F.SVI_SUB_URGENT 0, 1)]).setSvi { SviS.init with urgent := List.replicate 64 (qf none) };
      (∃ i ∈ (qf none).subs, (s.setSvi { s.svi with count := s.svi.count + 1 }).flag (F.SVI_SUB_URGENT i) = true) ∧ 64 ≤ s.svi.urgent.length) ∧
    (∀ i ∈ (qf none).subs, ((act []).setSvi { SviS.init with count := 1 }).flag (F.SVI_SUB_URGENT i) = false) ∧ (act []).svi.normal.length < 4096 ∧
    (∀ n ∈ [2500, 2501], ∀ l ∈ [none, some 0], (((act []).setSvi { SviS.init with count := n, loadAt := l }).advance 5).svi.count = n) ∧
    (let a := ((act [(F.SVI_SUB_VALID 511, 1), (F.SVI_SSTAT_STATE 511, 1)]).setTbs [(0, { TbS.init with acc := 208333 * 65536000000 })]).advance 5; a.chainOn = true ∧ a.flag (F.SVI_SUB_VALID 511) = true ∧
      a.get (F.SVI_SSTAT_STATE 511) ≠ 0 ∧ a.deadlineOf 511 ≤ a.tbNs (a.get (F.SVI_SUB_TB 511))) ∧ ((act []).advance 5).get (F.SVI_SSTAT_STATE 511) = 0 ∧
    (let a := (((act [(F.SVI_SSTAT_SMPSYNCH 511, 2)]).setSvi { SviS.init with streams := [(511, { StreamS.init with reportAt := some 0 })] }).advance 100000000);
      (a.stream 511).reportAt = some 0 ∧ 0 + 100000000 ≤ a.now ∧ a.get (F.SVI_SSTAT_SMPSYNCH 511) ≠ (a.stream 511).reported) ∧
    (((act []).advance 5).stream 511).reportAt = none := by decide +kernel
theorem wit_IngressQueuesAndDeadlines_lost : (∀ e ∈ [(1, 3, false), (1, 1, true)],
      let a := (act [(F.SVI_SSTAT_STATE 0, e.1), (F.SVI_SUB_LOSSCNT 0, e.2.1), (F.SVI_SUB_VALID 0, 1)]).advance 5
      let m := ((a.handOn 0 (a.cicPos 0) (a.nextTnom 0) (List.replicate (a.get (F.SVI_SUB_NCH 0)) (0, 1)) (2 ^ 16 + a.relFlags 0)).released 0
        (a.nextTnom 0) false).count (F.SVI_SCNT0_MISSING 0)
      (m.get (F.SVI_SSTAT_STATE 0) == 1 && decide (m.get (F.SVI_SUB_LOSSCNT 0) ≤ (m.stream 0).run)) = e.2.2) := by decide +kernel

/-- In the third millisecond of the timetable's base, with a window of `w` and its frames. -/
def winSt (w n : Nat) (l : Option Nat) : State :=
  ((act []).setTbs [(0, { TbS.init with acc := 3000000 * 65536000000 })]).setSvi { SviS.init with win := w, count := n, loadAt := l }
theorem wit_IngressQueuesAndDeadlines_window : (∀ w ∈ [2, 3], ∀ n ∈ [2500, 2501], ∀ l ∈ [none, some 0], ∀ t ∈ [999999999, 1000000000],
      let a := (winSt w n l).setNow t; decide (a.tbNs a.ttbTb / 1000000 = a.svi.win) = (w == 3) ∧ a.svi.count = n ∧ a.svi.loadAt = l ∧ a.now = t) ∧
    ((winSt 3 0 none).advance 5).now = 5 ∧
    (let a := (act []).advance 5; ((a.stream 511).next, true) ∉ (a.parseNext.stream 511).recent) ∧
    (let a := ((act []).setSvi { SviS.init with streams := [(511, { StreamS.init with recent := [(0, true)] })] }).advance 5;
      ((a.stream 511).next, true) ∈ (a.parseNext.stream 511).recent) ∧ ((up []).advance 5).chainOn = false := by decide +kernel
theorem wit_IngressQueuesAndDeadlines_order : [{ qf none with at_ := 3, port := 9 }, { qf none with at_ := 4, port := 1 }].Pairwise
    (fun x y => x.at_ / 4 < y.at_ / 4 ∨ (x.at_ / 4 = y.at_ / 4 ∧ x.port ≤ y.port)) := by decide
/-! ## Witnesses: samples, filters, platforms, publication, acquisition, logic -/

/-- A sample at a position. -/
def smp (p : Int) : InSample := { cnt := 0, sync := 0, vals := [], tnom := 0, pos := p }
/-- Stream 511 in a state, position 100 next. -/
def strm (st : Nat) : State := (act [(F.SVI_SSTAT_STATE 511, st)]).setSvi { SviS.init with
  streams := [(511, { StreamS.init with next := 100, recent := [(99, true)] })] }
theorem wit_SamplesAreReleasedInSequence : (smp 0).sync = (strm 1).get (F.SVI_SSTAT_SMPSYNCH 511) ∧
    (∀ st ∈ [0, 1, 2], (strm st).get (F.SVI_SSTAT_STATE 511) = st) ∧ (strm 1).offsetJ 511 (smp 100) = 0 ∧ (strm 1).offsetJ 511 (smp 101) = 1 ∧
    (strm 1).offsetJ 511 (smp 164) = 64 ∧ (strm 1).offsetJ 511 (smp 165) = 65 ∧ (strm 1).offsetJ 511 (smp 99) = -1 ∧
    (((strm 1).stream 511).next + -1, true) ∈ ((strm 1).stream 511).recent ∧
    (((strm 1).stream 511).next + -2, true) ∉ ((strm 1).stream 511).recent := by decide
/-- An input of a lane. -/
def laneSmp : Sample := { value := 1000, qual := 0, time := 0, pos := 0, epoch := 0, rel := 0 }
/-- Lane 4,095 with a queue of inputs. -/
def laneSt (n : Nat) (l : List (Fld × Nat)) : State :=
  (act ((F.FCH_LCFG_VALID 4095, 1) :: l)).setLane 4095 { LaneS.init with inq := List.replicate n laneSmp }
theorem wit_FilterCommands : (let a := (laneSt 2 []).advance 5; a.chainOn = true ∧ a.flag (F.FCH_LCFG_VALID 4095) = true ∧ (a.lane 4095).inq = [laneSmp, laneSmp]) ∧
    ((up []).advance 5).chainOn = false ∧ (act [(F.FCH_FG_STATUS_STATE 63, 2)]).get (F.FCH_FG_STATUS_STATE 63) = 2 ∧ (act []).get (F.FCH_FG_STATUS_STATE 63) ≠ 2 ∧
    (act [(F.FCH_BANK_PENDING, 1)]).flag F.FCH_BANK_PENDING = true ∧ (∀ e ∈ (laneSt 1 []).fch.lanes, e.2.fade = none) ∧
    (∃ e ∈ ((act []).setLane 7 { LaneS.init with fade := some (3, 0) }).fch.lanes, e.2.fade.isSome = true) ∧ 63 < 64 := by decide
theorem wit_FilterCommands_lane : (∀ e ∈ [(1, true), (4, false)],
      let a := ((laneSt 1 [(F.FCH_LCIC_RATIO 4095, e.1), (F.FCH_FG_CTRL_MODE 0, 1)]).setGroup 0 { GroupS.init with t0 := some 0, f := 3276800 }).advance 5
      (((a.setLane 4095 { a.lane 4095 with inq := [] }).laneIn 4095 laneSmp).2 = e.2)) ∧
    (∀ f ∈ [0, 32], ((laneSt 1 [(F.FCH_LFIR_FADE 4095, f)]).get (F.FCH_LFIR_FADE 4095) = 0) = (f = 0)) ∧
    (∀ st ∈ [1, 2], let s := (act [(F.FCH_FG_STATUS_STATE 63, st)]).setGroup 63 { GroupS.init with holdOver := true }
      (s.group 63).holdOver = true ∧ (((s.setGroup 63 { s.group 63 with holdOver := false }).get (F.FCH_FG_STATUS_STATE 63) = 2) = (st = 2))) ∧
    (laneSt 1 []).laneFrozen 4095 = false ∧ (laneSt 1 [(F.FCH_LDC_FZEN 4095, 1), (F.FCH_FZSTAT_FROZEN, 1)]).laneFrozen 4095 = true := by decide +kernel
theorem wit_FilterAndPhasorArithmetic : ([1, 2] : List Int).length ≤ 128 ∧ (∀ h ∈ [-2 ^ 23, (2 : Int) ^ 23 - 1], -2 ^ 23 ≤ h ∧ h < 2 ^ 23) ∧
    (∀ x ∈ [-2 ^ 47, (2 : Int) ^ 47 - 1], -2 ^ 47 ≤ x ∧ x < 2 ^ 47) ∧ 63 < 64 ∧ ([0, 0, 0, 0] : List Int).length = 4 ∧ 3 < 4 ∧ 0 < 1 ∧ 16 ≤ 16 ∧
    -2 ^ 31 ≤ (((2 : Int) ^ 31 - 1) * 2 + 2 ^ 0) / 2 ^ (0 + 1) ∧ (((2 : Int) ^ 31 - 1) * 2 + 2 ^ 0) / 2 ^ (0 + 1) < 2 ^ 31 ∧
    ((-2 ^ 31 - 1 : Int) * 2 + 2 ^ 0) / 2 ^ (0 + 1) < -2 ^ 31 ∧ 2 ^ 31 ≤ ((2 : Int) ^ 31 * 2 + 2 ^ 0) / 2 ^ (0 + 1) := by decide
/-- A task at work on platform 23 with a phasor queue. -/
def phq (q : List Nat) (st : Option Nat) : State := (act []).setPf 23 { PfS.init with cur := some run1, phq := q, stalled := st }
theorem wit_PhasorQueueIsServedInOrder : (act []).coreRuns 23 = none ∧ (phq [] none).coreRuns 23 = some run1 ∧
    (∀ n ∈ [15, 16], ∀ st ∈ [1, 2], let s := (phq (List.replicate n 32) none).put (F.PFM_PSTAT_STATE 23) st
      let x := (if s.get (F.PFM_PSTAT_STATE 23) = 1 then s.put (F.PFM_PSTAT_STATE 23) 2 else s).runAccs run1 []
      s.coreRuns 23 = some run1 ∧ x.2 = none ∧ (x.1.pf 23).phq.length = n) ∧
    ((phq [] none).runAccs run1 [.load 0]).2 = some 5 ∧
    ((act []).pf 23).cur = none ∧ ((phq [] none).pf 23).phq = [] ∧ ((phq [32] none).pf 23).cur = some run1 ∧ ((phq [32, 64] none).pf 23).phq = [32, 64] ∧
    (((phq [32] none).phasorExec run1.l.inst 32).pf 23).stalled = none ∧ (((phq [32] (some 96)).phasorExec run1.l.inst 32).pf 23).stalled = some 96 := by
  decide +kernel
/-- A task of `inst1`, with 16 KiB of data, and its regions. -/
def run2 : Running := { run1 with mpu := regionsOf { inst1 with data := 0x4000 } }
theorem wit_PhasorQueueIsServedInOrder_accesses : inLocal (accAddr (.load 0x200000)) = true ∧
    (∀ x ∈ [TaskAcc.fetch 0xFFC, .load 0x100, .load 0x100000, .load 0x103FFF, .store 0x102000 7], inLocal (accAddr x) = false ∧ mayAccess run2.mpu x = true) ∧
    (∀ x ∈ [TaskAcc.store 0x100 7, .fetch 0x1000, .fetch 0x102000, .store 0x101FFF 7, .load 0x104000], inLocal (accAddr x) = false ∧ mayAccess run2.mpu x = false) ∧
    (∀ a b, TaskAcc.fetch 0x100 ≠ .store a b) := ⟨by decide, by decide, by decide, fun _ _ h => by cases h⟩
/-- A run with a deadline, an overrun and an ending. -/
def runW (dead : Nat) (o : Bool) (e : Option Ending) : Running := { run1 with l := { run1.l with dead := dead }, overran := o, ending := e }
/-- An ending of a task that does not wait. -/
def end1 (w : Bool) : Ending := { clocks := 100, cl := 0, at_ := 0, waits := w, block := [], dtc := none }
/-- That run on platform 23. -/
def withRun (r : Running) (q : List Nat) : State := (act []).setPf 23 { PfS.init with cur := some r, phq := q }
theorem wit_TasksEnd : ((withRun (runW 9 false none) []).pf 23).cur = some (runW 9 false none) ∧ (runW 9 false none).overran = false ∧
    (∀ e ∈ (runW 9 false (some (end1 true))).ending, e.waits = true) ∧ (runW 9 false (some (end1 true))).ending = some (end1 true) ∧
    (end1 false).waits = false ∧ (runW 9 false none).ending = none ∧ (runW 9 true none).overran = true ∧ ((act []).pf 23).cur = none ∧
    (∀ t ∈ [8, 9], ∀ st ∈ [[], [TaskAcc.load 0]], let a := (withRun (runW 9 false none) []).advance t; (a.pf 23).cur = some (runW 9 false none) ∧
      a.coreRuns 23 = some (runW 9 false none) ∧ a.now = t ∧ (a.runAccs (runW 9 false none) st).2 = if st.isEmpty then none else some 5) ∧
    ((act []).advance 5).coreRuns 23 = none ∧
    (∀ t ∈ [8, 9], ∀ w ∈ [false, true], ∀ q ∈ [[], [32]], let a := (withRun (runW 9 false (some (end1 w))) q).advance t;
      (a.pf 23).cur = some (runW 9 false (some (end1 w))) ∧ (a.pf 23).phq = q ∧ a.now = t) := by decide
/-- A place in a copy. -/
def pl1 : Place := { inst := 1, pf := 3, code := 0, data := 0 }
theorem wit_QuarantineAndMarshalling : ((act []).advance 5).roleOf 23 ≠ 2 ∧ ((act [(F.PFM_PCTRL_ROLE 23, 2)]).advance 5).roleOf 23 = 2 ∧
    (3 = 3 ∨ 3 = 4) ∧ (2 ≠ 1 ∧ 2 ≠ 3 ∧ 2 ≠ 4) ∧ ((act []).advance 5).mar.copying = [] ∧
    (let a := (((act []).setMar { MarS.init with copying := [pl1] }).setInst 1 { InstS.init with imageBad := true }).advance 5;
      a.mar.copying = [pl1] ∧ a.mar.restart = [] ∧ (a.inst 1).imageBad = true) ∧
    (let a := ((running (act [])).setMar { MarS.init with copying := [pl1] }).advance 5;
      a.mar.copying = [pl1] ∧ (a.inst 1).imageBad = false ∧ a.decl 1 = some inst1) ∧
    ((up []).advance 5).active = false ∧ 2 ≤ ((act [(F.PWR_STATE, 2)]).advance 5).get F.PWR_STATE ∧ ((act []).advance 5).get F.PWR_STATE < 2 ∧
    (∀ d ∈ [0, 1], let a := (act [(F.MAR_CTRL_ADAPT, d)]).advance 5; let b := (a.put F.MAR_CL_NOW 9).peak F.MAR_CL_PEAK 9;
      (b.each [0, 1] (fun s m => s.put (F.DMX_ARB_BUSY m) (Nat.min (Sp.get 0 s.mar.busy m * 65536 /
        Nat.max (b.get F.MAR_CTRL_PERIOD * 1000000) 1) 65535))).flag F.MAR_CTRL_ADAPT = (d == 1)) ∧
    10 ≤ (F.MAR_IGUARD_GUARD 63).part 10 ∧ (F.MAR_IGUARD_GUARD 63).part 40 ≤ 40 ∧ (F.MAR_IGUARD_GUARD 63).part 9 < 10 ∧ 40 < (F.MAR_IGUARD_GUARD 63).part 41 ∧
    (act []).decl 63 = none := by decide
/-- Instance 21 of the worked example of R250: a task of 1,000,000 clocks launched once in a cycle of 5 ms, and a checkpoint of 4 KiB. -/
def inst21 : InstDecl := { inst1 with inst := 21, supervisory := true, tasks := [{ task1 with budget := 1000000, deadline := 100000 }], ckpt := 4096 }
theorem wit_QuarantineAndMarshalling_more : (∀ x ∈ [none, some ({ ckpt := [5], pub := [], trip := 0, fault := false, dhash := 9, at_ := 0 } : Snap)],
      let a := ((((running (act [])).setMar { MarS.init with copying := [pl1] })).setInst 1 { InstS.init with staged := x }).advance 5
      a.mar.copying = [pl1] ∧ (a.inst 1).imageBad = false ∧ a.decl 1 = some inst1 ∧ ((a.loadImage inst1 pl1).inst 1).snapshot = x) ∧
    (∀ r ∈ [0, 2], let a := (act [(F.PFM_PCTRL_ROLE 23, r)]).advance 5
      let u := ((a.count F.MEM_ECC_UECC).put F.MEM_ECCADDR_LO 64).put F.MEM_ECCADDR_HI 3
      u.roleOf 23 = r) ∧
    (∀ n ∈ [63, 64], let s := ((act [(F.MAR_IPLACE_SHARE 21, 64)]).setRbk { RbkS.init with active := some { decl0 with insts := [inst21] } })
      let q := (s.put (F.MAR_IBOUND_SHMIN 21) 0).put (F.MAR_IBOUND_SHMAX 21) n
      s.decl 21 = some inst21 ∧ inst21.supervisory = true ∧ decide ((q.shareBounds 21).2 < q.get (F.MAR_IPLACE_SHARE 21)) = (n == 63)) ∧
    (running (act [])).decl 1 = some inst1 ∧ inst1.supervisory = false := by decide
/-- GOOSE template 511 with a retransmission point. -/
def gSt (at_ : Nat) (l : List (Fld × Nat)) : State :=
  (act ((F.PUB_GSTAT_STATE 511, 1) :: l)).setGoose 511 { GooseS.init with point := some (0, at_, 2) }
/-- A digest of cycle 7 kept, or none. -/
def digSt (l : List (Nat × BitVec 64)) (m : Nat) : State :=
  (act [(F.TOK_CTRL_MODE, m), (F.TOK_STATUS_HELD, 1)]).setPub { PubS.init with digOwn := l }
theorem wit_PublicationsAndDigests : (∀ x ∈ [0, 1], let a := (gSt x []).advance 5; a.publishing = true ∧ a.get (F.PUB_GSTAT_STATE 511) = 1 ∧
      (a.goose 511).point = some (0, x, 2) ∧ a.pointDeferred 511 x = false ∧ a.tbNs a.ttbTb = 0) ∧ ((up []).advance 5).publishing = false ∧
    (let a := ((gSt 0 [(F.PUB_GCFG_OWNER 511, 1), (F.PUB_GCFG_TWIN 511, 1), (F.TOK_CTRL_MODE, 2)]).setPf 0 { PfS.init with cur := some run1 }).advance 5;
      a.publishing = true ∧ a.pointDeferred 511 0 = true) ∧
    ((digSt [] 2).advance 5).digesting = true ∧ ((act []).advance 5).digesting = false ∧ ((act []).advance 5).redundant = false ∧
    ((digSt [] 2).advance 5).redundant = true ∧ plh.crcOk = true ∧ plh.ver = 1 ∧ ((digSt [] 2).advance 5).tok.seen = [] ∧ ((digSt [] 2).advance 5).twinMode = true ∧
    (∃ d ∈ (digSt [(7, 9)] 2).pub.digOwn, d.1 = 7) ∧ (∀ d ∈ (digSt [] 2).pub.digOwn, d.1 ≠ 7) ∧ (act []).inTurn 0xA hd = true ∧
    ([5] : Bytes).length ≤ 2036 ∧ 2036 < (zeros 2037).length ∧ hd.src = 0 ∧ hdI.src ≠ 0 ∧ 31 ≤ 31 ∧
    ((act []).took 0xA { hd with tgt := 1 }).qOwner 31 ≠ ({ hd with tgt := 1 } : Hdr).tgt ∧
    ((act [(F.INS_QOWN_OWNER 31, 1)]).took 0xA { hd with tgt := 1 }).qOwner 31 = ({ hd with tgt := 1 } : Hdr).tgt := by decide +kernel
theorem wit_PublicationsAndDigests_task : (∀ b ∈ [false, true], let s := gSt 0 [(F.PUB_GCFG_OWNER 511, 1)]
      let a := (if b then s.setPf 23 { PfS.init with cur := some run1 } else s).advance 5
      a.publishing = true ∧ 0 ≤ a.tbNs a.ttbTb ∧ a.pointDeferred 511 0 = false ∧ (a.taskOf (a.get (F.PUB_GCFG_OWNER 511))).isSome = b) ∧
    (let a := (gSt 1 []).advance 0; a.publishing = true ∧ a.tbNs a.ttbTb < 1) := by decide +kernel
/-- A capture. -/
def cap1 (q d : Bool) : Capture :=
  { cause := 2, detail := 0, t := 0, tidx := 0, frac := 0, endAt := -2000000000, trunc := false, maskStop := false, number := 1, enteredAt := 0, heldTrig := 9,
    queued := q, done := d, toIdle := false, startedAt := 0, epoch := 0, skew := [] }
/-- Recorder 15 in a state, with a capture. -/
def recSt (st : Nat) (c : Option Capture) (l : List (Fld × Nat)) : State :=
  (act ((F.ACQ_RCFG_VALID 15, 1) :: (F.ACQ_RSTAT_STATE 15, st) :: l)).setRecd 15 { RecS.init with cap := c }
theorem wit_RecordersAndHistory : (∀ st ∈ [0, 1, 2, 3, 4], let a := (recSt st none []).advance 5; a.flag (F.ACQ_RCFG_VALID 15) = true ∧ a.recState 15 = st ∧
      a.parked = false ∧ (recSt st none []).recState 15 = st ∧ a.get (F.ACQ_RXTRIG_CROSS 15) = 0) ∧
    ((recSt 4 (some (cap1 false false)) []).recd 15).cap = some (cap1 false false) ∧ ((act []).advance 5).flag (F.ACQ_RCFG_VALID 15) = false ∧
    (∀ i ∈ [0, 1], let a := ((act [(F.ACQ_RCFG_OWNER 15, i)]).setPf 23 { PfS.init with cur := some run1 }).advance 5;
      (a.pf 23).cur = some run1 ∧ (2 : Nat) ^ 15 = 2 ^ 15 ∧ (decide (a.get (F.ACQ_RCFG_OWNER 15) = run1.l.inst) = (i == 1))) ∧ ((act []).advance 5).pf 23 = PfS.init ∧
    (recSt 1 none []).prefilled 15 = true ∧ (recSt 1 none [(F.ACQ_RCFG_NCH 15, 1), (F.ACQ_CH_KIND 15 0, 1)]).prefilled 15 = false ∧
    (let a := (recSt 3 (some (cap1 false false)) []).advance 5; a.windowOver 15 (cap1 false false) = true) ∧
    (let a := (recSt 3 none [(F.ACQ_RCFG_NCH 15, 1), (F.ACQ_CH_KIND 15 0, 1)]).advance 5; a.windowOver 15 { cap1 false false with endAt := 0 } = false) ∧
    (let a := (recSt 4 (some (cap1 false true)) []).advance 5; a.heldOver 15 (cap1 false true) = true ∧ (cap1 false true).done = true) ∧
    (let a := (recSt 4 none [(F.ACQ_RHOLD_HTIME 15, 1)]).advance 999999; a.heldOver 15 (cap1 false true) = false) ∧
    (cap1 true false).queued = true ∧ (recSt 4 (some (cap1 true false)) []).exportWaits 15 = false ∧ (cap1 false false).queued = false := by decide
theorem wit_RecordersAndHistory_triggers : (∀ st ∈ [3, 4], ∀ n ∈ [0, 5], let a := (recSt st (some { cap1 false false with startedAt := n }) []).advance 5
      let w := a.takeReady 15
      a.flag (F.ACQ_RCFG_VALID 15) = true ∧ w.recState 15 = st ∧ (w.recd 15).cap = some { cap1 false false with startedAt := n } ∧ decide (n = w.now) = (n == 5)) ∧
    (cap1 false false).cause ≤ 2 ∧
    (∀ x ∈ [none, some 0], ∀ t ∈ [999999999, 1000000000],
      let s := (recSt 1 none [(F.ACQ_RCFG_NCH 15, 1), (F.ACQ_CH_KIND 15 0, 1)]).setRecd 15 { RecS.init with ignAt := x }
      let a := s.setNow t
      let p := (a.takeReady 15).count (F.ACQ_RCNT_PREIGN 15)
      (a.takeReady 15).recState 15 = 1 ∧ (p.recd 15).ignAt = x ∧ p.now = t) ∧
    (let s := (recSt 4 (some (cap1 true false)) []).setCtx 0xB { ClsTx.init with q := [{ ent 0xB true 0 with msg := { (ent 0xB true 0).msg with op := 2, payload := [15] } }] };
      s.exportWaits 15 = true) ∧
    (∀ i ∈ [false, true], ∀ v ∈ [0, 1], let c := { cap1 false true with toIdle := i }; let a := (recSt 4 (some c) [(F.ACQ_RCFG_VALID 15, v)]).advance 5;
      (a.recd 15).cap = some c ∧ a.recState 15 = 4 ∧ a.heldOver 15 c = true ∧
        ((a.putB (F.ACQ_RSTAT_HOLDOFF 15) false).takeWaiting 15).flag (F.ACQ_RCFG_VALID 15) = (v == 1)) := by decide +kernel
/-- A history block of source 8 numbered 3. -/
def hblk : RBlk :=
  { chan := 0xFFFF, kind := 1, src := 8, e := 0, idx := 0, t0 := 0, tLast := 0, times := [0], dcorr := 0, tb := 0, epoch := 0, n := 1, tstr := [], runs := [], vals := [],
    num := 3, bad := false }
theorem wit_RecordersAndHistory_request : (act [(F.ACQ_HREQ_BUSY, 1)]).flag F.ACQ_HREQ_BUSY = true ∧ (act []).flag F.ACQ_HREQ_BUSY = false ∧
    (act []).acq.req = none ∧ ((act []).setAcq { AcqS.init with req := some [] }).acq.req = some [] ∧
    (let s := (act [(F.ACQ_HREQ_LEN, 1), (F.ACQ_HSRC_LAST, 8)]).setAcq { AcqS.init with history := [hblk] };
      hblk ∈ s.acq.history ∧ hblk.kind ≠ 4 ∧ s.get F.ACQ_HSRC_FIRST ≤ hblk.source ∧ hblk.source ≤ s.get F.ACQ_HSRC_LAST ∧ s.reqFrom = 0 ∧
      0 < s.reqFrom + (s.get F.ACQ_HREQ_LEN * 1000000 : Nat)) ∧
    (let s := (act []).setAcq { AcqS.init with history := [hblk], req := some [(hblk.source, hblk.num)] };
      s.acq.req = some [(hblk.source, hblk.num)] ∧ s.acq.history = [hblk]) ∧
    (let s := (act []).setAcq { AcqS.init with req := some [(8, 3)] }; s.acq.req = some [(8, 3)] ∧ s.acq.history = [] ∧ 3 ≠ Sp.get 0 s.acq.blockNo 8) := by decide +kernel
/-- A channel of the front end whose result is due. -/
def conv1 : Conv := { raw := 0, dep := 0, range := 1, gain := 2 ^ 30, offset := 0, odrift := 0, gdrift := 0, skew := 0 }
def afeSt (l : List (Nat × Nat)) : State := (act []).setAcq { AcqS.init with due := [7], overAt := l, conv := [(7, conv1)] }
theorem wit_FrontEndAndCalibration : (act []).acq.due.contains 7 = false ∧ (afeSt []).acq.due.contains 7 = true ∧ 7 < 8 ∧
    (afeSt []).acq.conv.find? (fun e => e.1 == 7) = some (7, conv1) ∧ (act []).acq.conv.find? (fun e => e.1 == 7) = none ∧
    (-131072 < (-131071 : Int) ∧ (131070 : Int) < 131071) ∧ (afeSt []).recTakers 2 7 = [] ∧ (afeSt []).flag F.ACQ_CTRL_HEN = false ∧
    (∀ t ∈ [999999999, 1000000000], ((afeSt [(7, 0)]).setNow t).acq.overAt.find? (fun e => e.1 == 7) = some (7, 0) ∧ ((afeSt [(7, 0)]).setNow t).now = t) ∧
    (afeSt []).acq.overAt.find? (fun e => e.1 == 7) = none ∧ (act []).inTurn 0xE hd = true ∧ (act []).inTurn 0xE hdI = true ∧ hdI.src ≠ 0 ∧
    ((act []).took 0xE hd).get F.PWR_STAGE ≠ 7 ∧
    ((act []).took 0xE hd).pageStatus hd [] ≠ 0 ∧ ((act [(F.PWR_STAGE, 7)]).took 0xE hd).get F.PWR_STAGE = 7 ∧
    ((act [(F.PWR_STAGE, 7)]).took 0xE hd).acq.pageHeld = none ∧
    (((act [(F.PWR_STAGE, 7)]).setAcq { AcqS.init with pageHeld := some ([], hd) }).took 0xE hd).acq.pageHeld.isSome = true ∧
    ((act []).advance 5).acq.pageWr = none ∧ (((act []).setAcq { AcqS.init with pageWr := some ([], hd) }).advance 5).acq.pageWr = some ([], hd) := by decide
theorem wit_FrontEndAndCalibration_sound : (afeSt [(7, 0)]).Sound := ⟨by decide, by decide, by decide⟩
theorem wit_LogicCyclesAndModes : ((logic 1 none (act [])).advance 5).lge.cyc = none ∧ ((logic 2 (some (0, 0, 0)) (act [])).setLge
      { LgeS.init with paused := true }).lge.paused = true ∧
    (∀ t ∈ [0, 1000000000], let a := (logic 1 (some (0, 0, 0)) (act [])).advance t; a.lge.cyc = some (0, 0, 0) ∧ a.lge.paused = false ∧ a.lge.prog = some prog2) ∧
    (let a := (logic 1 (some (0, 0, 0)) (act [(F.TTB_CYCLE, 1)])).advance 1000000000; 0 + 4 * a.lgCycleNs ≤ a.now) ∧
    (let a := (logic 1 (some (0, 9, 0)) (act [])).advance 5; a.now < 9 + 4 * a.lgCycleNs) ∧ (act []).lge.prog = none ∧
    (logic 1 none (act [])).lge.prog.isSome = true ∧ (logic 1 (some (0, 0, 0)) (act [])).lge.cyc.isSome = true ∧
    (logic 1 none (act [])).mayHold = true ∧ (act []).mayHold = false ∧ (logic 2 none (act [])).lgMode = 2 ∧ (logic 1 none (act [])).lgMode ≠ 2 ∧
    (let s := (logic 1 none (act [(F.LGE_BP_EN 15, 1)])).setLge { LgeS.init with prog := some prog2, cyc := some (0, 0, 0), hold := true, step := true };
      s.lge.cyc.isSome = true ∧ s.lge.paused = false ∧ s.lge.hold = true ∧ s.flag (F.LGE_BP_EN 15) = true ∧ s.mayHold = true) := by decide +kernel
theorem wit_LogicCyclesAndModes_hold : (∀ m ∈ [1, 2], let s := logic m (some (0, 0, 0)) (act []); s.lge.cyc.isSome = true ∧ s.lgMode = m) ∧
    (let s := (logic 2 (some (0, 0, 0)) (act [])).setLge { (logic 2 (some (0, 0, 0)) (act [])).lge with paused := true }; s.lgMode = 2 ∧ s.lge.paused = true) ∧
    ((logic 1 none (act [(F.TOK_CTRL_MODE, 2)])).twinMode = true ∧ (logic 1 none (act [(F.TOK_CTRL_MODE, 2)])).mayHold = false) := by decide +kernel
/-- A halt's reply of 60 octets with a good CRC. -/
def reply (seq : Nat) : Bytes :=
  let b : Bytes := [1, 2, 63, 0] ++ beBytes 2 seq ++ zeros 50
  b ++ beBytes 4 (crc32 b).toNat
theorem wit_HaltRepliesAreChecked : ((up []).advance 5).active = false ∧ ((act [(F.PWR_STATE, 2)]).advance 5).parked = true ∧
    (let a := ((act [(F.HLX_HCFG_VALID 63, 1), (F.HLX_SEQ, 9)]).setHlx { HlxS.init with open_ := some 5 }).advance 5;
      a.active = true ∧ a.parked = false ∧ a.windowOpen = true ∧ a.flag (F.HLX_HCFG_VALID 63) = true ∧ a.get F.HLX_SEQ = 9 ∧ a.hlx.open_ = some 5 ∧ 5 ≤ a.now) ∧
    ((act []).advance 5).windowOpen = false ∧ ((act []).advance 5).hlx.open_ = none ∧ ¬ 60 ≤ ([] : Bytes).length ∧
    60 ≤ (reply 9).length ∧ beAt (reply 9) 0 1 = 1 ∧ beAt (reply 9) 1 1 = 2 ∧ beAt (reply 9) 2 1 = 63 ∧ beAt (reply 9) 4 2 = 9 ∧
    beAt (reply 9) 56 4 = (crc32 ((reply 9).take 56)).toNat := by decide +kernel

/-! ## Witnesses: instances, channels, the vault, redundancy -/

/-- Instance 1 in a state, to go to another after its reset. -/
def instSt (st goal : Nat) : State := ((running (act [])).put (F.INS_ISTAT_STATE 1) st).setInst 1 { InstS.init with goal := goal }
theorem wit_InstancesStartAndReset : (∀ st ∈ [1, 2, 3, 4, 5], (instSt st 1).instState 1 = st ∧ ((instSt st 1).advance 5).instState 1 = st) ∧
    ((instSt 1 1).placeAgain 1).2 = true ∧ (((act []).put (F.INS_ISTAT_STATE 1) 1).placeAgain 1).2 = false ∧ (instSt 3 1).drained 1 = true ∧
    ((instSt 3 1).inst 1).goal ≠ 2 ∧ ((instSt 3 2).inst 1).goal = 2 ∧ (((instSt 3 2).renewInst 1).placeAgain 1).2 = true ∧
    (((instSt 3 1).put (F.INS_QOWN_OWNER 31) 1).setChan 31 { ChanS.init with draining := true }).drained 1 = false := by decide +kernel
theorem wit_InstancesStartAndReset_place : (∀ x ∈ [false, true], let s := ((instSt 4 1).put (F.PFM_PCTRL_ROLE 3) 2).setInst 1 { InstS.init with stranded := x }
      s.decl 1 = some inst1 ∧ s.roleOf (s.placeOf 1) ≠ 0 ∧ (s.inst 1).stranded = x) ∧ (instSt 4 1).roleOf ((instSt 4 1).placeOf 1) = 0 ∧
    (let s := (List.range 24).foldl (fun s p => s.put (F.PFM_PCTRL_ROLE p) 2) (instSt 4 1);
      s.findPlace (s.places.filter (fun p => p.inst != 1)) inst1 (s.shareNow inst1).1 = none) ∧
    (let s := (List.range 24).foldl (fun s p => s.put (F.PFM_PCTRL_ROLE p) 2) (instSt 3 2); s.drained 1 = true ∧ ((s.renewInst 1).placeAgain 1).2 = false) ∧
    (act []).decl 1 = none := by decide +kernel
theorem wit_InstancesStartAndReset_sound : (instSt 1 1).Sound := ⟨by decide, by decide, by decide⟩
/-- Queue 31 with an owner in a state. -/
def qSt (o st cs : Nat) : State := act [(F.INS_QOWN_OWNER 31, o), (F.INS_ISTAT_STATE 1, st), (F.DMX_CHSTAT_STATE 31, cs), (F.INS_QUOTA_QUEUES 2, 1)]
theorem wit_QuotasHeapsAndQueues : (act []).quotaOk 63 1 0 = true ∧ (act []).quotaOk 63 2 0 = true ∧ (act []).quotaOk 63 3 0 = true ∧
    (act []).quotaOk 63 2 33 = false ∧ 1 ≤ (F.INS_QUOTA2_MBDEPTH 63).part 1 ∧ (F.INS_QUOTA2_MBDEPTH 63).part 16 ≤ 16 ∧ (F.INS_QUOTA2_MBDEPTH 63).part 0 = 0 ∧
    16 < (F.INS_QUOTA2_MBDEPTH 63).part 17 ∧ (act []).get (F.INS_HEAP_SIZE 1) < 1 ∧ (act []).get (F.INS_QUOTA_DRAM 1) < (act []).dramUse 1 1 ∧
    0 ≤ (act []).get (F.INS_HEAP_SIZE 1) ∧ (∃ c ∈ (qSt 1 2 1).queuesOf 1, (qSt 1 2 1).chState c = 1) ∧
    (∀ c ∈ (qSt 1 2 0).queuesOf 1, (qSt 1 2 0).chState c ≠ 1) ∧ (qSt 0 0 0).qOwner 31 = 0 ∧ (qSt 0 0 0).chState 31 = 0 ∧
    ((qSt 0 0 0).queuesOf 2).length < (qSt 0 0 0).get (F.INS_QUOTA_QUEUES 2) ∧ (qSt 1 1 0).instState ((qSt 1 1 0).qOwner 31) = 1 ∧
    (qSt 1 1 1).chState 31 ≠ 0 ∧ (qSt 1 2 0).qOwner 31 ≠ 0 ∧ (qSt 1 2 0).instState ((qSt 1 2 0).qOwner 31) ≠ 1 := by decide +kernel
/-- A message to instance 1 in a state, with `n` messages waiting. -/
def mbSt (st n : Nat) : State :=
  (act [(F.INS_ISTAT_STATE 1, st), (F.INS_QUOTA2_MBDEPTH 1, 2)]).setInst 1 { InstS.init with inbox := List.replicate n { op := 1, data := [] }, outbox := List.replicate n { op := 1, data := [] } }
/-- A header for instance 1. -/
def hd1 : Hdr := { hd with tgt := 1 }
theorem wit_MailboxesKeepOrder : (mbSt 2 1).inTurn 7 hd1 = true ∧ hd1.src = 0 ∧ ((mbSt 2 1).took 7 hd1).mbClosed 1 = false ∧
    (((mbSt 2 1).took 7 hd1).inst 1).inbox.length < ((mbSt 2 1).took 7 hd1).get (F.INS_QUOTA2_MBDEPTH 1) ∧
    ((mbSt 2 2).took 7 hd1).get (F.INS_QUOTA2_MBDEPTH 1) ≤ (((mbSt 2 2).took 7 hd1).inst 1).inbox.length ∧ hdI.src ≠ 0 ∧
    (∀ st ∈ [0, 3, 4], ((mbSt st 1).took 7 hd1).mbClosed 1 = true) ∧ ((act []).pf 23).cur = none ∧ ((phq [] none).pf 23).cur = some run1 ∧
    (((phq [] none).advance 5).pf 23).cur = some run1 ∧ run1.l.inst = 1 ∧ (((act []).advance 5).pf 23).cur = none ∧ (0xFE < 0xFF ∧ 64 < 65) ∧
    (∀ n ∈ [1, 2], let a := (((mbSt 2 n).setPf 23 { PfS.init with cur := some run1 }).advance 5).each (List.range 16) (fun s k => s.put (F.LCL_MB_OUT 23 k) (leAt [] (4 * k) 4))
      (decide ((a.inst 1).outbox.length < a.get (F.INS_QUOTA2_MBDEPTH 1))) = (n == 1)) := by decide +kernel
/-- Semaphore 65 with a holder. -/
def semSt (h q : Nat) : State := act [(F.INS_SEM_HOLDER 65, h), (F.INS_QUOTA_SEMS 1, q)]
theorem wit_SemaphoresAreHeldByOne : 0xFE < 0xFF ∧ (semSt 1 1).get (F.INS_SEM_HOLDER 65) = 1 ∧ (semSt 2 1).get (F.INS_SEM_HOLDER 65) ≠ 1 ∧
    (semSt 2 1).get (F.INS_SEM_HOLDER 65) ≠ 0xFF ∧ (semSt 0xFF 1).get (F.INS_SEM_HOLDER 65) = 0xFF ∧
    (semSt 0xFF 0).get (F.INS_QUOTA_SEMS 1) ≤ ((semSt 0xFF 0).semsOf 1).length ∧ ((semSt 0xFF 1).semsOf 1).length < (semSt 0xFF 1).get (F.INS_QUOTA_SEMS 1) ∧
    (1 ≤ 1 ∧ 63 ≤ 63 ∧ 63 < 64) ∧ (semSt 0 0).get (F.INS_SEM_HOLDER 65) = 0 ∧
    (∀ q < 24, (((((semSt 0xFF 1).setPf 23 { PfS.init with cur := some run1 }).semTry 1 65).1).pf q).cur = if q = 23 then some run1 else none) := by decide +kernel
/-- Channel 31 owned by instance 1 in a state, with pushes waiting. -/
def chSt (cs n : Nat) (l : List (Fld × Nat)) : State :=
  (act ((F.INS_QOWN_OWNER 31, 1) :: (F.DMX_CHSTAT_STATE 31, cs) :: l)).setChan 31 { ChanS.init with subs := List.replicate n 5 }
theorem wit_ChannelsTakeUpWork : (act []).chState 31 = 0 ∧ (act []).qOwner 31 = 0 ∧ (chSt 1 0 []).chState 31 ≠ 0 ∧ (chSt 0 0 []).chState 31 = 0 ∧
    (chSt 0 0 []).qOwner 31 ≠ 0 ∧ (chSt 1 16 []).flag (F.DMX_QSTAT_FENCED 31) = false ∧ 16 ≤ ((chSt 1 16 []).chan 31).subs.length ∧
    (chSt 0 0 [(F.DMX_QSTAT_FENCED 31, 1)]).flag (F.DMX_QSTAT_FENCED 31) = true ∧ ((chSt 0 15 []).chan 31).subs.length < 16 ∧
    (∀ st ∈ [0, 1], let s := chSt st 15 []; (((s.noteAt 31 (32 * 5)).setChan 31 { s.chan 31 with subs := (s.chan 31).subs ++ [5] }).put
      (F.DMX_QSTAT_DEPTH 31) 16).chState 31 = st) ∧
    (chSt 0 0 [(F.DMX_CHSTAT_CHIDLE 31, 1)]).flag (F.DMX_CHSTAT_CHIDLE 31) = true ∧ bit ((chSt 0 0 []).linkWord 31) 0 = false ∧
    (chSt 0 0 []).flag (F.DMX_CHSTAT_CHIDLE 31) = false ∧ (chSt 2 0 [(F.DMX_CHSTAT_ERR 31, 1)]).flag (F.DMX_CHSTAT_ERR 31) = true ∧
    (chSt 2 0 []).flag (F.DMX_CHSTAT_ERR 31) = false ∧ (chSt 2 0 []).chState 31 = 2 ∧ ((chSt 2 0 []).regDesc 31).op ≠ 1 ∧ (chSt 3 0 []).chState 31 ≠ 1 ∧
    (chSt 3 0 []).chState 31 ≠ 2 ∧ (chSt 1 0 []).chState 31 = 1 ∧ ((chSt 1 0 []).regDesc 31).op = 0 := by decide +kernel
theorem wit_ChannelsTakeUpWork_move : (let s := chSt 1 0 [(F.DMX_CHSRC_LO 31, dramBase % 2 ^ 32), (F.DMX_CHSRC_HI 31, dramBase / 2 ^ 32),
      (F.DMX_CHDST_LO 31, (dramBase + 64) % 2 ^ 32), (F.DMX_CHDST_HI 31, dramBase / 2 ^ 32), (F.DMX_CHCNT_CNT 31, 16), (F.INS_HEAP_SIZE 1, 1)]
    s.chState 31 = 1 ∧ (s.regDesc 31).op = 0 ∧ s.descOk 31 (s.regDesc 31) = true) := by decide +kernel
/-- A channel at work on a descriptor of operation `op` with 64 bytes from and to the heap, and a frame of `n` octets for it. -/
def opSt (op : Nat) (n : Nat) : State :=
  let s := chSt 1 0 [(F.DMX_CHSRC_LO 31, dramBase % 2 ^ 32), (F.DMX_CHSRC_HI 31, dramBase / 2 ^ 32), (F.DMX_CHDST_LO 31, if op = 1 then 3 else (dramBase + 64) % 2 ^ 32),
    (F.DMX_CHDST_HI 31, if op = 1 then 0 else dramBase / 2 ^ 32), (F.DMX_CHCNT_CNT 31, 64 + 2 ^ 24 * op), (F.INS_HEAP_SIZE 1, 1)]
  if n = 0 then s else s.setChan 31 { s.chan 31 with rx := some (zeros n, 3, 7) }
theorem wit_ChannelsTakeUpWork_ops : (∀ op ∈ [0, 1, 2], let s := opSt op 0; s.chState 31 = 1 ∧ (s.regDesc 31).op = op ∧ s.descOk 31 (s.regDesc 31) = true) ∧
    ((opSt 2 65).chan 31).rx = some (zeros 65, 3, 7) ∧ ((opSt 2 0).chan 31).rx = none ∧ (opSt 1 0).flag (F.DMX_CHSTAT_ERR 31) = false ∧
    (opSt 1 0).txWaits 31 3 = false ∧ ((opSt 1 0).regDesc 31).dst % 32 = 3 ∧
    ((opSt 1 0).setPort 3 { PortS.init with txq := [{ txf 0 0 with chan := some 31 }] }).txWaits 31 3 = true ∧
    (chSt 1 0 []).descOk 31 ((chSt 1 0 []).regDesc 31) = false ∧ ((chSt 1 0 []).chan 31).moved = 0 ∧
    bit ((chSt 0 0 [(F.DMX_CHLINK_LO 31, 1)]).linkWord 31) 0 = true ∧
    ((chSt 2 0 [(F.DMX_CHCNT_CNT 31, 2 ^ 24)]).regDesc 31).op = 1 ∧ (chSt 2 0 [(F.DMX_CHCNT_CNT 31, 2 ^ 24)]).flag (F.DMX_CHSTAT_ERR 31) = false := by decide +kernel
theorem wit_GrantsGoToTheBestRequester : ((act []).grant 2 [0, 3, 8]).2 = some 0 ∧ ((act []).grant 2 [8]).2 = some 8 ∧ ((act []).grant 2 [5]).2 ≠ some 8 ∧
    ((Sp.get ArbS.init (act []).ins.arbs 2).grants + 1) % (act []).get F.MEM_ARB_NFREE ≠ 0 ∧ (act []).masked 2 3 = false ∧
    (act [(F.PWR_STATE, 2)]).masked 2 3 = true ∧ ((act [(F.PWR_STATE, 2)]).grant 2 [3, 5]).2 = some 5 ∧ 3 ∈ [0, 3, 8] ∧ 3 < 9 ∧ (0 < 2 ∧ 1 < 2) ∧
    (Sp.get ArbS.init ((act []).setIns { InsS.init with arbs := [(1, { ArbS.init with owner := some 4 })] }).ins.arbs 1).owner.isSome = true ∧
    ((act []).grant 1 []).2 = none := by decide +kernel
/-- A vault that serves, with a key in slot 255. -/
def vst (l : List (Fld × Nat)) (v : VltS) : State := (act ((F.VLT_STATUS_ROOT, 1) :: l)).setVlt v
theorem wit_VaultRequestsAreAnswered : (vst [] VltS.init).inTurn 0xD hd = true ∧ (vst [] VltS.init).inTurn 0xD hdI = true ∧ hdI.src ≠ 0 ∧ hd.src = 0 ∧
    ((vst [(F.VLT_STATUS_TESTING, 1)] VltS.init).took 0xD hd).flag F.VLT_STATUS_TESTING = true ∧
    ((vst [] VltS.init).took 0xD hd).flag F.VLT_STATUS_TESTING = false ∧ ((vst [(F.VLT_STATUS_FAIL, 1)] VltS.init).took 0xD hd).flag F.VLT_STATUS_FAIL = true ∧
    ((act []).took 0xD hd).flag F.VLT_STATUS_ROOT = false ∧ ((vst [] VltS.init).took 0xD hd).flag F.VLT_STATUS_FAIL = false ∧
    ((vst [] VltS.init).took 0xD hd).flag F.VLT_STATUS_ROOT = true := by decide +kernel
/-- A key. -/
def key1 (use alg : Nat) (att : Bool) : Key := { key := zeros 32, alg := alg, use := use, att := att, kcv := [1, 2, 3] }
/-- Slot 255 with a key. -/
def kst (k : Key) : State := (vst [] { VltS.init with slots := [(255, { KSlot.init with active := some k, cand := some k })] }).took 0xD hd
theorem wit_KeySlotsChangeByCommit : ([1, 2, 3] : Bytes).length = 3 ∧ (zeros 40).length = 40 ∧ 255 < 256 ∧
    keyStatus (((kst (key1 2 0 false)).setCand 7 none).akey 255) useWrap false [0] = 0 ∧ keyStatus (((kst (key1 1 0 false)).setCand 7 none).akey 255) useWrap false [0] ≠ 0 ∧
    attrStatus 3 1 = 0 ∧ (zeros 64).length ≤ 64 ∧ 1 ≤ ([5] : Bytes).length ∧ (zeros 128).length ≤ 128 ∧
    keyStatus (((kst (key1 3 1 false)).setCand 7 none).akey 255) useDerive false [0, 1] = 0 ∧ (255 : Nat) ≠ 7 ∧ ((kst (key1 3 1 false)).kslot 7).cand = none ∧
    ((kst (key1 3 1 false)).kslot 255).cand = some (key1 3 1 false) ∧ (kst (key1 3 1 false)).imageKey 255 = false ∧
    (let i : Bytes := zeros 4096; (List.range 256).all (fun k => !(imgEnc i && imgKeyslot i == k)) = true) ∧
    (kst (key1 2 0 false)).lastWrap 255 = true ∧ (kst (key1 3 0 false)).lastWrap 255 = false := by decide +kernel
theorem wit_KeySlotsChangeByCommit_image : (∃ i : Bytes, i.length = 256 ∧ imgEnc i = true ∧ imgKeyslot i = 255) ∧
    (kst (key1 3 0 false)).templateKey 255 = false := ⟨⟨List.replicate 256 255, by decide +kernel⟩, by decide +kernel⟩
theorem wit_KeySlotsChangeByCommit_refused : attrStatus 9 0 ≠ 0 ∧ (zeros 2).length ≠ 3 ∧ (zeros 39).length ≠ 40 ∧ 64 < (zeros 65).length ∧ 128 < (zeros 129).length ∧
    keyStatus (((kst (key1 2 1 false)).setCand 7 none).akey 255) useDerive false [0, 1] ≠ 0 ∧
    keyStatus (((kst (key1 3 1 false)).setCand 255 none).akey 255) useDerive false [0, 1] = 0 ∧
    (let s := (kst (key1 3 0 false)).setRbk { RbkS.init with slotA := { RbkS.init.slotA with valid := true, image := List.replicate 256 255 } };
      s.imageKey 255 = true ∧ (s.kslot 255).cand = some (key1 3 0 false)) := by decide +kernel
theorem wit_KeysServeTheirUse_refused : (∀ e ∈ [(useEncrypt, [0, 1], false), (useDecrypt, [0, 1], false), (useEncrypt, [0], false), (useDecrypt, [0], false), (useEncrypt, [1], true)],
      keyStatus ((kst (key1 2 0 false)).akey 255) e.1 e.2.2 e.2.1 ≠ 0) ∧ (0 < 2 ∧ 9 < 10) ∧ ([7] : List Nat) ≠ [] ∧ (zeros 64 ≠ []) := by decide +kernel
theorem wit_KeysServeTheirUse : (kst (key1 0 1 false)).akey 255 = some (key1 0 1 false) ∧ (key1 0 1 false).use = useEncrypt ∧ (key1 0 1 false).att = false ∧
    (key1 0 1 false).alg ≤ 1 ∧ 1 ≤ ([5] : Bytes).length ∧ (zeros 1984).length ≤ 1984 ∧ (kst (key1 0 1 false)).akey 254 = none ∧
    (key1 1 0 false).use = useDecrypt ∧ (zeros 16).length = (if (key1 1 0 false).alg = 1 then 32 else 16) ∧
    (zeros 32).length = (if (key1 1 1 false).alg = 1 then 32 else 16) ∧ (zeros 1900).length + ([] : Bytes).length ≤ 1900 ∧ (zeros 2014).length ≤ 2014 ∧
    (key1 0 1 true).att = true ∧ (zeros 16).length = 16 ∧ 15 < 16 ∧ (zeros 64).length = 64 ∧ (zeros 12).length = 12 ∧ (kst (key1 0 1 false)).anchor 15 = none ∧
    (((kst (key1 0 1 false)).setVlt { VltS.init with anchors := [(15, zeros 64)] }).anchor 15) = some (zeros 64) ∧ (kst (key1 0 1 false)).vlt.testing = none ∧
    ((kst (key1 0 1 false)).setVlt { VltS.init with testing := some 7 }).vlt.testing = some 7 ∧ (2 ≤ 2 ∧ 9 ≤ 9) := by decide +kernel
/-- A redundant set: mode, position held, and what the module knows. -/
def redSt (mode held : Nat) (l : List (Fld × Nat)) (k : TokS) : State :=
  (act ((F.TOK_CTRL_MODE, mode) :: (F.TOK_STATUS_HELD, held) :: (F.TOK_STATUS_HEARD, 1) :: (F.TOK_CTRL_LEASE, 20) :: l)).setTok k
theorem wit_TokensAreTakenAndLost : ((redSt 1 1 [] TokS.init).advance 5000000).redundant = true ∧
    (let a := (redSt 1 1 [] TokS.init).advance 5000000; a.tok.renewAt + a.leaseNs / 4 ≤ a.now) ∧
    (let a := (redSt 1 1 [] TokS.init).advance 4999999; a.now < a.tok.renewAt + a.leaseNs / 4) ∧ ((act []).advance 5).redundant = false ∧
    (∀ e ∈ [5, 6], let a := (redSt 1 1 [] { TokS.init with lease := some e }).advance 5; a.heldPos = some 0 ∧ a.tok.lease = some e ∧ a.now = 5) ∧
    ((redSt 2 2 [] TokS.init).advance 5).heldPos = some 1 ∧ ((redSt 1 0 [] TokS.init).advance 5).heldPos = none ∧
    (let a := (redSt 1 0 [] { TokS.init with posA := { PosS.init with heardAt := some 0 } }).advance 1000000000;
      a.mayTake 0 = true ∧ (a.pos 0).heardAt = some 0 ∧ a.posOk 0 = true ∧ a.recentRenewal 0 = false) ∧ ((act []).advance 5).mayTake 0 = false ∧
    (0x5A3B : Nat) ≠ 0x5A3C ∧ ((redSt 1 0 [] TokS.init).advance 5).posOk 1 = false ∧
    ((redSt 1 0 [] { TokS.init with posA := { PosS.init with heardAt := some 0 } }).advance 5).recentRenewal 0 = true := by decide +kernel
theorem wit_PairLinkFramesAndPeers : ((act []).advance 5).redundant = false ∧ ({ plh with crcOk := false } : PlHdr).crcOk = false ∧ ({ plh with ver := 2 } : PlHdr).ver ≠ 1 ∧
    ((redSt 2 1 [] TokS.init).advance 5).redundant = true ∧ plh.crcOk = true ∧ plh.ver = 1 ∧
    (let s := redSt 1 1 [] { TokS.init with lease := some 9, posA := { PosS.init with sent := [(4, 0)] } };
      s.tok.lease = some 9 ∧ s.now < 9 ∧ (s.pos 0).sent.find? (fun y => y.1 == 4) = some (4, 0) ∧ s.now ≤ 0 + 2 * s.linklatNs) ∧
    (let s := (redSt 1 1 [(F.TOK_CTRL_LINKLAT, 0)] { TokS.init with lease := some 9, posA := { PosS.init with sent := [(4, 0)] } }).advance 5;
      s.now < 9 ∧ 0 + 2 * s.linklatNs < s.now) ∧
    (let a := (redSt 1 1 [(F.TOK_STATUS_LINKS, 2)] TokS.init).advance 5; a.redundant = true ∧ bit (a.get F.TOK_STATUS_LINKS) 1 = true ∧
      a.flag (F.PRT_STATUS_LINK 17) = false ∧ (a.port 17).heard = none) ∧
    (let a := ((redSt 1 1 [(F.TOK_STATUS_LINKS, 2), (F.PRT_STATUS_LINK 17, 1)] TokS.init).setPort 17 { PortS.init with heard := some 0 }).advance 5;
      a.flag (F.PRT_STATUS_LINK 17) = true ∧ (a.port 17).heard = some 0 ∧ ¬ a.leaseNs / 2 ≤ a.now - 0) ∧
    (let a := (redSt 2 1 [(F.TOK_STATUS_PEERS, 2)] TokS.init).advance 1000000000; a.redundant = true ∧ a.twinMode = true ∧
      bit (a.get F.TOK_STATUS_PEERS) 1 = true ∧ Sp.get 0 a.tok.peerAt 1 + a.takeNs ≤ a.now + 1) ∧
    (let a := (redSt 1 1 [(F.TOK_STATUS_PEERS, 2)] TokS.init).advance 1000000000; a.redundant = true ∧ a.twinMode = false ∧
      bit (a.get F.TOK_STATUS_PEERS) 1 = true ∧ Sp.get 0 a.tok.peerAt 1 + a.takeNs ≤ a.now + 1) ∧
    (∀ t ∈ [19999999, 20000000], let a := (redSt 1 1 [] { TokS.init with streamAt := some 0, mirrorAt := some 0 }).advance t;
      a.tok.streamAt = some 0 ∧ a.tok.mirrorAt = some 0 ∧ a.now = t) ∧
    (let a := (redSt 2 1 [(F.TOK_STATUS_PEERS, 2)] TokS.init).advance 5; a.now + 1 < Sp.get 0 a.tok.peerAt 1 + a.takeNs) ∧
    ((redSt 1 1 [] TokS.init).advance 5).heldPos.isSome = true ∧ ((redSt 1 0 [] TokS.init).advance 5).heldPos = none ∧
    (let s := (redSt 1 0 [] { TokS.init with mirror := [5] }).setLge { LgeS.init with prog := some prog2 }; s.lge.prog = some prog2 ∧ s.standby = true ∧
      s.tok.mirror ≠ [] ∧ s.mirrorRetain.isSome = true ∧ s.tok.mirrorAt = none ∧ s.tok.streamAt = none) ∧ (act []).standby = false ∧ (act []).lge.prog = none := by decide +kernel
/-- A calibration page that passes its checks: unit gains, zero latencies, serial number 0. -/
def goodPage : Bytes :=
  let b := leBytes 4 0x5A474350 ++ leBytes 2 1 ++ leBytes 2 1024 ++ zeros 56 ++
    (List.replicate 16 (zeros 4 ++ leBytes 4 (2 ^ 30) ++ zeros 12)).flatten ++ zeros 636
  b ++ leBytes 4 (crc32 b).toNat
set_option maxRecDepth 100000 in
theorem wit_FrontEndAndCalibration_page : ((act []).took 0xE hd).pageStatus hd goodPage = 0 ∧ ((act [(F.PWR_STAGE, 8)]).took 0xE hd).get F.PWR_STAGE ≠ 7 := by
  decide +kernel
/-- A slot at an offset, with a maintenance window or a conversion. -/
def slotV1 (a o : Nat) : SlotV := { offset := o, valid := true, action := a, rept := 0, stride := 0, target := if a = 2 then 1 else 0, param := if a = 2 then 0 else 100 }
theorem wit_CyclesAndBanks_check : checkBank 1000000 [slotV1 2 0, slotV1 0xA 1000] = none ∧ checkBank 1000000 [slotV1 0xA 0, slotV1 2 125000] = some 1 := by
  decide +kernel

/-! ## The manual's worked examples -/

/-- R290, worked example, E = 2. -/
theorem test_codec : codeStream 2 [1000, 1012, 1019, 1031] = [0xFF, 0xFF, 0xFF, 0, 0, 3, 0xE8, 0x80, 0] := by decide +kernel
/-- R128, worked example, ref = 1,000 s. -/
theorem test_stamp : extendStamp 0xC2C36D00 1000000000000 = 999700000000 ∧ extendStamp 0x04541800 1000000000000 = 1000800000000 ∧
    extendStamp 0x21D4B200 1000000000000 = 1001294967296 := by decide
/-- The worked timetable of R143 and the launch k = 10 of the example of R272. -/
theorem test_train : (let v := { slotV1 1 438 with rept := 15, stride := 2000000 }; depTime v 0 = 3504 ∧ depTime v 1 = 66000 ∧ depTime v 2 = 128504 ∧ depTime v 15 = 941000) ∧
    depTime { slotV1 1 188 with rept := 95, stride := 1666667 } 10 = 522336 := by decide
/-- The worked example of R195: GD = 46, 16 taps, RATE = 4,800, RATIO = 1. -/
theorem test_delay : (let s := act [(F.SVI_SUB_RATE 0, 4800), (F.FCH_LCIC_RATIO 0, 1)]; s.gdelayOf 0 { gd := 46, h := List.replicate 16 0 } = 37434 ∧
    s.settleOf 0 { gd := 46, h := List.replicate 16 0 } = 20) := by decide +kernel
/-- With a measurement and a contention level. -/
def shareSt (cl : Nat) (m : Meas) : State :=
  let s := withSlot 1 0 21 (act [(F.TTB_CYCLE, 5000), (F.MAR_CL_NOW, cl), (F.MAR_IGUARD_GUARD 21, 16), (F.MAR_IBOUND_SHMAX 21, 64)])
  let s := s.put (F.TTB_SLOT_REPEAT 0 5) 0
  (s.setMar { MarS.init with meas := [(measKey 21 0, m)] }).setRbk { RbkS.init with active := some { decl0 with insts := [inst21] } }
/-- The shares of the worked example: 43 at activation; 18, 28 and 23 once measured. -/
theorem test_share : ((shareSt 0 Meas.init).shareOf inst21).1 = 43 ∧
    ((shareSt 225 { Meas.init with runs := 9, maxc := 400000, histep := 4, himax := 400000 }).shareOf inst21).1 = 18 ∧
    ((shareSt 475 { Meas.init with runs := 9, maxc := 400000, histep := 4, himax := 400000 }).shareOf inst21).1 = 28 ∧
    ((shareSt 600 { Meas.init with runs := 9, maxc := 520000, histep := 10, himax := 520000 }).shareOf inst21).1 = 23 := by decide +kernel
/-- CRC-32 of IEEE 802.3 and CRC-64 of ECMA-182 over the digits 1 to 9: the check values of those standards. -/
theorem test_crc : crc32 [0x31, 0x32, 0x33, 0x34, 0x35, 0x36, 0x37, 0x38, 0x39] = 0xCBF43926 ∧
    crc64 [0x31, 0x32, 0x33, 0x34, 0x35, 0x36, 0x37, 0x38, 0x39] = 0x6C40DF5F0B497347 := by decide +kernel

/-! ## Single commands -/

/-- R11, R20: a write in the writer's island takes effect at once, in the field's bits alone. -/
theorem test_registerWrite : (after (.registerWrite .aon 0x01000010 0xFFFFFF2A) (up [])).get F.PWR_WDT_MGR = 0x2A := by decide
/-- R22: the eighth entry fits, the ninth waits. -/
theorem test_junction : ((after (.registerWrite .media 0x01000010 7) fifoFull).junc .media .aon).fifo.length = 8 ∧
    ((after (.registerWrite .media 0x01000010 7) fifoFull).junc .media .aon).stalled.length = 1 := by decide
/-- R33: a message out of its turn is answered with the SEQ expected and changes nothing else. -/
theorem test_seq : (after (.openLoad { hd with seq := 1 } 9) (up [])).get F.RBK_STATUS_LOADST = 0 ∧
    ((after (.openLoad hd 9) (up [])).crx 5).expect = 1 := by decide
/-- R45: 14.0 V is no fall through 14.0 V. -/
theorem test_powerFail : (after (.powerFailWarning 13999 5) (up [])).host.suspended = true ∧ (after (.powerFailWarning 14000 5) (up [])).host.suspended = false ∧
    (after (.powerFailWarning 14000 5) (up [])).get F.PWR_STATE_HOLDUP = 0 := by decide +kernel
/-- R57, R62: PWR_CMD needs its key. -/
theorem test_park : (after (.park 0x5A3C 5) (up [])).get F.PWR_STATE = 2 ∧ (after (.park 0x5A3D 5) (up [])).get F.PWR_STATE = 0 := by decide +kernel
/-- R95, R96: PAUSE_EN and the quanta; every PAUSE frame counts. -/
theorem test_pause : (after (.pauseFrame 3 0xFFFF 5) (up [(F.PRT_CTRL_PAUSE_EN 3, 1)])).get (F.PRT_PAUSE_QUANTA 3) = 0xFFFF ∧
    (after (.pauseFrame 3 0xFFFF 5) (up [])).get (F.PRT_PAUSERX 3) = 1 := by decide
/-- R102: the second good frame in a row synchronises. -/
theorem test_ft3 : (let s := up [(F.PRT_FTCTRL_RATE 0, 1)]; (after (.ft3Frame 0 true [] 5) s).get (F.PRT_FTSTATUS_SYNC 0) = 0 ∧
    (after (.ft3Frame 0 true [] 6) (after (.ft3Frame 0 true [] 5) s)).get (F.PRT_FTSTATUS_SYNC 0) = 1) := by decide
/-- R103: a closed drive opens no earlier than MINON after it closed. -/
theorem test_minon : (after (.minonExpired 0 999999) (drv [(F.PRT_TRIP_ON 0, 1), (F.PRT_TRIP_MINON 0, 1)] (some 0))).get (F.PRT_TRIP_ON 0) = 1 ∧
    (after (.minonExpired 0 1000000) (drv [(F.PRT_TRIP_ON 0, 1), (F.PRT_TRIP_MINON 0, 1)] (some 0))).get (F.PRT_TRIP_ON 0) = 0 := by decide
/-- R112, R117: with FREQ = +1 ppm a base gains 1 ns in 1 ms. -/
theorem test_rate : (((up [(F.TSU_TB_FREQ 1, 65536)]).setTbs [(1, { TbS.init with running := true })]).advance 1000000).tbNs 1 = 1000001 := by decide
/-- R114: the latched words of 5,000,000,007 ns. -/
theorem test_tbNs : (let s := after (.tbNsRead 2 0) ((up []).setTbs [(2, { TbS.init with acc := 5000000007 * 65536000000 })]);
    s.get (F.TSU_TB_SECLO 2) = 5 ∧ s.get (F.TSU_TB_NS 2) = 7 ∧ s.get (F.TSU_TB_WRAP 2) = 705032711) := by decide
/-- R151: a slot of the active bank is refused. -/
theorem test_slotWrite : (after (.slotWrite 0 3 0 5) (act [])).get F.TTB_CNT_REFUSED = 1 ∧
    (after (.slotWrite 1 3 0 5) (act [])).get (F.TTB_SLOT_OFFSET 1 3) = 5 := by decide
/-- R142, R144: a launch runs once. -/
theorem test_launch : (let s := after (.launchTask 5 2 5) (withSlot 1 0 1 (running (serving 0 []))); (s.pf 3).cur.isSome = true ∧ s.ttb.served = [(5, 2)] ∧
    s.get F.TTB_STATUS_LAST = 5) := by decide +kernel
/-- R163: 2,501 frames in a window are reported, 2,500 are not. -/
theorem test_load : (after (.loadWindow 5) (winSt 2 2501 none)).log.length = 1 ∧ (after (.loadWindow 5) (winSt 2 2500 none)).log.length = 0 ∧
    (after (.loadWindow 5) (winSt 2 2500 none)).get F.SVI_LOAD_LAST = 2500 := by decide
/-- R192, R198: halves go up, saturation, and the magnitude of −2³¹. -/
theorem test_scale : scaleOut 1 3 = (2, false) ∧ scaleOut 1 (-3) = (-1, false) ∧ scaleOut 0 (2 ^ 31) = (2 ^ 31 - 1, true) ∧
    comparator 3 (-2 ^ 31) (2 ^ 31 - 1) = true := by decide
/-- R191: a cubic is met exactly between its nodes: 1.5³ = 27 / 8. -/
theorem test_lagrange : (lagrange [0, 1, 8, 27] 3 2).1 * 8 = 27 * (lagrange [0, 1, 8, 27] 3 2).2 := by decide
/-- R217 -/
theorem test_isqrt : isqrt 99 = 9 ∧ isqrt 100 = 10 ∧ isqrt 0 = 0 := by decide +kernel
/-- R222: an overrun is noted once. -/
theorem test_overrun : (after (.budgetOverrun 23) (withRun (runW 9 false none) [])).get (F.PFM_PCNT0_OVERRUN 23) = 1 ∧
    (after (.budgetOverrun 23) (withRun (runW 9 true none) [])).get (F.PFM_PCNT0_OVERRUN 23) = 0 := by decide
/-- R227 -/
theorem test_lockstep : (after (.lockstepMismatch 23 5) (act [])).roleOf 23 = 2 ∧ (after (.lockstepMismatch 23 5) (act [])).get (F.PFM_PSTAT_STATE 23) = 6 := by
  decide +kernel
/-- R283, R284: a trigger in READY starts POST. -/
theorem test_trigger : (after (.acqTrig 15 5) (recSt 2 none [])).recState 15 = 3 ∧ (after (.acqTrig 15 5) (recSt 0 none [])).recState 15 = 0 := by decide +kernel
/-- R317: STOP without a cycle, and the refusal without a program. -/
theorem test_logic : (after .logicStop (logic 1 none (act []))).lgMode = 0 ∧ (after .logicHold (act [])).get F.LGE_CNT_REFUSED = 1 := by decide
/-- R324: a reply with a broken CRC. -/
theorem test_haltReply : (after (.haltReply 0 (zeros 60) 5) (act [])).get F.HLX_CNT_BADREP = 1 := by decide +kernel
/-- R337, R343: a command that the state does not list; the word of a try by the manager. -/
theorem test_badcmd : (after (.instanceStart 1) (act [(F.INS_ISTAT_STATE 1, 2)])).get F.INS_CNT_BADCMD = 1 := by decide
theorem test_semaphore : (after (.semaphoreTry 0 65) (semSt 0xFF 0)).get (F.INS_SEM_TRY 65) = 1 ∧ (after (.semaphoreTry 0 65) (semSt 9 0)).get (F.INS_SEM_TRY 65) = 0x900 := by
  decide
/-- R348: a push to a queue without an owner. -/
theorem test_push : (after (.queuePush 31 5) (act [])).get (F.DMX_QCNT_REFUSED 31) = 1 := by decide
/-- R378: the vault under test answers 0x0B. -/
theorem test_vault : (((after (.vaultCancel hd 3) (vst [(F.VLT_STATUS_TESTING, 1)] VltS.init)).ctx 0xD).q.map (fun e => e.msg.payload)) = [[0x0B, 0, 0, 0]] := by decide
/-- R387: the lease ends at its instant. -/
theorem test_lease : (after (.leaseExpiry 5) (redSt 1 1 [] { TokS.init with lease := some 5 })).get F.TOK_STATUS_HELD = 0 ∧
    (after (.leaseExpiry 4) (redSt 1 1 [] { TokS.init with lease := some 5 })).get F.TOK_STATUS_HELD = 1 := by decide +kernel
/-- R383: a frame with a bad CRC is not heard. -/
theorem test_renew : ((after (.renewFrame 1 { plh with crcOk := false } 0 3 0 [] 5) (redSt 1 0 [] TokS.init)).pos 0).heardAt = none ∧
    ((after (.renewFrame 1 plh 0 3 0 [] 5) (redSt 1 0 [] TokS.init)).pos 0).heardAt = some 5 := by decide +kernel

end Sys2Proof.Machine
end

/-!
PROOFS. Junctions (R20 to R22): what a junction holds after an update, the rules of the queue behind a full FIFO, and the statement that
a full junction stalls its source and drops nothing.
-/
namespace Sys2Proof.Machine

/-! ## Places of junctions in the table -/

theorem islandNo_lt (i : Island) : islandNo i < 8 := by cases i <;> decide

/-- The serving order of R25 lists the islands by their places; the host, whose junctions are not in that order, comes after them. -/
theorem serveOrder_getD_islandNo : Function.LeftInverse (fun n => serveOrder.getD n .host) islandNo := by
  intro i
  cases i <;> rfl

theorem islandNo_injective : Function.Injective islandNo := serveOrder_getD_islandNo.injective

/-- Each pair of islands has a junction of its own. -/
theorem juncKey_inj {i k src dst : Island} : juncKey i k = juncKey src dst ↔ (i, k) = (src, dst) := by
  have hk := islandNo_lt k
  have hd := islandNo_lt dst
  rw [Prod.mk.injEq, ← islandNo_injective.eq_iff, ← islandNo_injective.eq_iff (a := k)]
  unfold juncKey
  omega

/-! ## Reading a junction after an update -/

theorem State.setJunc_eq_setLink (s : State) (src dst : Island) (j : Junc) :
    s.setJunc src dst j = s.setLink (s.setJunc src dst j).link := rfl

/-- A junction that holds an access is listed in the table, so it reads back with no condition on the table's form. -/
theorem State.junc_setJunc (s : State) (src dst : Island) {j : Junc} (hj : j ≠ Junc.init) (i k : Island) :
    (s.setJunc src dst j).junc i k = if (i, k) = (src, dst) then j else s.junc i k := by
  simp only [State.junc, State.setJunc, State.setLink_link, Sp.put, if_neg hj, Sp.get_insert, juncKey_inj]

theorem State.junc_setJunc_same (s : State) (src dst : Island) {j : Junc} (hj : j ≠ Junc.init) :
    (s.setJunc src dst j).junc src dst = j := by
  rw [State.junc_setJunc s src dst hj, if_pos rfl]

theorem State.junc_setJunc_other (s : State) (src dst : Island) {j : Junc} (hj : j ≠ Junc.init) {i k : Island}
    (h : (i, k) ≠ (src, dst)) : (s.setJunc src dst j).junc i k = s.junc i k := by
  rw [State.junc_setJunc s src dst hj, if_neg h]

/-- A junction with an access in its FIFO or behind it is not the empty one. -/
theorem Junc.ne_init_of_append_ne_nil {j : Junc} (h : j.fifo ++ j.stalled ≠ []) : j ≠ Junc.init := by
  rintro rfl
  exact h rfl

/-! ## Issuing and draining (R20, R22) -/

theorem exec_registerWrite (src : Island) (a v : Word) (s : State) :
    exec (.registerWrite src a v) s = .next (s.issue src a v none) := rfl

theorem exec_junctionFifoDrain (src dst : Island) (s : State) :
    exec (.junctionFifoDrain src dst) s = .next (if (s.junc src dst).fifo.length < 8 then s else s.serveJunction src dst) := rfl

/-- A write to another island's register is posted. -/
theorem exec_registerWrite_other {src dst : Island} {a : Word} (v : Word) (s : State) (ha : islandOf src a.toNat = some dst)
    (hne : dst ≠ src) :
    exec (.registerWrite src a v) s = .next (s.post src dst { addr := a.toNat, val := v, cfg := none }) := by
  simp only [exec_registerWrite, State.issue, ha, if_neg hne]

/-- Behind a full FIFO an access waits as the last of those that wait. -/
theorem State.post_full {s : State} {src dst : Island} (h : (s.junc src dst).fifo.length = 8) (x : Access) :
    s.post src dst x =
      s.setJunc src dst { fifo := (s.junc src dst).fifo, stalled := (s.junc src dst).stalled ++ [x] } := by
  simp [State.post, h]

/-- The head leaves, and the first access that waits, if one does, follows. -/
theorem State.popJunc_cons {s : State} {src dst : Island} {a : Access} {r : List Access} (h : (s.junc src dst).fifo = a :: r) :
    s.popJunc src dst = some (a, s.setJunc src dst
      { fifo := r ++ (s.junc src dst).stalled.take 1, stalled := (s.junc src dst).stalled.drop 1 }) := by
  cases hq : (s.junc src dst).stalled with
  | nil => simp [State.popJunc, h, hq]
  | cons b q => simp [State.popJunc, h, hq]

/-- An entry of a full FIFO drains: its head takes effect on the state in which the next access has followed. -/
theorem exec_junctionFifoDrain_full {s : State} {src dst : Island} {a : Access} {r : List Access}
    (h : (s.junc src dst).fifo.length = 8) (hf : (s.junc src dst).fifo = a :: r) :
    exec (.junctionFifoDrain src dst) s = .next ((s.setJunc src dst
      { fifo := r ++ (s.junc src dst).stalled.take 1, stalled := (s.junc src dst).stalled.drop 1 }).writeEffect src a.addr a.val) := by
  simp [exec_junctionFifoDrain, State.serveJunction, h, State.popJunc_cons hf]

/-! ## A full junction (R22) -/

theorem registerWrite_stalls_of_full {s : State} {src dst : Island} (h : (s.junc src dst).fifo.length = 8) {a : Word} (v : Word)
    (ha : islandOf src a.toNat = some dst) (hne : dst ≠ src) :
    ∃ t, exec (.registerWrite src a v) s = .next t ∧ (t.junc src dst).fifo = (s.junc src dst).fifo ∧
      (t.junc src dst).stalled = (s.junc src dst).stalled ++ [{ addr := a.toNat, val := v, cfg := none }] ∧
      (∀ i j, (i, j) ≠ (src, dst) → t.junc i j = s.junc i j) ∧ t = s.setLink t.link := by
  have hexec := exec_registerWrite_other v s ha hne
  rw [State.post_full h] at hexec
  have hj : Junc.mk (s.junc src dst).fifo ((s.junc src dst).stalled ++ [{ addr := a.toNat, val := v, cfg := none }]) ≠ Junc.init :=
    Junc.ne_init_of_append_ne_nil (by simp)
  have hsame := s.junc_setJunc_same src dst hj
  exact ⟨_, hexec, by rw [hsame], by rw [hsame], fun i j hij => s.junc_setJunc_other src dst hj hij, s.setJunc_eq_setLink src dst _⟩

theorem junctionFifoDrain_refills_of_full {s : State} {src dst : Island} (h : (s.junc src dst).fifo.length = 8) {a : Access}
    {r : List Access} (hf : (s.junc src dst).fifo = a :: r) :
    ∃ u, exec (.junctionFifoDrain src dst) s = .next (u.writeEffect src a.addr a.val) ∧
      (u.junc src dst).fifo ++ (u.junc src dst).stalled = r ++ (s.junc src dst).stalled ∧
      (u.junc src dst).fifo.length = Nat.min 8 (7 + (s.junc src dst).stalled.length) ∧
      (∀ i j, (i, j) ≠ (src, dst) → u.junc i j = s.junc i j) ∧ u = s.setLink u.link := by
  have hr : r.length = 7 := by simpa [hf] using h
  have hj : Junc.mk (r ++ (s.junc src dst).stalled.take 1) ((s.junc src dst).stalled.drop 1) ≠ Junc.init :=
    Junc.ne_init_of_append_ne_nil (List.ne_nil_of_length_pos (by simp [hr]))
  have hsame := s.junc_setJunc_same src dst hj
  refine ⟨_, exec_junctionFifoDrain_full h hf, ?_, ?_, fun i j hij => s.junc_setJunc_other src dst hj hij,
    s.setJunc_eq_setLink src dst _⟩
  · rw [hsame, List.append_assoc, List.take_append_drop]
  · rw [hsame, List.length_append, List.length_take, hr]
    exact (Nat.add_min_add_left 7 1 _).symm

/-- Settles O11: the access joins the end of the queue behind the FIFO, and the drain moves the front of that queue into the FIFO. -/
theorem fullJunctionStallsAndDropsNothing : Obligations.FullJunctionStallsAndDropsNothing := by
  unfold Obligations.FullJunctionStallsAndDropsNothing
  intro s src dst h
  exact ⟨fun a v ha hne => registerWrite_stalls_of_full h v ha hne, fun a r hf => junctionFifoDrain_refills_of_full h hf⟩

end Sys2Proof.Machine

/-!
PROOFS. Semaphores (R342 to R344): the bits of the word that a try returns, what a try does in each case of the holder, on which
platform its word shows, and what a release does.
-/
namespace Sys2Proof.Machine

/-! ## The word of a try (R343) -/

theorem ofBool_le_one (b : Bool) : ofBool b ≤ 1 := by cases b <;> decide

theorem ofBool_beq_one (b : Bool) : (ofBool b == 1) = b := by cases b <;> rfl

/-- A bit of a number is a truth value as soon as the digit there is the one that stores it. -/
theorem bit_eq_of_digit {w i : Nat} {b : Bool} (h : w / 2 ^ i % 2 = ofBool b) : bit w i = b := by
  rw [bit, h, ofBool_beq_one]

theorem tryWord_bits (got br qu : Bool) (h : Nat) :
    bit (tryWord got br qu h) 0 = got ∧ bit (tryWord got br qu h) 1 = br ∧ bit (tryWord got br qu h) 2 = qu ∧
      tryWord got br qu h / 256 = h ∧ (h < 256 → tryWord got br qu h < 65536) := by
  have hgot := ofBool_le_one got
  have hbr := ofBool_le_one br
  have hqu := ofBool_le_one qu
  refine ⟨bit_eq_of_digit ?_, bit_eq_of_digit ?_, bit_eq_of_digit ?_, ?_, ?_⟩ <;> unfold tryWord <;> omega

/-! ## Trying: a case for each holder (R343, R344) -/

/-- The holder's own try leaves everything as it is. -/
theorem State.semTry_of_holds {s : State} {who n : Nat} (h : s.get (F.INS_SEM_HOLDER n) = who) :
    s.semTry who n = (s, tryWord true (s.flag (F.INS_SEM_BROKEN n)) false who) := by
  simp [State.semTry, h]

theorem State.semTry_of_held {s : State} {who n : Nat} (h : s.get (F.INS_SEM_HOLDER n) ≠ who) (hf : s.get (F.INS_SEM_HOLDER n) ≠ 0xFF) :
    s.semTry who n = (s, tryWord false (s.flag (F.INS_SEM_BROKEN n)) false (s.get (F.INS_SEM_HOLDER n))) := by
  simp [State.semTry, h, hf]

/-- An instance at its quota does not get a free semaphore. -/
theorem State.semTry_of_quota {s : State} {who n : Nat} (hf : s.get (F.INS_SEM_HOLDER n) = 0xFF) (h1 : 1 ≤ who) (h63 : who ≤ 63)
    (hq : s.get (F.INS_QUOTA_SEMS who) ≤ (s.semsOf who).length) :
    s.semTry who n = (s, tryWord false (s.flag (F.INS_SEM_BROKEN n)) true 0xFF) := by
  have hne : 0xFF ≠ who := by omega
  simp [State.semTry, hf, hne, h1, h63, hq]

/-- Whom no quota stops gets a free semaphore, and the use of an instance shows. -/
theorem State.semTry_of_free {s : State} {who n : Nat} (hw : who < 0xFF) (hf : s.get (F.INS_SEM_HOLDER n) = 0xFF)
    (hq : ¬ (1 ≤ who ∧ who ≤ 63 ∧ s.get (F.INS_QUOTA_SEMS who) ≤ (s.semsOf who).length)) :
    s.semTry who n = (if 1 ≤ who ∧ who ≤ 63 then (s.put (F.INS_SEM_HOLDER n) who).showUse who else s.put (F.INS_SEM_HOLDER n) who,
      tryWord true (s.flag (F.INS_SEM_BROKEN n)) false who) := by
  have hne : 0xFF ≠ who := by omega
  simp only [State.semTry, hf, hne, if_false, if_neg hq, ne_eq, not_true_eq_false]

/-! ## Where the word of a try shows -/

@[simp] theorem State.pf_put (s : State) (f : Fld) (v p : Nat) : (s.put f v).pf p = s.pf p := rfl

/-- A walk over the first `m` numbers, of which at most one, `p`, changes the state. -/
theorem State.each_range_of_single {f : State → Nat → State} {s : State} {p m : Nat}
    (hs : ∀ q < m, q ≠ p → f s q = s) (hp : ∀ q < m, q ≠ p → f (f s p) q = f s p) :
    s.each (List.range m) f = if p < m then f s p else s := by
  induction m with
  | zero => rfl
  | succ m ih =>
    have hm := ih (fun q hq => hs q (by omega)) (fun q hq => hp q (by omega))
    have hstep : s.each (List.range (m + 1)) f = f (s.each (List.range m) f) m := by
      simp [State.each, List.range_succ]
    rw [hstep, hm]
    rcases Nat.lt_trichotomy p m with hlt | rfl | hgt
    · rw [if_pos hlt, if_pos (by omega), hp m (by omega) (by omega)]
    · rw [if_neg (by omega), if_pos (by omega)]
    · rw [if_neg (by omega), if_neg (by omega), hs m (by omega) (by omega)]

/-- The word `w` of a try shows on platform `p` when an instance's task runs there. -/
def State.showTry (who n w : Nat) (s : State) (p : Nat) : State :=
  match (s.pf p).cur with
  | none => s
  | some x => if x.l.inst = who then s.put (F.LCL_SEM_TRY p n) w else s

theorem State.showTry_of_idle {s : State} {p : Nat} (who n w : Nat) (h : (s.pf p).cur = none) : s.showTry who n w p = s := by
  simp only [State.showTry, h]

theorem State.showTry_of_runs {s : State} {p : Nat} {r : Running} {who : Nat} (n w : Nat) (h : (s.pf p).cur = some r) (hr : r.l.inst = who) :
    s.showTry who n w p = s.put (F.LCL_SEM_TRY p n) w := by
  simp only [State.showTry, h, hr, if_true]

theorem exec_semaphoreTry (who n : Nat) (s : State) :
    exec (.semaphoreTry who n) s = .next (if who = 0 then (s.semTry who n).1.put (F.INS_SEM_TRY n) (s.semTry who n).2
      else (s.semTry who n).1.each (List.range 24) (State.showTry who n (s.semTry who n).2)) := rfl

/-- With one task running, the word shows on its platform alone. -/
theorem State.each_showTry_of_single {t : State} {who n w p : Nat} {r : Running} (hp : p < 24)
    (hcur : ∀ q < 24, (t.pf q).cur = if q = p then some r else none) (hr : r.l.inst = who) :
    t.each (List.range 24) (State.showTry who n w) = t.put (F.LCL_SEM_TRY p n) w := by
  have hrun : t.showTry who n w p = t.put (F.LCL_SEM_TRY p n) w :=
    State.showTry_of_runs n w (by rw [hcur p hp, if_pos rfl]) hr
  have hidle : ∀ q < 24, q ≠ p → (t.pf q).cur = none := fun q hq hne => by rw [hcur q hq, if_neg hne]
  rw [State.each_range_of_single (p := p), if_pos hp, hrun]
  · exact fun q hq hne => State.showTry_of_idle who n w (hidle q hq hne)
  · intro q hq hne
    rw [hrun]
    exact State.showTry_of_idle who n w (hidle q hq hne)

/-! ## Releasing (R343) -/

theorem exec_semaphoreRelease (who n : Nat) (c : Bool) (s : State) :
    exec (.semaphoreRelease who n c) s = .next (s.semRelease who n c) := rfl

/-- A release by another than the holder is ignored. -/
theorem State.semRelease_of_not_holder {s : State} {who n : Nat} (c : Bool) (h : s.get (F.INS_SEM_HOLDER n) ≠ who) :
    s.semRelease who n c = s := by
  simp [State.semRelease, h]

/-- The semaphore free again, and no longer broken when CLR was written with the release. -/
def State.freed (s : State) (n : Nat) (c : Bool) : State :=
  if c then (s.put (F.INS_SEM_HOLDER n) 0xFF).put (F.INS_SEM_BROKEN n) 0 else s.put (F.INS_SEM_HOLDER n) 0xFF

theorem State.semRelease_of_holder {s : State} {who n : Nat} (c : Bool) (hw : who < 0xFF) (h : s.get (F.INS_SEM_HOLDER n) = who) :
    s.semRelease who n c = if 1 ≤ who ∧ who ≤ 63 then (s.freed n c).showUse who else s.freed n c :=
  if_pos ⟨h, hw.ne⟩

/-- Settles O52: each clause is the case of the holder, of the quota and of the kind of holder that it names. -/
theorem semaphoresAreHeldByOne : Obligations.SemaphoresAreHeldByOne := by
  unfold Obligations.SemaphoresAreHeldByOne
  refine ⟨tryWord_bits, fun s who n hw => ⟨State.semTry_of_holds, State.semTry_of_held, State.semTry_of_quota,
    ?getsOther, ?getsInstance, ?showsManager, ?showsInstance, ?ignored, ?freesOther, ?freesInstance⟩⟩
  case getsOther =>
    intro hf hother
    rw [State.semTry_of_free hw hf (by omega), if_neg (by omega)]
  case getsInstance =>
    intro hf h1 h63 hq
    rw [State.semTry_of_free hw hf (by omega), if_pos ⟨h1, h63⟩]
  case showsManager =>
    intro h0
    rw [exec_semaphoreTry, if_pos h0]
  case showsInstance =>
    intro r p h1 hp hcur hr
    rw [exec_semaphoreTry, if_neg (by omega), State.each_showTry_of_single hp hcur hr]
  case ignored =>
    intro c h
    rw [exec_semaphoreRelease, State.semRelease_of_not_holder c h]
  case freesOther =>
    intro h hother
    have hrel : ∀ c, exec (.semaphoreRelease who n c) s = .next (s.freed n c) := fun c => by
      rw [exec_semaphoreRelease, State.semRelease_of_holder c hw h, if_neg (by omega)]
    exact ⟨hrel false, hrel true⟩
  case freesInstance =>
    intro h h1 h63
    have hrel : ∀ c, exec (.semaphoreRelease who n c) s = .next ((s.freed n c).showUse who) := fun c => by
      rw [exec_semaphoreRelease, State.semRelease_of_holder c hw h, if_pos ⟨h1, h63⟩]
    exact ⟨hrel false, hrel true⟩

end Sys2Proof.Machine

/-!
PROOFS. The vault (R363 to R380): the length of a number written as bytes, and the key check value of R368.
-/
namespace Sys2Proof.Machine

/-! ## Numbers as byte strings (R8) -/

@[simp] theorem length_leBytes (n v : Nat) : (leBytes n v).length = n := by
  induction n generalizing v with
  | zero => rfl
  | succ n ih => rw [leBytes, List.length_cons, ih]

@[simp] theorem length_beBytes (n v : Nat) : (beBytes n v).length = n := by
  rw [beBytes, List.length_reverse, length_leBytes]

/-! ## The key check value (R368) -/

theorem kcvBlock_bytes : [0x5A, 0x47, 0x4B, 0x43] ++ zeros 12 =
    ([0x5A, 0x47, 0x4B, 0x43, 0, 0, 0, 0, 0, 0, 0, 0, 0, 0, 0, 0] : Bytes) := rfl

@[simp] theorem length_kcvOf (key : Bytes) : (kcvOf key).length = 3 := by
  rw [kcvOf, List.length_take_of_le]
  rw [length_beBytes]
  decide

/-- Settles O55: the block of the KCV written out, and three bytes taken of the sixteen of a CMAC. -/
theorem keyCheckValue : Obligations.KeyCheckValue := by
  unfold Obligations.KeyCheckValue
  intro key
  refine ⟨?firstThree, length_kcvOf key⟩
  case firstThree => rw [kcvOf, kcvBlock_bytes]

end Sys2Proof.Machine

/-!
PROOFS. The step and what every command keeps, the state after reset, fields and bytes after a write, counters and events, time.
-/
namespace Sys2Proof.Machine

/-! ## The step -/

theorem step_cons {s : State} {c : Instr} {rest : List Instr} (h : s.pending = c :: rest) : step s = exec c (s.setPending rest) := by
  simp only [step, h]

theorem step_nil {s : State} (h : s.pending = []) : step s = .next (s.advance (s.now + 4)) := by
  simp only [step, h]
  rfl

/-- The queue apart, which the step shortens, a step keeps what every command keeps. -/
theorem step_keeps_pendingless {s t : State} (h : step s = .next t) : ∃ q, Keeps (s.setPending q) t := by
  cases hq : s.pending with
  | nil =>
    rw [step_nil hq] at h
    cases h
    exact ⟨s.pending, State.advance_keeps (Keeps.refl s) _⟩
  | cons c rest =>
    rw [step_cons hq] at h
    obtain ⟨u, hu, hk⟩ := exec_keeps c (s.setPending rest)
    rw [hu] at h
    cases h
    exact ⟨rest, hk⟩

/-- Settles O1: `step` at a queue that is not empty. -/
theorem stepRunsTheFrontCommand : Obligations.StepRunsTheFrontCommand := by
  unfold Obligations.StepRunsTheFrontCommand
  exact fun _ _ _ => step_cons

/-- Settles O2: what `exec_keeps` says of the outcome and of the queue. -/
theorem everyCommandAnswersANextState : Obligations.EveryCommandAnswersANextState := by
  unfold Obligations.EveryCommandAnswersANextState
  intro c s
  obtain ⟨t, ht, hp, _⟩ := exec_keeps c s
  exact ⟨t, ht, hp⟩

/-- Settles O3: the queue plays no part in soundness, and all else a step keeps. -/
theorem everyStepKeepsASoundState : Obligations.EveryStepKeepsASoundState := by
  unfold Obligations.EveryStepKeepsASoundState
  intro s t hs h
  obtain ⟨_, _, _, hk⟩ := step_keeps_pendingless h
  exact (hk hs).1

/-- Settles O4: the queue plays no part in time or in the log, and all else a step keeps. -/
theorem timeAndLogOnlyGrow : Obligations.TimeAndLogOnlyGrow := by
  unfold Obligations.TimeAndLogOnlyGrow
  refine ⟨fun s t h => ?time, fun s t hs h => ?log⟩
  case time =>
    obtain ⟨_, _, ht, _⟩ := step_keeps_pendingless h
    exact ht
  case log =>
    obtain ⟨_, _, _, hk⟩ := step_keeps_pendingless h
    exact (hk hs).2

/-! ## The state after reset (R49, R53, R62) -/

theorem State.get_reset_of_ne {f : Fld} (h : f.key ≠ F.PWR_CAUSE_KIND.key) : State.reset.get f = f.reset := by
  show Sp.get f.reset [(F.PWR_CAUSE_KIND.key, 1)] f.key = f.reset
  simp only [Sp.get, if_neg h, ite_self]

/-- Settles O5: each value is that of the table or of the record at reset. -/
theorem resetIsSoundAndAtStageOne : Obligations.ResetIsSoundAndAtStageOne := by
  unfold Obligations.ResetIsSoundAndAtStageOne
  refine ⟨⟨rfl, rfl, Nat.zero_le _⟩, ?_, ?_, ?_, ?_, rfl, rfl, rfl, rfl, fun _ => rfl, fun f h => State.get_reset_of_ne h⟩
  all_goals decide

/-! ## Bytes (R8) -/

theorem State.rdN_succ (s : State) (a n : Nat) : s.rdN a (n + 1) = s.rd a :: s.rdN (a + 1) n := by
  simp only [State.rdN, List.range_succ_eq_map, List.map_cons, List.map_map, Nat.add_zero]
  congr 2
  funext i
  simp only [Function.comp_apply]
  congr 1
  omega

theorem State.rdN_wrN (b : Bytes) : ∀ (s : State) (a : Nat), Sp.rising none s.mem = true → (s.wrN a b).rdN a b.length = b := by
  induction b with
  | nil => intro s a _; rfl
  | cons c r ih =>
    intro s a h
    have hw := State.wr_rising h a c
    rw [List.length_cons, State.rdN_succ, State.wrN, ih _ _ hw, State.rd_wrN a r _ _ hw (by omega), State.rd_wr h, if_pos rfl]

theorem leNat_leBytes (n v : Nat) : leNat (leBytes n v) = v % 256 ^ n := by
  induction n generalizing v with
  | zero => simp [leBytes, leNat, Nat.mod_one]
  | succ n ih =>
    rw [leBytes, leNat, ih, BitVec.toNat_ofNat, Nat.pow_succ' (m := 256), Nat.mod_mul]

/-- Settles O6: a store is one write of the table of bytes, and a run of stores one after the other. -/
theorem storedBytesReadBack : Obligations.StoredBytesReadBack := by
  unfold Obligations.StoredBytesReadBack
  refine ⟨fun s a b hs => ?byte, fun s a b hs => ?run, fun n v => ⟨leNat_leBytes n v, length_leBytes n v⟩⟩
  case byte =>
    have hm := hs.memRising
    exact ⟨by rw [State.rd_wr hm, if_pos rfl], fun x hx => by rw [State.rd_wr hm, if_neg hx], rfl⟩
  case run =>
    have hm := hs.memRising
    exact ⟨State.rdN_wrN b s a hm, fun x hx => State.rd_wrN x b s a hm hx⟩

/-! ## Fields (R10 to R12) -/

theorem RegsBut.refl (l : List Fld) (s : State) : RegsBut l s s := fun _ _ => rfl

theorem State.regsBut_put {s : State} (h : s.Sound) (f : Fld) (v : Nat) : RegsBut [f] s (s.put f v) := fun g hg =>
  State.get_put_ne h.rising f g v (Ne.symm (hg f (List.mem_singleton.mpr rfl)))

/-- What a write of a word leaves in a field (R11). -/
def Fld.written (f : Fld) (active : Bool) (old : Nat) (v : Word) : Nat := match f.acc with
  | .rw => f.part v
  | .rwl => if active then old else f.part v
  | .w1c => if f.part v = 0 then old else 0
  | .w1s => (old ||| f.part v) % 2 ^ f.width
  | .ro => old
  | .wo => old

/-- A write of a word stores the field or leaves it. -/
theorem State.storeFld_cases (s : State) (v : Word) (f : Fld) : s.storeFld v f = s ∨ ∃ n, s.storeFld v f = s.put f n := by
  unfold State.storeFld
  split
  · exact Or.inl rfl
  · split
    · exact Or.inr ⟨_, rfl⟩
    · split
      · exact Or.inl rfl
      · exact Or.inr ⟨_, rfl⟩
    · split
      · exact Or.inl rfl
      · exact Or.inr ⟨_, rfl⟩
    · exact Or.inr ⟨_, rfl⟩
    · exact Or.inl rfl
    · exact Or.inl rfl

theorem Fld.part_mod (f : Fld) (v : Word) : f.part v % 2 ^ f.width = f.part v := Nat.mod_mod _ _

theorem State.get_storeFld {s : State} (h : s.Sound) (v : Word) {f : Fld} (hf : f.lo < 32) :
    (s.storeFld v f).get f = f.written s.active (s.get f) v := by
  have hput := fun n => State.get_put_same h.rising f n
  unfold State.storeFld Fld.written
  rw [if_neg (by omega)]
  cases f.acc with
  | rw => exact (hput _).trans (f.part_mod v)
  | rwl =>
    dsimp only
    split
    · rfl
    · exact (hput _).trans (f.part_mod v)
  | w1c =>
    dsimp only
    split
    · rfl
    · exact (hput _).trans (Nat.zero_mod _)
  | w1s => exact hput _
  | ro => rfl
  | wo => rfl

theorem State.regsBut_storeFld {s : State} (h : s.Sound) (v : Word) (f : Fld) : RegsBut [f] s (s.storeFld v f) := by
  obtain he | ⟨n, he⟩ := s.storeFld_cases v f <;> rw [he]
  · exact RegsBut.refl _ s
  · exact State.regsBut_put h f n

theorem State.storeFld_eq_setRegs (s : State) (v : Word) (f : Fld) : s.storeFld v f = s.setRegs (s.storeFld v f).regs := by
  obtain he | ⟨n, he⟩ := s.storeFld_cases v f <;> rw [he]
  · rfl
  · rfl

/-- Filtering a table by its keys returns what is filtered out to the default. -/
theorem Sp.get_filter_key {α : Type} (d : α) (p : Nat → Bool) (k : Nat) : ∀ l : List (Nat × α), Sp.rising none l = true →
    Sp.get d (l.filter (fun e => p e.1)) k = if p k then Sp.get d l k else d
  | [], _ => by simp [Sp.get]
  | (j, w) :: r, h => by
    have hr : Sp.rising (some j) r = true := h
    have ih := Sp.get_filter_key d p k r (Sp.rising_none_of_some hr)
    have hlow : k ≤ j → Sp.get d r k = d := Sp.get_above d r j k hr
    simp only [List.filter_cons]
    by_cases hp : p j = true
    · rw [if_pos hp, Sp.get, ih, Sp.get]
      by_cases hkj : k = j
      · subst hkj
        simp [hp]
      · simp only [if_neg hkj]
        split <;> simp
    · rw [if_neg hp, ih, Sp.get]
      by_cases hkj : k = j
      · subst hkj
        simp [hp]
      · simp only [if_neg hkj]
        by_cases hlt : k < j
        · rw [if_pos hlt, hlow (by omega)]
        · rw [if_neg hlt]

theorem State.get_clearKind {s : State} (h : s.Sound) (k : Kind) {f : Fld} (hf : fieldOfKey f.key = some f) :
    (s.clearKind k).get f = if f.clearedBy k then f.reset else s.get f := by
  have hfilter := Sp.get_filter_key f.reset (fun x => match fieldOfKey x with
    | some f => !f.clearedBy k
    | none => true) f.key s.regs h.rising
  refine hfilter.trans ?_
  simp only [hf]
  cases f.clearedBy k <;> rfl

/-- Settles O7: stores, writes by access code and the clearing by kinds, each by its lemma. -/
theorem fieldsFollowTheirColumns : Obligations.FieldsFollowTheirColumns := by
  unfold Obligations.FieldsFollowTheirColumns
  refine ⟨fun s f v hs => ⟨State.get_put_same hs.rising f v, State.regsBut_put hs f v, rfl⟩, fun s v f hs hf => ?_,
    fun s k f hs hf => State.get_clearKind hs k hf⟩
  exact ⟨State.get_storeFld hs v hf, State.regsBut_storeFld hs v f, State.storeFld_eq_setRegs s v f⟩

end Sys2Proof.Machine

/-!
PROOFS. Counters and events (R39 to R41), raw time and the bases that run on with it (R112, R385), and accesses at the junctions (R20 to R26).
-/
namespace Sys2Proof.Machine

/-! ## Events (R40, R41) -/

/-- A state that differs in the registers, the event log, the link and the host die alone. -/
def State.SameButRecords (s t : State) : Prop := t = (((s.setRegs t.regs).setLog t.log).setLink t.link).setHost t.host

/-- The same where the host die's record is left alone, too. -/
def State.SameButLog (s t : State) : Prop := t = ((s.setRegs t.regs).setLog t.log).setLink t.link

theorem State.SameButLog.sameButRecords {s t : State} (h : s.SameButLog t) : s.SameButRecords t := by
  have hh : t.host = s.host := by rw [h]; rfl
  unfold State.SameButRecords
  rw [hh]
  exact h

theorem RegsBut.trans {l : List Fld} {s t u : State} (h : RegsBut l s t) (k : RegsBut l t u) : RegsBut l s u := fun f hf =>
  (k f hf).trans (h f hf)

theorem RegsBut.mono {l m : List Fld} {s t : State} (h : RegsBut l s t) (hl : ∀ f ∈ l, f ∈ m) : RegsBut m s t := fun f hf =>
  h f (fun g hg => hf g (hl g hg))

theorem RegsBut.of_regs {s t : State} (h : t.regs = s.regs) (l : List Fld) : RegsBut l s t := fun f _ => by
  unfold State.get
  rw [h]

theorem State.get_of_regs {s t : State} (h : t.regs = s.regs) (f : Fld) : t.get f = s.get f := by
  unfold State.get
  rw [h]

/-- The link takes the record, or drops and counts it. -/
theorem State.offerEvent_of_room {s : State} (e : Event) (h : s.linkUp = true ∨ s.link.evq.length < 1024) :
    (s.offerEvent e).regs = s.regs ∧ (s.offerEvent e).log = s.log := by
  have hc : (s.linkUp || decide (s.link.evq.length < 1024)) = true := by simpa using h
  unfold State.offerEvent
  rw [if_pos hc]
  exact ⟨rfl, rfl⟩

theorem State.offerEvent_of_full {s : State} (e : Event) (h : s.linkUp = false) (hq : 1024 ≤ s.link.evq.length) :
    s.offerEvent e = s.put F.XNG_REFUSED_EVLOST (Nat.min (s.get F.XNG_REFUSED_EVLOST + 1) 0xFFFF) := by
  have hc : ¬ (s.linkUp || decide (s.link.evq.length < 1024)) = true := by simp [h, hq]
  unfold State.offerEvent
  rw [if_neg hc]

theorem State.offerEvent_cases (s : State) : (s.linkUp = true ∨ s.link.evq.length < 1024) ∨
    (s.linkUp = false ∧ 1024 ≤ s.link.evq.length) := by
  cases s.linkUp <;> simp
  omega

theorem State.sameButLog_offerEvent (s : State) (e : Event) : s.SameButLog (s.offerEvent e) := by
  unfold State.offerEvent
  split <;> rfl

theorem State.regsBut_offerEvent {s : State} (h : s.Sound) (e : Event) : RegsBut [F.XNG_REFUSED_EVLOST] s (s.offerEvent e) := by
  obtain hr | ⟨hu, hq⟩ := s.offerEvent_cases
  · exact RegsBut.of_regs (State.offerEvent_of_room e hr).1 _
  · rw [State.offerEvent_of_full e hu hq]
    exact State.regsBut_put h _ _

theorem State.offerEvent_log (s : State) (e : Event) : (s.offerEvent e).log = s.log := by
  unfold State.offerEvent
  split <;> rfl

theorem State.offerEvent_tbs (s : State) (e : Event) : (s.offerEvent e).tbs = s.tbs := by
  unfold State.offerEvent
  split <;> rfl

theorem State.keepEvent_eq_setLog (s : State) (e : Event) : s.keepEvent e = s.setLog (keepLast 65536 (s.log ++ [e])) := rfl

theorem State.keepEvent_regs (s : State) (e : Event) : (s.keepEvent e).regs = s.regs := by
  rw [State.keepEvent_eq_setLog, State.setLog_regs]

theorem State.keepEvent_link (s : State) (e : Event) : (s.keepEvent e).link = s.link := by
  rw [State.keepEvent_eq_setLog, State.setLog_link]

theorem State.keepEvent_linkUp (s : State) (e : Event) : (s.keepEvent e).linkUp = s.linkUp := by
  simp only [State.linkUp, State.flag, State.get, State.keepEvent_regs]

/-- The state in which the first record of an event has been logged and offered to the link. -/
def State.logAndOffer (s : State) (e : Event) : State := (s.keepEvent e).offerEvent e

theorem State.logAndOffer_log (s : State) (e : Event) : (s.logAndOffer e).log = keepLast 65536 (s.log ++ [e]) := by
  rw [State.logAndOffer, State.offerEvent_log, State.keepEvent_eq_setLog, State.setLog_log]

theorem State.keepEvent_sound {s : State} (h : s.Sound) (e : Event) : (s.keepEvent e).Sound :=
  ((State.keepEvent_keeps (Keeps.refl s) e).2.2 h).1

theorem State.regsBut_logAndOffer {s : State} (h : s.Sound) (e : Event) : RegsBut [F.XNG_REFUSED_EVLOST] s (s.logAndOffer e) :=
  (RegsBut.of_regs (s.keepEvent_regs e) _).trans (State.regsBut_offerEvent (State.keepEvent_sound h e) e)

theorem State.get_evlost_logAndOffer_of_room {s : State} (e : Event) (h : s.linkUp = true ∨ s.link.evq.length < 1024) :
    (s.logAndOffer e).get F.XNG_REFUSED_EVLOST = s.get F.XNG_REFUSED_EVLOST := by
  have hr := State.offerEvent_of_room (s := s.keepEvent e) e (by rwa [State.keepEvent_linkUp, State.keepEvent_link])
  exact State.get_of_regs (hr.1.trans (s.keepEvent_regs e)) _

theorem State.get_evlost_logAndOffer_of_full {s : State} (hs : s.Sound) (e : Event) (h : s.linkUp = false) (hq : 1024 ≤ s.link.evq.length) :
    (s.logAndOffer e).get F.XNG_REFUSED_EVLOST = Nat.min (s.get F.XNG_REFUSED_EVLOST + 1) 0xFFFF := by
  have hput := State.offerEvent_of_full (s := s.keepEvent e) e (by rwa [State.keepEvent_linkUp]) (by rwa [State.keepEvent_link])
  rw [State.logAndOffer, hput, State.get_put_same (State.keepEvent_sound hs e).rising, State.get_of_regs (s.keepEvent_regs e)]
  exact Nat.mod_eq_of_lt (Nat.lt_succ_of_le (Nat.min_le_right _ _))

/-- The record that reports EVLOST at its end (R41). -/
def State.evlostEvent (s : State) : Event := s.eventOf s.ttbTb 0x01FF 0xFF F.XNG_REFUSED_EVLOST.addr

theorem State.raiseOn_of_not_last {s : State} {b code i arg : Nat}
    (h : ¬ (s.get F.XNG_REFUSED_EVLOST < 0xFFFF ∧ (s.logAndOffer (s.eventOf b code i arg)).get F.XNG_REFUSED_EVLOST = 0xFFFF)) :
    s.raiseOn b code i arg = s.logAndOffer (s.eventOf b code i arg) := if_neg h

theorem State.raiseOn_of_last {s : State} {b code i arg : Nat} (h : s.get F.XNG_REFUSED_EVLOST < 0xFFFF)
    (h1 : (s.logAndOffer (s.eventOf b code i arg)).get F.XNG_REFUSED_EVLOST = 0xFFFF) :
    s.raiseOn b code i arg = (s.logAndOffer (s.eventOf b code i arg)).keepEvent (s.logAndOffer (s.eventOf b code i arg)).evlostEvent :=
  if_pos ⟨h, h1⟩

theorem State.raiseOn_cases (s : State) (b code i arg : Nat) :
    s.raiseOn b code i arg = s.logAndOffer (s.eventOf b code i arg) ∨
    (s.get F.XNG_REFUSED_EVLOST < 0xFFFF ∧ (s.logAndOffer (s.eventOf b code i arg)).get F.XNG_REFUSED_EVLOST = 0xFFFF) := by
  by_cases h : s.get F.XNG_REFUSED_EVLOST < 0xFFFF ∧ (s.logAndOffer (s.eventOf b code i arg)).get F.XNG_REFUSED_EVLOST = 0xFFFF
  · exact Or.inr h
  · exact Or.inl (State.raiseOn_of_not_last h)

theorem State.raiseOn_regs (s : State) (b code i arg : Nat) :
    (s.raiseOn b code i arg).regs = (s.logAndOffer (s.eventOf b code i arg)).regs := by
  obtain h | ⟨hlt, hend⟩ := s.raiseOn_cases b code i arg
  · rw [h]
  · rw [State.raiseOn_of_last hlt hend, State.keepEvent_regs]

theorem State.sameButLog_setLog {s t : State} (h : s.SameButLog t) (l : List Event) : s.SameButLog (t.setLog l) := by
  unfold State.SameButLog at h ⊢
  rw [h]
  rfl

theorem State.sameButLog_trans {s t u : State} (h : s.SameButLog t) (k : t.SameButLog u) : s.SameButLog u := by
  unfold State.SameButLog at h k ⊢
  rw [k, h]
  rfl

theorem State.sameButLog_keepEvent {s t : State} (h : s.SameButLog t) (e : Event) : s.SameButLog (t.keepEvent e) := by
  rw [State.keepEvent_eq_setLog]
  exact State.sameButLog_setLog h _

theorem State.sameButLog_logAndOffer (s : State) (e : Event) : s.SameButLog (s.logAndOffer e) :=
  State.sameButLog_trans (State.sameButLog_keepEvent (show s.SameButLog s from rfl) e) ((s.keepEvent e).sameButLog_offerEvent e)

theorem State.sameButLog_raiseOn (s : State) (b code i arg : Nat) : s.SameButLog (s.raiseOn b code i arg) := by
  have h := s.sameButLog_logAndOffer (s.eventOf b code i arg)
  obtain he | ⟨hlt, hend⟩ := s.raiseOn_cases b code i arg
  · rwa [he]
  · rw [State.raiseOn_of_last hlt hend]
    exact State.sameButLog_keepEvent h _

theorem State.regsBut_raiseOn {s : State} (h : s.Sound) (b code i arg : Nat) :
    RegsBut [F.XNG_REFUSED_EVLOST] s (s.raiseOn b code i arg) := by
  have hr := RegsBut.of_regs (s.raiseOn_regs b code i arg) [F.XNG_REFUSED_EVLOST]
  exact (State.regsBut_logAndOffer h _).trans hr

/-- Where the link takes the record or EVLOST does not reach its end, one record is logged. -/
theorem State.log_raiseOn {s : State} (hs : s.Sound) {b code i arg : Nat}
    (h : s.linkUp = true ∨ s.link.evq.length < 1024 ∨ s.get F.XNG_REFUSED_EVLOST ≠ 0xFFFE) :
    (s.raiseOn b code i arg).log = keepLast 65536 (s.log ++ [s.eventOf b code i arg]) := by
  rw [State.raiseOn_of_not_last, State.logAndOffer_log]
  rintro ⟨hlt, heq⟩
  obtain hr | ⟨hu, hq⟩ := s.offerEvent_cases
  · rw [State.get_evlost_logAndOffer_of_room _ hr] at heq
    omega
  · have hne : s.get F.XNG_REFUSED_EVLOST ≠ 0xFFFE := by
      obtain h | h | h := h
      · simp [hu] at h
      · omega
      · exact h
    have hmin := (State.get_evlost_logAndOffer_of_full hs _ hu hq).symm.trans heq
    have hmin : min (s.get F.XNG_REFUSED_EVLOST + 1) 0xFFFF = 0xFFFF := hmin
    omega

theorem State.get_ttbTb_logAndOffer {s : State} (hs : s.Sound) (e : Event) : (s.logAndOffer e).ttbTb = s.ttbTb :=
  State.regsBut_logAndOffer hs e F.TTB_CTRL_TB (by decide)

theorem State.tbs_logAndOffer (s : State) (e : Event) : (s.logAndOffer e).tbs = s.tbs := by
  rw [State.logAndOffer, State.offerEvent_tbs, State.keepEvent_eq_setLog, State.setLog_tbs]

/-- The record of EVLOST's end names the base of the timetable, whose time the first record leaves. -/
theorem State.evlostEvent_logAndOffer {s : State} (hs : s.Sound) (e : Event) : (s.logAndOffer e).evlostEvent = s.evlostEvent := by
  have hb := State.get_ttbTb_logAndOffer hs e
  have ht : ∀ b, (s.logAndOffer e).tbNs b = s.tbNs b := fun b => by
    simp only [State.tbNs, State.tb, State.tbs_logAndOffer]
  simp only [State.evlostEvent, State.eventOf, hb, State.tbSec, ht]

theorem State.log_raiseOn_last {s : State} (hs : s.Sound) {b code i arg : Nat} (hu : s.linkUp = false) (hq : 1024 ≤ s.link.evq.length)
    (h : s.get F.XNG_REFUSED_EVLOST = 0xFFFE) :
    (s.raiseOn b code i arg).log = keepLast 65536 (keepLast 65536 (s.log ++ [s.eventOf b code i arg]) ++ [s.evlostEvent]) := by
  have hend : (s.logAndOffer (s.eventOf b code i arg)).get F.XNG_REFUSED_EVLOST = 0xFFFF := by
    rw [State.get_evlost_logAndOffer_of_full hs _ hu hq, h]
    rfl
  rw [State.raiseOn_of_last (by omega) hend, State.evlostEvent_logAndOffer hs, State.keepEvent, State.setLog_log, State.logAndOffer_log]

/-! ## Counters (R41) -/

theorem State.raiseSat_cases (s : State) (a : Nat) : (∃ c, s.raiseSat a = s.raiseHost c a) ∨ ∃ b c i, s.raiseSat a = s.raiseOn b c i a := by
  unfold State.raiseSat
  split
  · exact Or.inl ⟨_, rfl⟩
  · exact Or.inr ⟨_, _, _, rfl⟩

theorem State.regsBut_raiseSat {s : State} (h : s.Sound) (a : Nat) : RegsBut [F.XNG_REFUSED_EVLOST] s (s.raiseSat a) := by
  obtain ⟨c, he⟩ | ⟨b, c, i, he⟩ := s.raiseSat_cases a <;> rw [he]
  · exact RegsBut.of_regs rfl _
  · exact State.regsBut_raiseOn h b c i a

theorem State.sameButRecords_raiseSat (s : State) (a : Nat) : s.SameButRecords (s.raiseSat a) := by
  obtain ⟨c, he⟩ | ⟨b, c, i, he⟩ := s.raiseSat_cases a <;> rw [he]
  · rfl
  · exact (s.sameButLog_raiseOn b c i a).sameButRecords

theorem State.put_sound {s : State} (h : s.Sound) (f : Fld) (v : Nat) : (s.put f v).Sound :=
  (State.put_keeps (Keeps.refl s) f v).2.2 h |>.1

/-- Counting stores the field, and may then raise the event of its end. -/
theorem State.countN_cases (s : State) (f : Fld) (n : Nat) : let w := Nat.min (s.get f + n) (2 ^ f.width - 1);
    s.countN f n = s.put f w ∨ s.countN f n = (s.put f w).raiseSat f.addr := by
  unfold State.countN
  dsimp only
  split
  · exact Or.inr rfl
  · exact Or.inl rfl

theorem State.get_countN {s : State} (hs : s.Sound) {f : Fld} (hf : f.key ≠ F.XNG_REFUSED_EVLOST.key) (n : Nat) :
    (s.countN f n).get f = Nat.min (s.get f + n) (2 ^ f.width - 1) := by
  have hput : (s.put f (Nat.min (s.get f + n) (2 ^ f.width - 1))).get f = Nat.min (s.get f + n) (2 ^ f.width - 1) := by
    rw [State.get_put_same hs.rising, Nat.mod_eq_of_lt]
    exact Nat.lt_of_le_of_lt (Nat.min_le_right _ _) (Nat.sub_lt (Nat.two_pow_pos _) Nat.one_pos)
  obtain he | he := s.countN_cases f n <;> rw [he]
  · exact hput
  · rw [State.regsBut_raiseSat (State.put_sound hs f _) f.addr f (by simpa using Ne.symm hf), hput]

theorem State.regsBut_countN {s : State} (hs : s.Sound) (f : Fld) (n : Nat) : RegsBut [f, F.XNG_REFUSED_EVLOST] s (s.countN f n) := by
  have hput : ∀ w, RegsBut [f, F.XNG_REFUSED_EVLOST] s (s.put f w) := fun w =>
    (State.regsBut_put hs f w).mono (fun g hg => by rw [List.mem_singleton.mp hg]; exact List.mem_cons_self)
  obtain he | he := s.countN_cases f n <;> rw [he]
  · exact hput _
  · exact (hput _).trans ((State.regsBut_raiseSat (State.put_sound hs f _) f.addr).mono (fun g hg => List.mem_cons_of_mem _ hg))

theorem State.sameButRecords_countN (s : State) (f : Fld) (n : Nat) : s.SameButRecords (s.countN f n) := by
  obtain he | he := s.countN_cases f n <;> rw [he]
  · rfl
  · exact (s.put f _).sameButRecords_raiseSat f.addr

/-- Settles O8: a counter is a store and perhaps an event, and an event one record or two. -/
theorem countersAndEvents : Obligations.CountersAndEvents := by
  unfold Obligations.CountersAndEvents
  refine ⟨fun s f hs _ hf => ⟨State.get_countN hs hf 1, State.regsBut_countN hs f 1, s.sameButRecords_countN f 1⟩,
    fun s b code i arg hs => ⟨State.log_raiseOn hs, fun hu hq => ⟨?lost, State.log_raiseOn_last hs hu hq⟩,
      State.regsBut_raiseOn hs b code i arg, s.sameButLog_raiseOn b code i arg⟩⟩
  case lost =>
    rw [State.get_of_regs (s.raiseOn_regs b code i arg), State.get_evlost_logAndOffer_of_full hs _ hu hq]

/-! ## Raw time and the bases (R112, R385) -/

theorem State.advance_of_le {s : State} {t : Nat} (h : t ≤ s.now) : s.advance t = s := if_neg (by omega)

/-- Base `b` after `d` ns of raw time. -/
def State.ranOn (s : State) (d b : Nat) : TbS :=
  if (s.tb b).running then { s.tb b with acc := wrapTime ((s.tb b).acc + d * ((tbUnit : Int) + s.getI (F.TSU_TB_FREQ b))) } else s.tb b

/-- Run one base on. -/
def State.runBase (d : Nat) (s : State) (b : Nat) : State := if (s.tb b).running then s.setTb b (s.ranOn d b) else s

/-- A base that runs is listed in its table, so that it reads back with no condition on the table's form. -/
theorem State.tb_runBase (s : State) (d b x : Nat) : (s.runBase d b).tb x = if x = b then s.ranOn d b else s.tb x := by
  unfold State.runBase
  split
  next hr =>
    have hne : s.ranOn d b ≠ TbS.init := fun he => by
      have := congrArg TbS.running he
      simp [State.ranOn, hr, TbS.init] at this
    simp only [State.tb, State.setTb, State.setTbs_tbs, Sp.put, if_neg hne, Sp.get_insert]
  next hr =>
    simp only [State.ranOn, if_neg hr]
    split
    · subst_vars; rfl
    · rfl

theorem State.runBase_eq_setTbs (s : State) (d b : Nat) : s.runBase d b = s.setTbs (s.runBase d b).tbs := by
  unfold State.runBase
  split <;> rfl

theorem State.runBases_eq_foldl (s : State) (d : Nat) : s.runBases d = (List.range 4).foldl (State.runBase d) s := by
  have hstep : ∀ (u : State) (b : Nat), u.runBase d b = if (u.tb b).running then
      u.setTb b { u.tb b with acc := wrapTime ((u.tb b).acc + d * ((tbUnit : Int) + u.getI (F.TSU_TB_FREQ b))) } else u := fun u b => by
    unfold State.runBase State.ranOn
    split <;> rfl
  unfold State.runBases
  congr 1
  funext u b
  exact (hstep u b).symm

theorem State.foldl_runBase (d : Nat) (s : State) (n : Nat) :
    (List.range n).foldl (State.runBase d) s = s.setTbs ((List.range n).foldl (State.runBase d) s).tbs ∧
    ∀ b, ((List.range n).foldl (State.runBase d) s).tb b = if b < n then s.ranOn d b else s.tb b := by
  induction n with
  | zero => exact ⟨rfl, fun b => rfl⟩
  | succ n ih =>
    obtain ⟨hset, htb⟩ := ih
    rw [List.range_succ, List.foldl_append]
    generalize (List.range n).foldl (State.runBase d) s = u at hset htb
    have hran : u.ranOn d n = s.ranOn d n := by
      have h := htb n
      rw [if_neg (Nat.lt_irrefl n)] at h
      simp only [State.ranOn, h, State.getI, State.get_of_regs (show u.regs = s.regs by rw [hset]; rfl)]
    refine ⟨?_, fun b => ?_⟩
    · show u.runBase d n = _
      rw [u.runBase_eq_setTbs d n, hset]
      rfl
    · show (u.runBase d n).tb b = _
      rw [State.tb_runBase, hran, htb]
      by_cases hb : b = n
      · rw [if_pos hb, if_pos (by omega), hb]
      · rw [if_neg hb]
        simp only [show b < n + 1 ↔ b < n by omega]

theorem State.advance_of_lt {s : State} {t : Nat} (h : s.now < t) : s.advance t = (s.runBases (t - s.now)).setNow t := if_pos h

/-- Settles O9: a base that runs is written once, by its own turn of the walk over the four. -/
theorem timeGoesOn : Obligations.TimeGoesOn := by
  unfold Obligations.TimeGoesOn
  refine ⟨⟨fun s t h => State.advance_of_le h, fun s t h => ?_⟩, fun s h => step_nil h⟩
  obtain ⟨hset, htb⟩ := State.foldl_runBase (t - s.now) s 4
  rw [← State.runBases_eq_foldl] at hset htb
  rw [State.advance_of_lt h]
  refine ⟨?_, fun b => ?_⟩
  · rw [hset]
    rfl
  · show (s.runBases (t - s.now)).tb b = _
    rw [htb, State.ranOn, Nat.cast_sub h.le]
    by_cases hb : b < 4 <;> by_cases hr : (s.tb b).running = true <;> simp only [hb, hr, if_true, if_false, and_self, and_true, and_false,
      Bool.false_eq_true]
    rfl

end Sys2Proof.Machine

/-!
PROOFS. Accesses at the junctions (R20 to R26, R61): a write in its own island and across, the order of service, the hardware's updates.
-/
namespace Sys2Proof.Machine

theorem exec_junctionAccessEffect (dst : Island) (srcs : List Island) (hw : List HwUpd) (s : State) :
    exec (.junctionAccessEffect dst srcs hw) s = execJunctionAccessEffect dst srcs s hw := rfl

theorem exec_junctionHung (src dst : Island) (s : State) :
    exec (.junctionHung src dst) s = .next ((s.raise 0x0202 (islandNo src * 256 + islandNo dst)).moduleReset 3 4) := rfl

theorem State.post_of_room {s : State} {src dst : Island} (hq : (s.junc src dst).stalled = []) (h : (s.junc src dst).fifo.length < 8)
    (x : Access) : s.post src dst x = s.setJunc src dst { fifo := (s.junc src dst).fifo ++ [x], stalled := [] } := by
  simp [State.post, h, hq]

/-- The sources named, in the order in which the junctions are served (R25). -/
def served (srcs : List Island) : List Island := serveOrder.filter (fun i => srcs.contains i)

/-- The junctions into `dst` are served one after the other. -/
def State.serveAll (s : State) (dst : Island) (srcs : List Island) : State :=
  (served srcs).foldl (fun s i => s.serveJunction i dst) s

theorem execJunctionAccessEffect_nil (dst : Island) (srcs : List Island) (s : State) :
    execJunctionAccessEffect dst srcs s [] = .next (s.serveAll dst srcs) := rfl

theorem execJunctionAccessEffect_single (dst : Island) (srcs : List Island) (s : State) (u : HwUpd) :
    execJunctionAccessEffect dst srcs s [u] = .next (((s.hwUpdate dst u).serveAll dst srcs).hwCount dst u) := rfl

theorem served_single {x : Island} (h : x ≠ .host) : served [x] = [x] := by
  cases x with
  | host => exact absurd rfl h
  | _ => rfl

theorem served_pair_comm (x y : Island) : served [x, y] = served [y, x] := by
  unfold served
  congr 1
  funext i
  simp [or_comm]

/-- Of two junctions that of the earlier island comes first. -/
theorem served_pair {x y : Island} (hx : x ≠ .host) (hy : y ≠ .host) (h : islandNo x < islandNo y) : served [y, x] = [x, y] := by
  revert hx hy h
  cases x <;> cases y <;> decide

theorem State.serveJunction_of_head {s : State} {src dst : Island} {a : Access} {r : List Access} (h : (s.junc src dst).fifo = a :: r)
    (hq : (s.junc src dst).stalled = []) :
    s.serveJunction src dst = (s.setJunc src dst { fifo := r, stalled := [] }).writeEffect src a.addr a.val := by
  simp [State.serveJunction, State.popJunc, h, hq]

theorem State.hwUpdate_of_updates {s : State} {dst : Island} {u : HwUpd} {f : Fld} (hf : hwField u dst = some f) (hk : u.kind = .updates)
    (ha : f.acc = .rw) : s.hwUpdate dst u = s.put f u.value := by
  simp [State.hwUpdate, hf, hk, ha]

theorem State.hwUpdate_of_ne {s : State} {dst : Island} {u : HwUpd} (hk : u.kind ≠ .updates) : s.hwUpdate dst u = s := by
  unfold State.hwUpdate
  cases h : u.kind <;> simp_all

theorem State.hwCount_of_updates {s : State} {dst : Island} {u : HwUpd} (hk : u.kind = .updates) : s.hwCount dst u = s := by
  simp [State.hwCount, hk]

theorem State.hwCount_of_sets {s : State} {dst : Island} {u : HwUpd} {f : Fld} (hf : hwField u dst = some f) (hk : u.kind = .sets)
    (ha : f.acc = .w1c) : s.hwCount dst u = s.put f (s.get f ||| u.value) := by
  simp [State.hwCount, hf, hk, ha]

theorem State.hwCount_of_counts {s : State} {dst : Island} {u : HwUpd} {f : Fld} (hf : hwField u dst = some f) (hk : u.kind = .counts) :
    s.hwCount dst u = s.countN f u.value := by
  simp [State.hwCount, hf, hk]

/-- Settles O10: the island of the address decides where a write goes, and one clock at an island is the hardware's updates, the
junctions in their order, and the hardware's sets and counts. -/
theorem registerAccessesCrossJunctions : Obligations.RegisterAccessesCrossJunctions := by
  unfold Obligations.RegisterAccessesCrossJunctions
  refine ⟨fun s src a v => ⟨?nowhere, ?own, ?across⟩, fun s dst => ⟨?oldest, ?unordered, ?earlier, fun srcs h f hf => ⟨?updates, ?after⟩,
    ?hung⟩⟩
  case nowhere =>
    intro ha
    simp only [exec_registerWrite, State.issue, ha]
  case own =>
    intro ha
    simp only [exec_registerWrite, State.issue, ha, if_true]
  case across =>
    intro d ha hne hq hlt
    rw [exec_registerWrite_other v s ha hne, State.post_of_room hq hlt]
  case oldest =>
    intro src a r hsrc hf hq
    rw [exec_junctionAccessEffect, execJunctionAccessEffect_nil, State.serveAll, served_single hsrc, List.foldl_cons, List.foldl_nil,
      State.serveJunction_of_head hf hq]
  case unordered =>
    intro x y
    rw [exec_junctionAccessEffect, exec_junctionAccessEffect, execJunctionAccessEffect_nil, execJunctionAccessEffect_nil,
      State.serveAll, State.serveAll, served_pair_comm]
  case earlier =>
    intro x y u hx hy hlt hu
    rw [exec_junctionAccessEffect, execJunctionAccessEffect_nil, State.serveAll, served_single hx] at hu
    cases hu
    rw [exec_junctionAccessEffect, exec_junctionAccessEffect, execJunctionAccessEffect_nil, execJunctionAccessEffect_nil,
      State.serveAll, State.serveAll, served_pair hx hy hlt, served_single hy]
    rfl
  case updates =>
    intro hk ha
    rw [exec_junctionAccessEffect, exec_junctionAccessEffect, execJunctionAccessEffect_single, execJunctionAccessEffect_nil,
      State.hwUpdate_of_updates hf hk ha, State.hwCount_of_updates hk]
  case after =>
    intro w hw
    cases hw
    refine ⟨fun hk ha => ?_, fun hk => ?_⟩
    · rw [exec_junctionAccessEffect, execJunctionAccessEffect_single, State.hwUpdate_of_ne (by rw [hk]; decide), State.hwCount_of_sets hf hk ha]
      rfl
    · rw [exec_junctionAccessEffect, execJunctionAccessEffect_single, State.hwUpdate_of_ne (by rw [hk]; decide), State.hwCount_of_counts hf hk]
      rfl
  case hung =>
    intro src
    rw [exec_junctionHung, Nat.mul_comm]

end Sys2Proof.Machine

/-!
PROOFS. Messages of the Yevas link: taken by their SEQ (R31, R33), their octets (R29), and which class sends (R32). A refutation: where the
register table has lost its form, an acknowledgement can take the link down.
-/
namespace Sys2Proof.Machine

/-! ## Taking (R31, R33, R34) -/

theorem State.receive_of_down {s : State} {cls : Nat} {h : Hdr} (act : State → State) (hu : s.linkUp = false) : s.receive cls h act = s := by
  simp [State.receive, hu]

theorem State.receive_of_ahead {s : State} {cls : Nat} {h : Hdr} (act : State → State) (hu : s.linkUp = true) (hne : h.seq ≠ (s.crx cls).expect)
    (hd : 2 ^ 31 < ((s.crx cls).expect - h.seq).toNat) : s.receive cls h act = s.sendNak cls := by
  simp only [State.receive, hu, seqCase, if_neg hne, if_neg (Nat.not_le.mpr hd), Bool.not_true, Bool.false_eq_true, if_false]

theorem State.receive_of_behind {s : State} {cls : Nat} {h : Hdr} (act : State → State) (hu : s.linkUp = true) (ht : (s.crx cls).taken = true)
    (hne : h.seq ≠ (s.crx cls).expect) (hd : ((s.crx cls).expect - h.seq).toNat ≤ 2 ^ 31) :
    s.receive cls h act = s.sendAck cls ((s.crx cls).expect - 1) := by
  simp only [State.receive, hu, seqCase, if_neg hne, if_pos hd, ht, Bool.not_true, Bool.false_eq_true, if_false, if_true]

theorem earlyClass_eq_false {cls : Nat} (h : cls ∉ [0, 1, 2, 0xE]) : earlyClass cls = false := by
  simp only [List.mem_cons, List.not_mem_nil, or_false, not_or] at h
  simp [earlyClass, h]

/-- A message of a class marked No is acknowledged before READY, and discarded. -/
theorem State.receive_of_early {s : State} {cls : Nat} {h : Hdr} (act : State → State) (hu : s.linkUp = true)
    (he : s.flag F.XNG_STATUS_EARLY = true) (hc : cls ∉ [0, 1, 2, 0xE]) (hs : h.seq = (s.crx cls).expect) :
    s.receive cls h act = (s.took cls h).discardEarly cls := by
  have hflag : (s.took cls h).flag F.XNG_STATUS_EARLY = true := by
    rw [State.flag, State.took_get]
    exact he
  have hcond : ((s.took cls h).flag F.XNG_STATUS_EARLY && !earlyClass cls) = true := by
    rw [hflag, earlyClass_eq_false hc]
    rfl
  simp only [State.receive, hu, seqCase, if_pos hs, Bool.not_true, Bool.false_eq_true, if_false]
  exact if_pos hcond

theorem State.send_earlyRaised (s : State) (m : Msg) : (s.send m).link.earlyRaised = s.link.earlyRaised := by
  unfold State.send
  split
  · rfl
  · split <;> rfl

/-- A counter that is not 16 bits wide raises no event. -/
theorem State.countN_of_width {f : Fld} (h : f.width ≠ 16) (s : State) (n : Nat) :
    s.countN f n = s.put f (Nat.min (s.get f + n) (2 ^ f.width - 1)) := if_neg (fun hc => h hc.1)

theorem State.discardEarly_took (s : State) (cls : Nat) (h : Hdr) : (s.took cls h).discardEarly cls =
    if s.link.earlyRaised then (s.took cls h).count F.XNG_REFUSED_EARLY
      else (((s.took cls h).count F.XNG_REFUSED_EARLY).setLink
        { ((s.took cls h).count F.XNG_REFUSED_EARLY).link with earlyRaised := true }).raise 0x0116 cls := by
  have hraised : ((s.took cls h).count F.XNG_REFUSED_EARLY).link.earlyRaised = s.link.earlyRaised := by
    rw [State.count, State.countN_of_width (by decide)]
    exact State.send_earlyRaised _ _
  rw [← hraised]
  rfl

/-! ## Octets (R29) -/

theorem leNat_cons_zero (x : Byte) : leNat [x] = x.toNat := by simp [leNat]

/-- The first two octets of a message: its class under VER 0x1, and its FLAGS. -/
def Msg.lead (m : Msg) : Bytes := [BitVec.ofNat 8 (m.cls % 16 + 16), BitVec.ofNat 8 (ofBool m.last + 2 * ofBool m.reply + 4 * ofBool m.err)]

/-- The octets behind the header. -/
def Msg.body (m : Msg) (q : Word) : Bytes := m.payload ++ leBytes 4 (crc32 (m.header q ++ m.payload)).toNat

theorem Msg.octets_eq (m : Msg) (q : Word) : m.octets q = m.header q ++ m.body q := List.append_assoc _ _ _

theorem Msg.header_eq (m : Msg) (q : Word) : m.header q = m.lead ++ (leBytes 2 m.payload.length ++ (leBytes 4 q.toNat ++
    ([BitVec.ofNat 8 m.src, BitVec.ofNat 8 m.tgt] ++ (leBytes 2 m.op ++ leBytes 4 m.tag.toNat)))) := by
  simp only [Msg.header, Msg.lead, List.append_assoc]

@[simp] theorem Msg.length_header (m : Msg) (q : Word) : (m.header q).length = 16 := by simp [Msg.header]

theorem Msg.length_octets (m : Msg) (q : Word) : (m.octets q).length = 20 + m.payload.length := by
  simp [Msg.octets]
  omega

/-- The fields of the header, each at its offset. -/
theorem Msg.leAt_octets (m : Msg) (q : Word) : leAt (m.octets q) 0 1 = m.cls % 16 + 16 ∧
    leAt (m.octets q) 1 1 = ofBool m.last + 2 * ofBool m.reply + 4 * ofBool m.err ∧ leAt (m.octets q) 2 2 = m.payload.length % 65536 ∧
    leAt (m.octets q) 4 4 = q.toNat ∧ leAt (m.octets q) 8 1 = m.src % 256 ∧ leAt (m.octets q) 9 1 = m.tgt % 256 ∧
    leAt (m.octets q) 10 2 = m.op % 65536 ∧ leAt (m.octets q) 12 4 = m.tag.toNat := by
  have hlast := ofBool_le_one m.last
  have hreply := ofBool_le_one m.reply
  have herr := ofBool_le_one m.err
  have hword : ∀ w : Word, leNat (leBytes 4 w.toNat) = w.toNat := fun w => by
    rw [leNat_leBytes]
    exact Nat.mod_eq_of_lt w.isLt
  have hlow : m.cls % 16 + 16 < 256 := by omega
  rw [Msg.octets_eq, Msg.header_eq]
  refine ⟨?_, ?_, leNat_leBytes 2 m.payload.length, hword q, ?_, ?_, leNat_leBytes 2 m.op, hword m.tag⟩
  · exact (leNat_cons_zero _).trans ((BitVec.toNat_ofNat _ _).trans (Nat.mod_eq_of_lt hlow))
  · exact (leNat_cons_zero _).trans ((BitVec.toNat_ofNat _ _).trans (Nat.mod_eq_of_lt (by omega)))
  · exact (leNat_cons_zero _).trans (BitVec.toNat_ofNat _ _)
  · exact (leNat_cons_zero _).trans (BitVec.toNat_ofNat _ _)

theorem Msg.payloadOf_octets (m : Msg) (q : Word) (h : m.payload.length ≤ 2048) : payloadOf (m.octets q) = m.payload := by
  obtain ⟨_, _, hlen, _⟩ := m.leAt_octets q
  rw [payloadOf, hlen, Nat.mod_eq_of_lt (by omega), slice, Msg.octets_eq, List.drop_left' (m.length_header q), Msg.body, List.take_left' rfl]

theorem Msg.leAt_crc (m : Msg) (q : Word) :
    leAt (m.octets q) ((m.octets q).length - 4) 4 = (crc32 (m.header q ++ m.payload)).toNat := by
  have hl : (m.octets q).length - 4 = (m.header q ++ m.payload).length := by
    rw [Msg.length_octets, List.length_append, Msg.length_header]
    omega
  rw [leAt, slice, hl, Msg.octets, List.drop_left' rfl, List.take_of_length_le (by rw [length_leBytes]), leNat_leBytes]
  exact Nat.mod_eq_of_lt (crc32 _).isLt

theorem Msg.framed_octets (m : Msg) (q : Word) (h : m.payload.length ≤ 2048) : framed (m.octets q) = true := by
  obtain ⟨hcls, hflags, hlen, _⟩ := m.leAt_octets q
  have hlast := ofBool_le_one m.last
  have hreply := ofBool_le_one m.reply
  have herr := ofBool_le_one m.err
  have htake : (m.octets q).take ((m.octets q).length - 4) = m.header q ++ m.payload := by
    rw [Msg.length_octets, Msg.octets]
    apply List.take_left'
    rw [List.length_append, Msg.length_header]
    omega
  rw [Nat.mod_eq_of_lt (by omega)] at hlen
  rw [framed, htake, Msg.leAt_crc]
  simp only [hcls, hflags, hlen, Msg.length_octets, Bool.and_eq_true, beq_iff_eq, decide_eq_true_eq, BitVec.ofNat_toNat,
    BitVec.setWidth_eq, and_true]
  omega

/-- Settles O12: the four cases of SEQ, the header read back field by field, and the discard of an early message. -/
theorem messagesAreTakenInOrder : Obligations.MessagesAreTakenInOrder := by
  unfold Obligations.MessagesAreTakenInOrder
  refine ⟨fun s cls h act => ⟨State.receive_inTurn act, State.receive_of_down act, State.receive_of_ahead act, State.receive_of_behind act⟩,
    ?octets, fun s cls h act hu he hc hs =>
      (State.receive_of_early act hu he hc hs).trans (s.discardEarly_took cls h)⟩
  case octets =>
    intro m q hcls hsrc htgt hop hlen
    obtain ⟨hb0, hb1, hb2, hb4, hb8, hb9, hb10, hb12⟩ := m.leAt_octets q
    have hlast := ofBool_le_one m.last
    have hreply := ofBool_le_one m.reply
    have herr := ofBool_le_one m.err
    refine ⟨m.framed_octets q hlen, m.length_octets q, ?class_, ?op, m.payloadOf_octets q hlen, ?header, ?lead⟩
    case class_ =>
      rw [clsOf, hb0]
      omega
    case op =>
      rw [opOf, hb10]
      omega
    case header =>
      have hbit : bit (ofBool m.last + 2 * ofBool m.reply + 4 * ofBool m.err) 0 = m.last := bit_eq_of_digit (by omega)
      simp only [hdrOf, hb1, hb4, hb8, hb9, hb12, hbit, Nat.mod_eq_of_lt hsrc, Nat.mod_eq_of_lt htgt, BitVec.ofNat_toNat, BitVec.setWidth_eq]
    case lead =>
      rw [Msg.octets_eq, Msg.header_eq]
      have htake : ∀ r : Bytes, (m.lead ++ r).take 2 = m.lead := fun _ => rfl
      rw [List.append_assoc, htake, Msg.lead, List.map_cons, List.map_cons, List.map_nil, BitVec.toNat_ofNat, BitVec.toNat_ofNat,
        Nat.mod_eq_of_lt (by omega : m.cls % 16 + 16 < 2 ^ 8), Nat.mod_eq_of_lt hcls, Nat.add_comm,
        Nat.mod_eq_of_lt (by omega : ofBool m.last + 2 * ofBool m.reply + 4 * ofBool m.err < 2 ^ 8)]

/-! ## An acknowledgement on a table that has lost its form -/

/-- A register table out of order: LCL_MB_STAT of platform 0 stands before XNG_STATUS.TRAIN and hides it, until its entry is erased. Instance 1
runs there and has a message out, and so has class 5. -/
def hiddenTrain : State :=
  (((busy.setCtx 8 { ClsTx.init with q := [ent 8 true 0] }).setCtx 5 { ClsTx.init with q := [ent 5 true 0] }).setInst 1
    { InstS.init with outbox := [{ op := 9, data := [5] }] }).setRegs
      [(F.XNG_STATUS_UP.key, 1), ((F.LCL_MB_STAT_OUTCNT 0).key, 5), (F.XNG_STATUS_TRAIN.key, 1)]

/-- The first acknowledgement empties the outbound ring and with it uncovers TRAIN: alone it leaves a link that takes no second one. -/
theorem hiddenTrain_acknowledged :
    ((after (.acknowledgement [(5, 0)]) (after (.acknowledgement [(8, 0)]) hiddenTrain)).ctx 5).q.length = 1 ∧
    ((after (.acknowledgement [(8, 0), (5, 0)]) hiddenTrain).ctx 5).q.length = 0 := by decide +kernel

theorem exec_eq_after (c : Instr) (s : State) : exec c s = .next (after c s) := by
  obtain ⟨t, ht, _⟩ := exec_keeps c s
  simp only [after, ht]

/-- Refutes O13: its clause on several entries is not limited to sound states, and where the register table is out of order the first entry can
make TRAIN read 1. -/
theorem not_acknowledgementsResendsAndRetrains : ¬ Obligations.AcknowledgementsResendsAndRetrains := by
  unfold Obligations.AcknowledgementsResendsAndRetrains
  intro h
  obtain ⟨hs, _⟩ := h
  obtain ⟨_, _, _, _, _, _, hentries, _⟩ := hs hiddenTrain 0 0
  have heq := hentries (8, 0) [(5, 0)] _ (exec_eq_after _ _)
  rw [exec_eq_after, exec_eq_after] at heq
  have hlen := congrArg (fun o => match o with
    | Host.Outcome.next t => (t.ctx 5).q.length
    | _ => 0) heq
  obtain ⟨hone, hnone⟩ := hiddenTrain_acknowledged
  exact absurd (hnone.symm.trans (hlen.trans hone)) (by decide)

end Sys2Proof.Machine

/-!
PROOFS. Which class of the Yevas link sends, and what a sending leaves (R32, R35, R40); configuration messages and malformed messages (R37,
R38, R420).
-/
namespace Sys2Proof.Machine

/-! ## The class that sends (R32) -/

/-- The first element that satisfies a predicate heads the elements that do. -/
theorem head?_filter_of_first {p : Nat → Bool} {c : Nat} {l : List Nat} (hc : c ∈ l) (hp : p c = true)
    (hd : ∀ d ∈ l.takeWhile (fun x => x != c), p d = false) : (l.filter p).head? = some c := by
  induction l with
  | nil => cases hc
  | cons x xs ih =>
    by_cases hx : x = c
    · subst hx
      simp [hp]
    · have hmem : c ∈ xs := (List.mem_cons.mp hc).resolve_left (Ne.symm hx)
      have htake : (x :: xs).takeWhile (fun y => y != c) = x :: xs.takeWhile (fun y => y != c) := by simp [hx]
      rw [htake] at hd
      have hpx : ¬ p x = true := by simp [hd x List.mem_cons_self]
      rw [List.filter_cons_of_neg hpx]
      exact ih hmem (fun d hmd => hd d (List.mem_cons_of_mem _ hmd))

/-- The class of `o` and `c` that has waited longer. -/
def State.elder (s : State) (o : Option Nat) (c : Nat) : Option Nat := match o with
  | none => some c
  | some d => if s.waitsSince c < s.waitsSince d then some c else some d

theorem State.longest_eq_foldl (s : State) (l : List Nat) : s.longest l = l.foldl s.elder none := rfl

theorem State.foldl_elder_of_eldest {s : State} {c : Nat} {l : List Nat} (h : ∀ d ∈ l, d ≠ c → s.waitsSince c < s.waitsSince d) :
    l.foldl s.elder (some c) = some c := by
  induction l with
  | nil => rfl
  | cons x xs ih =>
    have hstep : s.elder (some c) x = some c := by
      by_cases hx : x = c
      · subst hx
        simp [State.elder]
      · have := h x List.mem_cons_self hx
        simp only [State.elder]
        exact if_neg (by omega)
    rw [List.foldl_cons, hstep]
    exact ih (fun d hd => h d (List.mem_cons_of_mem _ hd))

theorem State.foldl_elder_of_mem {s : State} {c : Nat} {l : List Nat} (hc : c ∈ l)
    (h : ∀ d ∈ l, d ≠ c → s.waitsSince c < s.waitsSince d) {o : Option Nat} (ho : ∀ d ∈ o, d ≠ c → s.waitsSince c < s.waitsSince d) :
    l.foldl s.elder o = some c := by
  induction l generalizing o with
  | nil => cases hc
  | cons x xs ih =>
    have hxs : ∀ d ∈ xs, d ≠ c → s.waitsSince c < s.waitsSince d := fun d hd => h d (List.mem_cons_of_mem _ hd)
    rw [List.foldl_cons]
    by_cases hx : x = c
    · subst hx
      have hstep : s.elder o x = some x := by
        cases o with
        | none => rfl
        | some d =>
          by_cases hd : d = x
          · subst hd
            simp [State.elder]
          · simp only [State.elder, if_pos (ho d rfl hd)]
      rw [hstep]
      exact State.foldl_elder_of_eldest hxs
    · refine ih ((List.mem_cons.mp hc).resolve_left (Ne.symm hx)) hxs ?_
      have hlt := h x List.mem_cons_self hx
      cases o with
      | none =>
        rintro d ⟨⟩ -
        exact hlt
      | some e =>
        intro d hd hne
        simp only [State.elder] at hd
        split at hd
        · cases hd
          exact hlt
        · cases hd
          exact ho e rfl hne

/-- Strict priority, and age at a free turn. -/
theorem State.nextClass_of_turn {s : State} {c : Nat} (hc : c ∈ sendRanks) (hw : s.waits c = true)
    (h : s.link.sends < 7 ∧ (∀ d ∈ sendRanks.takeWhile (fun x => x != c), s.waits d = false) ∨
      s.link.sends = 7 ∧ ∀ d ∈ sendRanks, d ≠ c → s.waits d = true → s.waitsSince c < s.waitsSince d) : s.nextClass = some c := by
  unfold State.nextClass
  obtain ⟨hlt, hfirst⟩ | ⟨heq, hage⟩ := h
  · rw [if_neg (by omega)]
    exact head?_filter_of_first hc hw hfirst
  · rw [if_pos heq, State.longest_eq_foldl]
    refine State.foldl_elder_of_mem (List.mem_filter.mpr ⟨hc, hw⟩) (fun d hd hne => ?_) (fun d hd => by cases hd)
    obtain ⟨hmem, hwd⟩ := List.mem_filter.mp hd
    exact hage d hmem hne hwd

theorem State.nextClass_of_none {s : State} (h : ∀ c ∈ sendRanks, s.waits c = false) : s.nextClass = none := by
  have hempty : sendRanks.filter s.waits = [] := List.filter_eq_nil_iff.mpr (fun c hc => by simp [h c hc])
  unfold State.nextClass
  rw [hempty]
  split <;> rfl

/-! ## What a sending leaves (R32, R35) -/

theorem splitUnsent_append {b r : List TxEnt} {e : TxEnt} (hb : ∀ x ∈ b, x.sent = true) (he : e.sent = false) :
    splitUnsent (b ++ e :: r) = some (b, e, r) := by
  induction b with
  | nil => simp [splitUnsent, he]
  | cons x b ih =>
    have hx := hb x List.mem_cons_self
    simp only [List.cons_append, splitUnsent, hx, if_true, ih (fun y hy => hb y (List.mem_cons_of_mem _ hy))]

theorem State.packEvents_of_unsent {s : State} {e : TxEnt} (hm : e ∈ (s.ctx 2).q) (he : e.sent = false) : s.packEvents = s := by
  have hany : (s.ctx 2).q.any (fun e => !e.sent) = true := List.any_eq_true.mpr ⟨e, hm, by simp [he]⟩
  simp [State.packEvents, hany]

theorem State.waits_of_unsent {s : State} {c : Nat} {e : TxEnt} (hm : e ∈ (s.ctx c).q) (he : e.sent = false) : s.waits c = true := by
  have hany : (s.ctx c).q.any (fun e => !e.sent) = true := List.any_eq_true.mpr ⟨e, hm, by simp [he]⟩
  simp [State.waits, hany]

theorem exec_linkMessageSent (s : State) : exec .linkMessageSent s = execLinkMessageSent s := rfl

theorem execLinkMessageSent_of_class {s : State} {c : Nat} (hu : s.linkUp = true) (hc : s.nextClass = some c) :
    execLinkMessageSent s = .next (s.sendClass c) := by
  simp only [execLinkMessageSent, hu, hc, Bool.not_true, Bool.false_eq_true, if_false]

/-- The state in which a resending has been counted. -/
def State.countResent (s : State) (e : TxEnt) : State := if e.again then s.count F.XNG_ERRCNT_RESENT else s

theorem State.offerEvent_sends (s : State) (e : Event) : (s.offerEvent e).link.sends = s.link.sends := by
  unfold State.offerEvent
  split <;> rfl

theorem State.raiseOn_sends (s : State) (b code i arg : Nat) : (s.raiseOn b code i arg).link.sends = s.link.sends := by
  have h : ∀ e, (s.logAndOffer e).link.sends = s.link.sends := fun e => by
    rw [State.logAndOffer, State.offerEvent_sends, State.keepEvent_link]
  obtain he | ⟨hlt, hend⟩ := s.raiseOn_cases b code i arg
  · rw [he, h]
  · rw [State.raiseOn_of_last hlt hend, State.keepEvent_link, h]

theorem State.countN_sends (s : State) (f : Fld) (n : Nat) : (s.countN f n).link.sends = s.link.sends := by
  obtain he | he := s.countN_cases f n <;> rw [he]
  · rfl
  · obtain ⟨c, hr⟩ | ⟨b, c, i, hr⟩ := (s.put f (Nat.min (s.get f + n) (2 ^ f.width - 1))).raiseSat_cases f.addr <;> rw [hr]
    · rfl
    · exact State.raiseOn_sends _ b c i _

theorem State.countResent_sends (s : State) (e : TxEnt) : (s.countResent e).link.sends = s.link.sends := by
  unfold State.countResent
  split
  · exact s.countN_sends _ 1
  · rfl

/-- The entry after its sending. -/
def TxEnt.onLine (e : TxEnt) : TxEnt := { e with sent := true, again := false, resends := if e.again then e.resends + 1 else e.resends }

/-- The message `e` of class `c`, of what the class held before (`b`) and behind it (`r`), is on the line. -/
def State.lineTaken (s : State) (c : Nat) (b : List TxEnt) (e : TxEnt) (r : List TxEnt) : State :=
  let w := s.countResent e
  let v := w.setCtx c { s.ctx c with q := if c = 0 then b ++ r else b ++ e.onLine :: r, since := w.link.order }
  v.setLink { v.link with line := some e.onLine, wire := e.msg.octets e.seq, sends := (s.link.sends + 1) % 8, order := w.link.order + 1 }

/-- A class sends its first message that has not been sent. -/
theorem State.sendClass_of_unsent {s : State} {c : Nat} {b r : List TxEnt} {e : TxEnt} (hq : (s.ctx c).q = b ++ e :: r)
    (hb : ∀ x ∈ b, x.sent = true) (he : e.sent = false) (hs : s.link.sends ≤ 7) :
    s.sendClass c = if e.again then s.lineTaken c b e r else (s.lineTaken c b e r).hostTakes e.msg := by
  have hpack : (if c = 2 then s.packEvents else s) = s := by
    split
    next h2 =>
      subst h2
      exact State.packEvents_of_unsent (by rw [hq]; simp) he
    next => rfl
  have hsends : (if (s.countResent e).link.sends = 7 then 0 else (s.countResent e).link.sends + 1) = (s.link.sends + 1) % 8 := by
    rw [State.countResent_sends]
    split <;> omega
  have hcons : b ++ [e.onLine] ++ r = b ++ e.onLine :: r := by simp
  unfold State.sendClass
  simp only [hpack, hq, splitUnsent_append hb he]
  unfold State.lineTaken
  rw [← hsends, ← hcons]
  rfl

/-- Settles O14: the class by rank or by age, and in it the first message that has not been sent. -/
theorem linkSendsByPriority : Obligations.LinkSendsByPriority := by
  unfold Obligations.LinkSendsByPriority
  intro s hu
  refine ⟨fun c b e r hq hb he hc hturn => ?sends, fun hnone => ?idle⟩
  case sends =>
    have hm : e ∈ (s.ctx c).q := by simp [hq]
    have hnext := State.nextClass_of_turn hc (State.waits_of_unsent hm he) hturn
    have hle : s.link.sends ≤ 7 := by
      obtain ⟨h, _⟩ | ⟨h, _⟩ := hturn <;> omega
    rw [exec_linkMessageSent, execLinkMessageSent_of_class hu hnext, State.sendClass_of_unsent hq hb he hle]
    rfl
  case idle =>
    simp only [exec_linkMessageSent, execLinkMessageSent, State.nextClass_of_none hnone, ite_self]

/-! ## Configuration messages (R37, R38) -/

theorem exec_configurationWrite (h : Hdr) (w : List (Word × Word)) (s : State) :
    exec (.configurationWrite h w) s = execConfigurationWrite h w s := rfl

theorem exec_configurationRead (h : Hdr) (l : List Word) (s : State) : exec (.configurationRead h l) s = execConfigurationRead h l s := rfl

theorem State.cfgRefused_cons (s : State) (src : Nat) (e : Word × Word) (l : List (Word × Word)) :
    s.cfgRefused src (e :: l) = if s.cfgCheck src true e.1 = 0 then s.cfgRefused src l else some (s.cfgCheck src true e.1, e.1.toNat) := by
  unfold State.cfgRefused
  rw [List.map_cons]
  split
  next h => rw [List.filter_cons_of_neg (by simp [h])]
  next h => rw [List.filter_cons_of_pos (by simp [h]), List.head?_cons]

/-- Entries that are allowed do not hide what follows them. -/
theorem State.cfgRefused_append {s : State} {src : Nat} {p : List (Word × Word)} (hp : ∀ x ∈ p, s.cfgCheck src true x.1 = 0)
    (l : List (Word × Word)) : s.cfgRefused src (p ++ l) = s.cfgRefused src l := by
  induction p with
  | nil => rfl
  | cons x p ih =>
    rw [List.cons_append, State.cfgRefused_cons, if_pos (hp x List.mem_cons_self)]
    exact ih (fun y hy => hp y (List.mem_cons_of_mem _ hy))

theorem execConfigurationWrite_of_inTurn {s : State} {h : Hdr} (w : List (Word × Word)) (hi : (s.noteWrite h).inTurn 3 h = true) :
    execConfigurationWrite h w s = .next (
      if w = [] ∨ 256 < w.length then ((s.noteWrite h).took 3 h).malformed 3 0x0001
      else match ((s.noteWrite h).took 3 h).cfgRefused h.src w with
        | some (code, a) => ((s.noteWrite h).took 3 h).refuseCfg code a
        | none => ((s.noteWrite h).took 3 h).cfgIssue h.seq w) :=
  congrArg Host.Outcome.next (State.receive_inTurn _ hi)

theorem execConfigurationWrite_issued {s : State} {h : Hdr} {w : List (Word × Word)} (hi : (s.noteWrite h).inTurn 3 h = true) (hw : w ≠ [])
    (hl : w.length ≤ 256) (hok : ∀ e ∈ w, ((s.noteWrite h).took 3 h).cfgCheck h.src true e.1 = 0) :
    execConfigurationWrite h w s = .next (((s.noteWrite h).took 3 h).cfgIssue h.seq w) := by
  have hnone : ((s.noteWrite h).took 3 h).cfgRefused h.src w = none := by
    rw [← List.append_nil w, State.cfgRefused_append hok]
    rfl
  rw [execConfigurationWrite_of_inTurn w hi, if_neg (by simp [hw, hl]), hnone]

theorem execConfigurationWrite_refused {s : State} {h : Hdr} {p r : List (Word × Word)} {e : Word × Word}
    (hi : (s.noteWrite h).inTurn 3 h = true) (hl : (p ++ e :: r).length ≤ 256)
    (hok : ∀ x ∈ p, ((s.noteWrite h).took 3 h).cfgCheck h.src true x.1 = 0) (he : ((s.noteWrite h).took 3 h).cfgCheck h.src true e.1 ≠ 0) :
    execConfigurationWrite h (p ++ e :: r) s =
      .next (((s.noteWrite h).took 3 h).refuseCfg (((s.noteWrite h).took 3 h).cfgCheck h.src true e.1) e.1.toNat) := by
  rw [execConfigurationWrite_of_inTurn _ hi, if_neg (not_or.mpr ⟨by simp, Nat.not_lt.mpr hl⟩), State.cfgRefused_append hok,
    State.cfgRefused_cons, if_neg he]

theorem State.cfgCheck_foreign {src : Nat} (h : src ≠ 0) (s : State) (wr : Bool) (x : Word) : s.cfgCheck src wr x = 6 := if_pos h

theorem State.cfgCheck_unaligned {x : Word} (h : x.toNat % 4 ≠ 0) (s : State) (wr : Bool) : s.cfgCheck 0 wr x = 3 := by
  simp [State.cfgCheck, h]

theorem State.cfgCheck_window {x : Word} (h : x.toNat % 4 = 0) (h1 : 0x20000000 ≤ x.toNat) (h2 : x.toNat < 0x21800000) (s : State) (wr : Bool) :
    s.cfgCheck 0 wr x = 4 := by
  simp [State.cfgCheck, h, inWindow, h1, h2]

theorem execConfigurationReadServed_of_passed {s : State} {t : Nat} {r : CfgRead} {rest : List CfgRead}
    (hr : (s.advance t).link.reads = r :: rest) (hp : (s.advance t).fencePassed r = true) :
    let x := ((s.advance t).setLink { (s.advance t).link with reads := rest }).readAll r.h.src r.addrs
    execConfigurationReadServed t s =
      .next (x.1.send (replyMsg 4 0x0001 r.h (x.2.2.any (fun st => st != 0)) (x.2.1 ++ x.2.2.map (BitVec.ofNat 8)))) := by
  simp only [execConfigurationReadServed, hr, hp, Bool.not_true, Bool.false_eq_true, if_false]

theorem execConfigurationReadServed_of_fenced {s : State} {t : Nat} {r : CfgRead} {rest : List CfgRead}
    (hr : (s.advance t).link.reads = r :: rest) (hp : (s.advance t).fencePassed r = false) :
    execConfigurationReadServed t s = .next (s.advance t) := by
  simp only [execConfigurationReadServed, hr, hp, Bool.not_false, if_true]

theorem execConfigurationReadServed_of_none {s : State} {t : Nat} (hr : (s.advance t).link.reads = []) :
    execConfigurationReadServed t s = .next (s.advance t) := by
  simp only [execConfigurationReadServed, hr]

theorem State.readAll_allowed {s : State} {src : Nat} {x : Word} (h : s.cfgCheck src false x = 0) :
    s.readAll src [x] = ((s.readWord x.toNat).1, leBytes 4 (s.readWord x.toNat).2.toNat, [0]) := by
  simp [State.readAll, h]

theorem State.readAll_refused {s : State} {src : Nat} {x : Word} (h : s.cfgCheck src false x ≠ 0) :
    s.readAll src [x] = (s.put F.XNG_REFUSED_LASTCODE (s.cfgCheck src false x), [0, 0, 0, 0], [s.cfgCheck src false x]) := by
  simp [State.readAll, h, zeros]

/-! ## Malformed messages (R35, R371, R420) -/

theorem execMalformedMessage_of_class {s : State} {cls : Nat} {h : Hdr} (op : Nat) (h0 : cls ≠ 0) (h3 : cls ≠ 3) (hD : cls ≠ 0xD)
    (hi : s.inTurn cls h = true) : execMalformedMessage cls op h s = .next ((s.took cls h).malformed cls op) := by
  rw [execMalformedMessage, if_neg h0, if_neg hD, if_neg h3, State.receive_inTurn _ hi]

theorem execMalformedMessage_of_write {s : State} {h : Hdr} (op : Nat) (hi : (s.noteWrite h).inTurn 3 h = true) :
    execMalformedMessage 3 op h s = .next (((s.noteWrite h).took 3 h).malformed 3 op) := by
  rw [execMalformedMessage, if_neg (by decide), if_neg (by decide), if_pos rfl, State.receive_inTurn _ hi]

theorem execMalformedMessage_of_control {s : State} (op : Nat) (h : Hdr) (hu : s.linkUp = true) :
    execMalformedMessage 0 op h s = .next (s.count F.XNG_ERRCNT_CRC) := by
  rw [execMalformedMessage, if_pos rfl, if_pos hu]

/-- A request of the manager that comes in its turn is served. -/
theorem State.vltRequest_of_manager {s : State} {h : Hdr} (op : Nat) (lenOk : Bool) (act : State → State) (hi : s.inTurn 0xD h = true)
    (hsrc : h.src = 0) : s.vltRequest op h lenOk act = (s.took 0xD h).vltServe op h lenOk act := by
  rw [State.vltRequest, State.vltTake, State.receive_inTurn _ hi, if_neg (by omega)]

theorem execMalformedMessage_of_vault {s : State} {h : Hdr} (op : Nat) (hi : s.inTurn 0xD h = true) (hsrc : h.src = 0) :
    execMalformedMessage 0xD op h s = .next ((s.took 0xD h).vltReply op h 0x02 []) := by
  rw [execMalformedMessage, if_neg (by decide), if_pos rfl, State.vltRequest_of_manager op false _ hi hsrc]
  rfl

/-- Settles O16: a write and a read in their turn, entry by entry, the fence of a read, and the classes of a malformed message. -/
theorem configurationMessages : Obligations.ConfigurationMessages := by
  unfold Obligations.ConfigurationMessages
  intro s h w l
  refine ⟨?issued, ?first, ?refused, ?check, ?shape, ?waits, ?readShape, ?served, ?values, ?none_, ?class_, ?write, ?control, ?vault, ?counted⟩
  case issued =>
    intro hi hw hl hok
    rw [exec_configurationWrite, execConfigurationWrite_issued hi hw hl hok]
  case first =>
    intro u e r hk
    have hcond : (u.power.kind.isNone || u.power.kind == some .b) = true := by
      obtain h | h := hk <;> rw [h] <;> rfl
    unfold State.cfgIssue
    rw [List.foldl_cons, if_pos hcond]
  case refused =>
    rintro p e r rfl hi hl hok he
    rw [exec_configurationWrite, execConfigurationWrite_refused hi hl hok he]
    rfl
  case check =>
    intro u src wr x
    exact ⟨fun hne => State.cfgCheck_foreign hne u wr x, fun ha => State.cfgCheck_unaligned ha u wr,
      fun ha h1 h2 => State.cfgCheck_window ha h1 h2 u wr⟩
  case shape =>
    intro hi hw
    rw [exec_configurationWrite, execConfigurationWrite_of_inTurn w hi, if_pos hw]
  case waits =>
    intro hi hl h256
    rw [exec_configurationRead, execConfigurationRead, State.receive_inTurn _ hi, if_neg (by simp [hl, h256])]
  case readShape =>
    intro hi hl
    rw [exec_configurationRead, execConfigurationRead, State.receive_inTurn _ hi, if_pos hl]
  case served =>
    intro t r rest hr
    exact ⟨execConfigurationReadServed_of_passed hr, execConfigurationReadServed_of_fenced hr⟩
  case values =>
    intro u src x
    exact ⟨State.readAll_allowed, State.readAll_refused⟩
  case none_ => exact fun t ht => execConfigurationReadServed_of_none ht
  case class_ => exact fun cls op h0 h3 hD hi => execMalformedMessage_of_class op h0 h3 hD hi
  case write => exact fun op hi => execMalformedMessage_of_write op hi
  case control => exact fun op hu => execMalformedMessage_of_control op h hu
  case vault => exact fun op hi hsrc => execMalformedMessage_of_vault op hi hsrc
  case counted => exact fun u cls op => rfl

end Sys2Proof.Machine

/-!
PROOFS. What leaves the supervisor alone: its record and the registers of its block (R62) stay as they are under every operation of the units
named here.
-/
namespace Sys2Proof.Machine

/-- The supervisor's record stays as it is, and of a sound state also every register below those of the loader; soundness is kept. -/
structure Apart (s t : State) : Prop where
  power : t.power = s.power
  sound : s.Sound → t.Sound
  get : s.Sound → ∀ f : Fld, f.key < 0x01010000 * 64 → t.get f = s.get f

theorem Apart.refl (s : State) : Apart s s := ⟨rfl, id, fun _ _ _ => rfl⟩

theorem Apart.trans {s t u : State} (h : Apart s t) (k : Apart t u) : Apart s u :=
  ⟨k.power.trans h.power, fun hs => k.sound (h.sound hs), fun hs f hf => (k.get (h.sound hs) f hf).trans (h.get hs f hf)⟩

/-- Setting a record other than the registers, memory, the log and the supervisor's. -/
theorem Apart.of_records {s t u : State} (h : Apart s t) (hp : u.power = t.power) (hr : u.regs = t.regs) (hm : u.mem = t.mem) (hl : u.log = t.log) :
    Apart s u :=
  ⟨hp.trans h.power, fun hs => by
    have ht := h.sound hs
    unfold State.Sound at ht ⊢
    rwa [hm, hr, hl], fun hs f hf => (State.get_of_regs hr f).trans (h.get hs f hf)⟩

theorem Fld.key_ge {f : Fld} (h : 0x01010000 ≤ f.addr) : 0x01010000 * 64 ≤ f.key := by
  unfold Fld.key
  omega

theorem Apart.put {s t : State} (h : Apart s t) (f : Fld) (v : Nat) (hf : 0x01010000 ≤ f.addr) : Apart s (t.put f v) :=
  ⟨h.power, fun hs => State.put_sound (h.sound hs) f v, fun hs g hg => by
    have hge := Fld.key_ge hf
    rw [State.get_put_ne (h.sound hs).rising f g v (by omega), h.get hs g hg]⟩

theorem Apart.putB {s t : State} (h : Apart s t) (f : Fld) (b : Bool) (hf : 0x01010000 ≤ f.addr) : Apart s (t.putB f b) := h.put f _ hf

theorem Apart.foldl {α : Type} {f : State → α → State} (hf : ∀ s x, Apart s (f s x)) {s t : State} (h : Apart s t) (l : List α) :
    Apart s (l.foldl f t) := by
  induction l generalizing t with
  | nil => exact h
  | cons x l ih => exact ih (h.trans (hf t x))

theorem Apart.each {α : Type} {f : State → α → State} (hf : ∀ s x, Apart s (f s x)) {s t : State} (h : Apart s t) (l : List α) :
    Apart s (t.each l f) := Apart.foldl hf h l

theorem Apart.ite {s t u : State} {c : Prop} [Decidable c] (h : Apart s t) (k : Apart s u) : Apart s (if c then t else u) := by
  split <;> assumption

/-! ## Events, counters, messages -/

theorem State.SameButLog.power {s t : State} (h : s.SameButLog t) : t.power = s.power := by
  rw [h]
  rfl

theorem Apart.raiseOn {s t : State} (h : Apart s t) (b code i arg : Nat) : Apart s (t.raiseOn b code i arg) :=
  ⟨(State.SameButLog.power (t.sameButLog_raiseOn b code i arg)).trans h.power, fun hs => ((State.raiseOn_keeps (Keeps.refl t) b code i arg).2.2 (h.sound hs)).1, fun hs f hf => by
    rw [State.regsBut_raiseOn (h.sound hs) b code i arg f ?_, h.get hs f hf]
    intro g hg
    rw [List.mem_singleton.mp hg]
    have : F.XNG_REFUSED_EVLOST.key = 0x01E00008 * 64 + 16 := rfl
    omega⟩

theorem Apart.raiseI {s t : State} (h : Apart s t) (code i arg : Nat) : Apart s (t.raiseI code i arg) := h.raiseOn _ code i arg

theorem Apart.raise {s t : State} (h : Apart s t) (code arg : Nat) : Apart s (t.raise code arg) := h.raiseOn _ code 0xFF arg

theorem Apart.raiseSat {s t : State} (h : Apart s t) (a : Nat) : Apart s (t.raiseSat a) := by
  obtain ⟨c, he⟩ | ⟨b, c, i, he⟩ := t.raiseSat_cases a <;> rw [he]
  · exact h.of_records rfl rfl rfl rfl
  · exact h.raiseOn b c i a

theorem Apart.countN {s t : State} (h : Apart s t) (f : Fld) (n : Nat) (hf : 0x01010000 ≤ f.addr) : Apart s (t.countN f n) := by
  obtain he | he := t.countN_cases f n <;> rw [he]
  · exact h.put f _ hf
  · exact (h.put f _ hf).raiseSat f.addr

theorem Apart.count {s t : State} (h : Apart s t) (f : Fld) (hf : 0x01010000 ≤ f.addr) : Apart s (t.count f) := h.countN f 1 hf

/-- Sending changes the link's record alone. -/
theorem State.send_eq_setLink (s : State) (m : Msg) : s.send m = s.setLink (s.send m).link := by
  unfold State.send
  split
  · rfl
  · split <;> rfl

theorem Apart.send {s t : State} (h : Apart s t) (m : Msg) : Apart s (t.send m) := by
  rw [t.send_eq_setLink m]
  exact h.of_records rfl rfl rfl rfl

theorem Apart.setLink {s t : State} (h : Apart s t) (v : LinkS) : Apart s (t.setLink v) := h.of_records rfl rfl rfl rfl

theorem Apart.setAcq {s t : State} (h : Apart s t) (v : AcqS) : Apart s (t.setAcq v) := h.of_records rfl rfl rfl rfl

theorem Apart.setMar {s t : State} (h : Apart s t) (v : MarS) : Apart s (t.setMar v) := h.of_records rfl rfl rfl rfl

theorem Apart.zeroMem {s t : State} (h : Apart s t) (lo hi : Nat) : Apart s (t.zeroMem lo hi) :=
  ⟨h.power, fun hs => ((State.zeroMem_keeps (Keeps.refl t) lo hi).2.2 (h.sound hs)).1, h.get⟩

/-! ## The trip drives -/

theorem tripAddr_ge (d : Nat) : 0x01010000 ≤ 0x01118000 + 0x4 * d := by omega

theorem Apart.openTrip {s t : State} (h : Apart s t) (d : Nat) : Apart s (t.openTrip d) :=
  (h.put (F.PRT_TRIP_ON d) 0 (tripAddr_ge d)).of_records rfl rfl rfl rfl

theorem Apart.driveTrip {s t : State} (h : Apart s t) (d : Nat) : Apart s (t.driveTrip d) := by
  have hforced := fun v => h.put (F.PRT_TRIP_FORCED d) v (tripAddr_ge d)
  unfold State.driveTrip
  split
  · exact h
  · split
    · exact (hforced 1).openTrip d
    · dsimp only
      split
      · exact (hforced 0).openTrip d
      · split
        · split
          · exact hforced 0
          · exact ((hforced 0).put (F.PRT_TRIP_ON d) 1 (tripAddr_ge d)).of_records rfl rfl rfl rfl
        · split
          · exact (hforced 0).openTrip d
          · split
            · exact hforced 0
            · exact (hforced 0).openTrip d

theorem Apart.driveTrips {s t : State} (h : Apart s t) : Apart s t.driveTrips := (h.driveTrip 0).driveTrip 1

/-! ## Recorders -/

theorem recAddr_ge (r : Nat) : 0x01010000 ≤ 0x01800428 + 0x40 * r := by omega

theorem Apart.setRecd {s t : State} (h : Apart s t) (r : Nat) (v : RecS) : Apart s (t.setRecd r v) := h.of_records rfl rfl rfl rfl

theorem Apart.startExport {s t : State} (h : Apart s t) (r : Nat) : Apart s (t.startExport r) := by
  unfold State.startExport
  split
  · exact h
  · exact (Apart.foldl (fun u m => (Apart.refl u).send m) h _).setRecd r _

theorem Apart.reexport {s t : State} (h : Apart s t) : Apart s t.reexport := by
  have hsent : ∀ (u : State) (x : OldExp), Apart u (x.msgs.foldl State.send (u.count F.ACQ_CNT_REEXP)) := fun u x =>
    Apart.foldl (fun v m => (Apart.refl v).send m) ((Apart.refl u).count F.ACQ_CNT_REEXP (by decide)) _
  unfold State.reexport
  dsimp only
  refine Apart.each (fun u r => ?_) (Apart.each hsent (h.setAcq _) _) _
  split
  · exact Apart.refl u
  · exact Apart.ite (Apart.refl u) (((Apart.refl u).count F.ACQ_CNT_REEXP (by decide)).startExport r)

theorem Apart.closeChan {s t : State} (h : Apart s t) (r c : Nat) : Apart s (t.closeChan r c) := by
  unfold State.closeChan
  dsimp only
  split
  · exact h
  · exact h.setRecd r _

theorem Apart.closeAll {s t : State} (h : Apart s t) (r : Nat) : Apart s (t.closeAll r) :=
  Apart.foldl (fun u c => (Apart.refl u).closeChan r c) h _

theorem Apart.recTo {s t : State} (h : Apart s t) (r st : Nat) : Apart s (t.recTo r st) :=
  (h.put (F.ACQ_RSTAT_STATE r) st (recAddr_ge r)).setRecd r _

theorem Apart.enterHeld {s t : State} (h : Apart s t) (r : Nat) : Apart s (t.enterHeld r) := by
  have hcap : 0x01010000 ≤ (F.ACQ_RCAP_CAPTURE r).addr := by
    show _ ≤ 0x0180042C + 0x40 * r
    omega
  unfold State.enterHeld
  dsimp only
  split
  · exact h.closeAll r
  · refine Apart.putB (Apart.startExport (Apart.raiseI (Apart.put (Apart.putB (Apart.put (Apart.put (Apart.setRecd (h.closeAll r) r _)
      (F.ACQ_RCAP_CAPTURE r) _ hcap) (F.ACQ_RSTAT_STATE r) _ ?_) (F.ACQ_RSTAT_TRUNC r) _ ?_) (F.ACQ_RSTAT_EXPORT r) _ ?_) _ _ _) r)
      (F.ACQ_RSTAT_HOLDOFF r) _ ?_ <;> exact recAddr_ge r

theorem Apart.truncate {s t : State} (h : Apart s t) (r : Nat) (toIdle : Bool) : Apart s (t.truncate r toIdle) := by
  have hcnt : 0x01010000 ≤ (F.ACQ_RCNT2_TRUNCS r).addr := by
    show _ ≤ 0x01800438 + 0x40 * r
    omega
  unfold State.truncate
  split
  · exact h
  · exact Apart.ite ((((h.raiseI _ _ _).count (F.ACQ_RCNT2_TRUNCS r) hcnt).setRecd r _).enterHeld r) h

theorem Apart.recPark {s t : State} (h : Apart s t) : Apart s t.recPark :=
  Apart.each (fun u r => Apart.ite ((Apart.refl u).truncate r false) (Apart.ite (((Apart.refl u).recTo r 0).setRecd r _) (Apart.refl u))) h _

/-! ## Marshalling and Park -/

theorem Apart.showLoads {s t : State} (h : Apart s t) : Apart s t.showLoads := by
  unfold State.showLoads
  refine Apart.put (Apart.put (Apart.each (fun u p => ?_) h _) F.PFM_SPARE _ (by decide)) F.PFM_GSTAT_QMASK _ (by decide)
  have ha : 0x01010000 ≤ 0x01600400 + 0x4 * p := by omega
  exact (((Apart.refl u).put (F.MAR_PLOAD_RES p) _ ha).put (F.MAR_PLOAD_NINST p) _ ha).putB (F.MAR_PLOAD_HASA p) _ ha

theorem Apart.shuntOff {s t : State} (h : Apart s t) (x : Shunt) (res : Nat) : Apart s (t.shuntOff x res) := by
  have hm : 0x01010000 ≤ (F.MAR_IPLACE_MOVING x.inst).addr := by
    show _ ≤ 0x01601000 + 0x20 * x.inst
    omega
  have hl : 0x01010000 ≤ (F.MAR_ISHUNT_LASTRES x.inst).addr := by
    show _ ≤ 0x01601014 + 0x20 * x.inst
    omega
  have hset : Apart s (t.setMar { t.mar with shunt := none }) := h.of_records rfl rfl rfl rfl
  exact (((hset.put _ _ hm).put F.MAR_STATUS_SHUNTING _ (by decide)).put _ _ hl).showLoads

theorem Apart.shuntAbandon {s t : State} (h : Apart s t) (res : Nat) (event : Bool) : Apart s (t.shuntAbandon res event) := by
  unfold State.shuntAbandon
  split
  · exact h
  next x _ =>
    have ha : 0x01010000 ≤ (F.MAR_ISHUNT_ATTEMPTS x.inst).addr := by
      show _ ≤ 0x01601014 + 0x20 * x.inst
      omega
    have hg : 0x01010000 ≤ (F.MAR_IGUARD_STUCK x.inst).addr := by
      show _ ≤ 0x01601008 + 0x20 * x.inst
      omega
    have hcount := (h.shuntOff x res).count F.MAR_CNT_ABANDONS (by decide)
    have hevent : Apart s (if event then ((t.shuntOff x res).count F.MAR_CNT_ABANDONS).raiseI 0x0B03 x.inst x.target
        else (t.shuntOff x res).count F.MAR_CNT_ABANDONS) := Apart.ite (hcount.raiseI 0x0B03 x.inst x.target) hcount
    dsimp only
    exact (Apart.ite ((hevent.put _ _ ha).put _ 1 hg) (hevent.put _ _ ha)).setMar _

end Sys2Proof.Machine

/-!
PROOFS. Module resets and the link-control messages (R35, R36, R53, R55, R61, R132).
-/
namespace Sys2Proof.Machine

/-! ## What a reset shows in the supervisor's registers -/

/-- The state that a P, W or M reset leaves before it writes PWR_CAUSE: the units, the registers and the records start again. -/
def State.resetCore (s : State) (k : Kind) (src : Nat) : State :=
  let s := s.settleWrites.rootCut
  let s := if s.linkUp ∧ k ≠ .p then s.notice 0x0012 [BitVec.ofNat 8 (kindCode k), BitVec.ofNat 8 src, 0, 0] else s
  let s := s.hostNotReady
  let s := ((s.openTrip 0).openTrip 1)
  let s := (s.powerReset k).regsReset k
  let s := (((s.linkReset k).rbkReset).lgeReset k).memReset k
  ((s.tbReset k).unitsReset k).vaultReset

/-- A load is in progress when the reset begins, or its verification. -/
def State.loadCut (s : State) : Bool :=
  s.settleWrites.rootCut.get F.RBK_STATUS_LOADST == 1 || s.settleWrites.rootCut.get F.RBK_STATUS_LOADST == 2

theorem State.beginReset_module (s : State) (src wdog : Nat) : s.beginReset .m src wdog =
    ((if s.loadCut then ((((s.resetCore .m src).cause .m src wdog).put F.RBK_FAIL_CODE 0x13).put F.RBK_FAIL_SLOT
      (1 - (s.resetCore .m src).rbk.ptr)).raise 0x1502 0x13 else (s.resetCore .m src).cause .m src wdog).put F.PWR_STAGE 2).driveTrips := by
  have : s.beginReset .m src wdog = ((if Kind.m = .m ∧ s.loadCut then ((((s.resetCore .m src).cause .m src wdog).put F.RBK_FAIL_CODE 0x13).put
    F.RBK_FAIL_SLOT (1 - (s.resetCore .m src).rbk.ptr)).raise 0x1502 0x13 else (s.resetCore .m src).cause .m src wdog).put F.PWR_STAGE 2).driveTrips := rfl
  rw [this]
  simp

theorem State.resetCore_keeps {r s : State} (h : Keeps r s) (k : Kind) (src : Nat) : Keeps r (s.resetCore k src) := by
  have h0 := State.rootCut_keeps (State.settleWrites_keeps h)
  exact State.vaultReset_keeps (State.unitsReset_keeps (State.tbReset_keeps (State.memReset_keeps (State.lgeReset_keeps (State.rbkReset_keeps
    (State.linkReset_keeps (State.regsReset_keeps (State.powerReset_keeps (State.openTrip_keeps (State.openTrip_keeps (State.hostNotReady_keeps
    (Keeps.ite (State.notice_keeps h0 _ _) h0)) 0) 1) k) k) k)) k) k) k) k)

theorem State.resetCore_kind (s : State) (k : Kind) (src : Nat) : (s.resetCore k src).power.kind = some k := by
  cases k <;> rfl

theorem State.Sound.of_keeps {s t : State} (h : s.Sound) (k : Keeps s t) : t.Sound := (k.2.2 h).1

theorem State.get_cause {s : State} (h : s.Sound) (k : Kind) (src wdog : Nat) :
    (s.cause k src wdog).get F.PWR_CAUSE_KIND = kindCode k ∧ (s.cause k src wdog).get F.PWR_CAUSE_SOURCE = src % 16 := by
  have hk : (s.put F.PWR_CAUSE_KIND (kindCode k)).Sound := State.put_sound h _ _
  have hsrc := State.put_sound hk F.PWR_CAUSE_SOURCE src
  refine ⟨?_, ?_⟩
  · rw [State.cause, State.get_put_ne hsrc.rising _ _ _ (by decide), State.get_put_ne hk.rising _ _ _ (by decide), State.get_put_same h.rising]
    cases k <;> rfl
  · rw [State.cause, State.get_put_ne hsrc.rising _ _ _ (by decide), State.get_put_same hk.rising]
    rfl

/-- The supervisor's fields after a module reset has begun: its stage, its cause, its kind. -/
structure State.ModuleResets (t : State) (src : Nat) : Prop where
  sound : t.Sound
  kind : t.power.kind = some .m
  stage : t.get F.PWR_STAGE = 2
  cause : t.get F.PWR_CAUSE_KIND = 3
  source : t.get F.PWR_CAUSE_SOURCE = src % 16

theorem State.ModuleResets.apart {s t : State} {src : Nat} (h : s.ModuleResets src) (k : Apart s t) : t.ModuleResets src :=
  ⟨k.sound h.sound, by rw [k.power, h.kind], (k.get h.sound _ (by decide)).trans h.stage, (k.get h.sound _ (by decide)).trans h.cause,
    (k.get h.sound _ (by decide)).trans h.source⟩

theorem State.ModuleResets.setPower {s : State} {src : Nat} (h : s.ModuleResets src) {p : PowerS} (hp : p.kind = s.power.kind) :
    (s.setPower p).ModuleResets src :=
  ⟨h.sound, hp.trans h.kind, h.stage, h.cause, h.source⟩

theorem State.ModuleResets.of_regs {s t : State} {src : Nat} (h : s.ModuleResets src) (hs : t.Sound) (hp : t.power.kind = s.power.kind)
    (hr : t.regs = s.regs) : t.ModuleResets src :=
  ⟨hs, hp.trans h.kind, (State.get_of_regs hr _).trans h.stage, (State.get_of_regs hr _).trans h.cause, (State.get_of_regs hr _).trans h.source⟩

theorem State.beginReset_moduleResets {s : State} (h : s.Sound) (src wdog : Nat) : (s.beginReset .m src wdog).ModuleResets src := by
  have hcore : (s.resetCore .m src).Sound := h.of_keeps (State.resetCore_keeps (Keeps.refl s) .m src)
  have hcause : ((s.resetCore .m src).cause .m src wdog).Sound := hcore.of_keeps (State.cause_keeps (Keeps.refl _) .m src wdog)
  have hrefl := Apart.refl ((s.resetCore .m src).cause .m src wdog)
  have hcut := Apart.ite (c := s.loadCut = true) (((hrefl.put F.RBK_FAIL_CODE 0x13 (by decide)).put F.RBK_FAIL_SLOT (1 - (s.resetCore .m src).rbk.ptr)
    (by decide)).raise 0x1502 0x13) hrefl
  obtain ⟨hkind, hsource⟩ := State.get_cause hcore .m src wdog
  rw [State.beginReset_module]
  refine State.ModuleResets.apart ⟨State.put_sound (hcut.sound hcause) _ _, ?_, State.get_put_same (hcut.sound hcause).rising _ _, ?_, ?_⟩
    (Apart.driveTrips (Apart.refl _))
  · exact (congrArg PowerS.kind hcut.power).trans (State.resetCore_kind s .m src)
  · rw [State.get_put_ne (hcut.sound hcause).rising _ _ _ (by decide), hcut.get hcause _ (by decide), hkind]
    rfl
  · rw [State.get_put_ne (hcut.sound hcause).rising _ _ _ (by decide), hcut.get hcause _ (by decide), hsource]

/-- The link shows itself up, with event 0x0112: the first part of its coming up. -/
def State.linkShownUp (s : State) : State :=
  ((((s.put F.XNG_STATUS_UP 1).put F.XNG_STATUS_TRAIN 0).put F.XNG_STATUS_LANES 15).setLink { s.link with trained := true, fails := 0 }).raise 0x0112 0

theorem State.linkComesUp_eq (s : State) : s.linkComesUp = ((s.linkShownUp.power.wdEvent.foldl (fun u n => u.raise 0x0104 n)
    (s.linkShownUp.setPower { s.linkShownUp.power with wdEvent := [] })).reexport).armWdt3 := rfl

theorem Apart.linkShownUp {s t : State} (h : Apart s t) : Apart s t.linkShownUp :=
  ((((h.put _ _ (by decide)).put _ _ (by decide)).put _ _ (by decide)).setLink _).raise _ _

theorem State.linkComesUp_moduleResets {s : State} {src : Nat} (h : s.ModuleResets src) : s.linkComesUp.ModuleResets src := by
  have hup := (h.apart (Apart.refl s).linkShownUp).setPower (p := { s.linkShownUp.power with wdEvent := [] }) rfl
  rw [State.linkComesUp_eq]
  exact (hup.apart (Apart.reexport (Apart.foldl (fun u n => (Apart.refl u).raise 0x0104 n) (Apart.refl _) _))).setPower rfl

theorem Apart.reportStage {s t : State} (h : Apart s t) (old : State) : Apart s (t.reportStage old) := by
  unfold State.reportStage
  exact Apart.ite h (h.send _)

theorem outranks_module {s : State} (hp : s.power.kind ≠ some .p) (hw : s.power.kind ≠ some .w) : s.outranks .m = true := by
  unfold State.outranks
  split
  · rfl
  next j hj =>
    cases j with
    | p => exact absurd hj hp
    | w => exact absurd hj hw
    | _ => rfl

theorem State.moduleReset_moduleResets {s : State} (h : s.Sound) (hpow : s.power.powered = true) (hp : s.power.kind ≠ some .p)
    (hw : s.power.kind ≠ some .w) (src : Nat) : (s.moduleReset src 0).ModuleResets src := by
  have hb := State.beginReset_moduleResets h src 0
  unfold State.moduleReset
  rw [if_pos (by rw [hpow, outranks_module hp hw]; rfl)]
  dsimp only
  rw [if_pos rfl]
  split
  · exact (State.linkComesUp_moduleResets hb).apart ((Apart.refl _).reportStage s)
  · exact hb.apart ((Apart.refl _).reportStage s)

/-! ## Link control -/

theorem State.runBases_eq_setTbs (s : State) (d : Nat) : s.runBases d = s.setTbs (s.runBases d).tbs := by
  rw [State.runBases_eq_foldl]
  exact (State.foldl_runBase d s 4).1

theorem State.advance_eq (s : State) (t : Nat) : s.advance t = (s.setTbs (s.advance t).tbs).setNow (s.advance t).now := by
  obtain ht | ht := Nat.lt_or_ge s.now t
  · rw [State.advance_of_lt ht, State.runBases_eq_setTbs]
    rfl
  · rw [State.advance_of_le ht]
    rfl

/-! As raw time goes on only the bases and the raw counter change (R112). -/

@[simp] theorem State.advance_regs (s : State) (t : Nat) : (s.advance t).regs = s.regs := by rw [State.advance_eq]; rfl
@[simp] theorem State.advance_mem (s : State) (t : Nat) : (s.advance t).mem = s.mem := by rw [State.advance_eq]; rfl
@[simp] theorem State.advance_log (s : State) (t : Nat) : (s.advance t).log = s.log := by rw [State.advance_eq]; rfl
@[simp] theorem State.advance_link (s : State) (t : Nat) : (s.advance t).link = s.link := by rw [State.advance_eq]; rfl
@[simp] theorem State.advance_host (s : State) (t : Nat) : (s.advance t).host = s.host := by rw [State.advance_eq]; rfl
@[simp] theorem State.advance_power (s : State) (t : Nat) : (s.advance t).power = s.power := by rw [State.advance_eq]; rfl
@[simp] theorem State.advance_rbk (s : State) (t : Nat) : (s.advance t).rbk = s.rbk := by rw [State.advance_eq]; rfl
@[simp] theorem State.advance_ports (s : State) (t : Nat) : (s.advance t).ports = s.ports := by rw [State.advance_eq]; rfl
@[simp] theorem State.advance_trips (s : State) (t : Nat) : (s.advance t).trips = s.trips := by rw [State.advance_eq]; rfl
@[simp] theorem State.advance_tin (s : State) (t : Nat) : (s.advance t).tin = s.tin := by rw [State.advance_eq]; rfl
@[simp] theorem State.advance_ttb (s : State) (t : Nat) : (s.advance t).ttb = s.ttb := by rw [State.advance_eq]; rfl
@[simp] theorem State.advance_svi (s : State) (t : Nat) : (s.advance t).svi = s.svi := by rw [State.advance_eq]; rfl
@[simp] theorem State.advance_fch (s : State) (t : Nat) : (s.advance t).fch = s.fch := by rw [State.advance_eq]; rfl
@[simp] theorem State.advance_pfs (s : State) (t : Nat) : (s.advance t).pfs = s.pfs := by rw [State.advance_eq]; rfl
@[simp] theorem State.advance_mar (s : State) (t : Nat) : (s.advance t).mar = s.mar := by rw [State.advance_eq]; rfl
@[simp] theorem State.advance_pub (s : State) (t : Nat) : (s.advance t).pub = s.pub := by rw [State.advance_eq]; rfl
@[simp] theorem State.advance_acq (s : State) (t : Nat) : (s.advance t).acq = s.acq := by rw [State.advance_eq]; rfl
@[simp] theorem State.advance_lge (s : State) (t : Nat) : (s.advance t).lge = s.lge := by rw [State.advance_eq]; rfl
@[simp] theorem State.advance_hlx (s : State) (t : Nat) : (s.advance t).hlx = s.hlx := by rw [State.advance_eq]; rfl
@[simp] theorem State.advance_ins (s : State) (t : Nat) : (s.advance t).ins = s.ins := by rw [State.advance_eq]; rfl
@[simp] theorem State.advance_vlt (s : State) (t : Nat) : (s.advance t).vlt = s.vlt := by rw [State.advance_eq]; rfl
@[simp] theorem State.advance_tok (s : State) (t : Nat) : (s.advance t).tok = s.tok := by rw [State.advance_eq]; rfl

@[simp] theorem State.advance_get (s : State) (t : Nat) (f : Fld) : (s.advance t).get f = s.get f := State.get_of_regs (s.advance_regs t) f

@[simp] theorem State.advance_linkUp (s : State) (t : Nat) : (s.advance t).linkUp = s.linkUp := by
  rw [State.advance_eq]
  rfl

theorem State.armWdt3_of_up {s : State} (h : s.flag F.XNG_STATUS_UP = true) : s.armWdt3 = s.setPower { s.power with
    wdt3 := if s.get F.PWR_WDT_MGR = 0 ∨ s.flag F.PWR_STATE_HOLDUP = true then none else some (s.now + s.get F.PWR_WDT_MGR * 100000000) } := by
  unfold State.armWdt3
  simp only [h, Bool.not_true, Bool.false_eq_true, false_or]

theorem getD_replicate_same {α : Type} (n i : Nat) (x : α) : (List.replicate n x).getD i x = x := by
  rw [List.getD_eq_getElem?_getD, List.getElem?_replicate]
  split <;> rfl

/-- Before the first alignment the noted times are zeros, as those of an empty list are. -/
theorem mirror_getD (l : List (Nat × Nat)) (b : Nat) :
    (if l.isEmpty then List.replicate 4 (0, 0) else l).getD b (0, 0) = l.getD b (0, 0) := by
  cases l with
  | nil => exact getD_replicate_same 4 b (0, 0)
  | cons x l => rfl

theorem exec_timeBaseMirrorAlignment (t : Nat) (s : State) : exec (.timeBaseMirrorAlignment t) s = execTimeBaseMirrorAlignment t s := rfl

/-- Settles O15: a module reset's cause and stage outlast the drives, the link's coming up and the status message that follow them. -/
theorem linkControlMessages : Obligations.LinkControlMessages := by
  unfold Obligations.LinkControlMessages
  intro s h hs fw t
  refine ⟨fun hp => ?_, fun hp => ?_, fun hi => ?_, fun hu hsrc => ?_, fun hn => ?_, fun hsound hpow hp hw => ?_, fun hu hsrc => ?_, fun hn => ?_,
    fun v hv => State.armWdt3_of_up hv, ?_⟩
  · show execStatusMessage s = _
    rw [execStatusMessage, if_pos hp]
    rfl
  · show execStatusMessage s = _
    rw [execStatusMessage, if_neg (by rw [hp]; decide)]
  · show execHostStatusMessage h hs fw s = _
    rw [execHostStatusMessage, State.receive_inTurn _ hi]
  · show execModuleResetRequest h s = _
    rw [execModuleResetRequest, if_pos (by simp [hu, hsrc])]
  · show execModuleResetRequest h s = _
    rw [execModuleResetRequest, if_neg (by simpa [imp_iff_not_or] using hn)]
  · obtain ⟨_, hkind, hstage, hcause, hsource⟩ := State.moduleReset_moduleResets hsound hpow hp hw 2
    exact ⟨hkind, hstage, hcause, hsource⟩
  · show execManagerKeepAlive h t s = _
    rw [execManagerKeepAlive]
    exact congrArg Host.Outcome.next (if_pos ⟨hu, hsrc⟩)
  · show execManagerKeepAlive h t s = _
    rw [execManagerKeepAlive]
    refine congrArg Host.Outcome.next (if_neg ?_)
    rintro ⟨hu, hsrc⟩
    obtain hd | hf := hn
    · rw [hd] at hu
      contradiction
    · omega
  · rw [exec_timeBaseMirrorAlignment, execTimeBaseMirrorAlignment]
    simp only [mirror_getD, State.advance_link]
    rfl

end Sys2Proof.Machine

/-!
PROOFS. Supply and start-up (R42 to R56).
-/
namespace Sys2Proof.Machine

/-! ## The store and the stop marker -/

theorem State.flag_putB_same {s : State} (h : s.Sound) {f : Fld} (hf : f.width ≠ 0) (b : Bool) : (s.putB f b).flag f = b := by
  have h2 : 1 < 2 ^ f.width := Nat.one_lt_two_pow hf
  unfold State.putB State.flag
  rw [State.get_put_same h.rising]
  cases b
  · simp [ofBool]
  · simp [ofBool, Nat.mod_eq_of_lt h2]

theorem State.showStore_shows {s : State} (h : s.Sound) : s.showStore.get F.PWR_STATE_STORE = s.storeLevel / 50 % 2 ^ 12 ∧
    (s.showStore.flag F.PWR_STATE_HUC_OK = true ↔ 58000 ≤ s.storeLevel) := by
  have hput := State.put_sound h F.PWR_STATE_STORE (s.storeLevel / 50)
  unfold State.showStore
  refine ⟨?_, ?_⟩
  · rw [State.putB, State.get_put_ne hput.rising _ _ _ (by decide), State.get_put_same h.rising]
    rfl
  · rw [State.flag_putB_same hput (by decide), decide_eq_true_iff]

theorem State.imageWritten_stopMarker (s : State) (i : Image) : (s.imageWritten i).power.stopMarker = s.power.stopMarker := by
  cases i <;> rfl

theorem State.settleWrites_stopMarker (s : State) : s.settleWrites.power.stopMarker = s.power.stopMarker := by
  have hfold : ∀ (l : List Image) (u : State), (l.foldl State.imageWritten u).power.stopMarker = u.power.stopMarker := by
    intro l
    induction l with
    | nil => exact fun _ => rfl
    | cons x l ih => exact fun u => (ih _).trans (u.imageWritten_stopMarker x)
  exact hfold _ _

theorem State.rootSpoiled_power (s : State) : s.rootSpoiled.power = s.power := by
  unfold State.rootSpoiled
  split <;> rfl

theorem State.rootCut_power (s : State) : s.rootCut.power = s.power := by
  unfold State.rootCut
  split
  · exact s.rootSpoiled_power
  · rfl

theorem State.measured_storeIs (a : State) (vin : Nat) : (a.measured vin).storeIs a.storeLevel =
    (a.setPower { a.power with vin := vin, store := a.storeLevel, storeAt := a.now }).put F.PWR_STATE_VIN (Nat.min (vin / 50) 0xFFF) := rfl

theorem State.powerDown_power (s : State) : s.powerDown.power.powered = false ∧ s.powerDown.power.stopMarker = s.power.stopMarker := by
  refine ⟨rfl, ?_⟩
  have : s.powerDown.power.stopMarker = s.settleWrites.rootCut.power.stopMarker := rfl
  rw [this, State.rootCut_power, State.settleWrites_stopMarker]

theorem State.noWarm_eq_none (v : State) : v.noWarm 0 = none ↔ v.power.stopMarker.isSome = true ∧ v.ins.insts.any (fun e => e.2.mram.isSome) = true ∧
    v.power.ckptDigest = some (imgDigest (v.slotOf v.rbk.ptr).image) ∧ v.power.voided = false := by
  unfold State.noWarm
  by_cases hd : v.power.ckptDigest = some (imgDigest (v.slotOf v.rbk.ptr).image)
  · cases v.power.stopMarker <;> cases v.ins.insts.any (fun e => e.2.mram.isSome) <;> cases v.power.voided <;> simp [hd]
  · cases v.power.stopMarker <;> cases v.ins.insts.any (fun e => e.2.mram.isSome) <;> simp [hd]

theorem State.warmReset_of_none {s : State} {wdog : Nat} (h : s.settleWrites.noWarm wdog = none) :
    s.warmReset wdog = s.settleWrites.beginReset .w (if wdog = 0 then 1 else 2) wdog := by
  unfold State.warmReset
  simp only [h]

theorem State.warmReset_of_some {s : State} {wdog c : Nat} (h : s.settleWrites.noWarm wdog = some c) :
    s.warmReset wdog = (if wdog = 0 then s.settleWrites else s.settleWrites.hostReset).beginReset .p c wdog := by
  unfold State.warmReset
  simp only [h]

theorem State.SameButLog.host {s t : State} (h : s.SameButLog t) : t.host = s.host := by
  rw [h]
  rfl

theorem State.raise_host (s : State) (code arg : Nat) : (s.raise code arg).host = s.host :=
  State.SameButLog.host (s.sameButLog_raiseOn s.ttbTb code 0xFF arg)

theorem exec_powerFailWarning (vin t : Nat) (s : State) : exec (.powerFailWarning vin t) s = execPowerFailWarning vin t s := rfl

theorem exec_holdUpLeft (vin t : Nat) (s : State) : exec (.holdUpLeft vin t) s = execHoldUpLeft vin t s := rfl

theorem exec_storeCharged (t : Nat) (s : State) : exec (.storeCharged t) s = execStoreCharged s t := rfl

theorem exec_orderlyStop (t : Nat) (s : State) : exec (.orderlyStop t) s = execOrderlyStop t s := rfl

theorem exec_finalFlushComplete (s : State) : exec .finalFlushComplete s = execFinalFlushComplete s := rfl

theorem exec_hostDieResumed (s : State) : exec .hostDieResumed s = execHostDieResumed s := rfl

theorem exec_powerUp (vin : Nat) (s : State) : exec (.powerUp vin) s = execPowerUp vin s := rfl

/-- Settles O17. -/
theorem supplyEvents : Obligations.SupplyEvents := by
  unfold Obligations.SupplyEvents
  refine ⟨fun s vin t => ⟨fun hp hh hv => ?_, fun hn => ?_, fun hp hh hv => ?_, fun hn => ?_, fun hp hh => ?_, fun hn => ?_, fun hp hh => ?_, fun hn => ?_⟩,
    fun s vin => ⟨State.showStore_shows, s.powerDown_power, fun hh => ?_, fun hh => ?_, fun hf => ?_, fun hf => ?_, fun hp hv => ?_, fun hn => ?_,
      State.noWarm_eq_none _, fun hw => State.warmReset_of_none hw, fun c hc => State.warmReset_of_some hc⟩⟩
  · have hc : ¬ ((!(s.advance t).power.powered) = true ∨ (s.advance t).flag F.PWR_STATE_HOLDUP = true ∨ 14000 ≤ vin) := by
      rw [hp, hh]
      simpa using hv
    rw [exec_powerFailWarning, execPowerFailWarning]
    rw [← State.measured_storeIs, State.raise_host, State.raise_host]
    exact congrArg Host.Outcome.next (if_neg hc)
  · rw [exec_powerFailWarning, execPowerFailWarning]
    exact congrArg Host.Outcome.next (if_pos (by simpa using hn))
  · have hc : ¬ ((!(s.advance t).power.powered) = true ∨ (!(s.advance t).flag F.PWR_STATE_HOLDUP) = true ∨ vin < 16000) := by
      rw [hp, hh]
      simpa using hv
    rw [exec_holdUpLeft, execHoldUpLeft]
    rw [← State.measured_storeIs]
    exact congrArg Host.Outcome.next (if_neg hc)
  · rw [exec_holdUpLeft, execHoldUpLeft]
    exact congrArg Host.Outcome.next (if_pos (by simpa using hn))
  · rw [exec_storeCharged, execStoreCharged]
    exact congrArg Host.Outcome.next (if_pos (by rw [hp, hh]; decide))
  · rw [exec_storeCharged, execStoreCharged]
    refine congrArg Host.Outcome.next (if_neg ?_)
    obtain hp | hh := hn
    · rw [hp, Bool.false_and]
      decide
    · rw [hh]
      simp
  · refine ⟨fun hr => ?_, fun hr => ?_⟩
    · rw [exec_orderlyStop, execOrderlyStop]
      refine congrArg Host.Outcome.next ((if_neg (by rw [hp, hh]; decide)).trans ?_)
      dsimp only
      rw [if_pos hr]
      rfl
    · rw [exec_orderlyStop, execOrderlyStop]
      refine congrArg Host.Outcome.next ((if_neg (by rw [hp, hh]; decide)).trans ?_)
      dsimp only
      rw [if_neg (by rw [hr]; decide)]
  · rw [exec_orderlyStop, execOrderlyStop]
    exact congrArg Host.Outcome.next (if_pos (by simpa using hn))
  · rw [exec_hostDieResumed, execHostDieResumed, if_neg (by rw [hh]; decide)]
  · rw [exec_hostDieResumed, execHostDieResumed, if_pos hh]
  · rw [exec_finalFlushComplete, execFinalFlushComplete, if_pos hf]
  · rw [exec_finalFlushComplete, execFinalFlushComplete, if_neg (by rw [hf]; decide)]
  · rw [exec_powerUp, execPowerUp, if_neg (by rw [hp]; simpa using hv)]
  · rw [exec_powerUp, execPowerUp, if_pos hn]

end Sys2Proof.Machine

/-!
PROOFS. The stages of the start-up (R49 to R53).
-/
namespace Sys2Proof.Machine

/-! ## Park leaves the supervisor's record but for what waits -/

theorem Apart.setPf {s t : State} (h : Apart s t) (p : Nat) (v : PfS) : Apart s (t.setPf p v) := h.of_records rfl rfl rfl rfl

theorem pstatAddr_ge (p : Nat) : 0x01010000 ≤ (F.PFM_PSTAT_STATE p).addr := by
  show _ ≤ 0x01500004 + 0x100 * p
  omega

/-- What Park does after it shows itself: platforms, ingress, halt exchange and logic stop, the TCMs are cleared, the drives open. -/
theorem State.enterPark_power (s : State) : s.enterPark.power = { s.power with parkWait := false } := by
  unfold State.enterPark
  extract_lets p1 s1 s2 s3 s4 p5 s5 p6 s6 p7 s7
  have h2 : Apart s1 s2 := ((Apart.refl s1).shuntAbandon 3 false).recPark
  have h3 : s3.power = s2.power := by
    clear_value s2
    rfl
  have h4 : Apart s3 s4 := by
    refine Apart.each (fun u p => ?_) (Apart.refl s3) _
    extract_lets q u1
    have hu : Apart u u1 := (Apart.refl u).setPf p _
    exact Apart.ite hu ((hu.put _ 5 (pstatAddr_ge p)).put _ 0 (pstatAddr_ge p))
  have h7 : s7.power = s4.power := by
    clear_value s4
    rfl
  calc ((s7.zeroMem 0x20000000 0x21800000).driveTrips).power = s7.power := (((Apart.refl s7).zeroMem _ _).driveTrips).power
    _ = s3.power := h7.trans h4.power
    _ = s1.power := h3.trans h2.power

theorem State.askPark_power (s : State) : ∃ b, s.askPark.power = { s.power with parkWait := b } := by
  unfold State.askPark
  split
  · exact ⟨s.power.parkWait, rfl⟩
  · split
    · exact ⟨true, rfl⟩
    · exact ⟨false, s.enterPark_power⟩

theorem State.readyUp_power (s : State) : s.readyUp.power.stopMarker = none ∧ s.readyUp.power.kind = none := by
  unfold State.readyUp
  extract_lets s1 p2 s2 s3 s4
  have h3 : Apart s2 s3 := Apart.ite (Apart.each (fun u p => Apart.ite (Apart.refl u) ((Apart.refl u).put _ 5 (pstatAddr_ge p))) (Apart.refl s2) _)
    (Apart.refl s2)
  have h4 : s4.power = s2.power := h3.driveTrips.power
  split
  · obtain ⟨b, hb⟩ := s4.askPark_power
    rw [hb, h4]
    exact ⟨rfl, rfl⟩
  · rw [h4]
    exact ⟨rfl, rfl⟩

/-! ## A stage ends -/

theorem State.reportStage_of_regs {s t : State} (h : t.regs = s.regs) : t.reportStage s = t := by
  have hg : t.get = s.get := funext (State.get_of_regs h)
  unfold State.reportStage State.loadWord
  rw [hg, if_pos rfl]

theorem nextStage_of_middle {st : Nat} (h : st ∈ [2, 3, 4, 5]) (k : Kind) : nextStage k st = if k = .m ∧ st = 4 then 6 else st + 1 := by
  simp only [List.mem_cons, List.not_mem_nil, or_false] at h
  obtain rfl | rfl | rfl | rfl := h <;> cases k <;> rfl

theorem State.stageEnd_of_middle {s : State} {st : Nat} (hm : st ∈ [2, 3, 4, 5]) (hst : s.get F.PWR_STAGE = st) (k : Kind) (e : StageEnd) :
    s.stageEnd k e = if e.ok then (s.dramTrained st e.temp).toStage (nextStage k st)
      else if (st = 2 ∨ st = 4) ∧ s.power.retries < 3 then s.setPower { s.power with retries := s.power.retries + 1 } else s.stageFails st := by
  have hne : st ≠ 1 ∧ st ≠ 6 ∧ st ≠ 7 ∧ st ≠ 8 := by
    simp only [List.mem_cons, List.not_mem_nil, or_false] at hm
    omega
  unfold State.stageEnd
  simp only [hst, hne, if_false]

theorem exec_startUpStageEnd (e : StageEnd) (t : Nat) (s : State) : exec (.startUpStageEnd e t) s = execStartUpStageEnd e t s := rfl

theorem execStartUpStageEnd_of_none {s : State} {t : Nat} (e : StageEnd) (h : (s.advance t).power.kind = none) :
    execStartUpStageEnd e t s = .next (s.advance t) := by
  unfold execStartUpStageEnd
  simp only [h]

theorem execStartUpStageEnd_of_some {s : State} {t : Nat} {k : Kind} (e : StageEnd) (h : (s.advance t).power.kind = some k) :
    execStartUpStageEnd e t s = .next (if !(s.advance t).power.powered ∨ (s.advance t).power.paused ∨
      ((s.advance t).flag F.PWR_STAGE_FAILED ∧ (s.advance t).get F.PWR_STAGE < 7) then s.advance t
      else ((s.advance t).stageEnd k e).reportStage (s.advance t)) := by
  unfold execStartUpStageEnd
  simp only [h]

/-- Settles O18: each stage is a case of its own; a state whose registers are those before it reports nothing. -/
theorem startUpStagesFollowEachOther : Obligations.StartUpStagesFollowEachOther := by
  unfold Obligations.StartUpStagesFollowEachOther
  refine ⟨fun s k e t => ?_, fun s n hs hn => ⟨?_, rfl, State.regsBut_put hs _ _⟩, State.readyUp_power⟩
  · rw [exec_startUpStageEnd]
    generalize ha : s.advance t = a
    intro b
    have hab : a = b := rfl
    clear_value b
    subst hab
    refine ⟨fun hk => ?_, fun hk hn => ?_, fun hk hp hpa hf => ?_⟩
    · subst ha
      exact execStartUpStageEnd_of_none e hk
    · subst ha
      rw [execStartUpStageEnd_of_some e hk, if_pos (by simpa using hn)]
    · have hrun : execStartUpStageEnd e t s = .next ((a.stageEnd k e).reportStage a) := by
        subst ha
        have hf' : ¬ ((s.advance t).flag F.PWR_STAGE_FAILED = true ∧ (s.advance t).get F.PWR_STAGE < 7) := by
          rintro ⟨h1, h2⟩
          obtain hf | hf := hf
          · rw [h1] at hf
            contradiction
          · omega
        rw [execStartUpStageEnd_of_some e hk, if_neg]
        rintro (h1 | h1 | h1)
        · rw [hp] at h1
          contradiction
        · rw [hpa] at h1
          contradiction
        · exact hf' h1
      rw [hrun]
      refine ⟨fun hst hr => ?_, fun hst hr => ?_, fun st hm hst ho => ?_, fun st hm hst ho hr => ?_, fun st hm hst ho hr => ?_,
        fun hst => ⟨fun hr => ?_, fun hr => ?_⟩, fun hst => ?_, fun hst => ⟨fun hr => ?_, fun hr => ?_⟩⟩
      · rw [State.stageEnd, if_pos hst, if_neg (by rw [hr]; decide)]
      · rw [State.stageEnd, if_pos hst, if_pos hr, State.reportStage_of_regs rfl]
      · rw [State.stageEnd_of_middle hm hst, if_pos ho, nextStage_of_middle hm]
      · have hm' : st ∈ [2, 3, 4, 5] := by
          simp only [List.mem_cons, List.not_mem_nil, or_false] at hm ⊢
          omega
        rw [State.stageEnd_of_middle hm' hst, if_neg (by rw [ho]; decide), if_pos ⟨by simpa using hm, hr⟩]
        exact congrArg Host.Outcome.next (State.reportStage_of_regs rfl)
      · rw [State.stageEnd_of_middle hm hst, if_neg (by rw [ho]; decide), if_neg (by omega)]
        rfl
      · rw [State.stageEnd, if_neg (by omega), if_pos hst]
        exact congrArg (fun u => Host.Outcome.next (State.reportStage u a)) (if_pos hr)
      · rw [State.stageEnd, if_neg (by omega), if_pos hst]
        exact congrArg (fun u => Host.Outcome.next (State.reportStage u a)) (if_neg (by rw [hr]; decide))
      · rw [State.stageEnd, if_neg (by omega), if_neg (by omega), if_pos hst]
      · rw [State.stageEnd, if_neg (by omega), if_neg (by omega), if_neg (by omega), if_pos hst]
        exact congrArg (fun u => Host.Outcome.next (State.reportStage (State.readyUp u) a)) (if_pos hr)
      · rw [State.stageEnd, if_neg (by omega), if_neg (by omega), if_neg (by omega), if_pos hst]
        exact congrArg (fun u => Host.Outcome.next (State.reportStage (State.readyUp u) a)) (if_neg (Bool.eq_false_iff.mp hr))
  · rw [State.toStage]
    exact (State.get_put_same hs.rising _ _).trans (Nat.mod_eq_of_lt hn)

end Sys2Proof.Machine

/-!
PROOFS. Wakes that are no part of a take (R58), watchdogs and reset pins (R53 to R56, R61, R405).
-/
namespace Sys2Proof.Machine

/-! ## A wake that starts nothing -/

/-- A parked module that wakes with no take in progress; its rulebook declares instance 1, which is in DECLARED. -/
def waking : State :=
  (act [(F.PWR_STATE, 3), (F.INS_ISTAT_STATE 1, 1)]).setRbk { RbkS.init with active := some { decl0 with insts := [{ inst1 with code := 0, data := 0 }] } }

/-- The wake up to the TCMs, as the statement writes it. -/
def State.wakeRestored (s : State) : State :=
  let v := (s.put F.PWR_STATE 0).unshadow.each (List.range 24) (fun w p => if w.roleOf p = 2 then w else w.put (F.PFM_PSTAT_STATE p) 0)
  v.declared.foldl State.restoreTcm v

/-- The wake with the instances started, as the statement writes it. -/
def State.wakeStarted (s : State) : State :=
  let i := s.wakeRestored.declared.foldl State.startTaken s.wakeRestored
  let l := i.wakeLogic i.newestRetain
  ((((((l.setHlx { l.hlx with begun := false }).ingressWait).groupsStart).remapLanes).autoArm).fzRefresh).driveTrips

/-- The model's wake leaves instance 1 in DECLARED; the statement's starts it. -/
theorem waking_instState : waking.wakeRestored.tok.taken = false ∧ waking.wakeEnd.get (F.INS_ISTAT_STATE 1) = 1 ∧
    waking.wakeStarted.get (F.INS_ISTAT_STATE 1) = 2 := by decide +kernel

/-- Refutes O19: `State.wakeEnd` keeps what `State.startTaken` makes of the declared instances in a take only, and a wake that is no part of
one starts none of them. -/
theorem not_supervisorCommandsAndDoze : ¬ Obligations.SupervisorCommandsAndDoze := by
  unfold Obligations.SupervisorCommandsAndDoze
  intro h
  obtain ⟨hs, _⟩ := h
  have hwake : ∀ s : State, s.wakeRestored.tok.taken = false → s.wakeEnd = s.wakeStarted := by
    intro s
    obtain ⟨_, _, _, _, _, _, _, _, _, _, _, hw⟩ := hs s 0 0
    unfold State.wakeStarted State.wakeRestored
    with_reducible exact hw
  obtain ⟨htaken, hmodel, hstated⟩ := waking_instState
  rw [hwake waking htaken, hstated] at hmodel
  exact absurd hmodel (by decide)

/-! ## Watchdogs and pins -/

theorem exec_watchdog2Expiry (t : Nat) (s : State) : exec (.watchdog2Expiry t) s = execWatchdog2Expiry t s := rfl

theorem exec_watchdog3Expiry (t : Nat) (s : State) : exec (.watchdog3Expiry t) s = execWatchdog3Expiry t s := rfl

theorem exec_rstNLow (hrst : Bool) (t : Nat) (s : State) : exec (.rstNLow hrst t) s = execRstNLow hrst t s := rfl

theorem exec_hrstNLow (s : State) : exec .hrstNLow s = .next s.hostPin := rfl

theorem exec_rstNReleased (s : State) : exec .rstNReleased s = execRstNReleased s := rfl

theorem State.boundaryLost_iff (s : State) : s.boundaryLost = true ↔
    s.active = true ∧ s.power.kind = none ∧ s.rbk.flushing = false ∧ s.ttb.lastAt + 2 * s.cycleNs ≤ s.now := by
  unfold State.boundaryLost
  simp only [Bool.and_eq_true, Option.isNone_iff_eq_none, Bool.not_eq_true', decide_eq_true_eq, and_assoc]

/-- Both watchdogs marked W go on as `State.watchdogW` with their number. -/
theorem exec_watchdog_of_due {s : State} {t n : Nat} (h : n = 1 ∨ (n = 2 ∧ (s.advance t).boundaryLost = true)) :
    exec (if n = 1 then .watchdog1Expiry t else .watchdog2Expiry t) s = .next ((s.advance t).watchdogW n) := by
  obtain rfl | ⟨rfl, hl⟩ := h
  · rfl
  · show execWatchdog2Expiry t s = _
    exact congrArg Host.Outcome.next (if_pos hl)

theorem execWatchdog3Expiry_of_some {s : State} {t e : Nat} (h : (s.advance t).power.wdt3 = some e) : execWatchdog3Expiry t s =
    .next (if e ≤ (s.advance t).now then (((s.advance t).pinToHost).raise 0x0104 3).armWdt3 else s.advance t) := by
  unfold execWatchdog3Expiry
  simp only [h]

theorem execWatchdog3Expiry_of_none {s : State} {t : Nat} (h : (s.advance t).power.wdt3 = none) : execWatchdog3Expiry t s = .next (s.advance t) := by
  unfold execWatchdog3Expiry
  simp only [h]

theorem State.pinToHost_of_up {s : State} (h : s.flag F.XNG_STATUS_UP = true) : s.pinToHost = (s.notice 0x0013 []).hostReset := if_pos h

theorem State.pinToHost_of_down {s : State} (h : s.flag F.XNG_STATUS_UP = false) : s.pinToHost = s := if_neg (by rw [h]; decide)

theorem State.writeWdt_of_zero {s : State} (h : s.Sound) {mgr : Nat} (hm : mgr % 256 = 0) : (s.writeWdt mgr).power.wdt3 = none := by
  have hget : (s.put F.PWR_WDT_MGR mgr).get F.PWR_WDT_MGR = 0 := (State.get_put_same h.rising _ _).trans hm
  show (if (s.put F.PWR_WDT_MGR mgr).get F.PWR_WDT_MGR = 0 ∨ _ then none else _) = none
  rw [if_pos (Or.inl hget)]

theorem State.rstPin_of_off {s : State} (hp : s.power.powered = false) : s.rstPin = s.setPower { s.power with rstHeld := true } := by
  unfold State.rstPin
  rw [if_pos (by rw [hp]; rfl)]

theorem State.rstPin_of_running {s : State} (hp : s.power.powered = true) (hk : s.power.kind = none ∨ s.power.kind = some .m ∨ s.power.kind = some .b) :
    s.rstPin = if s.flag F.XNG_STATUS_UP then (s.hostReset.moduleReset 1 0).send (stMsg 0 0x0013 []) else s.moduleReset 1 0 := by
  have hrank : s.outranks .m = true := by
    unfold State.outranks
    obtain hk | hk | hk := hk <;> rw [hk] <;> rfl
  have hearly : ((s.power.kind == some .p || s.power.kind == some .w) && decide (s.get F.PWR_STAGE ≤ 5)) = false := by
    obtain hk | hk | hk := hk <;> rw [hk] <;> rfl
  unfold State.rstPin
  simp only [hp, hearly, hrank, Bool.not_true, Bool.false_eq_true, if_false, if_true]
  split <;> rfl

theorem State.rstPin_of_early {s : State} {k : Kind} (hp : s.power.powered = true) (hk : s.power.kind = some k) (hpw : k = .p ∨ k = .w)
    (hst : s.get F.PWR_STAGE ≤ 5) :
    let r := s.pinToHost.beginReset k (s.get F.PWR_CAUSE_SOURCE) (s.get F.PWR_CAUSE_WDOG)
    s.rstPin = (r.setPower { r.power with rstHeld := r.power.rstHeld || s.get F.PWR_STAGE == 1 }).reportStage s := by
  have hearly : ((some k == some Kind.p || some k == some Kind.w) && decide (s.get F.PWR_STAGE ≤ 5)) = true := by
    obtain rfl | rfl := hpw <;> rw [decide_eq_true hst] <;> rfl
  unfold State.rstPin
  simp only [hp, hearly, Bool.not_true, Bool.false_eq_true, if_false, if_true, hk, Option.getD_some]

theorem State.rstPin_of_late {s : State} {k : Kind} (hp : s.power.powered = true) (hk : s.power.kind = some k) (hpw : k = .p ∨ k = .w)
    (hst : 5 < s.get F.PWR_STAGE) : s.rstPin = s := by
  have hrank : s.outranks .m = false := by
    unfold State.outranks
    obtain rfl | rfl := hpw <;> rw [hk] <;> rfl
  have hlate : decide (s.get F.PWR_STAGE ≤ 5) = false := decide_eq_false (by omega)
  unfold State.rstPin
  simp only [hp, hlate, hrank, Bool.and_false, Bool.not_true, Bool.false_eq_true, if_false]

/-- Settles O20. -/
theorem watchdogsAndPins : Obligations.WatchdogsAndPins := by
  unfold Obligations.WatchdogsAndPins
  refine ⟨fun s mgr t => ⟨fun n hn => ⟨fun hp hr => ?_, fun hx => ?_⟩, fun hl => ?_, fun n hn => ⟨fun hw => ?_, fun c hc => ?_⟩,
    fun x hx hle => ⟨fun hu => ?_, fun hu => ?_⟩, fun x hx hlt => ?_, fun hx => ?_, rfl, fun u hu hs hm => ?_⟩,
    fun s isl t => ⟨fun hh => ?_, fun hh => ?_, rfl, rfl, fun hp => ?_, fun hp hk => ⟨fun hu => ?_, fun hu => ?_⟩, fun k hp hk hpw => ⟨fun hst => ?_, fun hst => ?_⟩,
      fun u hu => ?_, ⟨fun hr hp hpa hst => ?_, fun hr hx => ?_⟩, fun hr => ?_⟩⟩
  · rw [exec_watchdog_of_due (hn.imp_right (And.imp_right (State.boundaryLost_iff _).mpr)), State.watchdogW, if_pos (by rw [hp, hr]; rfl)]
  · rw [exec_watchdog_of_due (hn.imp_right (And.imp_right (State.boundaryLost_iff _).mpr)), State.watchdogW, if_neg]
    obtain hx | hx := hx <;> rw [hx] <;> simp
  · rw [exec_watchdog2Expiry]
    exact congrArg Host.Outcome.next (if_neg (fun h => hl ((State.boundaryLost_iff _).mp h)))
  · rw [State.warmReset_of_none hw, if_neg hn]
  · rw [State.warmReset_of_some hc, if_neg hn]
  · rw [exec_watchdog3Expiry, execWatchdog3Expiry_of_some hx, if_pos hle, State.pinToHost_of_up hu]
  · rw [exec_watchdog3Expiry, execWatchdog3Expiry_of_some hx, if_pos hle, State.pinToHost_of_down hu]
  · rw [exec_watchdog3Expiry, execWatchdog3Expiry_of_some hx, if_neg (by omega)]
  · rw [exec_watchdog3Expiry, execWatchdog3Expiry_of_none hx]
  · obtain rfl : (s.advance t).writeWdt mgr = u := Host.Outcome.next.inj hu
    exact State.writeWdt_of_zero hs hm
  · rw [exec_hrstNLow, State.hostPin, if_neg (by rw [hh]; decide)]
  · rw [exec_hrstNLow, State.hostPin, if_pos hh]
  · rw [exec_rstNLow]
    exact congrArg Host.Outcome.next (State.rstPin_of_off hp)
  · exact congrArg Host.Outcome.next ((State.rstPin_of_running hp hk).trans (if_pos hu))
  · exact congrArg Host.Outcome.next ((State.rstPin_of_running hp hk).trans (if_neg (by rw [hu]; decide)))
  · exact congrArg Host.Outcome.next (State.rstPin_of_early hp hk hpw hst)
  · exact congrArg Host.Outcome.next (State.rstPin_of_late hp hk hpw hst)
  · obtain rfl : (s.advance t).rstPin = u := Host.Outcome.next.inj hu
    rfl
  · rw [exec_rstNReleased, execRstNReleased, if_pos hr]
    exact congrArg (fun u => Host.Outcome.next (State.reportStage u s)) (if_pos ⟨hp, by rw [Bool.not_eq_true']; exact hpa, hst⟩)
  · rw [exec_rstNReleased, execRstNReleased, if_pos hr]
    refine congrArg Host.Outcome.next ((congrArg (fun u => State.reportStage u s) (if_neg ?_)).trans (State.reportStage_of_regs rfl))
    rintro ⟨h1, h2, h3⟩
    obtain hx | hx | hx := hx
    · exact absurd (hx.symm.trans h1) (by decide)
    · exact absurd (h2.symm.trans (congrArg Bool.not hx)) (by decide)
    · exact hx h3
  · rw [exec_rstNReleased, execRstNReleased, if_neg (by rw [hr]; decide)]

end Sys2Proof.Machine

/-!
PROOFS. The rulebook loader: chunk messages, verification, activation and amendments (R68 to R84).
-/
namespace Sys2Proof.Machine

/-! ## Chunk messages -/

theorem State.chunk_of_foreign {s : State} {h : Hdr} (act : State → State) (hi : s.inTurn 5 h = true) (hsrc : h.src ≠ 0) :
    s.chunk h act = (s.took 5 h).count F.RBK_CNT_REFUSED := by
  rw [State.chunk, State.receive_inTurn _ hi, if_pos hsrc]
  rfl

theorem State.chunk_of_manager {s : State} {h : Hdr} (act : State → State) (hi : s.inTurn 5 h = true) (hsrc : h.src = 0) :
    s.chunk h act = act (s.took 5 h) := by
  rw [State.chunk, State.receive_inTurn _ hi, if_neg (by omega)]

theorem exec_openLoad (h : Hdr) (n : Nat) (s : State) : exec (.openLoad h n) s = .next (s.chunk h (fun s => s.rbkOpen n)) := rfl

theorem exec_closeLoad (h : Hdr) (s : State) : exec (.closeLoad h) s =
    .next (s.chunk h (fun s => if s.get F.RBK_STATUS_LOADST = 1 then s.put F.RBK_STATUS_LOADST 2 else s.rbkRefuse)) := rfl

theorem exec_rulebookAbort (h : Hdr) (s : State) : exec (.rulebookAbort h) s =
    .next (s.chunk h (fun s => if s.get F.RBK_STATUS_LOADST = 1 ∨ s.get F.RBK_STATUS_LOADST = 2 then s.loadEnds 0x13 else s.rbkRefuse)) := rfl

theorem exec_dataChunk (h : Hdr) (n : Nat) (b : Bytes) (s : State) : exec (.dataChunk h n b) s = execDataChunk h n b s := rfl

theorem exec_verificationComplete (s : State) : exec .verificationComplete s = execVerificationComplete s := rfl

theorem State.rbkOpen_of_pending {s : State} (n : Nat) (h : s.rbk.pending ≠ none) : s.rbkOpen n = s.count F.RBK_CNT_REFUSED := by
  unfold State.rbkOpen
  rw [if_pos (Option.isSome_iff_ne_none.mpr h)]
  rfl

theorem State.rbkOpen_of_free {s : State} (n : Nat) (h : s.rbk.pending = none) :
    let u := s.setSlot (1 - s.rbk.ptr) { image := [], valid := false, journal := [] }
    s.rbkOpen n = ((((u.setRbk { u.rbk with openLen := n }).showSlots).put F.RBK_RXLEN 0).put F.RBK_STATUS_LOADST 1) := by
  unfold State.rbkOpen
  rw [if_neg (by rw [h]; decide)]
  rfl

theorem execDataChunk_of_length {s : State} {h : Hdr} {b : Bytes} (n : Nat) (hi : s.inTurn 5 h = true) (hb : b ≠ []) (hl : b.length ≤ 2040) :
    execDataChunk h n b s = .next (if h.src ≠ 0 then (s.took 5 h).rbkRefuse else (s.took 5 h).rbkData n b) := by
  have hlen : ¬ ((b.isEmpty || decide (2040 < b.length)) = true) := by
    simp [hb, hl]
  rw [execDataChunk, State.receive_inTurn _ hi, if_neg hlen]

theorem execDataChunk_of_malformed {s : State} {h : Hdr} {b : Bytes} (n : Nat) (hi : s.inTurn 5 h = true) (hb : b = [] ∨ 2040 < b.length) :
    execDataChunk h n b s = .next ((s.took 5 h).malformed 5 0x0002) := by
  have hlen : (b.isEmpty || decide (2040 < b.length)) = true := by
    simpa using hb
  rw [execDataChunk, State.receive_inTurn _ hi, if_pos hlen]

/-- Settles O21. -/
theorem rulebooksAreLoadedAndVerified : Obligations.RulebooksAreLoadedAndVerified := by
  unfold Obligations.RulebooksAreLoadedAndVerified
  refine ⟨fun s h n b hi => ⟨fun hsrc => ⟨?_, ?_, ?_, fun hb hl => ?_⟩, fun hsrc hp => ?_, fun hsrc hp => ?_, fun hsrc hb hl => ⟨fun hst => ?_, fun hst hn => ?_,
    fun hst hn => ?_⟩, fun hb => ?_, fun hsrc hst => ?_, fun hsrc hst => ?_, fun hsrc hst => ?_, fun hsrc hst => ?_, fun c => rfl⟩,
    fun s => ⟨fun hst hv => ?_, fun hst hv => ?_, fun hst => ?_⟩⟩
  · rw [exec_openLoad, State.chunk_of_foreign _ hi hsrc]
  · rw [exec_closeLoad, State.chunk_of_foreign _ hi hsrc]
  · rw [exec_rulebookAbort, State.chunk_of_foreign _ hi hsrc]
  · rw [exec_dataChunk, execDataChunk_of_length n hi hb hl, if_pos hsrc]
    rfl
  · rw [exec_openLoad, State.chunk_of_manager _ hi hsrc, State.rbkOpen_of_pending n hp]
  · rw [exec_openLoad, State.chunk_of_manager _ hi hsrc, State.rbkOpen_of_free n hp]
  · rw [exec_dataChunk, execDataChunk_of_length n hi hb hl, if_neg (by omega), State.rbkData, if_pos hst]
    rfl
  · rw [exec_dataChunk, execDataChunk_of_length n hi hb hl, if_neg (by omega), State.rbkData, if_neg (by omega), if_neg (by omega)]
    rfl
  · rw [exec_dataChunk, execDataChunk_of_length n hi hb hl, if_neg (by omega), State.rbkData, if_neg (by omega), if_pos hn]
  · rw [exec_dataChunk, execDataChunk_of_malformed n hi hb]
  · rw [exec_closeLoad, State.chunk_of_manager _ hi hsrc, if_pos hst]
  · rw [exec_closeLoad, State.chunk_of_manager _ hi hsrc, if_neg hst]
    rfl
  · rw [exec_rulebookAbort, State.chunk_of_manager _ hi hsrc, if_pos (by simpa using hst)]
  · rw [exec_rulebookAbort, State.chunk_of_manager _ hi hsrc, if_neg (by simpa using hst)]
    rfl
  · rw [exec_verificationComplete, execVerificationComplete, if_pos hst]
    exact congrArg Host.Outcome.next (if_pos hv)
  · rw [exec_verificationComplete, execVerificationComplete, if_pos hst]
    exact congrArg Host.Outcome.next (if_neg (by simp only [State.loadSlot, hv]; decide))
  · rw [exec_verificationComplete, execVerificationComplete, if_neg hst]

/-! ## Activation and amendments -/

theorem exec_activate (h : Hdr) (slot : Nat) (digest : Bytes) (t : Nat) (s : State) :
    exec (.activate h slot digest t) s = .next ((s.advance t).chunk h (fun s => s.rbkActivate slot digest)) := rfl

theorem exec_activationFlushComplete (t : Nat) (s : State) : exec (.activationFlushComplete t) s = execActivationFlushComplete t s := rfl

theorem exec_amendmentRecord (h : Hdr) (p : Bytes) (t : Nat) (s : State) : exec (.amendmentRecord h p t) s = execAmendmentRecord h p t s := rfl

/-- What ACTIVATE names may be activated (R74, R395). -/
def State.activatable (s : State) (slot : Nat) (digest : Bytes) : Prop :=
  slot = 1 - s.rbk.ptr ∧ (s.slotOf slot).valid = true ∧ imgDigest (s.slotOf slot).image = digest ∧ (s.redundant = false ∨ s.heldPos = none)

theorem State.activatable_iff (s : State) (slot : Nat) (digest : Bytes) : s.activatable slot digest ↔
    (slot = s.loadSlot ∧ (s.slotOf slot).valid = true ∧ imgDigest (s.slotOf slot).image = digest ∧ (!(s.redundant && s.heldPos.isSome)) = true) := by
  unfold State.activatable State.loadSlot
  cases s.redundant <;> cases s.heldPos <;> simp

theorem State.rbkActivate_of_busy {s : State} {slot : Nat} {digest : Bytes} (h : s.rbk.pending ≠ none ∨ s.power.kind ≠ none) :
    s.rbkActivate slot digest = s.count F.RBK_CNT_REFUSED := by
  unfold State.rbkActivate
  dsimp only
  rw [if_pos (h.imp Option.isSome_iff_ne_none.mpr Option.isSome_iff_ne_none.mpr)]
  rfl

theorem State.rbkActivate_of_free {s : State} {slot : Nat} {digest : Bytes} (hp : s.rbk.pending = none) (hk : s.power.kind = none) :
    let u := ((s.setRbk { s.rbk with pending := some slot }).showSlots).put F.RBK_STATUS_LOADST 4
    (s.activatable slot digest → s.rbkActivate slot digest =
      if u.active then (u.setRbk { u.rbk with actWait := some slot }).bankIdle else u.beginB) ∧
    (¬ s.activatable slot digest → s.rbkActivate slot digest = s.activateRefused slot) := by
  have hfree : ¬ (s.rbk.pending.isSome = true ∨ s.power.kind.isSome = true) := by
    rw [hp, hk]
    decide
  refine ⟨fun hg => ?_, fun hg => ?_⟩
  · unfold State.rbkActivate
    exact (if_neg hfree).trans (if_pos ((State.activatable_iff s slot digest).mp hg))
  · unfold State.rbkActivate
    exact (if_neg hfree).trans (if_neg fun h => hg ((State.activatable_iff s slot digest).mpr h))

theorem execAmendmentRecord_of_inTurn {s : State} {h : Hdr} {t : Nat} (p : Bytes) (hi : (s.advance t).inTurn 6 h = true) :
    let a := (s.advance t).took 6 h
    execAmendmentRecord h p t s = .next (if h.src ≠ 0 then a.rbkRefuse else if h.last then (a.setRbk { a.rbk with amd := [] }).amendment (a.rbk.amd ++ p)
      else a.setRbk { a.rbk with amd := a.rbk.amd ++ p }) := by
  rw [execAmendmentRecord, State.receive_inTurn _ hi]

theorem State.amendment_of_none {s : State} (b : Bytes) (h : s.rbk.active = none) : s.amendment b = s.amdRefuse 0x01 (amdOf b).type := by
  unfold State.amendment
  simp only [h]

theorem State.amendment_of_refused {s : State} {b : Bytes} {d : Decl} (h : s.rbk.active = some d) (hc : s.amdCheck d b ≠ 0) :
    s.amendment b = s.amdRefuse (s.amdCheck d b) (amdOf b).type := by
  unfold State.amendment
  simp only [h, if_pos hc]

theorem State.amendment_of_passed {s : State} {b : Bytes} {d : Decl} (h : s.rbk.active = some d) (hc : s.amdCheck d b = 0) :
    s.amendment b = (((((((s.setSlot s.rbk.ptr { s.slotOf s.rbk.ptr with journal := (s.slotOf s.rbk.ptr).journal ++
      [{ body := b, crc := crc32 b }] }).showJournal).amdApply (amdOf b)).put F.RBK_AMD_SEQ_ASEQ (amdOf b).aseq).count
      F.RBK_CNT_AMDOK)).raise 0x1504 (amdOf b).type) := by
  unfold State.amendment
  simp only [h, hc, ne_eq, not_true_eq_false, if_false]

/-- Settles O22. -/
theorem activationsAndAmendments : Obligations.ActivationsAndAmendments := by
  unfold Obligations.ActivationsAndAmendments
  refine ⟨fun s h slot t digest => ⟨fun hi => ⟨fun hsrc hp hk => ⟨fun hg ha => ?_, fun hg ha => ?_, fun hg => ?_⟩, fun hn => ?_⟩, fun hf hw => ?_, fun hn => ?_⟩,
    fun s h p t hi => ⟨fun hsrc => ?_, fun hsrc hl => ?_, fun d hsrc hl hd => ⟨fun hc => ?_, fun hc => ?_⟩, fun hsrc hl hd => ?_⟩⟩
  · rw [exec_activate, State.chunk_of_manager _ hi hsrc, (State.rbkActivate_of_free hp hk).1 hg, if_pos ha]
  · rw [exec_activate, State.chunk_of_manager _ hi hsrc, (State.rbkActivate_of_free hp hk).1 hg, if_neg (by rw [ha]; decide)]
  · rw [exec_activate, State.chunk_of_manager _ hi hsrc, (State.rbkActivate_of_free hp hk).2 hg]
    rfl
  · rw [exec_activate]
    by_cases hsrc : h.src = 0
    · rw [State.chunk_of_manager _ hi hsrc, State.rbkActivate_of_busy (hn.resolve_left fun hne => hne hsrc)]
    · rw [State.chunk_of_foreign _ hi hsrc]
  · rw [exec_activationFlushComplete]
    exact congrArg Host.Outcome.next (if_pos (by rw [hf, hw]; rfl))
  · rw [exec_activationFlushComplete]
    refine congrArg Host.Outcome.next (if_neg ?_)
    obtain hf | hw := hn
    · rw [hf, Bool.false_and]
      decide
    · rw [hw, Bool.not_true, Bool.and_false]
      decide
  · rw [exec_amendmentRecord, execAmendmentRecord_of_inTurn p hi, if_pos hsrc]
    rfl
  · rw [exec_amendmentRecord, execAmendmentRecord_of_inTurn p hi, if_neg (by omega), if_neg (by rw [hl]; decide)]
  · rw [exec_amendmentRecord, execAmendmentRecord_of_inTurn p hi, if_neg (by omega), if_pos hl]
    exact congrArg Host.Outcome.next (State.amendment_of_passed hd hc)
  · rw [exec_amendmentRecord, execAmendmentRecord_of_inTurn p hi, if_neg (by omega), if_pos hl]
    exact congrArg Host.Outcome.next (State.amendment_of_refused hd hc)
  · rw [exec_amendmentRecord, execAmendmentRecord_of_inTurn p hi, if_neg (by omega), if_pos hl]
    exact congrArg Host.Outcome.next (State.amendment_of_none _ hd)

/-! ## Only what verifies is loaded -/

theorem State.signed_of_verify {s : State} {img : Bytes} {rx len : Nat} (h : (s.verify img rx len).decl.isSome = true) :
    headerFail rx len img = 0 ∧ ∃ key, s.anchor (imgAnchor img) = some key ∧ Config.ecdsaOk key (imgDigest img) (imgSig img) = true := by
  unfold State.verify at h
  dsimp only at h
  split at h
  · contradiction
  next hhead =>
    split at h
    · contradiction
    next key hkey =>
      split at h
      · contradiction
      next hsig => exact ⟨Decidable.not_not.mp hhead, key, hkey, by simpa using hsig⟩

theorem State.tryLoad_of_unverified {s : State} {n : Nat} (k : Kind) (hv : (s.slotOf n).valid = true)
    (hd : (s.verify (s.slotOf n).image (s.slotOf n).image.length (imgTotlen (s.slotOf n).image)).decl = none) :
    s.tryLoad n k = (s.slotFails n (s.verify (s.slotOf n).image (s.slotOf n).image.length (imgTotlen (s.slotOf n).image)).code
      (s.verify (s.slotOf n).image (s.slotOf n).image.length (imgTotlen (s.slotOf n).image)).sect, false) := by
  unfold State.tryLoad
  simp only [hv, hd, Bool.not_true, Bool.false_eq_true, if_false]

theorem State.verified_of_tryLoad {s : State} {n : Nat} {k : Kind} (h : (s.tryLoad n k).2 = true) : (s.slotOf n).valid = true ∧
    (s.verify (s.slotOf n).image (s.slotOf n).image.length (imgTotlen (s.slotOf n).image)).decl.isSome = true := by
  cases hv : (s.slotOf n).valid with
  | false =>
    unfold State.tryLoad at h
    simp only [hv] at h
    contradiction
  | true =>
    refine ⟨rfl, ?_⟩
    cases hd : (s.verify (s.slotOf n).image (s.slotOf n).image.length (imgTotlen (s.slotOf n).image)).decl with
    | some d => rfl
    | none =>
      rw [State.tryLoad_of_unverified k hv hd] at h
      contradiction

/-- Settles O23: a verdict that declares something has passed the signature, and a slot loads by such a verdict only. -/
theorem noUnverifiedRulebookIsLoaded : Obligations.NoUnverifiedRulebookIsLoaded := by
  unfold Obligations.NoUnverifiedRulebookIsLoaded
  refine fun s n k img rx len => ⟨State.signed_of_verify, fun h => ?_, fun hv hd => ?_⟩
  · obtain ⟨hvalid, hver⟩ := State.verified_of_tryLoad h
    exact ⟨hvalid, (State.signed_of_verify hver).2⟩
  · exact State.tryLoad_of_unverified k hv hd

end Sys2Proof.Machine

/-!
PROOFS. Ports: transmission, PAUSE, rates, half duplex and links (R85 to R106).
-/
namespace Sys2Proof.Machine

/-! ## PAUSE and transmission -/

theorem exec_pauseFrame (p q t : Nat) (s : State) : exec (.pauseFrame p q t) s = execPauseFrame p q t s := rfl

theorem exec_transmitStart (p n t : Nat) (tag : Option Word) (s : State) : exec (.transmitStart p n t tag) s = execTransmitStart p n t s tag := rfl

theorem exec_transmitUnderrun (p : Nat) (s : State) : exec (.transmitUnderrun p) s = execTransmitUnderrun p s := rfl

theorem isHostPort_of_lt {p : Nat} (h : p < 0x20) : isHostPort p = false := decide_eq_false (by omega)

theorem isHostPort_of_le {p : Nat} (h : 0x20 ≤ p) : isHostPort p = true := decide_eq_true h

theorem State.hostDown_of_lt {p : Nat} (h : p < 0x20) (s : State) : s.hostDown p = false := by
  rw [State.hostDown, isHostPort_of_lt h, Bool.false_and]

theorem State.hostDown_of_le {p : Nat} (h : 0x20 ≤ p) (s : State) : s.hostDown p = s.host.suspended := by
  rw [State.hostDown, isHostPort_of_le h, Bool.true_and]

theorem execPauseFrame_of_running {s : State} {p t : Nat} (q : Nat) (h : (s.advance t).hostDown p = false) :
    execPauseFrame p q t s = .next ((s.advance t).pauseFrame p q) :=
  congrArg Host.Outcome.next (if_neg (by rw [h]; decide))

/-- A PAUSE frame is counted, and honoured where the port honours PAUSE. -/
theorem State.pauseFrame_cases (s : State) (p q : Nat) :
    let c := s.count (if p < 0x20 then F.PRT_PAUSERX p else F.SBP_PAUSERX (p - 0x20))
    (c.honoursPause p = true → s.pauseFrame p q = (c.setPort p { c.port p with pause := some (Nat.max c.now (c.sendEnd p), q) }).showPause p) ∧
    (c.honoursPause p = false → s.pauseFrame p q = c) :=
  ⟨fun h => if_pos h, fun h => if_neg (Bool.eq_false_iff.mp h)⟩

theorem State.honoursPause_of_host {p : Nat} (h : 0x20 ≤ p) (s : State) :
    s.honoursPause p = (s.flag (F.SBP_CTRL_PAUSE_EN (p - 0x20)) && !(p == 0x24 && s.mtHalfDuplex)) := by
  rw [State.honoursPause, if_neg (by omega), if_neg (by omega)]
  rfl

theorem foldl_max_ge (l : List Nat) : ∀ m : Nat, m ≤ l.foldl Nat.max m ∧ ∀ x ∈ l, x ≤ l.foldl Nat.max m := by
  induction l with
  | nil => exact fun m => ⟨Nat.le_refl m, fun _ hx => absurd hx List.not_mem_nil⟩
  | cons y l ih =>
    intro m
    obtain ⟨hm, hl⟩ := ih (Nat.max m y)
    refine ⟨Nat.le_trans (Nat.le_max_left m y) hm, fun x hx => ?_⟩
    obtain rfl | hx := List.mem_cons.mp hx
    · exact Nat.le_trans (Nat.le_max_right m x) hm
    · exact hl x hx

theorem le_maxN {l : List Nat} {x : Nat} (h : x ∈ l) : x ≤ maxN l := (foldl_max_ge l 0).2 x h

theorem startFld_of_lt {p : Nat} (h : p < 0x20) : startFld p = F.PRT_TXTHR_START p := if_pos h

theorem State.raisePort_eq (s : State) (code p : Nat) : s.raisePort code p = if p < 0x20 then s.raise code p else s.raiseHost code p := by
  unfold State.raisePort
  by_cases h : p < 0x20
  · rw [if_pos h, isHostPort_of_lt h, if_neg (by decide)]
  · rw [if_neg h, isHostPort_of_le (by omega), if_pos rfl]

/-- The frame taken is the oldest one of the highest queue. -/
theorem takeFrame_eq_some {l : List TxFrame} {f : TxFrame} {r : List TxFrame} (h : takeFrame l = some (f, r)) :
    ∃ b e, l = b ++ f :: e ∧ (∀ g ∈ b, g.queue < f.queue) ∧ (∀ g ∈ e, g.queue ≤ f.queue) := by
  unfold takeFrame at h
  split at h
  · contradiction
  next q hq =>
    split at h
    · contradiction
    next g hg =>
      obtain ⟨rfl, rfl⟩ : g = f ∧ l.erase g = r := by simpa using h
      obtain ⟨hgq, b, e, hl, hb⟩ := List.find?_eq_some_iff_append.mp hg
      have hmax : ∀ x ∈ l, x.queue ≤ q := fun x hx => by
        unfold nextQueue at hq
        split at hq
        · contradiction
        · rw [← Option.some.inj hq]
          exact le_maxN (List.mem_map_of_mem hx)
      have hgq' : g.queue = q := by simpa using hgq
      refine ⟨b, e, hl, fun x hx => ?_, fun x hx => ?_⟩
      · have hne := hb x hx
        have hle := hmax x (by rw [hl]; exact List.mem_append_left _ hx)
        have : x.queue ≠ q := by simpa using hne
        omega
      · rw [hgq']
        exact hmax x (by rw [hl]; exact List.mem_append_right _ (List.mem_cons_of_mem _ hx))

theorem State.nextFrame_eq_some {s : State} {p : Nat} {f : TxFrame} {r : List TxFrame} (h : s.nextFrame p = some (f, r)) :
    ∃ b e, (s.port p).txq.filter (s.maySend p) = b ++ f :: e ∧ (∀ g ∈ b, g.queue < f.queue) ∧ (∀ g ∈ e, g.queue ≤ f.queue) ∧
      r = (s.port p).txq.erase f := by
  unfold State.nextFrame at h
  split at h
  · contradiction
  next g x hg =>
    obtain ⟨rfl, rfl⟩ : g = f ∧ (s.port p).txq.erase g = r := by simpa using h
    obtain ⟨b, e, hl, hb, he⟩ := takeFrame_eq_some hg
    exact ⟨b, e, hl, hb, he, rfl⟩

/-- What a start needs on any port but MT (R92, R96). -/
theorem State.canStart_iff {s : State} {p : Nat} (h : p ≠ 0x24) :
    s.canStart p = true ↔ s.flag (linkFld p) = true ∧ s.pausedNow p = false ∧ s.sendEnd p ≤ s.now := by
  unfold State.canStart
  simp [h, and_assoc]

/-- TRANSMIT_START on a port that is not down and does not renegotiate. -/
theorem execTransmitStart_of_free {s : State} {p n t : Nat} {tag : Option Word} (h : ((s.advance t).showPause p).hostDown p = false)
    (hr : (isHostPort p && ((s.advance t).showPause p).flag (F.SBP_STATUS_RENEG (hostPage p))) = false) :
    execTransmitStart p n t s tag = .next (if ((s.advance t).showPause p).canStart p then ((s.advance t).showPause p).startNext p n tag t
      else (s.advance t).showPause p) := by
  rw [execTransmitStart]
  exact congrArg Host.Outcome.next ((if_neg (by rw [h]; decide)).trans (if_neg (by rw [hr]; decide)))

/-- The next frame of a port with none in hand, MT apart. -/
theorem State.startNext_of_some {s : State} {p n t : Nat} {tag : Option Word} {f : TxFrame} {r : List TxFrame} (hm : p ≠ 0x24)
    (hh : (s.port p).hand = none) (hf : s.nextFrame p = some (f, r)) :
    s.startNext p n tag t = if Nat.min (s.get (startFld p)) f.len ≤ n then s.startFrame p f r t else s := by
  unfold State.startNext
  simp only [hh, if_neg hm, hf]

theorem State.startNext_of_none {s : State} {p n t : Nat} {tag : Option Word} (hm : p ≠ 0x24) (hh : (s.port p).hand = none)
    (hf : s.nextFrame p = none) : s.startNext p n tag t = if isHostPort p then s.startFrame p (s.managerFrame p n tag) [] t else s := by
  unfold State.startNext
  simp only [hh, if_neg hm, hf]

theorem State.pause_none {s : State} {p : Nat} (h : (s.port p).pause = none) : s.pauseLeft p = 0 ∧ s.pausedNow p = false := by
  unfold State.pausedNow State.pauseLeft
  simp only [h, and_self]

theorem State.pause_some {s : State} {p x n : Nat} (h : (s.port p).pause = some (x, n)) :
    s.pauseLeft p = n - (s.now - x) * 10 / (64 * byteTime (s.rateOf p)) ∧ (s.pausedNow p = true ↔ x ≤ s.now ∧ s.pauseLeft p ≠ 0) := by
  refine ⟨?_, ?_⟩
  · unfold State.pauseLeft
    simp only [h]
  · unfold State.pausedNow
    simp only [h, Bool.and_eq_true, decide_eq_true_eq, bne_iff_ne, ne_eq]

/-- Settles O25. -/
theorem transmissionAndPause : Obligations.TransmissionAndPause := by
  unfold Obligations.TransmissionAndPause
  refine ⟨fun s p q t => ⟨fun hp he => ?_, fun hp he => ?_, fun hp hp2 => ?_, fun hp hs => ?_, fun hp hs => ⟨fun he hm => ?_, fun hx => ?_⟩, rfl, rfl,
    State.pause_none, fun x n => State.pause_some⟩,
    fun s p n t tag => ⟨fun hp hn => ?_, fun hp hfree hh => ⟨fun f r hf => ⟨fun hle => ?_, fun hlt => ?_⟩, fun hf => ?_⟩, fun hp hs => ?_, fun hp hs hr => ?_,
      fun hp hm hs hr => ⟨fun hn => ?_, fun hfree hh hf => ?_⟩, fun f r => State.nextFrame_eq_some, fun f hf hsnf => ?_, fun hn => ?_⟩⟩
  · rw [exec_pauseFrame, execPauseFrame_of_running q (State.hostDown_of_lt (by omega) _),
      (State.pauseFrame_cases _ p q).1 (by rw [State.honoursPause, if_pos hp, he])]
  · rw [exec_pauseFrame, execPauseFrame_of_running q (State.hostDown_of_lt (by omega) _),
      (State.pauseFrame_cases _ p q).2 (by rw [State.honoursPause, if_pos hp, he])]
  · rw [exec_pauseFrame, execPauseFrame_of_running q (State.hostDown_of_lt hp2 _),
      (State.pauseFrame_cases _ p q).2 (by rw [State.honoursPause, if_neg (by omega), if_pos hp2])]
  · rw [exec_pauseFrame]
    exact congrArg Host.Outcome.next (if_pos ((State.hostDown_of_le hp _).trans hs))
  · rw [exec_pauseFrame, execPauseFrame_of_running q ((State.hostDown_of_le hp _).trans hs), (State.pauseFrame_cases _ p q).1]
    rw [State.honoursPause_of_host hp, he]
    obtain hm | hm := hm <;> simp [hm]
  · rw [exec_pauseFrame, execPauseFrame_of_running q ((State.hostDown_of_le hp _).trans hs), (State.pauseFrame_cases _ p q).2]
    rw [State.honoursPause_of_host hp]
    obtain he | ⟨rfl, hm⟩ := hx
    · rw [he, Bool.false_and]
    · rw [hm]
      simp
  · rw [exec_transmitStart, execTransmitStart_of_free (State.hostDown_of_lt hp _) (by rw [isHostPort_of_lt hp, Bool.false_and]),
      if_neg (fun h => hn ((State.canStart_iff (by omega)).mp h))]
  · rw [exec_transmitStart, execTransmitStart_of_free (State.hostDown_of_lt hp _) (by rw [isHostPort_of_lt hp, Bool.false_and]),
      if_pos ((State.canStart_iff (by omega)).mpr hfree), State.startNext_of_some (by omega) hh hf, startFld_of_lt hp, if_pos hle]
  · rw [exec_transmitStart, execTransmitStart_of_free (State.hostDown_of_lt hp _) (by rw [isHostPort_of_lt hp, Bool.false_and]),
      if_pos ((State.canStart_iff (by omega)).mpr hfree), State.startNext_of_some (by omega) hh hf, startFld_of_lt hp, if_neg (by omega)]
  · rw [exec_transmitStart, execTransmitStart_of_free (State.hostDown_of_lt hp _) (by rw [isHostPort_of_lt hp, Bool.false_and]),
      if_pos ((State.canStart_iff (by omega)).mpr hfree), State.startNext_of_none (by omega) hh hf, isHostPort_of_lt hp]
    rfl
  · rw [exec_transmitStart, execTransmitStart]
    exact congrArg Host.Outcome.next (if_pos ((State.hostDown_of_le hp _).trans hs))
  · rw [exec_transmitStart, execTransmitStart]
    exact congrArg Host.Outcome.next ((if_neg (by rw [State.hostDown_of_le hp, hs]; decide)).trans
      (if_pos (by rw [isHostPort_of_le hp, Bool.true_and]; exact hr)))
  · rw [exec_transmitStart, execTransmitStart_of_free ((State.hostDown_of_le hp _).trans hs) (by rw [isHostPort_of_le hp, Bool.true_and]; exact hr),
      if_neg (fun h => hn ((State.canStart_iff hm).mp h))]
  · rw [exec_transmitStart, execTransmitStart_of_free ((State.hostDown_of_le hp _).trans hs) (by rw [isHostPort_of_le hp, Bool.true_and]; exact hr),
      if_pos ((State.canStart_iff hm).mpr hfree), State.startNext_of_none hm hh hf, if_pos (isHostPort_of_le hp)]
    rfl
  · rw [exec_transmitUnderrun, execTransmitUnderrun]
    refine congrArg Host.Outcome.next ((if_pos (by rw [hf, hsnf]; rfl)).trans ?_)
    rw [hf, ← State.raisePort_eq]
    rfl
  · rw [exec_transmitUnderrun, execTransmitUnderrun]
    refine congrArg Host.Outcome.next (if_neg ?_)
    obtain hf | hsnf := hn
    · rw [hf]
      simp
    · rw [hsnf]
      simp

end Sys2Proof.Machine

/-!
PROOFS. Rate step-down, half duplex on MT, links of the ports, FT3 receivers (R85, R97 to R102, R106).
-/
namespace Sys2Proof.Machine

/-! ## Rates and collisions -/

theorem exec_utilisationWindow (sb rx tx : Nat) (s : State) : exec (.utilisationWindow sb rx tx) s = execUtilisationWindow sb rx tx s := rfl

theorem exec_renegotiationComplete (sb : Nat) (s : State) : exec (.renegotiationComplete sb) s = execRenegotiationComplete sb s := rfl

theorem exec_transmitBufferHalfFull (sb : Nat) (s : State) : exec (.transmitBufferHalfFull sb) s =
    .next (if s.host.suspended then s else s.stepUp sb) := rfl

theorem exec_collision (bits t : Nat) (s : State) : exec (.collision bits t) s = execCollision bits s t := rfl

theorem exec_rollExpired (t : Nat) (s : State) : exec (.rollExpired t) s =
    .next (if (s.advance t).host.rollEnd ≤ (s.advance t).now then (s.advance t).setHost { (s.advance t).host with roll := none } else s.advance t) := rfl

theorem State.sdApplies_iff (s : State) (sb : Nat) : s.sdApplies sb = true ↔ s.flag (F.SBP_CTRL_SDALLOW sb) = true ∧ s.get (F.SBP_CTRL_MODE sb) = 2 ∧
    s.ptpBase (0x20 + sb) = none ∧ s.flag (F.SBP_PORT_CTRL_TCEN sb) = false := by
  unfold State.sdApplies State.sdInhibited
  simp only [Bool.and_eq_true, beq_iff_eq, Bool.not_eq_true', Bool.or_eq_false_iff, beq_eq_false_iff_ne, Option.isSome_eq_false_iff,
    Option.isNone_iff_eq_none, and_assoc]
  constructor
  · rintro ⟨ha, hm, _, _, hp, ht⟩
    exact ⟨ha, hm, hp, ht⟩
  · rintro ⟨ha, hm, hp, ht⟩
    exact ⟨ha, hm, by omega, by omega, hp, ht⟩

/-- The window of a port to which step-down applies, while the host die runs. -/
theorem execUtilisationWindow_of_applies {s : State} {sb : Nat} (rx tx : Nat) (ha : s.sdApplies sb = true) (hs : s.host.suspended = false) :
    let u := Nat.max rx tx * 100
    let a := bitsAllowed (s.get (F.SBP_STATUS_RATE sb))
    let n := if u < 2 * a then Sp.get 0 s.host.low sb + 1 else 0
    let b := s.setHost { s.host with low := Sp.put 0 s.host.low sb n }
    execUtilisationWindow sb rx tx s = .next (if s.get (F.SBP_STATUS_RATE sb) = 1 then (if 40 * a < u then s.stepUp sb else s)
      else if s.flag (F.SBP_STATUS_RENEG sb) then s else if 10 ≤ n then b.startReneg sb 1 else b) :=
  congrArg Host.Outcome.next (if_neg (by rw [ha, hs]; decide))

theorem State.stepUp_of_running {s : State} {sb : Nat} (h : s.flag (F.SBP_STATUS_RENEG sb) = false) :
    s.stepUp sb = if s.get (F.SBP_STATUS_RATE sb) = 1 ∧ s.declRate sb ≠ 1 then s.startReneg sb (s.declRate sb) else s := by
  unfold State.stepUp State.steppedDown
  rw [if_neg (by rw [h]; decide)]
  simp only [Bool.and_eq_true, beq_iff_eq, bne_iff_ne]

/-- The state at a collision: the frame is out of the counters and the jam is on the line. -/
def State.jammed (a : State) (t : Nat) (f : TxFrame) : State := (a.uncountTx 0x24 f.len).setHost { a.host with carrier := t + a.lineTime 0x24 4 }

theorem State.jammed_attempts (a : State) (t : Nat) (f : TxFrame) : (a.jammed t f).host.attempts = a.host.attempts := by
  rw [State.jammed, State.setHost_host]

/-- What a collision does to a frame on the line. -/
def State.collided (s : State) (bits t : Nat) (f : TxFrame) : State :=
  if !s.mtHalfDuplex || s.host.suspended then s
  else if 512 < bits then ((s.jammed t f).count F.MTP_LATECOL).mtDrop
  else if (s.jammed t f).host.attempts + 1 = 16 then ((s.jammed t f).count F.MTP_EXCOL).mtDrop
  else (s.jammed t f).mtRetry f (t + s.lineTime 0x24 4)

theorem execCollision_of_frame {s : State} {t : Nat} {f : TxFrame} (bits : Nat) (hf : ((s.advance t).port 0x24).cur = some f) :
    execCollision bits s t = .next ((s.advance t).collided bits t f) := by
  have hmatch : execCollision bits s t = .next (match ((s.advance t).port 0x24).cur with
    | none => s.advance t
    | some f => (s.advance t).collided bits t f) := rfl
  rw [hmatch, hf]

theorem execCollision_of_none {s : State} {t : Nat} (bits : Nat) (hf : ((s.advance t).port 0x24).cur = none) :
    execCollision bits s t = .next (s.advance t) := by
  unfold execCollision
  simp only [hf]

theorem State.mtRetry_rolls (w : State) (f : TxFrame) (jam : Nat) : ∃ r, r < 2 ^ Nat.min (w.host.attempts + 1) 10 ∧
    w.mtRetry f jam = ((w.setFree (w.free + 1)).setPort 0x24 { w.port 0x24 with cur := none, hand := some f }).setHost
      { w.host with attempts := w.host.attempts + 1, roll := some r, rollEnd := jam + w.lineTime 0x24 (64 * r) } :=
  ⟨Config.mtRoll w.free % 2 ^ Nat.min (w.host.attempts + 1) 10, Nat.mod_lt _ (Nat.two_pow_pos _), rfl⟩

theorem State.canStart_mt_iff {s : State} (h : s.mtHalfDuplex = true) : s.canStart 0x24 = true ↔ s.flag (linkFld 0x24) = true ∧
    s.pausedNow 0x24 = false ∧ s.sendEnd 0x24 ≤ s.now ∧ s.host.roll = none ∧
    Nat.max s.host.carrier (s.sendEnd 0x24) + s.lineTime 0x24 20 ≤ s.now := by
  unfold State.canStart State.mtClear
  simp [h, and_assoc]

theorem State.startNext_of_hand {s : State} {p n t : Nat} {tag : Option Word} {f : TxFrame} (h : (s.port p).hand = some f) :
    s.startNext p n tag t = s.startFrame p f (s.port p).txq t := by
  unfold State.startNext
  simp only [h]

/-- Settles O26. -/
theorem rateStepsAndCollisions : Obligations.RateStepsAndCollisions := by
  unfold Obligations.RateStepsAndCollisions
  refine ⟨fun s sb rx tx => ⟨State.sdApplies_iff s sb, fun ha hs => ⟨fun hr hu => ?_, fun hr hu => ?_, fun hr hn => ?_, fun hr hn => ?_⟩, fun hx => ?_,
    fun hs => ?_, fun hs => ?_, fun hn hr hd => ?_, fun hn hx => ?_, fun hn => if_pos hn, fun r => rfl, fun hx => ?_, fun hn hs => ?_⟩,
    fun s bits t f => ⟨fun hm hs hf => ⟨fun hb hn => ?_, fun hb hn => ?_, fun hb => ?_⟩, fun u => rfl, fun hx => ?_, fun h => ?_, fun h => ?_,
      State.canStart_mt_iff, fun k tag hc hs hr hh => ?_⟩⟩
  · rw [exec_utilisationWindow, execUtilisationWindow_of_applies rx tx ha hs, if_pos hr, if_pos hu]
  · rw [exec_utilisationWindow, execUtilisationWindow_of_applies rx tx ha hs, if_pos hr, if_neg (by omega)]
  · rw [exec_utilisationWindow, execUtilisationWindow_of_applies rx tx ha hs, if_neg hr, if_pos hn]
  · rw [exec_utilisationWindow, execUtilisationWindow_of_applies rx tx ha hs, if_neg hr, if_neg (by rw [hn]; decide)]
  · rw [exec_utilisationWindow]
    refine congrArg Host.Outcome.next (if_pos ?_)
    obtain hx | hx := hx <;> rw [hx] <;> simp
  · rw [exec_transmitBufferHalfFull, if_neg (by rw [hs]; decide)]
  · rw [exec_transmitBufferHalfFull, if_pos hs]
  · rw [State.stepUp_of_running hn, if_pos ⟨hr, hd⟩]
  · rw [State.stepUp_of_running hn, if_neg (by omega)]
  · rw [exec_renegotiationComplete]
    refine congrArg Host.Outcome.next (if_neg ?_)
    obtain hx | hx := hx <;> rw [hx] <;> simp
  · rw [exec_renegotiationComplete]
    exact congrArg Host.Outcome.next (if_pos (by rw [hn, hs]; rfl))
  · obtain ⟨r, hr, he⟩ := State.mtRetry_rolls ((s.advance t).jammed t f) f (t + (s.advance t).lineTime 0x24 4)
    rw [State.jammed_attempts] at hr he
    refine ⟨r, hr, ?_⟩
    rw [exec_collision, execCollision_of_frame bits hf, State.collided, if_neg (by rw [hm, hs]; decide), if_neg (by omega),
      if_neg (by rw [State.jammed_attempts]; exact hn), he]
    rfl
  · rw [exec_collision, execCollision_of_frame bits hf, State.collided, if_neg (by rw [hm, hs]; decide), if_neg (by omega),
      if_pos (by rw [State.jammed_attempts]; exact hn)]
    rfl
  · rw [exec_collision, execCollision_of_frame bits hf, State.collided, if_neg (by rw [hm, hs]; decide), if_pos hb]
    rfl
  · rw [exec_collision]
    cases hf : ((s.advance t).port 0x24).cur with
    | none => exact execCollision_of_none bits hf
    | some f =>
      rw [execCollision_of_frame bits hf, State.collided]
      refine congrArg Host.Outcome.next (if_pos ?_)
      obtain hm | hs | hn := hx
      · rw [hm]
        rfl
      · rw [hs, Bool.or_true]
      · rw [hn] at hf
        contradiction
  · rw [exec_rollExpired, if_pos h]
  · rw [exec_rollExpired, if_neg (by omega)]
  · rw [exec_transmitStart, execTransmitStart_of_free ((State.hostDown_of_le (by decide) _).trans hs) (by rw [isHostPort_of_le (by decide)]; exact hr),
      if_pos hc, State.startNext_of_hand hh]

end Sys2Proof.Machine

/-!
PROOFS. Links of the ports, wide counters, FT3 receivers, trip drives (R85, R101 to R106, R110).
-/
namespace Sys2Proof.Machine

/-! ## Links -/

theorem exec_portLinkUp (p r : Nat) (s : State) : exec (.portLinkUp p r) s = execPortLinkUp p r s := rfl

theorem exec_portLinkDown (p : Nat) (s : State) : exec (.portLinkDown p) s =
    .next (if p = 16 ∨ p = 17 then (s.portDown p).pairDown (p - 16) else s.portDown p) := rfl

theorem exec_linkStable (p : Nat) (s : State) : exec (.linkStable p) s = .next (if s.flag (linkFld p) then s.raisePort 0x0301 p else s) := rfl

theorem exec_statCounterLoRead (a : Word) (s : State) : exec (.statCounterLoRead a) s = .next (s.latchHi a.toNat) := rfl

theorem exec_ft3Frame (f : Nat) (ok : Bool) (d : Bytes) (t : Nat) (s : State) : exec (.ft3Frame f ok d t) s = execFt3Frame f ok d t s := rfl

theorem exec_ft3FrameMissing (f : Nat) (s : State) : exec (.ft3FrameMissing f) s = .next (if s.get (F.PRT_FTCTRL_RATE f) = 3 then s else s.ftBad f) := rfl

theorem linkFld_of_lt {p : Nat} (h : p < 0x20) : linkFld p = F.PRT_STATUS_LINK p := if_pos h

theorem linkFld_of_le {p : Nat} (h : 0x20 ≤ p) : linkFld p = F.SBP_STATUS_LINK (p - 0x20) := if_neg (by omega)

theorem execPortLinkUp_of_on {s : State} {p : Nat} (r : Nat) (ho : s.portOn p = true) (hd : s.hostDown p = false) :
    let u := s.put (linkFld p) 1
    execPortLinkUp p r s = .next (if p < 0x20 then
        (u.put (F.PRT_STATUS_RATE p) (phyRate (u.get (F.PRT_CTRL_MODE p)) (u.flag (F.PRT_CTRL_AN p)) r)).showLat p
      else if p = 0x24 then (u.put F.MTP_STATUS_RATE (u.mtRate r)).setHost { u.host with mtHalf := decide (8 ≤ r) }
      else u.sbLinkUp (p - 0x20) r) :=
  congrArg Host.Outcome.next (if_pos (by rw [ho, hd]; rfl))

theorem State.portOn_iff (s : State) (p : Nat) : s.portOn p = true ↔
    if p < 12 then 1 ≤ s.get (F.PRT_CTRL_MODE p) ∧ s.get (F.PRT_CTRL_MODE p) ≤ 4
    else if p < 16 then 1 ≤ s.get (F.PRT_CTRL_MODE p) ∧ s.get (F.PRT_CTRL_MODE p) ≤ 5
    else if p < 0x20 then s.get (F.PRT_CTRL_MODE p) = 5
    else if p = 0x24 then s.get F.MTP_CTRL_MODE ≠ 3 ∧ s.hostMacOk 4 = true
    else s.get (F.SBP_CTRL_MODE (p - 0x20)) ∈ [2, 3, 5] ∧ s.hostMacOk (p - 0x20) = true := by
  unfold State.portOn phyListed
  by_cases h12 : p < 12
  · simp [h12, show p < 0x20 by omega]
  · by_cases h16 : p < 16
    · simp [h12, h16, show p < 0x20 by omega]
    · by_cases h32 : p < 0x20
      · simp [h12, h16, h32]
      · by_cases hm : p = 0x24
        · simp [hm]
        · simp [h12, h16, h32, hm, hostPage, or_assoc]

theorem phyRate_table (an : Bool) (r : Nat) : phyRate 1 an r = 1 ∧ phyRate 2 false r = 2 ∧ phyRate 2 true r = Nat.min r 2 ∧ phyRate 3 an r = 2 ∧
    phyRate 4 an r = 3 ∧ phyRate 5 an r = 4 := ⟨rfl, rfl, rfl, rfl, rfl, rfl⟩

theorem State.portDown_of_down {s : State} {p : Nat} (h : s.flag (linkFld p) = false) : s.portDown p = s := if_neg (by rw [h]; decide)

theorem State.portDown_of_field {s : State} {p : Nat} (hp : p < 0x20) (h : s.flag (linkFld p) = true) :
    s.portDown p = ((s.put (F.PRT_STATUS_LINK p) 0).raise 0x0302 p).count (F.PRT_LINKDN p) := by
  unfold State.portDown
  rw [if_pos h]
  dsimp only
  rw [isHostPort_of_lt hp, Bool.false_and, if_neg (by decide), State.raisePort_eq, if_pos hp, linkFld_of_lt hp]
  exact congrArg _ (if_pos hp)

theorem State.portDown_of_host {s : State} {p : Nat} (hp : 0x20 ≤ p) (h : s.flag (linkFld p) = true) :
    let d := ((s.put (F.SBP_STATUS_LINK (p - 0x20)) 0).raiseHost 0x0302 p).count (F.SBP_LINKDN (p - 0x20))
    d.flag (F.SBP_STATUS_RENEG (p - 0x20)) = false → s.portDown p = d := by
  intro d hd
  have hdown : ((s.put (linkFld p) 0).raisePort 0x0302 p).count (portFld F.PRT_LINKDN F.SBP_LINKDN p) = d := by
    rw [State.raisePort_eq, if_neg (by omega), linkFld_of_le hp]
    exact congrArg _ (if_neg (by omega))
  unfold State.portDown
  rw [if_pos h]
  dsimp only
  rw [hdown, isHostPort_of_le hp, Bool.true_and]
  exact if_neg (Bool.eq_false_iff.mp hd)

theorem State.latchHi_of_fields {s : State} {a : Nat} {live hi : Fld} (ha : a < 0x01810000 ∨ 0x01900000 ≤ a)
    (hl : (fieldsAt a).find? (fun f => f.lo == 32) = some live) (hh : (fieldsAt (a + 4)).find? (fun f => f.lo == 0) = some hi) :
    s.latchHi a = s.put hi (s.get live) := by
  unfold State.latchHi
  rw [if_neg (by omega)]
  simp only [hl, hh]

/-- The words of the count of received frames, by evaluation over the 18 ports. -/
theorem rxfrm_fields : ∀ p < 18, (BitVec.ofNat 32 (F.PRT_RXFRM_LO p).addr).toNat = (F.PRT_RXFRM_LO p).addr ∧ (F.PRT_RXFRM_LO p).addr < 0x01810000 ∧
    (fieldsAt (F.PRT_RXFRM_LO p).addr).find? (fun f => f.lo == 32) = some (F.PRT_RXFRM_LIVE p) ∧
    (fieldsAt ((F.PRT_RXFRM_LO p).addr + 4)).find? (fun f => f.lo == 0) = some (F.PRT_RXFRM_HI p) := by decide +kernel

/-! ## FT3 receivers -/

theorem execFt3Frame_of_good {s : State} {f t : Nat} (d : Bytes) (h : (s.advance t).get (F.PRT_FTCTRL_RATE f) ≠ 3) :
    execFt3Frame f true d t s = .next ((s.advance t).ftGood f d t) := by
  rw [execFt3Frame]
  exact congrArg Host.Outcome.next ((if_neg h).trans (if_pos rfl))

/-- The receiver's counters after a good frame. -/
def State.ftTaken (s : State) (f : Nat) : State :=
  (s.setPort (18 + f) { s.port (18 + f) with ftGood := (s.port (18 + f)).ftGood + 1, ftBad := 0 }).stat (F.PRT_FTFRM_LO f) (F.PRT_FTFRM_LIVE f) 1

/-- The streams that a receiver feeds. -/
def State.ftSubs (s : State) (f : Nat) : List Nat := s.subs.filter (fun i => s.get (F.SVI_SUB_KIND i) == 2 && s.get (F.SVI_SUB_FTRX i) == f)

/-- The entry of the ingress queue that a good frame makes. -/
def State.ftEntry (s : State) (f : Nat) (d : Bytes) (t : Nat) : QFrame :=
  { port := 18 + f, ft := true, frame := none, ds := d, stamp := (t * 16 - s.get (F.TSU_FT_RXLAT f)) / 16, subs := s.ftSubs f, at_ := s.now }

/-- What the receiver does with a counted good frame, `n` good ones before it. -/
def State.ftHands (g : State) (f : Nat) (d : Bytes) (t n : Nat) : State :=
  if g.flag (F.PRT_FTSTATUS_SYNC f) then
    if !g.chainOn then g
    else match g.ftSubs f with
      | [] => g.stat F.SVI_NOSUB_LO F.SVI_NOSUB_LIVE 1
      | l => g.enqueue { port := 18 + f, ft := true, frame := none, ds := d, stamp := (t * 16 - g.get (F.TSU_FT_RXLAT f)) / 16, subs := l, at_ := g.now }
  else if 2 ≤ n + 1 then (g.put (F.PRT_FTSTATUS_SYNC f) 1).raise 0x0402 f
  else g

theorem State.ftGood_eq (s : State) (f : Nat) (d : Bytes) (t : Nat) :
    s.ftGood f d t = (s.ftTaken f).ftHands f d t (s.port (18 + f)).ftGood := by
  unfold State.ftGood
  extract_lets q g
  rw [show s.ftTaken f = g from rfl]
  clear_value g
  unfold State.ftHands State.ftSubs
  generalize g.subs.filter (fun i => g.get (F.SVI_SUB_KIND i) == 2 && g.get (F.SVI_SUB_FTRX i) == f) = l
  cases l <;> rfl

theorem State.ftHands_of_unsynced {g : State} {f : Nat} (d : Bytes) (t n : Nat) (h : g.flag (F.PRT_FTSTATUS_SYNC f) = false) :
    g.ftHands f d t n = if 1 ≤ n then (g.put (F.PRT_FTSTATUS_SYNC f) 1).raise 0x0402 f else g := by
  unfold State.ftHands
  rw [if_neg (Bool.eq_false_iff.mp h)]
  simp only [show 2 ≤ n + 1 ↔ 1 ≤ n by omega]

theorem State.ftHands_of_off {g : State} {f : Nat} (d : Bytes) (t n : Nat) (h : g.flag (F.PRT_FTSTATUS_SYNC f) = true) (hc : g.chainOn = false) :
    g.ftHands f d t n = g := by
  unfold State.ftHands
  rw [if_pos h, if_pos (by rw [hc]; rfl)]

theorem State.ftHands_of_synced {g : State} {f : Nat} (d : Bytes) (t n : Nat) (h : g.flag (F.PRT_FTSTATUS_SYNC f) = true) (hc : g.chainOn = true) :
    (g.ftSubs f = [] → g.ftHands f d t n = g.stat F.SVI_NOSUB_LO F.SVI_NOSUB_LIVE 1) ∧
    (g.ftSubs f ≠ [] → g.ftHands f d t n = g.enqueue (g.ftEntry f d t)) := by
  unfold State.ftHands
  rw [if_pos h, if_neg (by rw [hc]; decide), State.ftEntry]
  cases g.ftSubs f with
  | nil => exact ⟨fun _ => rfl, fun hn => absurd rfl hn⟩
  | cons x l => exact ⟨fun hn => absurd hn (List.cons_ne_nil x l), fun _ => rfl⟩

theorem State.ftBad_eq (v : State) (f : Nat) :
    let m := v.setPort (18 + f) { v.port (18 + f) with ftGood := 0, ftBad := (v.port (18 + f)).ftBad + 1 }
    v.ftBad f = if m.flag (F.PRT_FTSTATUS_SYNC f) = true ∧ 2 ≤ (v.port (18 + f)).ftBad then
      ((m.put (F.PRT_FTSTATUS_SYNC f) 0).count (F.PRT_FTSYNC_SYNCLOSS f)).raise 0x0401 f else m := by
  unfold State.ftBad
  simp only [Bool.and_eq_true, decide_eq_true_eq, show ∀ n, (3 ≤ n + 1 ↔ 2 ≤ n) by omega]

/-- Settles O27. -/
theorem portLinksAndFt3Receivers : Obligations.PortLinksAndFt3Receivers := by
  unfold Obligations.PortLinksAndFt3Receivers
  refine ⟨fun s p r => ⟨fun hp ho => ?_, fun ho hs => ?_, fun hp hp2 ho hs => ⟨fun hr => ?_, fun hr => ?_⟩, fun hx => ?_, State.portOn_iff s p,
    fun an => phyRate_table an r, fun hl => ⟨?_, fun hp => ?_, fun hp => ⟨fun hr hb => ?_, fun hx => ?_⟩, fun hp hd => ?_⟩, fun hl => ⟨?_, fun h16 h17 => ?_⟩,
    fun a live hi ha hlive hhi => ?_, fun hp => ?_⟩,
    fun s f d t => ⟨fun hr => ⟨?_, ?_⟩, fun hr hsync => ⟨fun hg => ?_, fun hg => ?_⟩, fun hr hsync => ⟨fun hc => ?_, fun hc hl => ?_, fun hc hl => ?_⟩,
      fun hr => ?_, fun hr => ?_, fun hr => ?_⟩⟩
  · rw [exec_portLinkUp, execPortLinkUp_of_on r ho (State.hostDown_of_lt (by omega) s), if_pos (by omega)]
  · rw [exec_portLinkUp, execPortLinkUp_of_on r ho ((State.hostDown_of_le (by decide) s).trans hs), if_neg (by decide), if_pos rfl]
    rfl
  · rw [exec_portLinkUp, execPortLinkUp_of_on r ho ((State.hostDown_of_le hp s).trans hs), if_neg (by omega), if_neg (by omega)]
    exact congrArg Host.Outcome.next (if_pos hr)
  · rw [exec_portLinkUp, execPortLinkUp_of_on r ho ((State.hostDown_of_le hp s).trans hs), if_neg (by omega), if_neg (by omega)]
    refine congrArg Host.Outcome.next ((if_neg (Bool.eq_false_iff.mp hr)).trans ?_)
    rw [show 0x20 + (p - 0x20) = p by omega]
  · rw [exec_portLinkUp]
    refine congrArg Host.Outcome.next (if_neg ?_)
    obtain ho | ⟨hp, hs⟩ := hx
    · rw [ho, Bool.false_and]
      decide
    · rw [State.hostDown_of_le hp, hs, Bool.not_true, Bool.and_false]
      decide
  · rw [exec_linkStable, if_pos hl, State.raisePort_eq]
  · rw [exec_portLinkDown, if_neg (by omega), State.portDown_of_field (by omega) hl]
  · rw [exec_portLinkDown, if_pos hp, State.portDown_of_field (by omega) hl]
    exact congrArg Host.Outcome.next (if_pos (by rw [hr, hb]; rfl))
  · rw [exec_portLinkDown, if_pos hp, State.portDown_of_field (by omega) hl]
    refine congrArg Host.Outcome.next (if_neg ?_)
    obtain hx | hx := hx <;> rw [hx] <;> simp
  · rw [exec_portLinkDown, if_neg (by omega), State.portDown_of_host hp hl hd]
  · rw [exec_linkStable, if_neg (Bool.eq_false_iff.mp hl)]
  · rw [exec_portLinkDown, if_neg (by omega), State.portDown_of_down hl]
  · rw [exec_statCounterLoRead, State.latchHi_of_fields ha hlive hhi]
  · obtain ⟨haddr, hlt, hlive, hhi⟩ := rxfrm_fields p hp
    rw [exec_statCounterLoRead, haddr, State.latchHi_of_fields (Or.inl hlt) hlive hhi]
  · rw [exec_ft3Frame, execFt3Frame]
    exact congrArg Host.Outcome.next (if_pos hr)
  · rw [exec_ft3Frame, execFt3Frame]
    exact congrArg Host.Outcome.next (if_pos hr)
  · rw [exec_ft3Frame, execFt3Frame_of_good d hr, State.ftGood_eq]
    exact congrArg Host.Outcome.next ((State.ftHands_of_unsynced d t _ hsync).trans (if_pos hg))
  · rw [exec_ft3Frame, execFt3Frame_of_good d hr, State.ftGood_eq]
    exact congrArg Host.Outcome.next ((State.ftHands_of_unsynced d t _ hsync).trans (if_neg (by rw [hg]; decide)))
  · rw [exec_ft3Frame, execFt3Frame_of_good d hr, State.ftGood_eq]
    exact congrArg Host.Outcome.next (State.ftHands_of_off d t _ hsync hc)
  · rw [exec_ft3Frame, execFt3Frame_of_good d hr, State.ftGood_eq]
    exact congrArg Host.Outcome.next ((State.ftHands_of_synced d t _ hsync hc).1 hl)
  · rw [exec_ft3Frame, execFt3Frame_of_good d hr, State.ftGood_eq]
    exact congrArg Host.Outcome.next ((State.ftHands_of_synced d t _ hsync hc).2 hl)
  · rw [exec_ft3Frame, execFt3Frame]
    exact congrArg Host.Outcome.next ((if_neg hr).trans ((if_neg (by decide)).trans (State.ftBad_eq _ f)))
  · rw [exec_ft3FrameMissing, if_neg hr, State.ftBad_eq]
  · rw [exec_ft3FrameMissing, if_pos hr]

end Sys2Proof.Machine

/-!
PROOFS. Trip drives (R103, R104, R110).
-/
namespace Sys2Proof.Machine

theorem exec_minonExpired (d t : Nat) (s : State) : exec (.minonExpired d t) s = .next ((s.advance t).driveTrip d) := rfl

theorem exec_overloadRetry (d : Nat) (o : Bool) (t : Nat) (s : State) : exec (.overloadRetry d o t) s = execOverloadRetry d o t s := rfl

theorem exec_tripOverload (d : Nat) (s : State) : exec (.tripOverload d) s = execTripOverload d s := rfl

theorem exec_openLoadFound (d : Nat) (s : State) : exec (.openLoadFound d) s =
    .next (if s.flag (F.PRT_TRIP_ON d) then s.put (F.PRT_TRIP_OPENLOAD d) 1 else s) := rfl

theorem State.tripForced_iff (s : State) (d : Nat) : s.tripForced d = true ↔ s.ready = false ∨ s.active = false ∨
    (s.get F.TOK_CTRL_MODE ≠ 0 ∧ s.flag F.TOK_STATUS_HELD = false) ∨ 2 ≤ s.get F.PWR_STATE ∨ (s.trip d).ownerReset = true ∨ s.tok.resume = true := by
  unfold State.tripForced State.gateOpen State.flag
  simp only [Bool.or_eq_true, Bool.not_eq_true', decide_eq_true_eq, Bool.or_eq_false_iff, beq_eq_false_iff_ne, or_assoc]

/-- A field of a drive's registers that is not FORCED reads as before FORCED is cleared. -/
theorem State.get_unforced {s : State} (h : s.Sound) (d : Nat) {f : Fld} (hf : f.key ≠ (F.PRT_TRIP_FORCED d).key) :
    (s.put (F.PRT_TRIP_FORCED d) 0).get f = s.get f := State.get_put_ne h.rising _ _ _ hf

/-- The fields that the drive follows, none of which is FORCED. -/
theorem tripFields_ne (d : Nat) : (F.PRT_TRIP_OWNER d).key ≠ (F.PRT_TRIP_FORCED d).key ∧ (F.PRT_TRIP_CMD d).key ≠ (F.PRT_TRIP_FORCED d).key ∧
    (F.PRT_TRIP_ON d).key ≠ (F.PRT_TRIP_FORCED d).key ∧ (F.PRT_TRIP_MINON d).key ≠ (F.PRT_TRIP_FORCED d).key := by
  refine ⟨?_, ?_, ?_, ?_⟩ <;> simp only [Fld.key, F.PRT_TRIP_OWNER, F.PRT_TRIP_CMD, F.PRT_TRIP_ON, F.PRT_TRIP_MINON, F.PRT_TRIP_FORCED] <;> omega

theorem State.driveTrip_of_forced {s : State} {d : Nat} (hk : s.power.kind ≠ some .b) (hf : s.tripForced d = true) :
    s.driveTrip d = (s.put (F.PRT_TRIP_FORCED d) 1).openTrip d := by
  unfold State.driveTrip
  rw [if_neg hk, if_pos hf]

theorem State.driveTrip_of_unowned {s : State} {d : Nat} (h : s.Sound) (hk : s.power.kind ≠ some .b) (hf : s.tripForced d = false)
    (ho : s.get (F.PRT_TRIP_OWNER d) = 0) : s.driveTrip d = (s.put (F.PRT_TRIP_FORCED d) 0).openTrip d := by
  obtain ⟨howner, _⟩ := tripFields_ne d
  unfold State.driveTrip
  rw [if_neg hk, if_neg (Bool.eq_false_iff.mp hf)]
  exact if_pos ((State.get_unforced h d howner).trans ho)

/-- A drive that has an owner and is not forced: by its committed bit, whether it is closed, and MINON. -/
theorem State.driveTrip_of_owned {s : State} {d : Nat} (h : s.Sound) (hk : s.power.kind ≠ some .b) (hf : s.tripForced d = false)
    (ho : s.get (F.PRT_TRIP_OWNER d) ≠ 0) : let b := s.put (F.PRT_TRIP_FORCED d) 0
    s.driveTrip d = if s.flag (F.PRT_TRIP_CMD d) then
        if s.flag (F.PRT_TRIP_ON d) || (s.trip d).overOff then b else (b.put (F.PRT_TRIP_ON d) 1).setTrip d { s.trip d with closedAt := some s.now }
      else if ∃ c, (s.trip d).closedAt = some c ∧ s.now < c + s.get (F.PRT_TRIP_MINON d) * 1000000 then b else b.openTrip d := by
  obtain ⟨howner, hcmd, hon, hmin⟩ := tripFields_ne d
  intro b
  have hgo : b.get (F.PRT_TRIP_OWNER d) ≠ 0 := by rwa [State.get_unforced h d howner]
  have hgc : b.flag (F.PRT_TRIP_CMD d) = s.flag (F.PRT_TRIP_CMD d) := by rw [State.flag, State.get_unforced h d hcmd, State.flag]
  have hgn : b.flag (F.PRT_TRIP_ON d) = s.flag (F.PRT_TRIP_ON d) := by rw [State.flag, State.get_unforced h d hon, State.flag]
  have hgm : b.get (F.PRT_TRIP_MINON d) = s.get (F.PRT_TRIP_MINON d) := State.get_unforced h d hmin
  have htrip : b.trip d = s.trip d := rfl
  have hnow : b.now = s.now := rfl
  unfold State.driveTrip
  rw [if_neg hk, if_neg (Bool.eq_false_iff.mp hf)]
  refine (if_neg hgo).trans ?_
  rw [show s.put (F.PRT_TRIP_FORCED d) 0 = b from rfl, hgc, hgn, htrip, hnow, hgm]
  cases (s.trip d).closedAt <;> simp

theorem execOverloadRetry_of_ok {s : State} {d t : Nat} (ho : ((s.advance t).trip d).overOff = true) (hc : (s.advance t).flag (F.PRT_TRIP_CMD d) = true)
    (hf : (s.advance t).tripForced d = false) : execOverloadRetry d false t s =
      .next ((((s.advance t).put (F.PRT_TRIP_OVERLOAD d) 0).setTrip d { (s.advance t).trip d with overOff := false }).driveTrip d) :=
  congrArg Host.Outcome.next (if_pos (by rw [ho, hc, hf]; rfl))

theorem execOverloadRetry_of_not {s : State} {d t : Nat} {o : Bool} (h : ((s.advance t).trip d).overOff = false ∨ (s.advance t).flag (F.PRT_TRIP_CMD d) = false ∨
    (s.advance t).tripForced d = true ∨ o = true) : execOverloadRetry d o t s = .next (s.advance t) := by
  refine congrArg Host.Outcome.next (if_neg ?_)
  obtain h | h | h | h := h <;> rw [h] <;> simp

/-- Settles O28: clearing FORCED leaves the other fields of a sound state's drive, and the drive follows them. -/
theorem drivesFollowTheirCommand : Obligations.DrivesFollowTheirCommand := by
  unfold Obligations.DrivesFollowTheirCommand
  refine ⟨fun s d t hd => ⟨State.tripForced_iff _ d, fun hk => ?_, fun hk hf => ?_, fun hs hk hf ho => ⟨fun hc hn hv => ?_, fun hc hx => ?_, fun hc hn => ?_,
    fun c hc hn hlt => ?_, fun c hc hn hle => ?_⟩, fun hs hk hf ho => ?_⟩,
    fun s d t => ⟨fun hn => ⟨?_, ?_⟩, fun hn => ⟨?_, ?_⟩, rfl, fun ho hc hf => ⟨?_, ?_⟩, fun hx => ⟨?_, ?_⟩⟩⟩
  · rw [exec_minonExpired, State.driveTrip, if_pos hk]
  · rw [exec_minonExpired, State.driveTrip_of_forced hk hf]
    rfl
  · rw [exec_minonExpired, State.driveTrip_of_owned hs hk hf ho, if_pos hc, if_neg (by rw [hn, hv]; decide)]
  · rw [exec_minonExpired, State.driveTrip_of_owned hs hk hf ho, if_pos hc, if_pos (by rwa [Bool.or_eq_true])]
  · rw [exec_minonExpired, State.driveTrip_of_owned hs hk hf ho, if_neg (Bool.eq_false_iff.mp hc), if_neg (by rw [hn]; rintro ⟨c, hc, _⟩; contradiction)]
    rfl
  · rw [exec_minonExpired, State.driveTrip_of_owned hs hk hf ho, if_neg (Bool.eq_false_iff.mp hc), if_pos ⟨c, hn, hlt⟩]
  · rw [exec_minonExpired, State.driveTrip_of_owned hs hk hf ho, if_neg (Bool.eq_false_iff.mp hc), if_neg]
    · rfl
    · rintro ⟨x, hx, hlt⟩
      obtain rfl : c = x := Option.some.inj (hn.symm.trans hx)
      omega
  · rw [exec_minonExpired, State.driveTrip_of_unowned hs hk hf ho]
    rfl
  · rw [exec_tripOverload]
    exact congrArg Host.Outcome.next (if_pos hn)
  · rw [exec_openLoadFound, if_pos hn]
  · rw [exec_tripOverload]
    exact congrArg Host.Outcome.next (if_neg (Bool.eq_false_iff.mp hn))
  · rw [exec_openLoadFound, if_neg (Bool.eq_false_iff.mp hn)]
  · rw [exec_overloadRetry, execOverloadRetry_of_ok ho hc hf]
  · rw [exec_overloadRetry, execOverloadRetry_of_not (by simp)]
  · rw [exec_overloadRetry, execOverloadRetry_of_not (hx.imp_right (Or.imp_right Or.inl))]
  · rw [exec_overloadRetry, execOverloadRetry_of_not (by simp)]

end Sys2Proof.Machine

/-!
PROOFS. Time bases: the latched read, what a change of state reports, TIN (R112 to R123, R127).
-/
namespace Sys2Proof.Machine

/-! ## A read of the nanoseconds -/

theorem exec_tbNsRead (b t : Nat) (s : State) : exec (.tbNsRead b t) s = .next ((s.advance t).latchTb b) := rfl

/-- Four fields that lie apart, written one after another, read back and leave all others. -/
theorem State.get_latchTb {s : State} (h : s.Sound) (b : Nat) :
    (s.latchTb b).get (F.TSU_TB_NS b) = s.tbNs b % 1000000000 ∧ (s.latchTb b).get (F.TSU_TB_SECLO b) = s.tbSec b % 2 ^ 32 ∧
    (s.latchTb b).get (F.TSU_TB_SECHI b) = s.tbSec b / 2 ^ 32 % 2 ^ 16 ∧ (s.latchTb b).get (F.TSU_TB_WRAP b) = s.tbNs b % 2 ^ 32 ∧
    RegsBut [F.TSU_TB_NS b, F.TSU_TB_SECLO b, F.TSU_TB_SECHI b, F.TSU_TB_WRAP b] s (s.latchTb b) := by
  have hns := State.put_sound h (F.TSU_TB_NS b) (s.tbNs b % 1000000000)
  have hlo := State.put_sound hns (F.TSU_TB_SECLO b) (s.tbSec b)
  have hhi := State.put_sound hlo (F.TSU_TB_SECHI b) (s.tbSec b / 2 ^ 32)
  have hkeys : (F.TSU_TB_NS b).key < (F.TSU_TB_SECLO b).key ∧ (F.TSU_TB_SECLO b).key < (F.TSU_TB_SECHI b).key ∧
      (F.TSU_TB_SECHI b).key < (F.TSU_TB_WRAP b).key := by
    simp only [Fld.key, F.TSU_TB_NS, F.TSU_TB_SECLO, F.TSU_TB_SECHI, F.TSU_TB_WRAP]
    omega
  obtain ⟨h1, h2, h3⟩ := hkeys
  unfold State.latchTb
  refine ⟨?_, ?_, ?_, ?_, ?_⟩
  · rw [State.get_put_ne hhi.rising _ _ _ (by omega), State.get_put_ne hlo.rising _ _ _ (by omega), State.get_put_ne hns.rising _ _ _ (by omega),
      State.get_put_same h.rising]
    show s.tbNs b % 1000000000 % 2 ^ 30 = _
    omega
  · rw [State.get_put_ne hhi.rising _ _ _ (by omega), State.get_put_ne hlo.rising _ _ _ (by omega), State.get_put_same hns.rising]
    rfl
  · rw [State.get_put_ne hhi.rising _ _ _ (by omega), State.get_put_same hlo.rising]
    rfl
  · rw [State.get_put_same hhi.rising]
    rfl
  · have hin := fun (u : State) (hu : u.Sound) (f : Fld) (v : Nat) (hf : f ∈ [F.TSU_TB_NS b, F.TSU_TB_SECLO b, F.TSU_TB_SECHI b, F.TSU_TB_WRAP b]) =>
      RegsBut.mono (State.regsBut_put hu f v) (fun g hg => by rw [List.mem_singleton.mp hg]; exact hf)
    exact (((hin _ h _ _ (by simp)).trans (hin _ hns _ _ (by simp))).trans (hin _ hlo _ _ (by simp))).trans (hin _ hhi _ _ (by simp))

/-- A time below 2^48 s in its nanoseconds and the two words of its seconds. -/
theorem time_words (n : Nat) : n % 1000000000 + 1000000000 * (n / 1000000000 % 2 ^ 32 + 2 ^ 32 * (n / 1000000000 / 2 ^ 32 % 2 ^ 16)) =
    n % (1000000000 * 2 ^ 48) := by omega

/-- Settles O29. -/
theorem timeIsLatchedAtOneInstant : Obligations.TimeIsLatchedAtOneInstant := by
  unfold Obligations.TimeIsLatchedAtOneInstant
  intro s b t _ hs
  obtain ⟨hns, hlo, hhi, hwrap, hbut⟩ := State.get_latchTb hs b
  refine ⟨_, exec_tbNsRead b t s, ?_, hwrap, hbut, rfl⟩
  rw [hns, hlo, hhi]
  exact time_words _

/-! ## A change of state that the link drops -/

/-- The link is down with 1,024 records waiting. -/
def jammed : State :=
  State.reset.setLink { LinkS.init with evq := List.replicate 1024 { code := 0, inst := 0, tb := 0, arg := 0, sec := 0, ns := 0 } }

/-- One more record lost makes EVLOST 0xFFFF. -/
def brimming : State := jammed.put F.XNG_REFUSED_EVLOST 0xFFFE

theorem State.send_log (s : State) (m : Msg) : (s.send m).log = s.log := by
  rw [State.send_eq_setLink]
  rfl

/-- Its base 0 has no followers, and a change of state leaves two records: its own and that of the counter. -/
theorem brimming_tbTo : brimming.followers 0 = [] ∧ (brimming.tbTo 0 1 0x0601 0).log.length = 2 ∧ brimming.log = [] := by decide +kernel

/-- Refutes O30: where the link drops the record and EVLOST reaches 0xFFFF by it, event 0x01FF is logged behind the event of the state. -/
theorem not_basesLoseAndChangeTheirState : ¬ Obligations.BasesLoseAndChangeTheirState := by
  unfold Obligations.BasesLoseAndChangeTheirState
  intro h
  obtain ⟨_, hchange⟩ := h
  obtain ⟨hfoll, htwo, hlog⟩ := brimming_tbTo
  have hsound : brimming.Sound := State.put_sound (s := jammed) ⟨rfl, rfl, Nat.zero_le _⟩ _ _
  obtain ⟨u, hu, _, hone, _⟩ := hchange brimming 0 1 0x0601 0 (by decide) (by decide) hsound hfoll (by decide)
  rw [hu, State.sendTimeStatus, State.send_log, hone, hlog] at htwo
  exact absurd htwo (by simp [keepLast])

end Sys2Proof.Machine

/-!
PROOFS. TIN: IRIG-B frames, edges, leap seconds (R122, R123).
-/
namespace Sys2Proof.Machine

/-! ## Which bases TIN disciplines -/

theorem State.tinBases_eq (s : State) : s.tinBases = (List.range 4).filter (fun b => s.active && s.get (F.TSU_TB_CTRL_SRC b) == 2) := by
  unfold State.tinBases State.srcOf
  refine List.filter_congr (fun b _ => ?_)
  cases s.active <;> rfl

/-- An entry read before another is removed, with one in between that is there, reads as before: no order of the table is needed. -/
theorem Sp.get_erase_above {α : Type} (d e : α) {i j k : Nat} (hij : i ≤ j) (hjk : j < k) : ∀ l : List (Nat × α),
    Sp.get d l j ≠ d → Sp.get e (Sp.erase l k) i = Sp.get e l i
  | [], _ => rfl
  | (x, v) :: r, h => by
    have hxj : ¬ j < x := fun hlt => h (by simp only [Sp.get, if_pos hlt])
    have hkx : ¬ k < x := by omega
    have hne : k ≠ x := by omega
    simp only [Sp.erase, if_neg hkx, if_neg hne, Sp.get]
    by_cases hix : i < x
    · simp only [if_pos hix]
    · by_cases hi : i = x
      · simp only [if_neg hix, if_pos hi]
      · simp only [if_neg hix, if_neg hi]
        refine Sp.get_erase_above d e hij hjk r ?_
        rwa [Sp.get, if_neg hxj, if_neg (by omega)] at h

theorem State.get_clear_sync {s : State} (h : s.get F.TSU_TIN_CTRL_MODE ≠ 0) {f : Fld} (hf : f.key ≤ F.TSU_TIN_CTRL_MODE.key) :
    (s.put F.TSU_TIN_STATUS_SYNC 0).get f = s.get f :=
  Sp.get_erase_above F.TSU_TIN_CTRL_MODE.reset f.reset hf (by decide) s.regs h

theorem State.tinBases_clear_sync {s : State} (h : s.get F.TSU_TIN_CTRL_MODE ≠ 0) : (s.put F.TSU_TIN_STATUS_SYNC 0).tinBases = s.tinBases := by
  rw [State.tinBases_eq, State.tinBases_eq]
  refine List.filter_congr (fun b hb => ?_)
  have hb := List.mem_range.mp hb
  have hsrc : (F.TSU_TB_CTRL_SRC b).key ≤ F.TSU_TIN_CTRL_MODE.key := by
    simp only [Fld.key, F.TSU_TB_CTRL_SRC, F.TSU_TIN_CTRL_MODE]
    omega
  rw [State.get_clear_sync h hsrc, State.active, State.flag, State.get_clear_sync h (by decide), State.active, State.flag]

/-! ## Bad frames and edges -/

theorem State.tinBad_of_ne {s : State} (h : s.tin.bad ≠ 2) : s.tinBad = s.setTin { s.tin with bad := s.tin.bad + 1, good := 0 } :=
  if_neg (by omega)

theorem State.tinBad_of_third {s : State} (hm : s.get F.TSU_TIN_CTRL_MODE ≠ 0) (h : s.tin.bad = 2) :
    let n := s.setTin { s.tin with bad := s.tin.bad + 1, good := 0 }
    s.tinBad = (n.put F.TSU_TIN_STATUS_SYNC 0).tinBases.foldl State.sourceLost (n.put F.TSU_TIN_STATUS_SYNC 0) := by
  intro n
  rw [State.tinBases_clear_sync (s := n) hm]
  exact if_pos (by omega)

/-! ## Good frames -/

theorem irigFrame_of_off {s : State} (good : Bool) (toy ys : Nat) (lp : Bool) (q : Nat) (h : s.get F.TSU_TIN_CTRL_MODE ∉ [1, 2]) :
    irigFrame good toy ys lp q s = s := if_neg (by simpa using h)

theorem irigFrame_of_on {s : State} (good : Bool) (toy ys : Nat) (lp : Bool) (q : Nat) (h : s.get F.TSU_TIN_CTRL_MODE ∈ [1, 2]) :
    irigFrame good toy ys lp q s = if good then
      let s := s.setTin { s.tin with good := s.tin.good + 1, bad := 0 }
      let s := if 2 ≤ s.tin.good then s.put F.TSU_TIN_STATUS_SYNC 1 else s
      let cf := s.flag F.TSU_TIN_CTRL_CF
      let s := if cf then (s.putB F.TSU_TIN_STATUS_LEAP lp).put F.TSU_TIN_STATUS_QUAL q else s
      if s.flag F.TSU_TIN_STATUS_SYNC then
        let ofs := s.get F.TSU_TIN_UTC_UTCOFS
        s.tinBases.foldl (fun s b =>
          let y := if cf then ys else yearStartOf (s.tbSec b - ofs)
          s.servo b ((s.tbNs b : Int) - (((y + toy + ofs) * 1000000000 + s.get F.TSU_TIN_CTRL_DELAY : Nat) : Int)) 0xFF) s
      else s
    else s.tinBad := if_pos (by simpa using h)

/-- The first good frame after a bad one synchronises nothing. -/
theorem irigFrame_of_first {s : State} (toy ys : Nat) (lp : Bool) (q : Nat) (h : s.get F.TSU_TIN_CTRL_MODE ∈ [1, 2]) (hg : s.tin.good = 0)
    (hsync : s.flag F.TSU_TIN_STATUS_SYNC = false) (hcf : s.flag F.TSU_TIN_CTRL_CF = false) :
    irigFrame true toy ys lp q s = s.setTin { s.tin with good := 1, bad := 0 } := by
  rw [irigFrame_of_on true toy ys lp q h, if_pos rfl]
  extract_lets _ n u cf v
  have hu : u = n := if_neg (by show ¬ 2 ≤ s.tin.good + 1; omega)
  have hv : v = n := by
    show (if u.flag F.TSU_TIN_CTRL_CF = true then _ else u) = n
    rw [hu]
    exact if_neg (Bool.eq_false_iff.mp hcf)
  rw [hv]
  refine (if_neg (Bool.eq_false_iff.mp hsync)).trans ?_
  show s.setTin { s.tin with good := s.tin.good + 1, bad := 0 } = _
  rw [hg]

/-- The receiver once a frame has been good. -/
def State.irigCounted (s : State) : State := s.setTin { s.tin with good := s.tin.good + 1, bad := 0 }

/-- What a frame leaves once two have been good: SYNC, LEAP and QUAL. -/
def State.irigShown (s : State) (lp : Bool) (q : Nat) : State :=
  ((s.irigCounted.put F.TSU_TIN_STATUS_SYNC 1).putB F.TSU_TIN_STATUS_LEAP lp).put F.TSU_TIN_STATUS_QUAL q

theorem RegsBut.put {l : List Fld} {s t : State} (h : RegsBut l s t) (ht : t.Sound) {f : Fld} (hf : f ∈ l) (v : Nat) :
    RegsBut l s (t.put f v) :=
  h.trans ((State.regsBut_put ht f v).mono (fun g hg => by rwa [List.mem_singleton.mp hg]))

/-- The frame sets no field but those three. -/
theorem State.regsBut_irigShown {s : State} (h : s.Sound) (lp : Bool) (q : Nat) :
    RegsBut [F.TSU_TIN_STATUS_SYNC, F.TSU_TIN_STATUS_LEAP, F.TSU_TIN_STATUS_QUAL] s (s.irigShown lp q) := by
  have h0 : s.irigCounted.Sound := h
  have h1 := State.put_sound h0 F.TSU_TIN_STATUS_SYNC 1
  have h2 := State.put_sound h1 F.TSU_TIN_STATUS_LEAP (ofBool lp)
  exact ((((RegsBut.of_regs (t := s.irigCounted) rfl _).put h0 (by simp) 1).put h1 (by simp) (ofBool lp)).put h2 (by simp) q)

theorem State.get_sync_irigShown {s : State} (h : s.Sound) (lp : Bool) (q : Nat) : (s.irigShown lp q).get F.TSU_TIN_STATUS_SYNC = 1 := by
  have h0 : s.irigCounted.Sound := h
  have h1 := State.put_sound h0 F.TSU_TIN_STATUS_SYNC 1
  have h2 := State.put_sound h1 F.TSU_TIN_STATUS_LEAP (ofBool lp)
  rw [State.irigShown, State.putB, State.get_put_ne h2.rising _ _ _ (by decide), State.get_put_ne h1.rising _ _ _ (by decide),
    State.get_put_same h0.rising]
  rfl

theorem State.tbNs_irigShown (s : State) (lp : Bool) (q x : Nat) : (s.irigShown lp q).tbNs x = s.tbNs x := by
  simp only [State.tbNs, State.tb, State.irigShown, State.putB, State.irigCounted, State.put, State.setRegs_tbs, State.setTin_tbs]

theorem State.tinBases_irigShown {s : State} (h : s.Sound) (lp : Bool) (q : Nat) : (s.irigShown lp q).tinBases = s.tinBases := by
  have hr := State.regsBut_irigShown h lp q
  rw [State.tinBases_eq, State.tinBases_eq]
  refine List.filter_congr (fun b hb => ?_)
  have hb := List.mem_range.mp hb
  have hsrc : (s.irigShown lp q).get (F.TSU_TB_CTRL_SRC b) = s.get (F.TSU_TB_CTRL_SRC b) := hr _ (by
    intro g hg
    simp only [List.mem_cons, List.not_mem_nil, or_false] at hg
    obtain rfl | rfl | rfl := hg <;>
      (simp only [Fld.key, F.TSU_TB_CTRL_SRC, F.TSU_TIN_STATUS_SYNC, F.TSU_TIN_STATUS_LEAP, F.TSU_TIN_STATUS_QUAL]; omega))
  rw [hsrc, State.active, State.flag, hr F.PWR_STAGE_CFG (by decide), State.active, State.flag]

/-- What a good frame does with the offset that it gives, once what it shows is there. -/
def State.irigServe (s : State) (cf : Bool) (toy ys : Nat) : State :=
  if s.flag F.TSU_TIN_STATUS_SYNC then
    let ofs := s.get F.TSU_TIN_UTC_UTCOFS
    s.tinBases.foldl (fun s b =>
      let y := if cf then ys else yearStartOf (s.tbSec b - ofs)
      s.servo b ((s.tbNs b : Int) - (((y + toy + ofs) * 1000000000 + s.get F.TSU_TIN_CTRL_DELAY : Nat) : Int)) 0xFF) s
  else s

theorem State.irigServe_of_sync {s : State} (toy ys : Nat) (hsync : s.flag F.TSU_TIN_STATUS_SYNC = true) :
    s.irigServe true toy ys = s.tinBases.foldl (fun u b => u.servo b ((u.tbNs b : Int) -
      (((ys + toy + s.get F.TSU_TIN_UTC_UTCOFS) * 1000000000 + u.get F.TSU_TIN_CTRL_DELAY : Nat) : Int)) 0xFF) s := by
  unfold State.irigServe
  rw [if_pos hsync]
  simp only [if_true]

theorem foldl_of_eq_singleton {α β : Type} {l : List β} {x : β} (h : l = [x]) (f : α → β → α) (a : α) : l.foldl f a = f a x := by
  rw [h, List.foldl_cons, List.foldl_nil]

theorem State.irigServe_single {s : State} {x : Nat} (toy ys : Nat) (hsync : s.flag F.TSU_TIN_STATUS_SYNC = true) (hx : s.tinBases = [x]) :
    s.irigServe true toy ys = s.servo x ((s.tbNs x : Int) -
      (((ys + toy + s.get F.TSU_TIN_UTC_UTCOFS) * 1000000000 + s.get F.TSU_TIN_CTRL_DELAY : Nat) : Int)) 0xFF :=
  (State.irigServe_of_sync toy ys hsync).trans (foldl_of_eq_singleton hx _ s)

/-- A frame that sets SYNC gives the base that TIN disciplines its offset. -/
theorem irigFrame_of_synchronised {s : State} {x : Nat} (toy ys : Nat) (lp : Bool) (q : Nat) (h : s.get F.TSU_TIN_CTRL_MODE ∈ [1, 2])
    (hg : 1 ≤ s.tin.good) (hcf : s.flag F.TSU_TIN_CTRL_CF = true) (hs : s.Sound) (hx : s.tinBases = [x]) :
    irigFrame true toy ys lp q s = (s.irigShown lp q).servo x ((s.tbNs x : Int) -
        (((ys + toy + s.get F.TSU_TIN_UTC_UTCOFS) * 1000000000 + s.get F.TSU_TIN_CTRL_DELAY : Nat) : Int)) 0xFF := by
  have hr := State.regsBut_irigShown hs lp q
  have hsync : (s.irigShown lp q).flag F.TSU_TIN_STATUS_SYNC = true := by
    rw [State.flag, State.get_sync_irigShown hs]
    rfl
  have hserve := State.irigServe_single toy ys hsync ((State.tinBases_irigShown hs lp q).trans hx)
  rw [State.tbNs_irigShown, hr F.TSU_TIN_UTC_UTCOFS (by decide), hr F.TSU_TIN_CTRL_DELAY (by decide)] at hserve
  rw [irigFrame_of_on true toy ys lp q h, if_pos rfl, ← hserve]
  extract_lets _ n u cf v
  have hn : n.Sound := hs
  have hu : u = n.put F.TSU_TIN_STATUS_SYNC 1 := if_pos (by show 2 ≤ s.tin.good + 1; omega)
  have hc : cf = true := by
    show u.flag F.TSU_TIN_CTRL_CF = true
    rw [hu, State.flag, State.get_put_ne hn.rising _ _ _ (by decide)]
    exact hcf
  have hv : v = s.irigShown lp q := by
    show (if cf = true then _ else u) = _
    rw [if_pos hc, hu]
    rfl
  clear_value v cf
  subst hv hc
  rfl

/-! ## Edges -/

theorem filter_range_eq_singleton {n x : Nat} {p : Nat → Bool} (hx : x < n) (h : ∀ b < n, p b = true ↔ b = x) : (List.range n).filter p = [x] := by
  have hp : (List.range n).filter p = (List.range n).filter (· == x) :=
    List.filter_congr (fun b hb => by rw [Bool.eq_iff_iff, h b (List.mem_range.mp hb), beq_iff_eq])
  rw [hp, List.filter_beq, (List.nodup_range (n := n)).count, if_pos (List.mem_range.mpr hx)]
  rfl

/-- The receiver once an edge has been measured. -/
def State.edgeMeasured (s : State) : State := s.setTin { s.tin with lastEdge := some (s.tbNs s.tinBase) }

theorem ppsEdge_of_first {s : State} (h : s.get F.TSU_TIN_CTRL_MODE = 3) (hl : s.tin.lastEdge = none) (hsrc : ∀ b < 4, s.srcOf b = 3) :
    ppsEdge s = s.edgeMeasured := by
  have hnone : (List.range 4).filter (fun b => s.srcOf b != 3) = [] :=
    List.filter_eq_nil_iff.mpr (fun b hb => by rw [hsrc b (List.mem_range.mp hb)]; decide)
  unfold ppsEdge
  rw [if_pos h]
  simp only [hl, Option.isSome_none, Bool.false_eq_true, if_false]
  exact congrArg (fun l : List Nat => l.foldl (fun s b => s.edgeBase b false) s.edgeMeasured) hnone

/-- An edge a second after the one before synchronises, and goes to the base that another does not lead. -/
theorem ppsEdge_of_good {s : State} {x p : Nat} (h : s.get F.TSU_TIN_CTRL_MODE = 3) (hl : s.tin.lastEdge = some p)
    (hp : ((s.tbNs s.tinBase : Int) - p - 1000000000).natAbs ≤ 1000000) (hx : x < 4) (hsrc : ∀ b < 4, s.srcOf b = 3 ↔ b ≠ x) (hs : s.Sound) :
    ppsEdge s = ((s.setTin { s.tin with lastEdge := some (s.tbNs s.tinBase), bad := 0 }).put F.TSU_TIN_STATUS_SYNC 1).edgeBase x true := by
  unfold ppsEdge
  rw [if_pos h]
  simp only [hl, decide_eq_true hp, if_true]
  generalize hn : (s.setTin { s.tin with lastEdge := some (s.tbNs s.tinBase), bad := 0 }).put F.TSU_TIN_STATUS_SYNC 1 = n
  have hsound : (s.setTin { s.tin with lastEdge := some (s.tbNs s.tinBase), bad := 0 }).Sound := hs
  have hone : (List.range 4).filter (fun b => n.srcOf b != 3) = [x] := by
    refine filter_range_eq_singleton hx (fun b hb => ?_)
    have hsame : n.srcOf b = s.srcOf b := by
      rw [← hn, State.srcOf, State.active, State.flag, State.get_put_ne hsound.rising _ _ _ (by decide), State.get_put_ne hsound.rising]
      · rfl
      · simp only [Fld.key, F.TSU_TB_CTRL_SRC, F.TSU_TIN_STATUS_SYNC]
        omega
    rw [hsame, bne_iff_ne, Ne, hsrc b hb, not_not]
  refine Eq.trans ?_ (congrArg (fun l : List Nat => l.foldl (fun s b => s.edgeBase b true) n) hone)
  rw [← hn]
  rfl

/-! ## Leap seconds -/

theorem execLeapSecond_of_announced {s : State} (ins : Bool) (hcf : s.flag F.TSU_TIN_CTRL_CF = true) (hl : s.flag F.TSU_TIN_STATUS_LEAP = true) :
    execLeapSecond ins s = .next ((s.put F.TSU_TIN_UTC_UTCOFS (if ins then s.get F.TSU_TIN_UTC_UTCOFS + 1 else s.get F.TSU_TIN_UTC_UTCOFS + 255)).put
      F.TSU_TIN_STATUS_LEAP 0) := congrArg Host.Outcome.next (if_pos (by rw [hcf, hl]; rfl))

theorem execLeapSecond_of_unannounced {s : State} (ins : Bool) (h : s.flag F.TSU_TIN_STATUS_LEAP = false ∨ s.flag F.TSU_TIN_CTRL_CF = false) :
    execLeapSecond ins s = .next s := by
  refine congrArg Host.Outcome.next (if_neg ?_)
  rw [Bool.and_eq_true]
  rintro ⟨hcf, hl⟩
  obtain h | h := h
  · exact absurd hl (by rw [h]; decide)
  · exact absurd hcf (by rw [h]; decide)

/-- Settles O31. -/
theorem tinSynchronises : Obligations.TinSynchronises := by
  unfold Obligations.TinSynchronises
  intro s toy ys q t lp a n
  have hirig : ∀ good, exec (.irigFrame good toy ys lp q t) s = .next (irigFrame good toy ys lp q a) := fun _ => rfl
  have hpps : exec (.ppsEdge t) s = .next (ppsEdge a) := rfl
  clear_value a
  have hmode : s.get F.TSU_TIN_CTRL_MODE ∈ [1, 2] ↔ s.get F.TSU_TIN_CTRL_MODE = 1 ∨ s.get F.TSU_TIN_CTRL_MODE = 2 := by simp
  have hnz : s.get F.TSU_TIN_CTRL_MODE ∈ [1, 2] → s.get F.TSU_TIN_CTRL_MODE ≠ 0 := fun h hz => by
    rw [hz] at h
    exact absurd h (by decide)
  refine ⟨s.tinBases_eq, ?_, ?_, ?_, ?_, ?_, ?_, ?_, ?_, ?_, ?_, ?_, ?_, ?_, ?_⟩
  · intro h
    exact ⟨(hirig _).trans (congrArg _ (irigFrame_of_off true toy ys lp q h)), (hirig _).trans (congrArg _ (irigFrame_of_off false toy ys lp q h))⟩
  · intro h hb
    exact (hirig _).trans (congrArg Host.Outcome.next ((irigFrame_of_on false toy ys lp q h).trans (State.tinBad_of_ne hb)))
  · intro h
    exact congrArg Host.Outcome.next (if_neg (fun hm => h (hmode.mpr hm)))
  · intro h hb
    exact congrArg Host.Outcome.next ((if_pos (hmode.mp h)).trans (State.tinBad_of_ne hb))
  · intro h hb
    exact congrArg Host.Outcome.next ((if_pos (hmode.mp h)).trans (State.tinBad_of_third (hnz h) hb))
  · intro h hb
    exact congrArg Host.Outcome.next ((if_pos h).trans (State.tinBad_of_ne hb))
  · intro h hb
    exact congrArg Host.Outcome.next ((if_pos h).trans (State.tinBad_of_third (by rw [h]; decide) hb))
  · intro h
    exact ⟨congrArg Host.Outcome.next (if_neg h), fun h => hpps.trans (congrArg Host.Outcome.next (if_neg h))⟩
  · intro h hg hsync hcf
    exact (hirig _).trans (congrArg Host.Outcome.next (irigFrame_of_first toy ys lp q h hg hsync hcf))
  · intro h hl hsrc
    exact hpps.trans (congrArg Host.Outcome.next (ppsEdge_of_first h hl hsrc))
  · intro x p h hl hp hx hsrc hs
    exact hpps.trans (congrArg Host.Outcome.next (ppsEdge_of_good h hl hp hx hsrc hs))
  · intro x h hg hcf hs hx
    exact (hirig _).trans (congrArg Host.Outcome.next (irigFrame_of_synchronised toy ys lp q h hg hcf hs hx))
  · intro hcf hl
    exact ⟨execLeapSecond_of_announced true hcf hl, execLeapSecond_of_announced false hcf hl⟩
  · exact execLeapSecond_of_unannounced lp

end Sys2Proof.Machine

/-!
PROOFS. Time outputs, stamp queues, PTP messages and station-bus time messages (R119 to R132).
-/
namespace Sys2Proof.Machine

theorem exec_setsecGo (tb : Nat) (s : State) : exec (.setsecGo tb) s = .next (s.putB (F.TSU_TB_SETSEC_HI_GO tb) (!s.flag (F.TSU_TB_CTRL_STEPINH tb))) := rfl

theorem exec_syncTransmission (b k : Nat) (s : State) : exec (.syncTransmission b k) s = execSyncTransmission b k s := rfl

theorem exec_sbEgressStamp (h : Hdr) (tag : Word) (o : Option Word) (s : State) : exec (.sbEgressStamp h tag o) s =
    .next (s.receive 0xC h (fun s => (s.setTin { s.tin with sbStamps := s.tin.sbStamps ++ [(tag, o)] }).sbStamp tag o)) := rfl

theorem exec_sbPtpFrame (h : Hdr) (k : Nat) (stamp : Word) (m : PtpMsg) (s : State) : exec (.sbPtpFrame h k stamp m) s = execSbPtpFrame h k stamp m s := rfl

/-! ## TOUT (R124) -/

/-- The quality that TOUT sends: 0 while its base is LOCKED. -/
def State.toutQual (s : State) : Nat := if s.get (F.TSU_TB_STATUS_STATE (s.get F.TSU_TOUT_CTRL_TB)) = 2 then 0 else 0xF

/-- The pulse at the second nearest to base time `x`. -/
def State.toutPulse (s : State) (x t : Nat) : ToutS :=
  { irig := false, sec := (x + 500000000) / 1000000000, rise := t, fall := t + s.get F.TSU_TOUT_CTRL_WIDTH * 10000,
    leap := s.flag F.TSU_TIN_STATUS_LEAP, qual := s.toutQual }

/-- The IRIG-B frame of the second nearest to base time `x`. -/
def State.toutIrig (s : State) (x t : Nat) : ToutS :=
  { irig := true, sec := (x + 500000000) / 1000000000 - s.get F.TSU_TIN_UTC_UTCOFS, rise := t,
    fall := t + s.get F.TSU_TOUT_CTRL_WIDTH * 10000, leap := s.flag F.TSU_TIN_STATUS_LEAP, qual := s.toutQual }

theorem atSecond_iff (x : Nat) : atSecond x = true ↔ x % 1000000000 ≤ 10 ∨ 999999990 ≤ x % 1000000000 := by
  unfold atSecond
  rw [Bool.or_eq_true, decide_eq_true_iff, decide_eq_true_iff]

theorem execToutOutput_of_off {s : State} {t : Nat} (h : (s.advance t).active = false ∨ (s.advance t).get F.TSU_TOUT_CTRL_MODE ∉ [1, 2]) :
    execToutOutput t s = .next ((s.advance t).setTin { (s.advance t).tin with tout := none }) := by
  refine congrArg Host.Outcome.next (if_pos ?_)
  rw [Bool.or_eq_true, Bool.and_eq_true, bne_iff_ne, bne_iff_ne, Bool.not_eq_true']
  exact h.imp id (by simp)

theorem execToutOutput_of_pulse {s : State} {t : Nat} (ha : (s.advance t).active = true) (h : (s.advance t).get F.TSU_TOUT_CTRL_MODE = 1) :
    let x := (s.advance t).tbNs ((s.advance t).get F.TSU_TOUT_CTRL_TB) + (s.advance t).get F.TSU_TOUT_ADV
    execToutOutput t s = .next (if !atSecond x then s.advance t else
      (s.advance t).setTin { (s.advance t).tin with tout := some ((s.advance t).toutPulse x t) }) := by
  unfold execToutOutput
  generalize s.advance t = a at *
  have hon : (!a.active || (a.get F.TSU_TOUT_CTRL_MODE != 1 && a.get F.TSU_TOUT_CTRL_MODE != 2)) = false := by rw [ha, h]; rfl
  have hirig : (a.get F.TSU_TOUT_CTRL_MODE == 2) = false := by rw [h]; rfl
  simp only [hon, hirig, Bool.false_eq_true, if_false, State.toutPulse, State.toutQual, State.tbState, secondAt]
  rfl

theorem execToutOutput_of_irig {s : State} {t : Nat} (ha : (s.advance t).active = true) (h : (s.advance t).get F.TSU_TOUT_CTRL_MODE = 2) :
    let x := (s.advance t).tbNs ((s.advance t).get F.TSU_TOUT_CTRL_TB)
    execToutOutput t s = .next (if !atSecond x then s.advance t else
      (s.advance t).setTin { (s.advance t).tin with tout := some ((s.advance t).toutIrig x t) }) := by
  unfold execToutOutput
  generalize s.advance t = a at *
  have hon : (!a.active || (a.get F.TSU_TOUT_CTRL_MODE != 1 && a.get F.TSU_TOUT_CTRL_MODE != 2)) = false := by rw [ha, h]; rfl
  have hirig : (a.get F.TSU_TOUT_CTRL_MODE == 2) = true := by rw [h]; rfl
  simp only [hon, hirig, Bool.false_eq_true, if_false, if_true, State.toutIrig, State.toutQual, State.tbState, secondAt]
  rfl

theorem State.toutHigh_iff {s : State} {z : ToutS} (hz : s.tin.tout = some z) (ha : s.active = true) (hi : z.irig = false) :
    s.toutHigh = true ↔ z.rise ≤ s.now ∧ s.now < z.fall := by
  unfold State.toutHigh
  simp only [hz, ha, hi, Bool.not_false, Bool.and_self, Bool.true_and, Bool.and_eq_true, decide_eq_true_iff]

/-! ## SYNC_TRANSMISSION (R119, R121) -/

/-- A base that is slave nowhere announces itself. -/
def State.announcing (s : State) (b k : Nat) : State := if k = 1 ∧ (s.tb b).slave = none then s.ownGm b else s

theorem State.SameButLog.ports {s t : State} (h : s.SameButLog t) : t.ports = s.ports := by
  rw [h]
  rfl

theorem State.setGm_ports (s : State) (b g : Nat) : (s.setGm b g).ports = s.ports := by
  unfold State.setGm
  split
  · rfl
  · exact State.SameButLog.ports (State.sameButLog_raiseOn _ _ _ _ _)

theorem State.announcing_ports (s : State) (b k : Nat) : (s.announcing b k).ports = s.ports := by
  unfold State.announcing State.ownGm
  split
  · split
    · rfl
    · exact s.setGm_ports b _
  · rfl

theorem State.regsBut_setGm {s : State} (h : s.Sound) (b g : Nat) :
    RegsBut [F.TSU_TB_GMID_LO b, F.TSU_TB_GMID_HI b, F.XNG_REFUSED_EVLOST] s (s.setGm b g) := by
  unfold State.setGm
  split
  · exact RegsBut.refl _ _
  · have h1 := State.put_sound h (F.TSU_TB_GMID_LO b) g
    have h2 := State.put_sound h1 (F.TSU_TB_GMID_HI b) (g / 2 ^ 32)
    exact (((RegsBut.refl _ s).put h (by simp) g).put h1 (by simp) (g / 2 ^ 32)).trans ((State.regsBut_raiseOn h2 _ _ _ _).mono (by simp))

theorem State.regsBut_announcing {s : State} (h : s.Sound) (b k : Nat) :
    RegsBut [F.TSU_TB_GMID_LO b, F.TSU_TB_GMID_HI b, F.XNG_REFUSED_EVLOST] s (s.announcing b k) := by
  unfold State.announcing State.ownGm
  split
  · split
    · exact RegsBut.refl _ _
    · exact State.regsBut_setGm h b _
  · exact RegsBut.refl _ _

/-- What a base announces touches no field below its grandmaster's identity. -/
theorem State.get_announcing {s : State} (h : s.Sound) {b : Nat} (hb : b < 4) (k : Nat) {f : Fld} (hf : f.addr < 0x01200050 + 0x100 * b)
    (hlo : f.lo < 32) : (s.announcing b k).get f = s.get f := by
  refine State.regsBut_announcing h b k f (fun g hg => ?_)
  simp only [List.mem_cons, List.not_mem_nil, or_false] at hg
  obtain rfl | rfl | rfl := hg <;> (simp only [Fld.key, F.TSU_TB_GMID_LO, F.TSU_TB_GMID_HI, F.XNG_REFUSED_EVLOST]; omega)

theorem State.tcDelayPorts_of_regs {s t : State} (h : t.regs = s.regs) (b : Nat) : t.tcDelayPorts b = s.tcDelayPorts b := by
  have hg : t.get = s.get := funext (State.get_of_regs h)
  have hbase : ∀ p, t.ptpBase p = s.ptpBase p := fun p => by
    unfold State.ptpBase
    cases ptpBit p
    · rfl
    · simp only [State.srcOf, State.active, State.flag, hg]
      rfl
  simp only [State.tcDelayPorts, State.tcPeerDelay, State.tcEn, State.tcP2P, State.stampTb, State.flag, hg, hbase]

theorem maskBits_zero (n : Nat) : maskBits n 0 = [] :=
  List.filter_eq_nil_iff.mpr (fun i _ => by simp [bit])

theorem bit_two_pow (p i : Nat) : bit (2 ^ p) i = true ↔ i = p := by
  unfold bit
  rw [beq_iff_eq]
  obtain hlt | rfl | hgt := Nat.lt_trichotomy i p
  · rw [Nat.pow_div (Nat.le_of_lt hlt) (by decide), show p - i = (p - i - 1) + 1 by omega, Nat.pow_succ]
    omega
  · rw [Nat.div_self (Nat.two_pow_pos i)]
    simp
  · rw [Nat.div_eq_of_lt (Nat.pow_lt_pow_right (by decide) hgt)]
    omega

theorem maskBits_two_pow {n p : Nat} (h : p < n) : maskBits n (2 ^ p) = [p] :=
  filter_range_eq_singleton h (fun i _ => bit_two_pow p i)

theorem State.ptpPorts_of_zero {s : State} {b : Nat} (h : s.get (F.TSU_TB_PTPPORTS_PORTS b) = 0) : s.ptpPorts b = [] := by
  rw [State.ptpPorts, h, maskBits_zero]
  rfl

theorem State.ptpPorts_of_pb {s : State} {b p : Nat} (hp : p < 16) (h : s.get (F.TSU_TB_PTPPORTS_PORTS b) = 2 ^ p) : s.ptpPorts b = [p] := by
  rw [State.ptpPorts, h, maskBits_two_pow (by omega), List.map_singleton, if_pos hp]

/-- What the ports of the base send. -/
def State.ptpSentOut (s : State) (b k : Nat) : State := (s.ptpPorts b).foldl (fun s p => if s.ptpSends b k p then s.engineSend b k p else s) s

theorem execSyncTransmission_of_other {b k : Nat} {s : State} (h : s.srcOf b ≠ 1) :
    execSyncTransmission b k s = .next (if k = 2 then (s.tcDelayPorts b).foldl (fun s p => s.tcPdelayReq b p) s else s) := by
  unfold execSyncTransmission
  rw [if_neg h]

/-- Under PTP, with no transparent clock of its own, a base sends and does nothing else. -/
theorem execSyncTransmission_of_ptp {b k : Nat} {s : State} (h : s.srcOf b = 1)
    (htc : k = 2 → ((s.announcing b k).ptpSentOut b k).tcDelayPorts b = []) :
    execSyncTransmission b k s = .next ((s.announcing b k).ptpSentOut b k) := by
  unfold execSyncTransmission
  rw [if_pos h]
  show Host.Outcome.next (if k = 2 then (((s.announcing b k).ptpSentOut b k).tcDelayPorts b).foldl (fun s p => s.tcPdelayReq b p)
    ((s.announcing b k).ptpSentOut b k) else (s.announcing b k).ptpSentOut b k) = _
  by_cases hk : k = 2
  · rw [if_pos hk, htc hk]
    rfl
  · rw [if_neg hk]

theorem State.announcing_of_two (s : State) (b : Nat) : s.announcing b 2 = s := if_neg (fun h => absurd h.1 (by decide))

theorem State.queueTx_of_pb (s : State) {p : Nat} (hp : p < 0x20) (f : TxFrame) :
    s.queueTx p f = s.setPort p { s.port p with txq := (s.port p).txq ++ [f] } := if_neg (by omega)

/-- The frame in which a PTP message leaves. -/
def State.ptpFrame (s : State) (p : Nat) (m : PtpMsg) : TxFrame :=
  { queue := 7, len := ptpLen m, src := s.macOfPort p, body := .ptp m, red := none, stamp := none, chan := none }

/-- The engine of a base draws, numbers its message, and queues it on the field-die port. -/
theorem State.engineSend_of_pb (s : State) (b k : Nat) {p : Nat} (hp : p < 0x20) :
    s.engineSend b k p = (s.draw.1.setPort p { s.port p with ptpSeq := (s.port p).ptpSeq + 1 }).queueTx p
      (s.ptpFrame p (s.ptpMake b k p s.free).2) := by
  unfold State.engineSend State.sendPtp
  exact if_pos hp

theorem State.macOfPort_of_pb (s : State) {p : Nat} (hp : p < 0x20) :
    s.macOfPort p = leBytes 4 (s.get (F.PRT_MAC_LO_ADDR_LO p)) ++ leBytes 2 (s.get (F.PRT_MAC_HI_ADDR_HI p)) := if_pos hp

theorem State.ptpSentOut_of_none {s : State} {b : Nat} (k : Nat) (h : s.ptpPorts b = []) : s.ptpSentOut b k = s := by
  rw [State.ptpSentOut, h]
  rfl

theorem State.ptpSentOut_of_one {s : State} {b p : Nat} (k : Nat) (h : s.ptpPorts b = [p]) :
    s.ptpSentOut b k = if s.ptpSends b k p then s.engineSend b k p else s := by
  rw [State.ptpSentOut, h]
  rfl

/-! ## Stamps of SB ports (R127, R132) -/

/-- A stamp within 2^31 ns of the time against which it is extended is that time itself. -/
theorem extendStamp_of_near {x r : Nat} (h1 : (x : Int) - r < 2 ^ 31) (h2 : -2 ^ 31 ≤ (x : Int) - r) : extendStamp (BitVec.ofNat 32 x) r = x := by
  have hd : (BitVec.ofNat 32 x - BitVec.ofNat 32 r).toNat = (2 ^ 32 - r % 2 ^ 32 + x % 2 ^ 32) % 2 ^ 32 := by
    rw [BitVec.toNat_sub, BitVec.toNat_ofNat, BitVec.toNat_ofNat]
  unfold extendStamp signedN
  rw [hd]
  norm_num at h1 h2 ⊢
  split <;> omega

theorem State.sbStamp_of_none {s : State} {tag : Word} (o : Option Word) (h : s.tin.sbOut.find? (fun e => e.1 == tag) = none) :
    s.sbStamp tag o = s := by
  unfold State.sbStamp
  rw [h]

theorem State.sbStamp_of_some {s : State} {tag : Word} {e : Word × Nat × Nat × PtpMsg} (w : Word)
    (h : s.tin.sbOut.find? (fun e => e.1 == tag) = some e) :
    let z := s.setTin { s.tin with sbOut := s.tin.sbOut.erase e }
    s.sbStamp tag (some w) = z.followUp e.2.1 e.2.2.1 e.2.2.2 (extendStamp w (z.tbNs e.2.1)) := by
  unfold State.sbStamp
  rw [h]

theorem State.sbStamp_of_unstamped {s : State} {tag : Word} {e : Word × Nat × Nat × PtpMsg}
    (h : s.tin.sbOut.find? (fun e => e.1 == tag) = some e) :
    s.sbStamp tag none = s.setTin { s.tin with sbOut := s.tin.sbOut.erase e } := by
  unfold State.sbStamp
  rw [h]

/-- What a base that announces sends out of a field-die port. -/
def State.ptpOut (s : State) (b k p : Nat) : PtpMsg := ((s.announcing b k).ptpMake b k p (s.announcing b k).free).2

theorem State.port_announcing (s : State) (b k p : Nat) : (s.announcing b k).port p = s.port p := by
  unfold State.port
  rw [State.announcing_ports]

/-- Its header is that of the base, its sequence number that of the port. -/
theorem State.ptpOut_header {s : State} (hs : s.Sound) {b : Nat} (hb : b < 4) (k p : Nat) :
    (s.ptpOut b k p).msgType = ptpKind k ∧ (s.ptpOut b k p).seqId = (s.port p).ptpSeq % 65536 ∧
    (s.ptpOut b k p).domain = s.get (F.TSU_TB_PTP_DOMAIN b) ∧
    ((s.ptpOut b k p).twoStep = true ↔ k = 0 ∧ s.flag (F.TSU_TB_PTP_TWOSTEP b) = true) := by
  have hdom : (s.announcing b k).get (F.TSU_TB_PTP_DOMAIN b) = s.get (F.TSU_TB_PTP_DOMAIN b) :=
    State.get_announcing hs hb k (Nat.add_lt_add_right (by decide) _) (by show 8 < 32; decide)
  have htwo : (s.announcing b k).get (F.TSU_TB_PTP_TWOSTEP b) = s.get (F.TSU_TB_PTP_TWOSTEP b) :=
    State.get_announcing hs hb k (Nat.add_lt_add_right (by decide) _) (by show 5 < 32; decide)
  refine ⟨rfl, ?_, hdom, ?_⟩
  · show ((s.announcing b k).port p).ptpSeq % 65536 = _
    rw [State.port_announcing]
  · show (k == 0 && (s.announcing b k).get (F.TSU_TB_PTP_TWOSTEP b) != 0) = true ↔ _
    rw [htwo, Bool.and_eq_true, beq_iff_eq, State.flag]

/-- A base that sends on its one port, a PB port, queues there. -/
theorem State.ptpSentOut_announcing {s : State} (hs : s.Sound) {b k p : Nat} (hb : b < 4) (hp : p < 16)
    (hports : s.get (F.TSU_TB_PTPPORTS_PORTS b) = 2 ^ p) (hsend : (s.announcing b k).ptpSends b k p = true) :
    ∃ f, (s.announcing b k).ptpSentOut b k =
        ((s.announcing b k).draw.1.setPort p { s.port p with ptpSeq := (s.port p).ptpSeq + 1 }).queueTx p f ∧
      f.queue = 7 ∧ f.src = s.macOfPort p ∧ f.body = .ptp (s.ptpOut b k p) := by
  have hpp : (s.announcing b k).ptpPorts b = [p] := State.ptpPorts_of_pb hp
    ((State.get_announcing hs hb k (Nat.add_lt_add_right (by decide) _) (by show 0 < 32; decide)).trans hports)
  refine ⟨(s.announcing b k).ptpFrame p (s.ptpOut b k p), ?_, rfl, ?_, rfl⟩
  · rw [State.ptpSentOut_of_one k hpp, if_pos hsend, State.engineSend_of_pb _ _ _ (by omega), State.port_announcing]
    rfl
  · show (s.announcing b k).macOfPort p = _
    rw [State.macOfPort_of_pb _ (by omega), State.macOfPort_of_pb _ (by omega), State.get_announcing hs hb k, State.get_announcing hs hb k]
    all_goals (simp only [F.PRT_MAC_LO_ADDR_LO, F.PRT_MAC_HI_ADDR_HI]; omega)

theorem execSbPtpFrame_inTurn {h : Hdr} {s : State} (k : Nat) (stamp : Word) (m : PtpMsg) (hi : s.inTurn 0xC h = true) :
    execSbPtpFrame h k stamp m s = .next (match (s.took 0xC h).ptpBase (0x20 + k) with
      | none => s.took 0xC h
      | some b => (if m.msgType = 2 ∧ (s.took 0xC h).flag (F.TSU_TB_PTP_P2P b) ∧ !(s.took 0xC h).tcPeerDelay (0x20 + k) then
          (s.took 0xC h).engineReply b 3 (0x20 + k) m true (extendStamp stamp ((s.took 0xC h).tbNs b)) else s.took 0xC h).ptpTake b (0x20 + k) m
            (extendStamp stamp ((s.took 0xC h).tbNs b))) :=
  congrArg Host.Outcome.next (State.receive_inTurn _ hi)

/-- Settles O32. -/
theorem timeOutputsAndMessages : Obligations.TimeOutputsAndMessages := by
  unfold Obligations.TimeOutputsAndMessages
  refine ⟨?_, ?_, ?_⟩
  · intro s b p t
    refine ⟨?_, ?_, ?_, rfl, rfl, rfl⟩
    · intro h
      rw [exec_setsecGo, h]
      rfl
    · intro h
      rw [exec_setsecGo, h]
      rfl
    · intro a o x q near
      refine ⟨execToutOutput_of_off, ?_, ?_, ?_, ?_, fun z => State.toutHigh_iff⟩
      · intro ha hm hx
        exact (execToutOutput_of_pulse ha hm).trans (congrArg Host.Outcome.next (if_neg (by rw [(atSecond_iff _).mpr hx]; decide)))
      · intro ha hm hx
        exact (execToutOutput_of_pulse ha hm).trans
          (congrArg Host.Outcome.next (if_pos (by rw [Bool.eq_false_iff.mpr (fun h => hx ((atSecond_iff _).mp h))]; rfl)))
      · intro ha hm hx
        exact (execToutOutput_of_irig ha hm).trans (congrArg Host.Outcome.next (if_neg (by rw [(atSecond_iff _).mpr hx]; decide)))
      · intro ha hm hx
        exact (execToutOutput_of_irig ha hm).trans
          (congrArg Host.Outcome.next (if_pos (by rw [Bool.eq_false_iff.mpr (fun h => hx ((atSecond_iff _).mp h))]; rfl)))
  · intro s b k p u
    have hports : b < 4 → s.Sound → u.get (F.TSU_TB_PTPPORTS_PORTS b) = s.get (F.TSU_TB_PTPPORTS_PORTS b) := fun hb hs =>
      State.get_announcing hs hb k (Nat.add_lt_add_right (by decide) _) (by show 0 < 32; decide)
    have hquiet : s.srcOf b = 1 → (k = 2 → s.tcDelayPorts b = []) → u.ptpSentOut b k = u → execSyncTransmission b k s = .next u :=
      fun hsrc htc hsent => (execSyncTransmission_of_ptp hsrc (fun hk => by
        rw [show s.announcing b k = u from rfl, hsent]
        subst hk
        rw [show u = s from s.announcing_of_two b, htc rfl])).trans (congrArg Host.Outcome.next hsent)
    refine ⟨?_, ?_, ?_, ?_, ?_, ?_⟩
    · intro hsrc hk
      exact (execSyncTransmission_of_other hsrc).trans (congrArg Host.Outcome.next (if_neg hk))
    · intro hsrc htc
      rw [exec_syncTransmission, execSyncTransmission_of_other hsrc, htc]
      exact congrArg Host.Outcome.next (ite_self _)
    · intro hb hs hsrc htc h0
      exact hquiet hsrc htc (State.ptpSentOut_of_none k (State.ptpPorts_of_zero ((hports hb hs).trans h0)))
    · intro hb hs hsrc htc hp h2 hno
      exact hquiet hsrc htc ((State.ptpSentOut_of_one k (State.ptpPorts_of_pb hp ((hports hb hs).trans h2))).trans
        (if_neg (Bool.eq_false_iff.mp hno)))
    · intro hb hs hsrc htc hp h2 hyes
      obtain ⟨f, hsent, hq, hf, hbody⟩ := State.ptpSentOut_announcing hs hb hp h2 hyes
      obtain ⟨htype, hseq, hdom, htwo⟩ := State.ptpOut_header hs hb k p
      refine ⟨f, s.ptpOut b k p, ?_, hq, hf, hbody, htype, hseq, hdom, htwo⟩
      refine (execSyncTransmission_of_ptp hsrc (fun hk => ?_)).trans (congrArg Host.Outcome.next hsent)
      rw [hsent, State.queueTx_of_pb _ (by omega)]
      refine (State.tcDelayPorts_of_regs ?_ b).trans (htc hk)
      subst hk
      rw [State.announcing_of_two]
      rfl
    · intro q hsrc htc
      refine ⟨s.ptpFrame q (s.ptpMake b 2 q 0).2, (s.ptpMake b 2 q 0).2, ?_, rfl, rfl, rfl⟩
      rw [exec_syncTransmission, execSyncTransmission_of_other hsrc, if_pos rfl, htc]
      rfl
  · intro s b k h stamp tag m o w y at_
    refine ⟨fun hi => ⟨?_, ?_, ?_, ?_, ?_, ?_⟩, fun x hx ⟨h1, h2⟩ => by rw [show at_ = extendStamp stamp (w.tbNs b) from rfl, hx]; exact extendStamp_of_near h1 h2⟩
    · intro hn
      rw [exec_sbEgressStamp, State.receive_inTurn _ hi]
      exact congrArg Host.Outcome.next (State.sbStamp_of_none o hn)
    · intro e c he ho z
      rw [exec_sbEgressStamp, State.receive_inTurn _ hi, ho]
      subst ho
      exact congrArg Host.Outcome.next (State.sbStamp_of_some c he)
    · intro e he ho
      rw [exec_sbEgressStamp, State.receive_inTurn _ hi, ho]
      subst ho
      exact congrArg Host.Outcome.next (State.sbStamp_of_unstamped he)
    · intro hb
      rw [exec_sbPtpFrame, execSbPtpFrame_inTurn k stamp m hi, show (s.took 0xC h).ptpBase (0x20 + k) = none from hb]
    · intro hb hm
      rw [exec_sbPtpFrame, execSbPtpFrame_inTurn k stamp m hi, show (s.took 0xC h).ptpBase (0x20 + k) = some b from hb]
      refine congrArg (fun u : State => Host.Outcome.next (u.ptpTake b (0x20 + k) m at_)) (if_neg ?_)
      rintro ⟨h2, hp, ht⟩
      obtain hne | hf | htc := hm
      · exact hne h2
      · exact absurd hp (by rw [show (s.took 0xC h).flag (F.TSU_TB_PTP_P2P b) = false from hf]; decide)
      · exact absurd ht (by rw [show (s.took 0xC h).tcPeerDelay (0x20 + k) = true from htc]; decide)
    · intro hb h2 hp htc
      rw [exec_sbPtpFrame, execSbPtpFrame_inTurn k stamp m hi, show (s.took 0xC h).ptpBase (0x20 + k) = some b from hb]
      refine congrArg (fun u : State => Host.Outcome.next (u.ptpTake b (0x20 + k) m at_)) (if_pos ⟨h2, hp, ?_⟩)
      rw [show (s.took 0xC h).tcPeerDelay (0x20 + k) = false from htc]
      rfl

end Sys2Proof.Machine

/-!
PROOFS. The timetable: cycles, banks, and what departs (R139 to R157, R394).
-/
namespace Sys2Proof.Machine

/-! ## Boundaries and bank switches (R140, R152, R153) -/

theorem State.boundaryNew_of_run {s : State} (n : Nat) (h : s.flag F.TTB_STATUS_RUN = true) : s.boundaryNew n = (n != s.ttb.cyc) := if_pos h

theorem State.boundaryNew_of_start {s : State} {x : Nat} (n : Nat) (h : s.flag F.TTB_STATUS_RUN = false) (hx : s.ttb.startAt = some x) :
    s.boundaryNew n = decide (x ≤ n * s.cycleNs) := by
  unfold State.boundaryNew
  rw [h, hx]
  rfl

theorem State.boundaryDue_of_off {s : State} (h : s.active = false ∨ s.rbk.flushing = true) : s.boundaryDue = false := by
  unfold State.boundaryDue
  obtain h | h := h
  · rw [h]
    rfl
  · rw [h, Bool.not_true, Bool.and_false, Bool.false_and]

theorem State.boundaryDue_of_none {s : State} (h : s.flag F.TTB_STATUS_RUN = false) (hn : s.ttb.startAt = none) : s.boundaryDue = false := by
  unfold State.boundaryDue
  rw [h, hn]
  exact Bool.and_false _

/-- The boundaries that are served. -/
theorem State.boundary_served {s : State} {n : Nat} (ha : s.active = true) (hf : s.rbk.flushing = false)
    (h : (s.flag F.TTB_STATUS_RUN = true ∧ n ≠ s.ttb.cyc) ∨ (s.flag F.TTB_STATUS_RUN = false ∧ ∃ x, s.ttb.startAt = some x ∧ x ≤ n * s.cycleNs)) :
    (s.boundaryDue && s.boundaryNew n) = true := by
  unfold State.boundaryDue
  rw [ha, hf]
  obtain ⟨hr, hn⟩ | ⟨hr, x, hx, hle⟩ := h
  · rw [State.boundaryNew_of_run n hr, hr, bne_iff_ne.mpr hn]
    rfl
  · rw [State.boundaryNew_of_start n hr hx, hr, hx, decide_eq_true hle]
    rfl

theorem State.bankCancel_of_idle {s : State} (h : s.flag F.TTB_BANK_SEL_PENDING = false) : s.bankCancel = s := if_neg (Bool.eq_false_iff.mp h)

theorem State.bankCancel_of_pending {s : State} (h : s.flag F.TTB_BANK_SEL_PENDING = true) : s.bankCancel = s.bankIdle := if_pos h

theorem State.bankRequest_of_busy {s : State} (h : s.active = false ∨ s.flag F.TTB_BANK_SEL_PENDING = true) : s.bankRequest = s := by
  refine if_pos ?_
  rw [Bool.or_eq_true, Bool.not_eq_true']
  exact h

theorem State.bankChecked_of_broken {s : State} {i : Nat} (h : s.flag F.TTB_BANK_SEL_CHECKING = true)
    (hi : checkBank s.cycleNs (s.bank (1 - s.activeBank)) = some i) :
    s.bankChecked = (((s.bankIdle).put F.TTB_BANK_SEL_REFUSED 1).count F.TTB_CNT_SPACING).raise 0x0703 i := by
  unfold State.bankChecked
  rw [h, hi]
  rfl

theorem State.bankChecked_of_good {s : State} (h : s.flag F.TTB_BANK_SEL_CHECKING = true)
    (hn : checkBank s.cycleNs (s.bank (1 - s.activeBank)) = none) : s.bankChecked =
      (s.put F.TTB_BANK_SEL_CHECKING 0).setTtb { s.ttb with checked := true, readyAt := s.now } := by
  unfold State.bankChecked
  rw [h, hn]
  rfl

theorem State.bankBoundary_of_due {s : State} (hc : s.ttb.checked = true) (hp : s.flag F.TTB_BANK_SEL_PENDING = true)
    (ht : s.ttb.readyAt / 4 < s.now / 4) :
    s.bankBoundary = ((s.put F.TTB_BANK_SEL_ACTIVE (1 - s.activeBank)).bankIdle).raise 0x0701 (1 - s.activeBank) :=
  if_pos (by rw [hc, hp, decide_eq_true ht]; rfl)

theorem State.bankBoundary_of_not_due {s : State} (h : ¬ (s.ttb.checked = true ∧ s.flag F.TTB_BANK_SEL_PENDING = true ∧
    s.ttb.readyAt / 4 < s.now / 4)) : s.bankBoundary = s := by
  refine if_neg (fun hc => h ?_)
  rw [Bool.and_eq_true, Bool.and_eq_true, decide_eq_true_iff] at hc
  exact ⟨hc.1.1, hc.1.2, hc.2⟩

theorem State.bankLocked_iff (s : State) (b : Nat) : s.bankLocked b = true ↔
    s.active = true ∧ (b = s.activeBank ∨ s.flag F.TTB_BANK_SEL_PENDING = true) := by
  unfold State.bankLocked
  rw [Bool.and_eq_true, Bool.or_eq_true, beq_iff_eq]

/-- Settles O33. -/
theorem cyclesAndBanks : Obligations.CyclesAndBanks := by
  unfold Obligations.CyclesAndBanks
  refine ⟨?_, ?_, ?_⟩
  · intro s t a n b c e d
    have hno : (a.boundaryDue && a.boundaryNew n) = false → exec (.cycleBoundary t) s = .next a := fun h =>
      congrArg Host.Outcome.next (if_neg (Bool.eq_false_iff.mp h))
    refine ⟨?_, ?_, ?_, ?_, ?_⟩
    · intro _ ha hf h
      have hyes : exec (.cycleBoundary t) s = .next (if d.rbk.actWait.isSome then (d.put F.TTB_STATUS_RUN 0).setRbk { d.rbk with flushing := true } else d) :=
        congrArg Host.Outcome.next (if_pos (State.boundary_served ha hf h))
      refine ⟨fun hn => ?_, fun hn => ?_⟩
      · rw [hyes, hn]
        rfl
      · exact hyes.trans (congrArg Host.Outcome.next (if_pos (Option.isSome_iff_ne_none.mpr hn)))
    · intro hr hn
      exact hno (by rw [State.boundaryNew_of_run n hr, hn, bne_self_eq_false, Bool.and_false])
    · intro h
      exact hno (by rw [State.boundaryDue_of_off h, Bool.false_and])
    · intro hr hn
      exact hno (by rw [State.boundaryDue_of_none hr hn, Bool.false_and])
    · intro x hr hx hlt
      exact hno (by rw [State.boundaryNew_of_start n hr hx, decide_eq_false (by omega), Bool.and_false])
  · intro s t a r
    refine ⟨?_, ?_, ?_, ?_, ?_, ?_, ?_, ?_, ?_⟩
    · intro ha hp
      exact congrArg Host.Outcome.next (if_neg (by
        show ¬ (!a.active || a.flag F.TTB_BANK_SEL_PENDING) = true
        rw [ha, hp]
        decide))
    · intro hp
      exact congrArg Host.Outcome.next (State.bankCancel_of_idle hp)
    · intro ha
      exact congrArg Host.Outcome.next (State.bankRequest_of_busy (.inl ha))
    · intro hp
      exact ⟨congrArg Host.Outcome.next (State.bankRequest_of_busy (.inr hp)), congrArg Host.Outcome.next (State.bankCancel_of_pending hp)⟩
    · intro hp
      exact congrArg (fun u : State => Host.Outcome.next u.bankRequest) (State.bankCancel_of_pending hp)
    · intro hc
      refine ⟨fun i hi => congrArg Host.Outcome.next (State.bankChecked_of_broken hc hi), fun hn => ?_⟩
      exact ⟨_, congrArg Host.Outcome.next (State.bankChecked_of_good hc hn), rfl, rfl⟩
    · intro hc
      exact congrArg Host.Outcome.next (if_pos (by show (!a.flag F.TTB_BANK_SEL_CHECKING) = true; rw [hc]; rfl))
    · intro b hc hp
      exact ⟨State.bankBoundary_of_due hc hp, fun hle => State.bankBoundary_of_not_due (fun h => by omega)⟩
    · intro b h
      refine State.bankBoundary_of_not_due (fun ⟨hc, hp, _⟩ => ?_)
      obtain h | h := h
      · exact absurd hc (by rw [h]; decide)
      · exact absurd hp (by rw [h]; decide)
  · intro s b i w v _ _ _
    refine ⟨fun ha hb => ?_, fun h => ?_, ?_⟩
    · exact congrArg Host.Outcome.next (if_pos ((s.bankLocked_iff b).mpr ⟨ha, hb⟩))
    · refine congrArg Host.Outcome.next (if_neg (fun hl => ?_))
      obtain ⟨ha, hb⟩ := (s.bankLocked_iff b).mp hl
      obtain h | ⟨hne, hp⟩ := h
      · exact absurd ha (by rw [h]; decide)
      · obtain hb | hb := hb
        · exact hne hb
        · exact absurd hb (by rw [hp]; decide)
    · rfl

end Sys2Proof.Machine

/-!
PROOFS. Departures: what every one does, and the first one after a take (R142 to R146, R394).
-/
namespace Sys2Proof.Machine

/-! ## What leaves the token's record alone -/

theorem State.SameButRecords.tok {s t : State} (h : s.SameButRecords t) : t.tok = s.tok := by
  rw [h]
  rfl

theorem State.count_tok (s : State) (f : Fld) : (s.count f).tok = s.tok := State.SameButRecords.tok (s.sameButRecords_countN f 1)

theorem State.raise_tok (s : State) (code arg : Nat) : (s.raise code arg).tok = s.tok :=
  State.SameButRecords.tok (State.SameButLog.sameButRecords (s.sameButLog_raiseOn _ _ _ _))

theorem State.send_tok (s : State) (m : Msg) : (s.send m).tok = s.tok := by
  rw [State.send_eq_setLink]
  rfl

theorem State.foldl_tok {α : Type} {f : State → α → State} (hf : ∀ u x, (f u x).tok = u.tok) (l : List α) (s : State) :
    (l.foldl f s).tok = s.tok := by
  induction l generalizing s with
  | nil => rfl
  | cons x l ih => exact (ih (f s x)).trans (hf s x)

theorem State.driveTrip_tok (s : State) (d : Nat) : (s.driveTrip d).tok = s.tok := by
  unfold State.driveTrip
  dsimp only
  repeat' split
  all_goals rfl

theorem State.driveTrips_tok (s : State) : s.driveTrips.tok = s.tok := (State.driveTrip_tok _ 1).trans (State.driveTrip_tok s 0)

theorem State.tripBits_tok (s : State) (i : Nat) (w : Word) : (s.tripBits i w).tok = s.tok := by
  refine State.foldl_tok (fun u d => ?_) _ s
  split
  · exact State.driveTrip_tok _ d
  · rfl

theorem State.queueTx_tok (s : State) (p : Nat) (f : TxFrame) : (s.queueTx p f).tok = s.tok := by
  unfold State.queueTx
  dsimp only
  split
  · exact s.count_tok _
  · rfl

theorem State.redSeq_tok (s : State) (f : PubFrame) (p cyc : Nat) : (s.redSeq f p cyc).1.tok = s.tok := by
  unfold State.redSeq
  split
  · rfl
  · split
    · rfl
    · dsimp only
      split <;> rfl

theorem State.pubCopy_tok (s : State) (f : PubFrame) (cyc : Nat) (tag : Bytes) (p : Nat) : (s.pubCopy f cyc tag p).tok = s.tok :=
  (State.queueTx_tok _ _ _).trans (s.redSeq_tok f p cyc)

theorem State.pubMirror_tok (s : State) (f : PubFrame) (cyc : Nat) (tag : Bytes) : (s.pubMirror f cyc tag).tok = s.tok := by
  unfold State.pubMirror
  split
  · rfl
  · split
    · exact s.count_tok _
    · dsimp only
      split
      · rfl
      · exact State.send_tok _ _

theorem State.pubEmit_tok (s : State) (f : PubFrame) (gcnt flo flive : Fld) : (s.pubEmit f gcnt flo flive).1.tok = s.tok := by
  unfold State.pubEmit
  dsimp only
  split
  · exact s.count_tok _
  · split
    · rfl
    · split
      · exact (State.count_tok _ _).trans (s.count_tok _)
      · exact (State.pubMirror_tok _ f _ _).trans (State.foldl_tok (fun u p => u.pubCopy_tok f _ _ p) _ s)

theorem State.noTag_tok (s : State) (id : Nat) (cnt : Fld) (lastAt : Option Nat) : (s.noTag id cnt lastAt).1.tok = s.tok := by
  have hcnt := (State.count_tok (s.count F.PUB_CNT_NOTAG) cnt).trans (s.count_tok _)
  unfold State.noTag
  dsimp only
  split
  · exact (State.raise_tok _ _ _).trans hcnt
  · split
    · exact (State.raise_tok _ _ _).trans hcnt
    · exact hcnt

theorem State.goosePut_tok (s : State) (t nominal tal : Nat) : (s.goosePut t nominal tal).1.tok = s.tok := by
  unfold State.goosePut
  extract_lets g u test cyc idx f r
  have hr : r.1.tok = s.tok := s.pubEmit_tok f _ _ _
  clear_value r
  split
  · split
    · exact hr
    · exact (State.noTag_tok r.1 t _ _).trans hr
  · exact hr

theorem State.resumeFrames_tok (s : State) : s.resumeFrames.tok = s.tok := by
  refine State.foldl_tok (fun u t => ?_) _ s
  dsimp only
  split
  · rfl
  · exact State.goosePut_tok _ _ _ _

/-- After the first departure there is nothing left to resume. -/
theorem State.takeFirst_of_resume {s : State} (h : s.tok.resume = true) : s.takeFirst.tok.resume = false := by
  unfold State.takeFirst
  rw [if_pos h]
  dsimp only
  rw [State.resumeFrames_tok, State.driveTrips_tok, State.foldl_tok (fun u d => u.tripBits_tok _ _)]
  rfl

/-! ## No departure twice -/

/-- Departure `k` of the slot is at its time. -/
theorem State.onTime_iff (s : State) (dep : Nat) : s.onTime dep = true ↔ ((s.tbNs s.ttbTb : Int) - dep).natAbs ≤ 8 := by
  unfold State.onTime
  rw [decide_eq_true_iff]

/-- What a departure needs. -/
def State.departs (s : State) (slot k action : Nat) : Prop :=
  s.flag F.TTB_STATUS_RUN = true ∧ (s.slotV s.activeBank slot).valid = true ∧ (s.slotV s.activeBank slot).action = action ∧
  k ≤ (s.slotV s.activeBank slot).rept ∧ (slot, k) ∉ s.ttb.served ∧
  ((s.tbNs s.ttbTb : Int) - (s.depNs (s.slotV s.activeBank slot) k : Nat)).natAbs ≤ 8

theorem State.departs_iff (s : State) (slot k action : Nat) : s.departs slot k action ↔
    (s.flag F.TTB_STATUS_RUN && (s.slotV s.activeBank slot).valid && (s.slotV s.activeBank slot).action == action &&
      decide (k ≤ (s.slotV s.activeBank slot).rept) && !s.ttb.served.contains (slot, k) &&
      s.onTime (s.depNs (s.slotV s.activeBank slot) k)) = true := by
  simp only [State.departs, Bool.and_eq_true, beq_iff_eq, decide_eq_true_iff, Bool.not_eq_true', ← Bool.not_eq_true, List.contains_iff_mem,
    State.onTime_iff, and_assoc]

theorem State.depart_of_not {s : State} {slot k action : Nat} (h : ¬ s.departs slot k action) : s.depart slot k action = none :=
  if_neg (fun hc => h ((s.departs_iff slot k action).mpr hc))

theorem State.depart_of_departs {s : State} {slot k action : Nat} (h : s.departs slot k action) : s.depart slot k action =
    some (s.slotV s.activeBank slot, s.depNs (s.slotV s.activeBank slot) k,
      ((s.setTtb { s.ttb with served := s.ttb.served ++ [(slot, k)] }).put F.TTB_STATUS_LAST slot).takeFirst) :=
  if_pos ((s.departs_iff slot k action).mp h)

theorem exec_launchTask_of_none {s : State} {slot k t : Nat} (h : (s.advance t).depart slot k 0x01 = none) :
    exec (.launchTask slot k t) s = .next (s.advance t) := by
  show execLaunchTask slot k t s = _
  unfold execLaunchTask
  dsimp only
  rw [h]

theorem exec_startAfeConversion_of_none {s : State} {slot k t : Nat} (h : (s.advance t).depart slot k 0x02 = none) :
    exec (.startAfeConversion slot k t) s = .next (s.advance t) := by
  show execStartAfeConversion slot k t s = _
  unfold execStartAfeConversion
  dsimp only
  rw [h]

theorem exec_frameMark_of_none {s : State} {slot k t : Nat} (h : (s.advance t).depart slot k 0x03 = none) :
    exec (.frameMark slot k t) s = .next (s.advance t) := by
  show execFrameMark slot k t s = _
  unfold execFrameMark
  dsimp only
  rw [h]

theorem exec_armRecorder_of_none {s : State} {slot k t : Nat} (h : (s.advance t).depart slot k 0x04 = none) :
    exec (.armRecorder slot k t) s = .next (s.advance t) := by
  show execArmRecorder slot k t s = _
  unfold execArmRecorder
  dsimp only
  rw [h]

theorem exec_disarmRecorder_of_none {s : State} {slot k t : Nat} (h : (s.advance t).depart slot k 0x05 = none) :
    exec (.disarmRecorder slot k t) s = .next (s.advance t) := by
  show execDisarmRecorder slot k t s = _
  unfold execDisarmRecorder
  dsimp only
  rw [h]

theorem exec_triggerRecorder_of_none {s : State} {slot k t : Nat} (h : (s.advance t).depart slot k 0x06 = none) :
    exec (.triggerRecorder slot k t) s = .next (s.advance t) := by
  show execTriggerRecorder slot k t s = _
  unfold execTriggerRecorder
  dsimp only
  rw [h]

theorem exec_logicCycleStart_of_none {s : State} {slot k t : Nat} (h : (s.advance t).depart slot k 0x07 = none) :
    exec (.logicCycleStart slot k t) s = .next (s.advance t) := by
  show execLogicCycleStart slot k t s = _
  unfold execLogicCycleStart
  dsimp only
  rw [h]

theorem exec_haltExchangeStart_of_none {s : State} {slot k t : Nat} (h : (s.advance t).depart slot k 0x08 = none) :
    exec (.haltExchangeStart slot k t) s = .next (s.advance t) := by
  show execHaltExchangeStart slot k t s = _
  unfold execHaltExchangeStart
  dsimp only
  rw [h]

theorem exec_svRelease_of_none {s : State} {slot k t : Nat} (h : (s.advance t).depart slot k 0x09 = none) :
    exec (.svRelease slot k t) s = .next (s.advance t) := by
  show execSvRelease slot k t s = _
  unfold execSvRelease
  dsimp only
  rw [h]

theorem exec_maintenanceWindow_of_none {s : State} {slot k t : Nat} (temp : Int) (h : (s.advance t).depart slot k 0x0A = none) :
    exec (.maintenanceWindow slot k temp t) s = .next (s.advance t) := by
  show execMaintenanceWindow slot k temp t s = _
  unfold execMaintenanceWindow
  dsimp only
  rw [h]

theorem exec_tokenRenewal_of_none {s : State} {slot k t : Nat} (h : (s.advance t).depart slot k 0x0B = none) :
    exec (.tokenRenewal slot k t) s = .next (s.advance t) := by
  show execTokenRenewal slot k t s = _
  unfold execTokenRenewal
  dsimp only
  rw [h]

/-- Settles O34. -/
theorem noDepartureIsServedTwice : Obligations.NoDepartureIsServedTwice := by
  unfold Obligations.NoDepartureIsServedTwice
  refine ⟨?_, ?_⟩
  · intro s slot k t temp a v dep h
    have hnone : ∀ action, action ≠ 0 → a.depart slot k action = none := fun action hact => State.depart_of_not (by
      rintro ⟨hrun, hv, ha, hk, hserved, htime⟩
      obtain h | h | h | h | h | h := h
      · exact hserved h
      · exact absurd hv (by rw [show (a.slotV a.activeBank slot).valid = false from h]; decide)
      · exact absurd hk (Nat.not_le_of_lt h)
      · exact absurd hrun (by rw [h]; decide)
      · exact hact (ha.symm.trans h)
      · exact absurd htime (Nat.not_le_of_lt h))
    exact ⟨exec_launchTask_of_none (hnone 0x01 (by decide)), exec_startAfeConversion_of_none (hnone 0x02 (by decide)),
      exec_frameMark_of_none (hnone 0x03 (by decide)), exec_armRecorder_of_none (hnone 0x04 (by decide)),
      exec_disarmRecorder_of_none (hnone 0x05 (by decide)), exec_triggerRecorder_of_none (hnone 0x06 (by decide)),
      exec_logicCycleStart_of_none (hnone 0x07 (by decide)), exec_haltExchangeStart_of_none (hnone 0x08 (by decide)),
      exec_svRelease_of_none (hnone 0x09 (by decide)), exec_maintenanceWindow_of_none temp (hnone 0x0A (by decide)),
      exec_tokenRenewal_of_none (hnone 0x0B (by decide))⟩
  · intro a slot k act v dep u
    refine ⟨fun hne => State.depart_of_not (fun h => hne h.2.2.1), fun hrun hv hact hk hserved htime => ?_, fun h => ?_, State.takeFirst_of_resume⟩
    · exact State.depart_of_departs ⟨hrun, hv, hact, hk, hserved, htime⟩
    · exact if_neg (Bool.eq_false_iff.mp h)

end Sys2Proof.Machine

/-!
PROOFS. What a departure does at its units (R142 to R149, R307, R317, R320, R322).
-/
namespace Sys2Proof.Machine

section
variable {s u : State} {slot k t dep : Nat} {v : SlotV}

theorem exec_startAfeConversion_of_some (h : (s.advance t).depart slot k 0x02 = some (v, dep, u)) :
    exec (.startAfeConversion slot k t) s = .next ((maskBits 8 v.target).foldl (fun s c => s.afeConvert c t dep) u) := by
  show execStartAfeConversion slot k t s = _
  unfold execStartAfeConversion
  dsimp only
  rw [h]

theorem exec_frameMark_of_some (h : (s.advance t).depart slot k 0x03 = some (v, dep, u)) :
    exec (.frameMark slot k t) s = .next (if u.chainOn then (v.units 32).foldl (fun s g => s.closeFrame g dep) u else u) := by
  show execFrameMark slot k t s = _
  unfold execFrameMark
  dsimp only
  rw [h]

theorem exec_armRecorder_of_some (h : (s.advance t).depart slot k 0x04 = some (v, dep, u)) :
    exec (.armRecorder slot k t) s = .next ((maskBits 16 v.target).foldl State.recArm u) := by
  show execArmRecorder slot k t s = _
  unfold execArmRecorder
  dsimp only
  rw [h]

theorem exec_disarmRecorder_of_some (h : (s.advance t).depart slot k 0x05 = some (v, dep, u)) :
    exec (.disarmRecorder slot k t) s = .next ((maskBits 16 v.target).foldl State.recDisarm u) := by
  show execDisarmRecorder slot k t s = _
  unfold execDisarmRecorder
  dsimp only
  rw [h]

/-- A departure triggers recorder `r` at its own time on the recorder's base. -/
def State.trigAt (s : State) (dep r : Nat) : State :=
  s.trigger r { code := 6, detail := 0, t := if s.get (F.ACQ_RCFG_TB r) = s.ttbTb then (dep : Int) else s.recNow r, tidx := 0, frac := 0 }

theorem exec_triggerRecorder_of_some (h : (s.advance t).depart slot k 0x06 = some (v, dep, u)) :
    exec (.triggerRecorder slot k t) s = .next ((maskBits 16 v.target).foldl (fun s r => s.trigAt dep r) u) := by
  show execTriggerRecorder slot k t s = _
  unfold execTriggerRecorder
  dsimp only
  rw [h]
  rfl

theorem exec_svRelease_of_some (h : (s.advance t).depart slot k 0x09 = some (v, dep, u)) :
    exec (.svRelease slot k t) s = .next (if u.publishing then (v.units 32).foldl (fun s p => s.svReleaseOne p dep) u else u) := by
  show execSvRelease slot k t s = _
  unfold execSvRelease
  dsimp only
  rw [h]

theorem exec_maintenanceWindow_of_some (temp : Int) (h : (s.advance t).depart slot k 0x0A = some (v, dep, u)) :
    exec (.maintenanceWindow slot k temp t) s = .next (if v.param % 65536 * 1000 = 0 then u else
      ((u.setTtb { u.ttb with window := dep + v.param % 65536 * 1000 }).retrainDram temp).writeWindow (v.param % 65536 * 1000)) := by
  show execMaintenanceWindow slot k temp t s = _
  unfold execMaintenanceWindow
  dsimp only
  rw [h]

theorem exec_tokenRenewal_of_some (h : (s.advance t).depart slot k 0x0B = some (v, dep, u)) :
    exec (.tokenRenewal slot k t) s = .next (if u.redundant then u.reportRed State.renew else u) := by
  show execTokenRenewal slot k t s = _
  unfold execTokenRenewal
  dsimp only
  rw [h]

/-! ## Logic cycles (R145, R307) -/

/-- A logic departure outside any cycle in progress: what waits takes effect, and a cycle starts in Run. -/
def State.lgDepart (s : State) (dep t : Nat) : State :=
  let w := (s.windowDue s.now).lgWaiting
  if w.lgMode = 1 then w.lgStart dep t else w.setLge { w.lge with since := w.lge.since + 1 }

theorem exec_logicCycleStart_of_program {p : Prog} (h : (s.advance t).depart slot k 0x07 = some (v, dep, u)) (hp : u.lge.prog = some p) :
    exec (.logicCycleStart slot k t) s = .next (if !u.awake || u.standby || u.ttb.cyc % Nat.max p.ratio 1 != 0 || u.lgMode == 2 then u
      else if u.lge.cyc.isSome then u.lgSkip else u.lgDepart dep t) := by
  show execLogicCycleStart slot k t s = _
  unfold execLogicCycleStart
  dsimp only
  rw [h]
  dsimp only
  rw [hp]
  rfl

theorem exec_logicCycleStart_without_program (h : (s.advance t).depart slot k 0x07 = some (v, dep, u)) (hp : u.lge.prog = none) :
    exec (.logicCycleStart slot k t) s = .next u := by
  show execLogicCycleStart slot k t s = _
  unfold execLogicCycleStart
  dsimp only
  rw [h]
  dsimp only
  rw [hp]

theorem exec_logicCycleStart_of_serving {p : Prog} (h : (s.advance t).depart slot k 0x07 = some (v, dep, u)) (hp : u.lge.prog = some p)
    (ha : u.awake = true) (hs : u.standby = false) (hm : u.lgMode ≠ 2) : exec (.logicCycleStart slot k t) s =
      .next (if u.ttb.cyc % Nat.max p.ratio 1 != 0 then u else if u.lge.cyc.isSome then u.lgSkip else u.lgDepart dep t) := by
  rw [exec_logicCycleStart_of_program h hp, ha, hs, beq_false_of_ne hm, Bool.or_false]
  rfl

theorem exec_logicCycleStart_of_idle {p : Prog} (h : (s.advance t).depart slot k 0x07 = some (v, dep, u)) (hp : u.lge.prog = some p)
    (hi : u.awake = false ∨ u.standby = true ∨ u.lgMode = 2) : exec (.logicCycleStart slot k t) s = .next u := by
  rw [exec_logicCycleStart_of_program h hp]
  refine congrArg Host.Outcome.next (if_pos ?_)
  simp only [Bool.or_eq_true, Bool.not_eq_true', beq_iff_eq]
  obtain ha | hs | hm := hi
  · exact .inl (.inl (.inl ha))
  · exact .inl (.inl (.inr hs))
  · exact .inr hm

/-! ## Halt exchanges (R322) -/

/-- A halt exchange opens: the replies of the one before are forgotten, and SEQ counts. -/
def State.haltBegun (s : State) : State :=
  (s.put F.HLX_SEQ (s.get F.HLX_SEQ + 1)).each (s.put F.HLX_SEQ (s.get F.HLX_SEQ + 1)).validHalts
    (fun s h => s.setHalt h { s.halt h with replied := false })

/-- The requests leave. -/
def State.haltAsked (s : State) : State :=
  (s.each s.validHalts State.sendRequest).setHlx { (s.each s.validHalts State.sendRequest).hlx with begun := true }

/-- The window for the replies opens. -/
def State.haltOpened (s : State) (t : Nat) : State :=
  s.setHlx { s.hlx with open_ := some (t + s.get F.HLX_CTRL_REPLYWIN * 1000), startAt := some t }

/-- With no valid halt the exchange is complete at once. -/
def State.haltOpening (s : State) (t : Nat) : State := if (s.haltOpened t).allReplied then (s.haltOpened t).haltComplete else s.haltOpened t

theorem exec_haltExchangeStart_of_some (h : (s.advance t).depart slot k 0x08 = some (v, dep, u)) :
    exec (.haltExchangeStart slot k t) s = .next (if !u.awake then u else
      if (u.windowDue (t - 1)).hlx.open_.isSome then (u.windowDue (t - 1)).count F.HLX_CNT_SKIPPED else
        (if (u.windowDue (t - 1)).haltBegun.sendsRequests then (u.windowDue (t - 1)).haltBegun.haltAsked else
          (u.windowDue (t - 1)).haltBegun).haltOpening t) := by
  show execHaltExchangeStart slot k t s = _
  unfold execHaltExchangeStart
  dsimp only
  rw [h]
  rfl

theorem exec_haltExchangeStart_of_awake (h : (s.advance t).depart slot k 0x08 = some (v, dep, u)) (ha : u.awake = true) :
    exec (.haltExchangeStart slot k t) s = .next (if (u.windowDue (t - 1)).hlx.open_.isSome then (u.windowDue (t - 1)).count F.HLX_CNT_SKIPPED
      else (if (u.windowDue (t - 1)).haltBegun.sendsRequests then (u.windowDue (t - 1)).haltBegun.haltAsked else
          (u.windowDue (t - 1)).haltBegun).haltOpening t) := by
  rw [exec_haltExchangeStart_of_some h, ha]
  rfl

theorem exec_haltExchangeStart_of_free (h : (s.advance t).depart slot k 0x08 = some (v, dep, u)) (ha : u.awake = true)
    (ho : (u.windowDue (t - 1)).hlx.open_ = none) : exec (.haltExchangeStart slot k t) s =
      .next ((if (u.windowDue (t - 1)).haltBegun.sendsRequests then (u.windowDue (t - 1)).haltBegun.haltAsked else
        (u.windowDue (t - 1)).haltBegun).haltOpening t) := by
  rw [exec_haltExchangeStart_of_awake h ha, ho]
  rfl

end

theorem State.haltOpening_of_waiting {s : State} {t : Nat} (h : (s.haltOpened t).allReplied = false) : s.haltOpening t = s.haltOpened t :=
  if_neg (Bool.eq_false_iff.mp h)

theorem State.haltOpening_of_replied {s : State} {t : Nat} (h : (s.haltOpened t).allReplied = true) :
    s.haltOpening t = (s.haltOpened t).haltComplete := if_pos h

theorem State.windowDue_of_some {s : State} {c : Nat} (h : s.hlx.open_ = some c) (t : Nat) :
    s.windowDue t = if c ≤ t then s.haltComplete else s := by
  unfold State.windowDue
  rw [h]

theorem State.windowDue_of_none {s : State} (h : s.hlx.open_ = none) (t : Nat) : s.windowDue t = s := by
  unfold State.windowDue
  rw [h]

/-- Settles O35. -/
theorem departuresReachTheirUnits : Obligations.DeparturesReachTheirUnits := by
  unfold Obligations.DeparturesReachTheirUnits
  refine ⟨?_, ?_, ?_⟩
  · intro s slot k t temp v dep u a
    refine ⟨exec_startAfeConversion_of_some, ?_, ?_, exec_armRecorder_of_some, exec_disarmRecorder_of_some, ?_, ?_, ?_, ?_, ?_, ?_, ?_, ?_⟩
    · intro h hc
      exact (exec_frameMark_of_some h).trans (congrArg Host.Outcome.next (if_pos hc))
    · intro h hc
      exact (exec_frameMark_of_some h).trans (congrArg Host.Outcome.next (if_neg (Bool.eq_false_iff.mp hc)))
    · intro r h hr hv at_
      rw [exec_triggerRecorder_of_some h, hv, maskBits_two_pow hr]
      rfl
    · intro h hv
      rw [exec_triggerRecorder_of_some h, hv, maskBits_zero]
      rfl
    · intro h hp
      exact (exec_svRelease_of_some h).trans (congrArg Host.Outcome.next (if_pos hp))
    · intro h hp
      exact (exec_svRelease_of_some h).trans (congrArg Host.Outcome.next (if_neg (Bool.eq_false_iff.mp hp)))
    · intro h hp
      exact (exec_maintenanceWindow_of_some temp h).trans (congrArg Host.Outcome.next (if_neg (by omega)))
    · intro h hp
      exact (exec_maintenanceWindow_of_some temp h).trans (congrArg Host.Outcome.next (if_pos (by omega)))
    · intro h hr
      exact (exec_tokenRenewal_of_some h).trans (congrArg Host.Outcome.next (if_pos hr))
    · intro h hr
      exact (exec_tokenRenewal_of_some h).trans (congrArg Host.Outcome.next (if_neg (Bool.eq_false_iff.mp hr)))
  · intro s temp m
    exact ⟨fun h => if_neg (Nat.not_le_of_lt h), fun h => if_pos h⟩
  · intro s slot k t v dep u p a
    refine ⟨?_, ?_, ?_, ?_, ?_, ?_⟩
    · intro h hp ha hs hm
      have hrun := exec_logicCycleStart_of_serving h hp ha hs hm
      refine ⟨fun hr => ?_, fun hr hc => ?_, fun hr hc => ⟨fun hw => ?_, fun hw => ?_⟩⟩
      · exact hrun.trans (congrArg Host.Outcome.next (if_pos (bne_iff_ne.mpr hr)))
      · rw [hrun, hr, hc]
        rfl
      · rw [hrun, hr, hc]
        exact congrArg Host.Outcome.next (if_pos hw)
      · rw [hrun, hr, hc]
        exact congrArg Host.Outcome.next (if_neg hw)
    · intro h hi
      cases hp : u.lge.prog with
      | none => exact exec_logicCycleStart_without_program h hp
      | some q => exact exec_logicCycleStart_of_idle h hp (hi.resolve_left (by rw [hp]; simp))
    · intro h ha
      exact (exec_haltExchangeStart_of_some h).trans (congrArg Host.Outcome.next (if_pos (by rw [ha]; rfl)))
    · intro h ha x
      refine ⟨fun ho => (exec_haltExchangeStart_of_awake h ha).trans (congrArg Host.Outcome.next (if_pos ho)), ?_⟩
      intro w b c opened ho
      have hfree := exec_haltExchangeStart_of_free h ha ho
      have hb : b = x.haltBegun := rfl
      have hask : c.setHlx { c.hlx with begun := true } = x.haltBegun.haltAsked := rfl
      have hopened : ∀ z, opened z = z.haltOpened t := fun _ => rfl
      rw [show u.windowDue (t - 1) = x from rfl] at hfree
      rw [hask]
      clear_value c b opened x
      subst hb
      refine ⟨fun hsend => ?_, fun hsend => ?_⟩
      · rw [if_pos hsend] at hfree
        intro d
        have hd : d = (x.haltBegun.haltAsked.haltOpened t) := hopened _
        clear_value d
        subst hd
        exact ⟨fun hd => hfree.trans (congrArg Host.Outcome.next (State.haltOpening_of_waiting hd)),
          fun hd => hfree.trans (congrArg Host.Outcome.next (State.haltOpening_of_replied hd))⟩
      · rw [if_neg (Bool.eq_false_iff.mp hsend)] at hfree
        rw [hopened]
        exact ⟨fun hd => hfree.trans (congrArg Host.Outcome.next (State.haltOpening_of_waiting hd)),
          fun hd => hfree.trans (congrArg Host.Outcome.next (State.haltOpening_of_replied hd))⟩
    · intro c hc
      exact ⟨fun hlt => (State.windowDue_of_some hc t).trans (if_neg (Nat.not_le_of_lt hlt)), fun hle => (State.windowDue_of_some hc t).trans (if_pos hle)⟩
    · intro hn
      exact State.windowDue_of_none hn t

end Sys2Proof.Machine

/-!
PROOFS. Launch queues (R219, R220).
-/
namespace Sys2Proof.Machine

/-- A launch whose deadline is over from the beginning. -/
def lateLaunch : Launch := { inst := 1, task := 0, dep := 0, raw := 0, cyc := 0, k := 0, epoch := 0, dead := 0 }

/-- The platform table lists platform 0 twice: emptying its launch queue takes out the first entry, which then holds what an unlisted platform
holds, and the second one comes into view. Nothing in the statement keeps such a table out. -/
def doubled : State := State.reset.setPfs [(0, { PfS.init with lq := [lateLaunch] }), (0, { PfS.init with lq := [lateLaunch] })]

/-- What the statement has the missed launch leave. -/
def doubledMissed : State := ((doubled.setPf 0 { doubled.pf 0 with lq := [] }).showLq 0).missed

theorem doubled_served : (State.serveLq 8 doubled 0).pfs.length = 0 ∧ doubledMissed.pfs.length = 1 ∧ doubled.awake = true := by decide +kernel

theorem exec_launchQueueServed (pf t : Nat) (s : State) : exec (.launchQueueServed pf t) s = .next (if ((s.advance t).pf pf).cur.isNone ∧
    ((s.advance t).pf pf).copyEnd ≤ (s.advance t).now ∧ (s.advance t).awake ∧ !(s.advance t).rbk.flushing then
      State.serveLq 8 (s.advance t) pf else s.advance t) := rfl

/-- Refutes O36: of a platform that the table lists twice the model serves on after the missed launch, and misses the launch behind it too. -/
theorem not_launchesReachTheirPlatform : ¬ Obligations.LaunchesReachTheirPlatform := by
  unfold Obligations.LaunchesReachTheirPlatform
  intro h
  obtain ⟨hlen, hone, hawake⟩ := doubled_served
  obtain ⟨-, -, hqueue, -⟩ := h.1 doubled 0 0 0 0 (doubled.slotV 0 0) 0 doubled
    { entry := 0, budget := 0, deadline := 0, cls := 0, valid := true, stack := 0, wcet := 0 }
  have hadv : doubled.advance 0 = doubled := State.advance_of_le (Nat.le_refl 0)
  rw [exec_launchQueueServed, hadv] at hqueue
  obtain ⟨-, hmiss⟩ := hqueue rfl (Nat.le_refl 0) hawake rfl
  obtain ⟨-, -, hlast⟩ := hmiss lateLaunch [] rfl
  have heq := Host.Outcome.next.inj (hlast (Nat.le_refl 0) rfl (.inl (Nat.le_refl 0)))
  rw [if_pos ⟨rfl, Nat.le_refl 0, hawake, rfl⟩] at heq
  rw [heq] at hlen
  exact absurd (hone.symm.trans hlen) (by decide)

end Sys2Proof.Machine

/-!
PROOFS. Stream ingress: queues, load windows, deadlines, the sample sequence (R162 to R177).
-/
namespace Sys2Proof.Machine

/-! ## The ingress queues (R162, R165, R177) -/

/-- The frame that is parsed, the queues without it. -/
def State.parseFrame (s : State) (q : QFrame) : State :=
  if !s.chainOn then s else match q.frame with
    | some f => s.parseSv f q.subs q.stamp
    | none => q.subs.foldl (fun s i => s.parseFt i q.ds q.stamp) s

theorem State.parseNext_of_none {s : State} (h : s.nextParse = none) : s.parseNext = s := by
  unfold State.parseNext
  rw [h]

theorem State.parseNext_of_some {s u : State} {q : QFrame} (h : s.nextParse = some (q, u)) : s.parseNext = u.parseFrame q := by
  unfold State.parseNext
  rw [h]
  rfl

theorem State.parseFrame_of_sv {s : State} {q : QFrame} {f : RxFrame} (h : s.chainOn = true) (hf : q.frame = some f) :
    s.parseFrame q = s.parseSv f q.subs q.stamp := by
  unfold State.parseFrame
  rw [h, hf]
  rfl

theorem State.parseFrame_of_ft {s : State} {q : QFrame} (h : s.chainOn = true) (hf : q.frame = none) :
    s.parseFrame q = q.subs.foldl (fun s i => s.parseFt i q.ds q.stamp) s := by
  unfold State.parseFrame
  rw [h, hf]
  rfl

theorem State.nextParse_of_urgent {s : State} {q : QFrame} {r : List QFrame} (h : s.svi.urgent = q :: r) :
    s.nextParse = some (q, s.setSvi { s.svi with urgent := r }) := by
  unfold State.nextParse
  rw [h]

theorem State.nextParse_of_normal {s : State} {q : QFrame} {r : List QFrame} (hu : s.svi.urgent = []) (h : s.svi.normal = q :: r) :
    s.nextParse = some (q, s.setSvi { s.svi with normal := r }) := by
  unfold State.nextParse
  rw [hu, h]

theorem State.nextParse_of_empty {s : State} (hu : s.svi.urgent = []) (h : s.svi.normal = []) : s.nextParse = none := by
  unfold State.nextParse
  rw [hu, h]

/-- A frame comes no later in its queue than another: by the clock of its end, then by its port. -/
def QFrame.before (x y : QFrame) : Prop := x.at_ / 4 < y.at_ / 4 ∨ (x.at_ / 4 = y.at_ / 4 ∧ x.port ≤ y.port)

theorem QFrame.before_trans {x y z : QFrame} (h : x.before y) (k : y.before z) : x.before z := by
  unfold QFrame.before at *
  omega

theorem QFrame.before_of_not {x y : QFrame} (h : ¬ x.before y) : y.before x := by
  unfold QFrame.before at *
  omega

/-- The test of `queueIn`. -/
def QFrame.stays (q e : QFrame) : Bool := decide (e.at_ / 4 < q.at_ / 4) || (e.at_ / 4 == q.at_ / 4 && decide (e.port ≤ q.port))

theorem QFrame.stays_iff (q e : QFrame) : q.stays e = true ↔ e.before q := by
  unfold QFrame.stays QFrame.before
  rw [Bool.or_eq_true, Bool.and_eq_true, decide_eq_true_iff, decide_eq_true_iff, beq_iff_eq]

theorem queueIn_of_before {q e : QFrame} (l : List QFrame) (h : e.before q) : queueIn (e :: l) q = e :: queueIn l q := by
  show (e :: l).takeWhile q.stays ++ q :: (e :: l).dropWhile q.stays = e :: (l.takeWhile q.stays ++ q :: l.dropWhile q.stays)
  rw [List.takeWhile_cons_of_pos ((QFrame.stays_iff q e).mpr h), List.dropWhile_cons_of_pos ((QFrame.stays_iff q e).mpr h), List.cons_append]

theorem queueIn_of_not_before {q e : QFrame} (l : List QFrame) (h : ¬ e.before q) : queueIn (e :: l) q = q :: e :: l := by
  show (e :: l).takeWhile q.stays ++ q :: (e :: l).dropWhile q.stays = q :: e :: l
  have hs : ¬ q.stays e = true := fun hs => h ((QFrame.stays_iff q e).mp hs)
  rw [List.takeWhile_cons_of_neg hs, List.dropWhile_cons_of_neg hs, List.nil_append]

theorem queueIn_perm (l : List QFrame) (q : QFrame) : (queueIn l q).Perm (q :: l) := by
  induction l with
  | nil => exact List.Perm.refl _
  | cons e l ih =>
    by_cases h : e.before q
    · rw [queueIn_of_before l h]
      exact (ih.cons e).trans (List.Perm.swap q e l)
    · rw [queueIn_of_not_before l h]

theorem queueIn_pairwise {l : List QFrame} (h : l.Pairwise QFrame.before) (q : QFrame) : (queueIn l q).Pairwise QFrame.before := by
  induction l with
  | nil => exact List.pairwise_singleton _ _
  | cons e l ih =>
    obtain ⟨he, hl⟩ := List.pairwise_cons.mp h
    by_cases hb : e.before q
    · rw [queueIn_of_before l hb]
      refine List.pairwise_cons.mpr ⟨fun x hx => ?_, ih hl⟩
      obtain rfl | hx := List.mem_cons.mp ((queueIn_perm l q).mem_iff.mp hx)
      · exact hb
      · exact he x hx
    · rw [queueIn_of_not_before l hb]
      have hq := QFrame.before_of_not hb
      refine List.pairwise_cons.mpr ⟨fun x hx => ?_, h⟩
      obtain rfl | hx := List.mem_cons.mp hx
      · exact hq
      · exact QFrame.before_trans hq (he x hx)

/-! ## Load windows (R163) -/

theorem State.peak_cases (s : State) (f : Fld) (v : Nat) : s.peak f v = s ∨ ∃ n, s.peak f v = s.put f n := by
  unfold State.peak
  split
  · exact .inr ⟨_, rfl⟩
  · exact .inl rfl

theorem State.peak_svi (s : State) (f : Fld) (v : Nat) : (s.peak f v).svi = s.svi := by
  obtain h | ⟨n, h⟩ := s.peak_cases f v <;> rw [h]
  rfl

theorem State.peak_now (s : State) (f : Fld) (v : Nat) : (s.peak f v).now = s.now := by
  obtain h | ⟨n, h⟩ := s.peak_cases f v <;> rw [h]
  rfl

/-- The window that has been left is shown, and the one of `ms` begins. -/
def State.nextWindow (s : State) (ms : Nat) : State :=
  ((s.put F.SVI_LOAD_LAST (if ms = s.svi.win + 1 then Nat.min s.svi.count 0xFFFF else 0)).peak F.SVI_LOAD_PEAK s.svi.count).setSvi
    { s.svi with win := ms, count := 0 }

/-- A report of the load is due. -/
def State.loadDue (s : State) : Prop := 2500 < s.svi.count ∧ ∀ x, s.svi.loadAt = some x → x + 1000000000 ≤ s.now

theorem State.loadDue_iff (s : State) (now : Nat) (h : now = s.now) : (decide (2500 < s.svi.count) && (match s.svi.loadAt with
    | none => true
    | some a => decide (a + 1000000000 ≤ now))) = true ↔ s.loadDue := by
  unfold State.loadDue
  rw [Bool.and_eq_true, decide_eq_true_iff, h]
  cases s.svi.loadAt <;> simp

theorem State.closeWindow_of_same {s : State} (h : s.tbNs s.ttbTb / 1000000 = s.svi.win) : s.closeWindow = s := if_pos h

open Classical in
theorem State.closeWindow_of_next {s : State} (h : s.tbNs s.ttbTb / 1000000 ≠ s.svi.win) : s.closeWindow =
    if s.loadDue then ((s.nextWindow (s.tbNs s.ttbTb / 1000000)).setSvi
      { (s.nextWindow (s.tbNs s.ttbTb / 1000000)).svi with loadAt := some s.now }).raise 0x0804 0 else s.nextWindow (s.tbNs s.ttbTb / 1000000) := by
  unfold State.closeWindow
  dsimp only
  rw [if_neg h]
  have hw : ((s.put F.SVI_LOAD_LAST (if s.tbNs s.ttbTb / 1000000 = s.svi.win + 1 then Nat.min s.svi.count 0xFFFF else 0)).peak
      F.SVI_LOAD_PEAK s.svi.count).svi = s.svi := State.peak_svi _ _ _
  have hn : ((s.put F.SVI_LOAD_LAST (if s.tbNs s.ttbTb / 1000000 = s.svi.win + 1 then Nat.min s.svi.count 0xFFFF else 0)).peak
      F.SVI_LOAD_PEAK s.svi.count).now = s.now := State.peak_now _ _ _
  rw [hw, hn, State.setSvi_now, hn]
  refine if_congr ?_ rfl rfl
  exact s.loadDue_iff s.now rfl

/-! ## Deadlines (R172, R177) -/

theorem exec_sampleDeadline (i t : Nat) (parsing : Bool) (s : State) : exec (.sampleDeadline i t parsing) s =
    .next (if !parsing then (s.advance t).deadlineMet i
      else if (s.advance t).parseCarries i then (s.advance t).parseNext.deadlineMet i else ((s.advance t).deadlineMet i).parseNext) := rfl

theorem State.parseCarries_iff (s : State) (i : Nat) : s.parseCarries i = true ↔ ((s.stream i).next, true) ∈ (s.parseNext.stream i).recent := by
  unfold State.parseCarries
  rw [List.any_eq_true]
  constructor
  · rintro ⟨⟨n, b⟩, hm, he⟩
    rw [Bool.and_eq_true, beq_iff_eq] at he
    obtain ⟨rfl, rfl⟩ := he
    exact hm
  · intro hm
    exact ⟨_, hm, by rw [beq_self_eq_true]; rfl⟩

/-- The deadline of the stream's next sample has come. -/
def State.sampleDue (s : State) (i : Nat) : Prop :=
  s.flag (F.SVI_SUB_VALID i) = true ∧ s.get (F.SVI_SSTAT_STATE i) ≠ 0 ∧ s.deadlineOf i ≤ s.tbNs (s.get (F.SVI_SUB_TB i))

theorem State.deadlineMet_cond (s : State) (i : Nat) : (s.chainOn && s.flag (F.SVI_SUB_VALID i) && s.get (F.SVI_SSTAT_STATE i) != 0 &&
    decide (s.deadlineOf i ≤ s.tbNs (s.get (F.SVI_SUB_TB i)))) = true ↔ s.chainOn = true ∧ s.sampleDue i := by
  unfold State.sampleDue
  rw [Bool.and_eq_true, Bool.and_eq_true, Bool.and_eq_true, decide_eq_true_iff, bne_iff_ne, and_assoc, and_assoc]

theorem State.deadlineMet_of_due {s : State} {i : Nat} (hc : s.chainOn = true) (h : s.sampleDue i) : s.deadlineMet i = s.placeholder i :=
  if_pos ((s.deadlineMet_cond i).mpr ⟨hc, h⟩)

theorem State.deadlineMet_of_not {s : State} {i : Nat} (h : s.chainOn = false ∨ ¬ s.sampleDue i) : s.deadlineMet i = s := by
  refine if_neg (fun hc => ?_)
  obtain ⟨hon, hdue⟩ := (s.deadlineMet_cond i).mp hc
  obtain h | h := h
  · exact absurd hon (by rw [h]; decide)
  · exact h hdue

/-! ## Reports of smpSynch (R174) -/

theorem execSmpsynchReport_of_off {s : State} {t : Nat} (i : Nat) (h : (s.advance t).chainOn = false) :
    execSmpsynchReport i t s = .next (s.advance t) := congrArg Host.Outcome.next (if_pos (by rw [h]; rfl))

theorem execSmpsynchReport_of_none {s : State} {i t : Nat} (h : ((s.advance t).stream i).reportAt = none) :
    execSmpsynchReport i t s = .next (s.advance t) := by
  unfold execSmpsynchReport
  dsimp only
  rw [h]
  exact congrArg Host.Outcome.next (ite_self _)

theorem execSmpsynchReport_of_some {s : State} {i t x : Nat} (hc : (s.advance t).chainOn = true) (h : ((s.advance t).stream i).reportAt = some x) :
    execSmpsynchReport i t s = .next (if x + 100000000 ≤ (s.advance t).now ∧
      (s.advance t).get (F.SVI_SSTAT_SMPSYNCH i) ≠ ((s.advance t).stream i).reported then (s.advance t).reportSync i else s.advance t) := by
  unfold execSmpsynchReport
  dsimp only
  rw [h, if_neg (by rw [hc]; decide)]

/-! ## Placeholders (R172, R173) -/

/-- A placeholder handed on and counted. -/
def State.placed (s : State) (i : Nat) : State :=
  ((s.handOn i (s.cicPos i) (s.nextTnom i) (List.replicate (s.get (F.SVI_SUB_NCH i)) (0, 1)) (2 ^ 16 + s.relFlags i)).released i
    (s.nextTnom i) false).count (F.SVI_SCNT0_MISSING i)

theorem State.placeholder_eq (s : State) (i : Nat) : s.placeholder i =
    if (s.placed i).get (F.SVI_SSTAT_STATE i) = 1 ∧ (s.placed i).get (F.SVI_SUB_LOSSCNT i) ≤ ((s.placed i).stream i).run then
      (((s.placed i).put (F.SVI_SSTAT_STATE i) 2).count (F.SVI_SCNT2_LOSSES i)).raise 0x0801 i
    else s.placed i := rfl

/-- Settles O37. -/
theorem ingressQueuesAndDeadlines : Obligations.IngressQueuesAndDeadlines := by
  unfold Obligations.IngressQueuesAndDeadlines
  refine ⟨?_, ?_⟩
  · intro s q r t a u n
    have hparse : exec (.frameParse t) s = .next a.parseNext := rfl
    refine ⟨?_, ?_, ?_, ?_, ?_⟩
    · intro hq hc
      rw [hparse, State.parseNext_of_some (State.nextParse_of_urgent hq)]
      exact ⟨fun f hf => congrArg Host.Outcome.next (State.parseFrame_of_sv hc hf), fun hf => congrArg Host.Outcome.next (State.parseFrame_of_ft hc hf)⟩
    · intro hu hq hc
      rw [hparse, State.parseNext_of_some (State.nextParse_of_normal hu hq)]
      exact ⟨fun f hf => congrArg Host.Outcome.next (State.parseFrame_of_sv hc hf), fun hf => congrArg Host.Outcome.next (State.parseFrame_of_ft hc hf)⟩
    · intro hu hq
      exact hparse.trans (congrArg Host.Outcome.next (State.parseNext_of_none (State.nextParse_of_empty hu hq)))
    · intro c w
      have hurgent : (∃ i ∈ q.subs, w.flag (F.SVI_SUB_URGENT i) = true) → q.subs.any (fun i => w.flag (F.SVI_SUB_URGENT i)) = true :=
        fun h => List.any_eq_true.mpr h
      have hnormal : (∀ i ∈ q.subs, w.flag (F.SVI_SUB_URGENT i) = false) → ¬ q.subs.any (fun i => w.flag (F.SVI_SUB_URGENT i)) = true := by
        intro h hany
        obtain ⟨i, hi, hf⟩ := List.any_eq_true.mp hany
        exact absurd hf (by rw [h i hi]; decide)
      refine ⟨fun h hl => ?_, fun h hl => ?_, fun h hl => ?_, fun h hl => ?_⟩
      · exact (if_pos (hurgent h)).trans (if_pos hl)
      · exact (if_pos (hurgent h)).trans (if_neg (Nat.not_le_of_lt hl))
      · exact (if_neg (hnormal h)).trans (if_pos hl)
      · exact (if_neg (hnormal h)).trans (if_neg (Nat.not_le_of_lt hl))
    · intro le h
      exact ⟨queueIn_pairwise h q, queueIn_perm r q⟩
  · intro s i t a ms w
    have hwindow : exec (.loadWindow t) s = .next a.closeWindow := rfl
    refine ⟨?_, ?_, ?_, ?_, ?_, rfl, ?_, ?_, ?_, ?_, ?_, ?_, ?_⟩
    · intro h
      exact hwindow.trans (congrArg Host.Outcome.next (State.closeWindow_of_same h))
    · intro h hle
      rw [hwindow, State.closeWindow_of_next h]
      exact congrArg Host.Outcome.next (if_neg (fun hd => Nat.not_lt_of_le hle hd.1))
    · intro h hlt hx
      rw [hwindow, State.closeWindow_of_next h]
      exact congrArg Host.Outcome.next (if_pos ⟨hlt, hx⟩)
    · intro x h hlt hx hnow
      rw [hwindow, State.closeWindow_of_next h]
      exact congrArg Host.Outcome.next (if_neg (fun hd => Nat.not_le_of_lt hnow (hd.2 x hx)))
    · intro b due
      exact ⟨State.deadlineMet_of_due, State.deadlineMet_of_not⟩
    · intro h
      exact (exec_sampleDeadline i t true s).trans (congrArg Host.Outcome.next (if_pos ((State.parseCarries_iff _ i).mpr h)))
    · intro h
      exact (exec_sampleDeadline i t true s).trans (congrArg Host.Outcome.next (if_neg (fun hc => h ((State.parseCarries_iff _ i).mp hc))))
    · intro m
      have hm : m = a.placed i := rfl
      clear_value m
      rw [State.placeholder_eq, ← hm]
      exact ⟨fun h => if_neg (fun ⟨h1, h2⟩ => h.elim (fun h => h h1) (fun h => Nat.not_le_of_lt h h2)), fun h1 h2 => if_pos ⟨h1, h2⟩⟩
    · intro x hc hx hle hne
      exact (execSmpsynchReport_of_some hc hx).trans (congrArg Host.Outcome.next (if_pos ⟨hle, hne⟩))
    · intro x hx h
      cases hc : a.chainOn with
      | false => exact execSmpsynchReport_of_off i hc
      | true =>
        refine (execSmpsynchReport_of_some hc hx).trans (congrArg Host.Outcome.next (if_neg (fun ⟨hle, hne⟩ => ?_)))
        exact h.elim (fun h => Nat.not_le_of_lt h hle) hne
    · intro hn
      exact execSmpsynchReport_of_none hn
    · intro hc
      exact execSmpsynchReport_of_off i hc

end Sys2Proof.Machine

/-!
PROOFS. A sample by its place in the sequence (R171, R173).
-/
namespace Sys2Proof.Machine

theorem State.takeSync_of_same {s : State} {i v : Nat} (h : v = s.get (F.SVI_SSTAT_SMPSYNCH i)) : s.takeSync i v = s := if_pos h

/-- A sample that leaves SMPSYNCH as it is. -/
theorem State.takeSample_eq {s : State} {i : Nat} {c : InSample} (fl : Nat) (h : c.sync = s.get (F.SVI_SSTAT_SMPSYNCH i)) :
    s.takeSample i c fl = if s.get (F.SVI_SSTAT_STATE i) = 0 then (s.reanchor i c 0 fl, true)
      else if s.offsetJ i c < 0 then
        if s.get (F.SVI_SSTAT_STATE i) = 2 then (s.reanchor i c (s.offsetJ i c) fl, true)
        else if (s.stream i).recent.any (fun e => e.1 == (s.stream i).next + s.offsetJ i c && e.2) then (s.count (F.SVI_SCNT1_DUP i), false)
        else (s.count (F.SVI_SCNT0_LATE i), false)
      else if s.offsetJ i c ≤ 64 then ((State.placeholders (s.offsetJ i c).toNat s i).releaseReal i c fl, true)
      else ((s.count (F.SVI_SCNT2_JUMPS i)).reanchor i c (s.offsetJ i c) fl, true) := by
  unfold State.takeSample
  rw [State.takeSync_of_same h]

theorem recent_any_iff (l : List (Int × Bool)) (p : Int) : l.any (fun e => e.1 == p && e.2) = true ↔ (p, true) ∈ l := by
  rw [List.any_eq_true]
  constructor
  · rintro ⟨⟨n, b⟩, hm, he⟩
    rw [Bool.and_eq_true, beq_iff_eq] at he
    obtain ⟨rfl, rfl⟩ := he
    exact hm
  · intro hm
    exact ⟨_, hm, by rw [beq_self_eq_true]; rfl⟩

/-- Settles O38. -/
theorem samplesAreReleasedInSequence : Obligations.SamplesAreReleasedInSequence := by
  unfold Obligations.SamplesAreReleasedInSequence
  intro s i c fl hsync j st
  have htake := State.takeSample_eq fl hsync
  rw [show s.offsetJ i c = j from rfl, show s.get (F.SVI_SSTAT_STATE i) = st from rfl] at htake
  clear_value j st
  rw [htake]
  refine ⟨?_, ?_, ?_, ?_, ?_, ?_, ?_⟩
  · intro h
    rw [if_pos h]
  · intro h hj
    subst hj
    rw [if_neg h, if_neg (by omega), if_pos (by omega)]
    rfl
  · intro h hj hle
    rw [if_neg h, if_neg (by omega), if_pos hle]
  · intro h hj
    rw [if_neg h, if_neg (by omega), if_neg (by omega)]
  · intro h hj hm
    rw [if_neg (by omega), if_pos hj, if_neg (by omega), if_pos ((recent_any_iff _ _).mpr hm)]
  · intro h hj hm
    rw [if_neg (by omega), if_pos hj, if_neg (by omega), if_neg (fun hc => hm ((recent_any_iff _ _).mp hc))]
  · intro h hj
    rw [if_neg (by omega), if_pos hj, if_pos h]

end Sys2Proof.Machine

/-!
PROOFS. Lanes, frequency groups and coefficient banks (R181 to R190, R201).
-/
namespace Sys2Proof.Machine

/-! ## Lanes (R181) -/

theorem exec_laneOutput (l t : Nat) (s : State) : exec (.laneOutput l t) s = .next (if (s.advance t).chainOn &&
    (s.advance t).flag (F.FCH_LCFG_VALID l) then State.laneRun ((s.advance t).lane l).inq.length (s.advance t) l else s.advance t) := rfl

theorem State.laneRun_of_nil {s : State} {l : Nat} (h : (s.lane l).inq = []) (n : Nat) : State.laneRun n s l = s := by
  cases n with
  | zero => rfl
  | succ n =>
    unfold State.laneRun
    rw [h]

theorem State.laneRun_of_cons {s : State} {l : Nat} {i : Sample} {r : List Sample} (h : (s.lane l).inq = i :: r) (n : Nat) :
    State.laneRun (n + 1) s l = if ((s.setLane l { s.lane l with inq := r }).laneIn l i).2 then
      ((s.setLane l { s.lane l with inq := r }).laneIn l i).1.peak F.FCH_LOAD_LATPEAK
        ((((s.setLane l { s.lane l with inq := r }).laneIn l i).1.now - i.rel) / 10)
      else State.laneRun n ((s.setLane l { s.lane l with inq := r }).laneIn l i).1 l := by
  rw [State.laneRun, h]

theorem State.laneFrozen_iff (s : State) (l : Nat) : s.laneFrozen l = true ↔ (s.lane l).ownerReset = true ∨
    (s.flag (F.FCH_LDC_FZEN l) = true ∧ bit (s.get F.FCH_FZSTAT_FROZEN) (s.get (F.FCH_LDC_FZSET l)) = true) := by
  rw [State.laneFrozen, Bool.or_eq_true, Bool.and_eq_true]

theorem exec_dcrst (l : Nat) (s : State) : exec (.dcrst l) s = .next (s.resetDc l) := rfl

/-! ## Frequency groups (R190, R201) -/

theorem exec_coastingHoldExpired (g : Nat) (atPoint : Bool) (s : State) : exec (.coastingHoldExpired g atPoint) s =
    .next (if s.get (F.FCH_FG_STATUS_STATE g) = 2 then
      if atPoint then s.setGroup g { s.group g with holdOver := true } else s.fgNominal g (s.group g).nk
    else s) := rfl

/-- The low word of a group's index latches its high word. -/
theorem latched_fgIdx : ∀ g < 64, (fieldsAt (F.FCH_FG_IDX_LO g).addr).find? (fun f => f.lo == 32) = some (F.FCH_FG_IDX_LIVE g) ∧
    (fieldsAt ((F.FCH_FG_IDX_LO g).addr + 4)).find? (fun f => f.lo == 0) = some (F.FCH_FG_IDX_HI g) := by decide +kernel

theorem State.latchHi_fgIdx {g : Nat} (h : g < 64) (s : State) : s.latchHi (F.FCH_FG_IDX_LO g).addr =
    s.put (F.FCH_FG_IDX_HI g) (s.get (F.FCH_FG_IDX_LIVE g)) := by
  obtain ⟨hlive, hhi⟩ := latched_fgIdx g h
  unfold State.latchHi
  rw [hlive, hhi, if_neg (by show ¬ (_ ≤ 0x01401034 + 0x40 * g ∧ _); omega)]

/-! ## Coefficient banks (R187) -/

theorem State.coefBoundary_cond (s : State) : (s.flag F.FCH_BANK_PENDING && !(s.fch.lanes.any (fun e => e.2.fade.isSome))) = true ↔
    s.flag F.FCH_BANK_PENDING = true ∧ ∀ e ∈ s.fch.lanes, e.2.fade = none := by
  rw [Bool.and_eq_true, Bool.not_eq_true', List.any_eq_false]
  refine and_congr_right (fun _ => forall₂_congr (fun e _ => ?_))
  rw [Bool.not_eq_true, Option.isSome_eq_false_iff, Option.isNone_iff_eq_none]

/-- Settles O39. -/
theorem filterCommands : Obligations.FilterCommands := by
  unfold Obligations.FilterCommands
  intro s l x y t a
  refine ⟨?_, ?_, ?_, ?_, ?_, rfl, ?_, ?_, ?_, rfl, s.laneFrozen_iff l, ?_, ?_, ?_⟩
  · intro i r hc hv hq q
    have hrun : exec (.laneOutput l t) s = .next (State.laneRun (r.length + 1) a l) := by
      rw [exec_laneOutput, show (s.advance t).chainOn = true from hc, show (s.advance t).flag (F.FCH_LCFG_VALID l) = true from hv,
        show ((s.advance t).lane l).inq = i :: r from hq]
      rfl
    rw [hrun, State.laneRun_of_cons hq]
    exact ⟨fun h => congrArg Host.Outcome.next (if_pos h), fun h => congrArg Host.Outcome.next (if_neg (Bool.eq_false_iff.mp h))⟩
  · intro h
    refine (exec_laneOutput l t s).trans (congrArg Host.Outcome.next ?_)
    split
    · next hc =>
      obtain ⟨hon, hv⟩ := Bool.and_eq_true_iff.mp hc
      obtain h | h | h := h
      · exact absurd hon (by rw [show (s.advance t).chainOn = false from h]; decide)
      · exact absurd hv (by rw [show (s.advance t).flag (F.FCH_LCFG_VALID l) = false from h]; decide)
      · exact State.laneRun_of_nil h _
    · rfl
  · intro h
    rw [exec_coastingHoldExpired, exec_coastingHoldExpired, if_pos h, if_pos h]
    exact ⟨rfl, rfl⟩
  · intro h
    rw [exec_coastingHoldExpired, exec_coastingHoldExpired, if_neg h, if_neg h]
    exact ⟨rfl, rfl⟩
  · intro h e
    exact ⟨fun hc => (if_pos h).trans (if_pos hc), fun hc => (if_pos h).trans (if_neg hc)⟩
  · intro hp hf
    exact if_pos (s.coefBoundary_cond.mpr ⟨hp, hf⟩)
  · intro h
    refine if_neg (fun hc => ?_)
    obtain ⟨hp, hf⟩ := s.coefBoundary_cond.mp hc
    obtain h | ⟨e, he, hs⟩ := h
    · exact absurd hp (by rw [h]; decide)
    · exact absurd hs (by rw [hf e he]; decide)
  · intro w
    exact ⟨fun h => if_pos h, fun h => if_neg h⟩
  · intro h
    exact (exec_dcrst l s).trans (congrArg Host.Outcome.next (if_pos h))
  · intro h
    exact ⟨_, (exec_dcrst l s).trans (congrArg Host.Outcome.next (if_neg (Bool.eq_false_iff.mp h)))⟩
  · intro h
    exact congrArg Host.Outcome.next (State.latchHi_fgIdx h s)

end Sys2Proof.Machine

/-!
PROOFS. Bounds and roundings of the filter chain and the phasor unit (R182, R186, R191, R192, R198, R216, R217).
-/
namespace Sys2Proof.Machine

/-! ## The FIR sum (R186) -/

theorem foldl_dot (h : List Int) (xs : List Tap) (a : Int) :
    (List.zip h xs).foldl (fun a p => a + p.1 * p.2.value) a = a + (List.zipWith (fun h x => h * x.value) h xs).sum := by
  induction h generalizing xs a with
  | nil => simp
  | cons y h ih =>
    cases xs with
    | nil => simp
    | cons x xs =>
      rw [List.zip_cons_cons, List.foldl_cons, ih, List.zipWith_cons_cons, List.sum_cons]
      ring

theorem firDot_eq_sum (c : CoefSet) (xs : List Tap) : firDot c xs = (List.zipWith (fun h x => h * x.value) c.h xs).sum := by
  rw [firDot, foldl_dot, zero_add]

/-- A product of a coefficient and an input stays within 2^70. -/
theorem tap_bound {h x : Int} (hh : -2 ^ 23 ≤ h ∧ h < 2 ^ 23) (hx : -2 ^ 47 ≤ x ∧ x < 2 ^ 47) : |h * x| ≤ 2 ^ 70 := by
  have h1 : |h| ≤ 2 ^ 23 := abs_le.mpr ⟨hh.1, le_of_lt hh.2⟩
  have h2 : |x| ≤ 2 ^ 47 := abs_le.mpr ⟨hx.1, le_of_lt hx.2⟩
  calc |h * x| = |h| * |x| := abs_mul h x
    _ ≤ 2 ^ 23 * 2 ^ 47 := mul_le_mul h1 h2 (abs_nonneg x) (by norm_num)
    _ = 2 ^ 70 := by norm_num

theorem abs_sum_taps_le {h : List Int} {xs : List Tap} (hh : ∀ y ∈ h, -2 ^ 23 ≤ y ∧ y < 2 ^ 23) (hx : ∀ x ∈ xs, -2 ^ 47 ≤ x.value ∧ x.value < 2 ^ 47) :
    |(List.zipWith (fun h x => h * x.value) h xs).sum| ≤ h.length * 2 ^ 70 := by
  induction h generalizing xs with
  | nil => simp
  | cons y h ih =>
    cases xs with
    | nil =>
      rw [List.zipWith_nil_right, List.sum_nil, abs_zero]
      positivity
    | cons x xs =>
      have hrest := ih (fun z hz => hh z (List.mem_cons_of_mem _ hz)) (fun z hz => hx z (List.mem_cons_of_mem _ hz))
      have hone := tap_bound (hh y List.mem_cons_self) (hx x List.mem_cons_self)
      rw [List.zipWith_cons_cons, List.sum_cons, List.length_cons]
      calc |y * x.value + _| ≤ |y * x.value| + |_| := abs_add_le _ _
        _ ≤ 2 ^ 70 + h.length * 2 ^ 70 := add_le_add hone hrest
        _ = ((h.length + 1 : Nat) : Int) * 2 ^ 70 := by push_cast; ring

/-- With at most 128 taps the sum stays within 2^77, far inside the accumulator. -/
theorem firDot_bounds {c : CoefSet} {xs : List Tap} (hl : c.h.length ≤ 128) (hh : ∀ h ∈ c.h, -2 ^ 23 ≤ h ∧ h < 2 ^ 23)
    (hx : ∀ x ∈ xs, -2 ^ 47 ≤ x.value ∧ x.value < 2 ^ 47) : -2 ^ 79 ≤ firDot c xs ∧ firDot c xs < 2 ^ 79 := by
  have hb := abs_sum_taps_le hh hx
  rw [← firDot_eq_sum] at hb
  obtain ⟨hlo, hhi⟩ := abs_le.mp hb
  have hl' : (c.h.length : Int) ≤ 128 := by exact_mod_cast hl
  constructor <;> norm_num at * <;> linarith

/-! ## Output scaling (R192) -/

theorem satS_of_within {v : Int} (h1 : -2 ^ 31 ≤ v) (h2 : v < 2 ^ 31) : satS 32 v = v := by
  norm_num at h1 h2
  unfold satS clampI
  norm_num
  omega

theorem satS_of_below {v : Int} (h : v < -2 ^ 31) : satS 32 v = -2 ^ 31 := by
  norm_num at h
  unfold satS clampI
  norm_num
  omega

theorem satS_of_above {v : Int} (h : 2 ^ 31 ≤ v) : satS 32 v = 2 ^ 31 - 1 := by
  norm_num at h
  unfold satS clampI
  norm_num
  omega

/-- The rounded quotient, written with one division for every OSHIFT. -/
theorem scaleOut_eq (osh : Nat) (y : Int) :
    scaleOut osh y = (satS 32 ((y * 2 + 2 ^ osh) / 2 ^ (osh + 1)), satS 32 ((y * 2 + 2 ^ osh) / 2 ^ (osh + 1)) != (y * 2 + 2 ^ osh) / 2 ^ (osh + 1)) := by
  have hv : (if osh = 0 then y else fdiv (y + (2 ^ (osh - 1) : Nat)) (2 ^ osh)) = (y * 2 + 2 ^ osh) / 2 ^ (osh + 1) := by
    cases osh with
    | zero =>
      rw [if_pos rfl]
      omega
    | succ n =>
      have hpos : (0 : Int) ≤ ((2 ^ (n + 1) : Nat) : Int) := by positivity
      rw [if_neg (by omega), fdiv, Int.fdiv_eq_ediv_of_nonneg _ hpos, Nat.add_sub_cancel]
      push_cast
      rw [show y * 2 + 2 ^ (n + 1) = (y + 2 ^ n) * 2 by ring, pow_succ (2 : Int) (n + 1), Int.mul_ediv_mul_of_pos_left _ _ (by norm_num)]
  unfold scaleOut
  rw [hv]

/-! ## Comparators (R198) -/

theorem comparator_abs (v l : Int) : comparator 3 v l = true ↔ l < (v.natAbs : Int) := decide_eq_true_iff

/-! ## Interpolation (R182, R191) -/

theorem lagrange_at_node_of_four (a b c d : Int) {m u : Nat} (hm : m < 4) :
    (lagrange [a, b, c, d] (m * u : Nat) u).1 = [a, b, c, d].getD m 0 * (lagrange [a, b, c, d] (m * u : Nat) u).2 := by
  interval_cases m <;> simp [lagrange, binom, List.range_succ, -mul_eq_mul_left_iff, -mul_eq_mul_right_iff] <;> ring

theorem lagrange_at_node_of_five (a b c d e : Int) {m u : Nat} (hm : m < 5) :
    (lagrange [a, b, c, d, e] (m * u : Nat) u).1 = [a, b, c, d, e].getD m 0 * (lagrange [a, b, c, d, e] (m * u : Nat) u).2 := by
  interval_cases m <;> simp [lagrange, binom, List.range_succ, -mul_eq_mul_left_iff, -mul_eq_mul_right_iff] <;> ring

theorem lagrange_den_pos (ys : List Int) (x : Int) {u : Nat} (hu : 0 < u) : 0 < (lagrange ys x u).2 := by
  show 0 < (if ys.length - 1 = 3 then 6 else 24) * u ^ (ys.length - 1)
  exact Nat.mul_pos (by split <;> decide) (Nat.pow_pos hu)

/-! ## Slews (R182) -/

/-- Upwards from `x` by `d` in 16 steps. -/
theorem slewStep_up (x d k : Nat) : slewStep x (x + d) k = x + d * k / 16 := by
  unfold slewStep fdiv
  rw [Int.fdiv_eq_ediv_of_nonneg _ (by decide)]
  have h : ((x * 16 : Nat) : Int) + (((x + d : Nat) : Int) - x) * k = ((x * 16 + d * k : Nat) : Int) := by push_cast; ring
  rw [h]
  omega

/-- Downwards to `y`, from `d` above it. -/
theorem slewStep_down (y d k : Nat) (hk : k ≤ 16) : slewStep (y + d) y k = y + d * (16 - k) / 16 := by
  unfold slewStep fdiv
  rw [Int.fdiv_eq_ediv_of_nonneg _ (by decide)]
  have h : (((y + d) * 16 : Nat) : Int) + ((y : Int) - (y + d : Nat)) * k = ((y * 16 + d * (16 - k) : Nat) : Int) := by
    push_cast [Nat.cast_sub hk]
    ring
  rw [h]
  omega

theorem slewStep_bounds (x y k : Nat) (hk : k ≤ 16) :
    slewStep x y 0 = x ∧ slewStep x y 16 = y ∧ Nat.min x y ≤ slewStep x y k ∧ slewStep x y k ≤ Nat.max x y := by
  have hmin : Nat.min x y = min x y := rfl
  have hmax : Nat.max x y = max x y := rfl
  obtain hle | hle := Nat.le_total x y
  · obtain ⟨d, rfl⟩ := Nat.exists_eq_add_of_le hle
    have hd : d * k ≤ d * 16 := Nat.mul_le_mul_left d hk
    simp only [slewStep_up, hmin, hmax]
    omega
  · obtain ⟨d, rfl⟩ := Nat.exists_eq_add_of_le hle
    have hd : d * (16 - k) ≤ d * 16 := Nat.mul_le_mul_left d (Nat.sub_le _ _)
    rw [slewStep_down y d 0 (by decide), slewStep_down y d 16 (Nat.le_refl _), slewStep_down y d k hk, hmin, hmax]
    omega

/-! ## Rounding and the square root (R216, R217) -/

theorem rdiv_bounds (i : Int) {n : Nat} (hn : 0 < n) : 2 * (rdiv i n * n) ≤ 2 * i + n ∧ 2 * i - n < 2 * (rdiv i n * n) := by
  have hpos : (0 : Int) < 2 * n := by omega
  have hr : rdiv i n = (2 * i + n) / (2 * n) := Int.fdiv_eq_ediv_of_nonneg _ (le_of_lt hpos)
  have hlo := Int.mul_ediv_self_le (x := 2 * i + n) (k := 2 * n) (ne_of_gt hpos)
  have hhi := Int.lt_mul_ediv_self_add (x := 2 * i + n) hpos
  rw [← hr] at hlo hhi
  constructor <;> nlinarith

/-- Bit by bit from 2^n: the root of a number that lies between the squares of `r` and `r` + 2^n. -/
theorem isqrtFrom_spec (v : Nat) : ∀ n r : Nat, r * r ≤ v → v < (r + 2 ^ n) * (r + 2 ^ n) →
    isqrtFrom n v r * isqrtFrom n v r ≤ v ∧ v < (isqrtFrom n v r + 1) * (isqrtFrom n v r + 1)
  | 0, _, hlo, hhi => ⟨hlo, hhi⟩
  | n + 1, r, hlo, hhi => by
    unfold isqrtFrom
    dsimp only
    split
    · next h => exact isqrtFrom_spec v n _ h (by rw [Nat.add_assoc, ← Nat.two_mul, ← Nat.pow_succ']; exact hhi)
    · next h => exact isqrtFrom_spec v n r hlo (Nat.lt_of_not_le h)

theorem isqrt_spec {v : Nat} (h : v < 2 ^ 512) : isqrt v * isqrt v ≤ v ∧ v < (isqrt v + 1) * (isqrt v + 1) :=
  isqrtFrom_spec v 256 0 (Nat.zero_le v) (by rw [Nat.zero_add, ← Nat.pow_add]; exact h)

/-- Settles O40. -/
theorem filterAndPhasorArithmetic : Obligations.FilterAndPhasorArithmetic := by
  unfold Obligations.FilterAndPhasorArithmetic
  refine ⟨?_, ?_, ?_, ?_, ?_, fun i n hn => rdiv_bounds i hn, fun v hv => isqrt_spec hv⟩
  · intro c xs hl hh hx
    exact ⟨firDot_eq_sum c xs, firDot_bounds hl hh hx⟩
  · intro osh y _ v
    rw [scaleOut_eq]
    refine ⟨fun ⟨h1, h2⟩ => ?_, fun h => ?_, fun h => ?_⟩
    · rw [satS_of_within h1 h2, bne_self_eq_false]
    · rw [satS_of_below h, bne_iff_ne.mpr (ne_of_gt h)]
    · rw [satS_of_above h, bne_iff_ne.mpr (by omega)]
  · intro v l
    refine ⟨rfl, decide_eq_true_iff, decide_eq_true_iff, fun h => ?_, fun h => ?_⟩
    · rw [comparator_abs]
      omega
    · rw [comparator_abs]
      omega
  · intro ys u m hl hm hu
    refine ⟨?_, lagrange_den_pos ys _ hu⟩
    obtain hl | hl := hl
    · obtain ⟨a, b, c, d, rfl⟩ := List.length_eq_four.mp hl
      exact lagrange_at_node_of_four a b c d hm
    · match ys, hl with
      | [a, b, c, d, e], _ => exact lagrange_at_node_of_five a b c d e hm
  · intro x y k hk
    exact slewStep_bounds x y k hk

end Sys2Proof.Machine

/-!
PROOFS. Tasks: the phasor queue, accesses, ends (R207, R208, R214, R215, R222 to R224, R229).
-/
namespace Sys2Proof.Machine

/-! ## Accesses (R207, R208) -/

theorem Mpu.contains_iff (m : Mpu) (a : Nat) : m.contains a = true ↔ m.base ≤ a ∧ a < m.base + m.len := by
  rw [Mpu.contains, Bool.and_eq_true, decide_eq_true_iff, decide_eq_true_iff]

theorem mayAccess_iff (l : List Mpu) (x : TaskAcc) : mayAccess l x = true ↔
    (∃ m ∈ l.take 4, m.base ≤ accAddr x ∧ accAddr x < m.base + m.len) ∧
      ∀ m ∈ l, m.base ≤ accAddr x → accAddr x < m.base + m.len → accPermitted x m = true := by
  unfold mayAccess
  rw [Bool.and_eq_true, List.any_eq_true, List.all_eq_true]
  simp only [List.mem_filter, Mpu.contains_iff, and_imp]

section
variable (s : State) (r : Running)

theorem State.runAccs_nil : s.runAccs r [] = (s, none) := rfl

theorem State.runAccs_local {x : TaskAcc} (h : inLocal (accAddr x) = true) (l : List TaskAcc) : s.runAccs r (x :: l) = s.runAccs r l :=
  if_pos h

theorem State.runAccs_forbidden {x : TaskAcc} (h : inLocal (accAddr x) = false) (hm : mayAccess r.mpu x = false) (l : List TaskAcc) :
    s.runAccs r (x :: l) = (s, some (accCause x)) :=
  (if_neg (Bool.eq_false_iff.mp h)).trans (if_neg (Bool.eq_false_iff.mp hm))

theorem State.runAccs_store {a : Nat} {b : Byte} (h : inLocal a = false) (hm : mayAccess r.mpu (.store a b) = true) (l : List TaskAcc) :
    s.runAccs r (.store a b :: l) = (s.dataPut r.l.inst (a - 0x100000) [b]).runAccs r l :=
  (if_neg (Bool.eq_false_iff.mp h)).trans (if_pos hm)

theorem State.runAccs_read {x : TaskAcc} (h : inLocal (accAddr x) = false) (hm : mayAccess r.mpu x = true) (hx : ∀ a b, x ≠ .store a b)
    (l : List TaskAcc) : s.runAccs r (x :: l) = s.runAccs r l := by
  refine (if_neg (Bool.eq_false_iff.mp h)).trans ((if_pos hm).trans ?_)
  cases x with
  | fetch a => rfl
  | load a => rfl
  | store a b => exact absurd rfl (hx a b)

end

/-! ## The phasor queue (R214, R215) -/

theorem execPhasorPush_of_none {s : State} {p : Nat} (o : Word) (st : List TaskAcc) (h : s.coreRuns p = none) : execPhasorPush p o st s = .next s := by
  unfold execPhasorPush
  rw [h]

theorem execPhasorPush_of_some {s : State} {p : Nat} {r : Running} (o : Word) (st : List TaskAcc) (h : s.coreRuns p = some r) :
    execPhasorPush p o st s = .next (s.accsNow p r st (fun s => s.phqPush p o.toNat)) := by
  unfold execPhasorPush
  rw [h]

theorem State.accsNow_of_none {s : State} {p : Nat} {r : Running} {st : List TaskAcc} (f : State → State)
    (h : ((s.coreActs p).runAccs r st).2 = none) : s.accsNow p r st f = f ((s.coreActs p).runAccs r st).1 := by
  unfold State.accsNow
  dsimp only
  rw [h]

theorem State.accsNow_of_some {s : State} {p c : Nat} {r : Running} {st : List TaskAcc} (f : State → State)
    (h : ((s.coreActs p).runAccs r st).2 = some c) : s.accsNow p r st f = ((s.coreActs p).runAccs r st).1.accessFault p r c := by
  unfold State.accsNow
  dsimp only
  rw [h]

theorem State.phqPush_of_room {s : State} {p : Nat} (o : Nat) (h : (s.pf p).phq.length < 16) :
    s.phqPush p o = ((s.put (F.LCL_PHQ_PUSH_DESC p) o).setPf p { s.pf p with phq := (s.pf p).phq ++ [o] }).showPhq p := if_pos h

theorem State.phqPush_of_full {s : State} {p : Nat} (o : Nat) (h : 16 ≤ (s.pf p).phq.length) :
    s.phqPush p o = (s.put (F.LCL_PHQ_PUSH_DESC p) o).setPf p { s.pf p with stalled := some o } := if_neg (Nat.not_lt_of_le h)

theorem execPhasorDescriptorDone_of_idle {s : State} {p : Nat} (h : (s.pf p).cur = none ∨ (s.pf p).phq = []) :
    execPhasorDescriptorDone p s = .next s := by
  unfold execPhasorDescriptorDone
  obtain h | h := h
  · rw [h]
  · rw [h]
    cases (s.pf p).cur <;> rfl

theorem execPhasorDescriptorDone_of_stalled {s : State} {p d x : Nat} {r : Running} {l : List Nat} (hr : (s.pf p).cur = some r)
    (hq : (s.pf p).phq = d :: l) (hx : ((s.phasorExec r.l.inst d).pf p).stalled = some x) : execPhasorDescriptorDone p s =
      .next (((s.phasorExec r.l.inst d).setPf p { (s.phasorExec r.l.inst d).pf p with phq := l ++ [x], stalled := none }).showPhq p) := by
  unfold execPhasorDescriptorDone
  rw [hr, hq]
  dsimp only
  rw [hx]

theorem execPhasorDescriptorDone_of_free {s : State} {p d : Nat} {r : Running} {l : List Nat} (hr : (s.pf p).cur = some r)
    (hq : (s.pf p).phq = d :: l) (hx : ((s.phasorExec r.l.inst d).pf p).stalled = none) : execPhasorDescriptorDone p s =
      .next (((s.phasorExec r.l.inst d).setPf p { (s.phasorExec r.l.inst d).pf p with phq := l }).showPhq p) := by
  unfold execPhasorDescriptorDone
  rw [hr, hq]
  dsimp only
  rw [hx]

/-- Settles O41. -/
theorem phasorQueueIsServedInOrder : Obligations.PhasorQueueIsServedInOrder := by
  unfold Obligations.PhasorQueueIsServedInOrder
  refine ⟨?_, ?_⟩
  · intro s p o st
    refine ⟨fun h => execPhasorPush_of_none o st h, ?_, fun h => execPhasorDescriptorDone_of_idle h, ?_⟩
    · intro r hr x u
      have hpush : exec (.phasorPush p o st) s = .next (s.accsNow p r st (fun s => s.phqPush p o.toNat)) := execPhasorPush_of_some o st hr
      refine ⟨fun hx hl => ?_, fun hx hl => ?_, fun c hx => ?_⟩
      · rw [hpush, State.accsNow_of_none _ hx]
        exact congrArg Host.Outcome.next (State.phqPush_of_room _ hl)
      · rw [hpush, State.accsNow_of_none _ hx]
        exact congrArg Host.Outcome.next (State.phqPush_of_full _ hl)
      · exact hpush.trans (congrArg Host.Outcome.next (State.accsNow_of_some _ hx))
    · intro r d l hr hq u
      exact ⟨fun hx => execPhasorDescriptorDone_of_free hr hq hx, fun x hx => execPhasorDescriptorDone_of_stalled hr hq hx⟩
  · intro s r x l
    exact ⟨mayAccess_iff r.mpu x, s.runAccs_nil r, fun h => s.runAccs_local r h l, fun h hm => s.runAccs_forbidden r h hm l,
      fun a b h hm => s.runAccs_store r h hm l, fun h hm hx => s.runAccs_read r h hm hx l⟩

/-! ## How a task ends (R222 to R224, R229) -/

theorem Running.settled_iff (r : Running) : r.settled = true ↔ ∃ e, r.ending = some e ∧ e.waits = false := by
  unfold Running.settled
  cases r.ending <;> simp

theorem execBudgetOverrun_of_some {s : State} {p : Nat} {q : Running} (h : (s.pf p).cur = some q) : execBudgetOverrun p s =
    .next (if q.overran || q.settled then s else
      ((((((s.coreActs p).setPf p { s.pf p with cur := some { q with overran := true } }).raiseI 0x0A01 q.l.inst p).count (F.PFM_PCNT0_OVERRUN p)).put
        (F.PFM_LASTOVR_INST p) q.l.inst).put (F.PFM_LASTOVR_TASK p) q.l.task).iflag F.PFM_IFLAG_OVR q.l) := by
  unfold execBudgetOverrun
  rw [h]

theorem execBudgetOverrun_of_none {s : State} {p : Nat} (h : (s.pf p).cur = none) : execBudgetOverrun p s = .next s := by
  unfold execBudgetOverrun
  rw [h]

section
variable {s : State} {p t : Nat} {r : Running}

theorem State.afterAccs_of_none {st : List TaskAcc} (n cl : Nat) (f : State → State) (h : (s.runAccs r st).2 = none) :
    s.afterAccs p r st n cl f = f (s.runAccs r st).1 := by
  unfold State.afterAccs
  dsimp only
  rw [h]

theorem State.afterAccs_of_some {st : List TaskAcc} {c : Nat} (n cl : Nat) (f : State → State) (h : (s.runAccs r st).2 = some c) :
    s.afterAccs p r st n cl f = (s.runAccs r st).1.trapTask p r c n cl none := by
  unfold State.afterAccs
  dsimp only
  rw [h]

theorem execDeadline_of_none (n cl : Nat) (st : List TaskAcc) (h : ((s.advance t).pf p).cur = none) :
    execDeadline p n cl st t s = .next (s.advance t).parkDue := by
  unfold execDeadline
  dsimp only
  rw [h]

theorem execDeadline_of_some (n cl : Nat) (st : List TaskAcc) (h : ((s.advance t).pf p).cur = some r) : execDeadline p n cl st t s =
    .next (State.parkDue (if r.settled || decide ((s.advance t).now < r.l.dead) then s.advance t
      else (s.advance t).afterAccs p r (r.accs st) n cl (fun s => s.stopAtDeadline p r n cl))) := by
  unfold execDeadline
  dsimp only
  rw [h]

/-- Nothing to stop: the commit does not wait, or the deadline has not come. -/
theorem execDeadline_of_settled (n cl : Nat) (st : List TaskAcc) (h : ((s.advance t).pf p).cur = some r)
    (hd : r.settled = true ∨ (s.advance t).now < r.l.dead) : execDeadline p n cl st t s = .next (s.advance t).parkDue := by
  rw [execDeadline_of_some n cl st h, if_pos]
  rw [Bool.or_eq_true, decide_eq_true_iff]
  exact hd

theorem execDeadline_of_unsettled (n cl : Nat) (st : List TaskAcc) (h : ((s.advance t).pf p).cur = some r) (hs : r.settled = false)
    (hd : r.l.dead ≤ (s.advance t).now) : execDeadline p n cl st t s =
      .next ((s.advance t).afterAccs p r (r.accs st) n cl (fun s => s.stopAtDeadline p r n cl)).parkDue := by
  rw [execDeadline_of_some n cl st h, hs, decide_eq_false (Nat.not_lt_of_le hd)]
  rfl

theorem execTrap_of_none (cause n cl : Nat) (st : List TaskAcc) (h : (s.advance t).coreRuns p = none) :
    execTrap p cause n cl st t s = .next (s.advance t).parkDue := by
  unfold execTrap
  dsimp only
  rw [h]

theorem execTrap_of_some (cause n cl : Nat) (st : List TaskAcc) (h : (s.advance t).coreRuns p = some r) : execTrap p cause n cl st t s =
    .next (State.parkDue (if r.l.dead ≤ (s.advance t).now then ((s.advance t).runAccs r st).1.stopAtDeadline p r n cl
      else (s.advance t).afterAccs p r st n cl (fun s => s.trapTask p r cause n cl none))) := by
  unfold execTrap
  dsimp only
  rw [h]

/-- What an ECALL does before the deadline. -/
def State.ecalled (s : State) (p : Nat) (r : Running) (a7 n cl : Nat) : State :=
  if a7 = 0 then s.beginCommit p r n cl
  else if a7 = 1 then ((s.endRun p r n cl (s.toEcall r)).endTask p).pubTaskEnd r.l.inst
  else s.trapTask p r 8 n cl (s.toEcall r)

theorem execEcall_of_none (a7 n cl : Nat) (st : List TaskAcc) (h : (s.advance t).coreRuns p = none) :
    execEcall p a7 n cl st t s = .next (s.advance t).parkDue := by
  unfold execEcall
  dsimp only
  rw [h]

theorem execEcall_of_some (a7 n cl : Nat) (st : List TaskAcc) (h : (s.advance t).coreRuns p = some r) : execEcall p a7 n cl st t s =
    .next (State.parkDue (if r.l.dead ≤ (s.advance t).now then ((s.advance t).runAccs r st).1.stopAtDeadline p r n cl
      else (s.advance t).afterAccs p r st n cl (fun s => s.ecalled p r a7 n cl))) := by
  unfold execEcall
  dsimp only
  rw [h]
  rfl

theorem execCommit_of_none (h : ((s.advance t).pf p).cur = none) : execCommit p t s = .next (s.advance t).parkDue := by
  unfold execCommit
  dsimp only
  rw [h]

theorem execCommit_of_running (h : ((s.advance t).pf p).cur = some r) (he : r.ending = none) : execCommit p t s = .next (s.advance t).parkDue := by
  unfold execCommit
  dsimp only
  rw [h]
  dsimp only
  rw [he]

theorem execCommit_of_ending {e : Ending} (h : ((s.advance t).pf p).cur = some r) (he : r.ending = some e) : execCommit p t s =
    .next (State.parkDue (if e.waits && decide (r.l.dead ≤ (s.advance t).now) then
        (s.advance t).stopAtDeadline p r (e.clocks + ((s.advance t).now - e.at_) * 12 / 10) e.cl
      else if ((s.advance t).pf p).phq.isEmpty then (s.advance t).commitTask p r e else s.advance t)) := by
  unfold execCommit
  dsimp only
  rw [h]
  dsimp only
  rw [he]

end

theorem Running.settled_of_running {r : Running} (h : r.ending = none) : r.settled = false := by
  unfold Running.settled
  rw [h]

theorem Running.settled_of_ending {r : Running} {e : Ending} (h : r.ending = some e) : r.settled = !e.waits := by
  unfold Running.settled
  rw [h]

theorem Running.accs_of_running {r : Running} (h : r.ending = none) (st : List TaskAcc) : r.accs st = st := by
  unfold Running.accs
  rw [h]
  rfl

theorem Running.accs_of_ending {r : Running} {e : Ending} (h : r.ending = some e) (st : List TaskAcc) : r.accs st = [] := by
  unfold Running.accs
  rw [h]
  rfl

/-- Settles O42. -/
theorem tasksEnd : Obligations.TasksEnd := by
  unfold Obligations.TasksEnd
  intro s p a7 cause n cl t st r a x u
  refine ⟨?_, ?_, ?_, ?_, ?_, ?_, ?_, ?_, ?_, ?_, ?_, ?_, ?_, ?_, ?_⟩
  · intro q hq hover hend b
    refine (execBudgetOverrun_of_some hq).trans (congrArg Host.Outcome.next (if_neg ?_))
    rw [hover, Bool.false_or, Running.settled_iff]
    rintro ⟨e, he, hw⟩
    exact absurd (hend e he) (by rw [hw]; decide)
  · intro q hq h
    refine (execBudgetOverrun_of_some hq).trans (congrArg Host.Outcome.next (if_pos ?_))
    rw [Bool.or_eq_true, Running.settled_iff]
    exact h
  · intro h
    exact execBudgetOverrun_of_none h
  · intro hr he hd
    have hrun := execDeadline_of_unsettled n cl st hr (Running.settled_of_running he) hd
    rw [Running.accs_of_running he] at hrun
    exact ⟨fun hx => hrun.trans (congrArg (fun w : State => Host.Outcome.next w.parkDue) (State.afterAccs_of_none n cl _ hx)),
      fun c hx => hrun.trans (congrArg (fun w : State => Host.Outcome.next w.parkDue) (State.afterAccs_of_some n cl _ hx))⟩
  · intro e hr he hw hd
    have hrun := execDeadline_of_unsettled n cl st hr (by rw [Running.settled_of_ending he, hw]; rfl) hd
    rw [Running.accs_of_ending he] at hrun
    exact hrun
  · intro e hr he hw
    exact execDeadline_of_settled n cl st hr (.inl (by rw [Running.settled_of_ending he, hw]; rfl))
  · intro hr hd
    exact execDeadline_of_settled n cl st hr (.inr hd)
  · intro h
    exact execDeadline_of_none n cl st h
  · intro hr hd
    exact ⟨(execTrap_of_some cause n cl st hr).trans (congrArg (fun w : State => Host.Outcome.next w.parkDue) (if_pos hd)),
      (execEcall_of_some a7 n cl st hr).trans (congrArg (fun w : State => Host.Outcome.next w.parkDue) (if_pos hd))⟩
  · intro hr hd hx
    have hecall : exec (.ecall p a7 n cl st t) s = .next (u.ecalled p r a7 n cl).parkDue :=
      (execEcall_of_some a7 n cl st hr).trans (congrArg (fun w : State => Host.Outcome.next w.parkDue)
        ((if_neg (Nat.not_le_of_lt hd)).trans (State.afterAccs_of_none n cl _ hx)))
    refine ⟨?_, fun h => ?_, fun h => ?_, fun h => ?_⟩
    · exact (execTrap_of_some cause n cl st hr).trans (congrArg (fun w : State => Host.Outcome.next w.parkDue)
        ((if_neg (Nat.not_le_of_lt hd)).trans (State.afterAccs_of_none n cl _ hx)))
    · rw [hecall, State.ecalled, if_pos h]
    · rw [hecall, State.ecalled, if_neg (by omega), if_pos h]
    · rw [hecall, State.ecalled, if_neg (by omega), if_neg (by omega)]
  · intro c hr hd hx
    exact ⟨(execTrap_of_some cause n cl st hr).trans (congrArg (fun w : State => Host.Outcome.next w.parkDue)
        ((if_neg (Nat.not_le_of_lt hd)).trans (State.afterAccs_of_some n cl _ hx))),
      (execEcall_of_some a7 n cl st hr).trans (congrArg (fun w : State => Host.Outcome.next w.parkDue)
        ((if_neg (Nat.not_le_of_lt hd)).trans (State.afterAccs_of_some n cl _ hx)))⟩
  · intro h
    exact ⟨execEcall_of_none a7 n cl st h, execTrap_of_none cause n cl st h⟩
  · intro e hr he h
    have hrun := execCommit_of_ending hr he
    have hno : ¬ (e.waits && decide (r.l.dead ≤ (s.advance t).now)) = true := by
      rw [Bool.and_eq_true, decide_eq_true_iff]
      rintro ⟨hw, hd⟩
      exact h.elim (fun h => absurd hw (by rw [h]; decide)) (fun h => Nat.not_le_of_lt h hd)
    rw [if_neg hno] at hrun
    refine ⟨fun hq => hrun.trans (congrArg (fun w : State => Host.Outcome.next w.parkDue) (if_pos (List.isEmpty_iff.mpr hq))), fun hq => ?_⟩
    exact hrun.trans (congrArg (fun w : State => Host.Outcome.next w.parkDue) (if_neg (fun hc => hq (List.isEmpty_iff.mp hc))))
  · intro e hr he hw hd
    refine (execCommit_of_ending hr he).trans (congrArg (fun w : State => Host.Outcome.next w.parkDue) (if_pos ?_))
    rw [hw, Bool.true_and, decide_eq_true_iff]
    exact hd
  · intro h
    obtain h | ⟨q, hq, he⟩ := h
    · exact execCommit_of_none h
    · exact execCommit_of_running hq he

end Sys2Proof.Machine

/-!
PROOFS. Quarantine, restarts, marshalling (R227, R228, R239, R245 to R255, R355).
-/
namespace Sys2Proof.Machine

/-! ## Quarantine and errors (R227, R228, R355) -/

theorem exec_correctableEccError (memory pf : Nat) (s : State) : exec (.correctableEccError memory pf) s =
    .next (((if memory = 3 ∨ memory = 4 then s.count (F.PFM_PCNT1_CECC pf) else s).count F.MEM_ECC_CECC).raise 0x1101
      (memory % 256 + pf % 256 * 256)) := rfl

/-- An uncorrectable error is counted, its address shown. -/
def State.ueccNoted (s : State) (memory addr : Nat) : State :=
  ((s.count F.MEM_ECC_UECC).put F.MEM_ECCADDR_LO addr).put F.MEM_ECCADDR_HI (addr / 2 ^ 32 % 256 + memory % 256 * 256)

theorem exec_uncorrectableEccError (memory pf addr t : Nat) (s : State) : exec (.uncorrectableEccError memory pf addr t) s =
    .next (State.parkDue (if memory = 3 ∨ memory = 4 then
        if ((s.advance t).ueccNoted memory addr).roleOf pf = 2 then
          ((s.advance t).ueccNoted memory addr).raise 0x1102 (memory % 256 + pf % 256 * 256)
        else ((((s.advance t).ueccNoted memory addr).put (F.PFM_QADDR_ADDR pf) addr).quarantine pf 2).raise 0x1102 (memory % 256 + pf % 256 * 256)
      else if memory = 1 then (((s.advance t).ueccNoted memory addr).raise 0x1102 (memory % 256 + pf % 256 * 256)).dramError addr
      else ((s.advance t).ueccNoted memory addr).raise 0x1102 (memory % 256 + pf % 256 * 256))) := rfl

theorem State.quarantine_of_quarantined {s : State} {p : Nat} (h : s.roleOf p = 2) (cause : Nat) : s.quarantine p cause = s := if_pos h

/-! ## Restarts (R245) -/

theorem exec_spareRestartComplete (t : Nat) (s : State) : exec (.spareRestartComplete t) s =
    .next (if (s.advance t).mar.copying.isEmpty then s.advance t else (s.advance t).restartDone) := rfl

/-- What the images of one instance leave. -/
def State.imageCopied (s : State) (p : Place) : State := match s.decl p.inst with
  | none => s
  | some d => match ((s.loadImage d p).inst p.inst).snapshot with
    | none => s.loadImage d p
    | some x => (s.loadImage d p).loadCkpt d p x.ckpt

/-- The copies end: the good ones wait for a boundary of the map. -/
def State.copiesEnd (s : State) (good : List Place) : State :=
  (s.setMar { s.mar with copying := [], mapWait := s.mar.mapWait ++ good }).restartNext

theorem State.restartDone_eq (s : State) : s.restartDone =
    ((s.mar.copying.filter (fun p => !(s.inst p.inst).imageBad)).foldl State.imageCopied s).copiesEnd
      (s.mar.copying.filter (fun p => !(s.inst p.inst).imageBad)) := rfl

theorem State.restartDone_of_bad {s : State} {p : Place} (h : s.mar.copying = [p]) (hb : (s.inst p.inst).imageBad = true) :
    s.restartDone = s.copiesEnd [] := by
  have hgood : s.mar.copying.filter (fun p => !(s.inst p.inst).imageBad) = [] := by
    rw [h, List.filter_cons_of_neg (by rw [hb]; decide), List.filter_nil]
  rw [State.restartDone_eq, hgood, List.foldl_nil]

theorem State.restartDone_of_good {s : State} {p : Place} (h : s.mar.copying = [p]) (hb : (s.inst p.inst).imageBad = false) :
    s.restartDone = (s.imageCopied p).copiesEnd [p] := by
  have hgood : s.mar.copying.filter (fun p => !(s.inst p.inst).imageBad) = [p] := by
    rw [h, List.filter_cons_of_pos (by rw [hb]; rfl), List.filter_nil]
  rw [State.restartDone_eq, hgood, List.foldl_cons, List.foldl_nil]

theorem State.restartNext_of_none {s : State} (h : s.mar.restart = []) : s.restartNext = s := by
  rw [State.restartNext, h]
  rfl

theorem State.copiesEnd_of_none {s : State} (h : s.mar.restart = []) : s.copiesEnd [] = s.setMar { s.mar with copying := [] } := by
  unfold State.copiesEnd
  rw [List.append_nil]
  exact State.restartNext_of_none h

theorem State.imageCopied_without_snapshot {s : State} {p : Place} {d : InstDecl} (hd : s.decl p.inst = some d)
    (h : ((s.loadImage d p).inst p.inst).snapshot = none) : s.imageCopied p = s.loadImage d p := by
  unfold State.imageCopied
  rw [hd]
  dsimp only
  rw [h]

theorem State.imageCopied_with_snapshot {s : State} {p : Place} {d : InstDecl} {x : Snap} (hd : s.decl p.inst = some d)
    (h : ((s.loadImage d p).inst p.inst).snapshot = some x) : s.imageCopied p = (s.loadImage d p).loadCkpt d p x.ckpt := by
  unfold State.imageCopied
  rw [hd]
  dsimp only
  rw [h]

/-! ## The decision period (R239, R248) -/

/-- The contention level shows, and the grants still held are charged. -/
def State.clShown (s : State) (cl : Nat) : State := ((s.put F.MAR_CL_NOW cl).peak F.MAR_CL_PEAK cl).chargeGrants

/-- BUSY of the movers shows the period that ends. -/
def State.busyShown (s : State) : State :=
  s.each [0, 1] (fun u m => u.put (F.DMX_ARB_BUSY m)
    (Nat.min (Sp.get 0 u.mar.busy m * 65536 / Nat.max (s.get F.MAR_CTRL_PERIOD * 1000000) 1) 65535))

/-- With ADAPT, what is chosen. -/
def State.adapted (s : State) : State :=
  ((s.setMar { s.mar with shareWait := s.sInsts.map (fun d => (d.inst, s.shareOf d)) }).chooseShunt.setWeights).rebind

/-- The next period begins. -/
def State.periodBegun (s : State) : State := (s.setMar { s.mar with bytes := [], moved := [], busy := [] }).showMeas

theorem exec_decisionPeriod (cl t : Nat) (s : State) : exec (.decisionPeriod cl t) s =
    .next (if !(s.advance t).active || decide (2 ≤ (s.advance t).get F.PWR_STATE) then s.advance t
      else (if (((s.advance t).clShown cl).busyShown).flag F.MAR_CTRL_ADAPT then (((s.advance t).clShown cl).busyShown).adapted
        else ((s.advance t).clShown cl).busyShown).periodBegun) := rfl

theorem exec_decisionPeriod_of_running {s : State} {t : Nat} (cl : Nat) (ha : (s.advance t).active = true) (hp : (s.advance t).get F.PWR_STATE < 2) :
    exec (.decisionPeriod cl t) s = .next ((if (((s.advance t).clShown cl).busyShown).flag F.MAR_CTRL_ADAPT then
      (((s.advance t).clShown cl).busyShown).adapted else ((s.advance t).clShown cl).busyShown).periodBegun) := by
  rw [exec_decisionPeriod, ha, decide_eq_false (Nat.not_le_of_lt hp)]
  rfl

/-! ## Bounds (R247, R250, R255) -/

theorem exec_boundWrite (i reg : Nat) (v : Word) (s : State) : exec (.boundWrite i reg v) s = .next (s.writeBound i reg v) := rfl

/-- A bound has been written: what held the instance's shunts back ends. -/
def State.boundTaken (s : State) (i : Nat) : State :=
  (((s.put (F.MAR_ISHUNT_ATTEMPTS i) 0).put (F.MAR_IGUARD_STUCK i) 0).setMar
    { s.mar with retryAt := Sp.put 0 s.mar.retryAt i 0 }).showMeas

/-- MAR_IBOUND with both its fields written. -/
def State.boundPut (s : State) (i : Nat) (v : Word) : State :=
  (s.put (F.MAR_IBOUND_SHMIN i) ((F.MAR_IBOUND_SHMIN i).part v)).put (F.MAR_IBOUND_SHMAX i) ((F.MAR_IBOUND_SHMAX i).part v)

/-- A bound below the share lowers it at the next boundary. -/
def State.boundLowers (s : State) (i : Nat) : State := match s.decl i with
  | none => s
  | some d => if d.supervisory ∧ (s.shareBounds i).2 < s.get (F.MAR_IPLACE_SHARE i) then
      s.setMar { s.mar with shareWait := (s.mar.shareWait.filter (fun e => e.1 != i)) ++ [(i, s.shareOf d)] }
    else s

theorem State.writeBound_zero (s : State) (reg : Nat) (v : Word) : s.writeBound 0 reg v = s := if_pos rfl

section
variable {s : State} {i : Nat} (v : Word)

theorem State.writeBound_share (h : i ≠ 0) : s.writeBound i 0 v = ((s.boundPut i v).boundLowers i).boundTaken i := if_neg h

theorem State.writeBound_guard (h : i ≠ 0) : s.writeBound i 1 v = (((if 10 ≤ (F.MAR_IGUARD_GUARD i).part v ∧ (F.MAR_IGUARD_GUARD i).part v ≤ 40 then
    s.put (F.MAR_IGUARD_GUARD i) ((F.MAR_IGUARD_GUARD i).part v) else s).put (F.MAR_IGUARD_SHUNTEN i)
      ((F.MAR_IGUARD_SHUNTEN i).part v)).boundTaken i) := if_neg h

theorem State.writeBound_mask (h : i ≠ 0) :
    s.writeBound i 2 v = (s.put (F.MAR_IPFMASK_ALLOW i) ((F.MAR_IPFMASK_ALLOW i).part v)).boundTaken i := if_neg h

theorem State.boundLowers_of_none (h : s.decl i = none) : s.boundLowers i = s := by
  unfold State.boundLowers
  rw [h]

theorem State.boundLowers_of_some {d : InstDecl} (h : s.decl i = some d) : s.boundLowers i =
    if d.supervisory ∧ (s.shareBounds i).2 < s.get (F.MAR_IPLACE_SHARE i) then
      s.setMar { s.mar with shareWait := (s.mar.shareWait.filter (fun e => e.1 != i)) ++ [(i, s.shareOf d)] }
    else s := by
  unfold State.boundLowers
  rw [h]

end

/-- Settles O43. -/
theorem quarantineAndMarshalling : Obligations.QuarantineAndMarshalling := by
  unfold Obligations.QuarantineAndMarshalling
  refine ⟨?_, ?_⟩
  · intro s pf memory addr t a u e
    have huecc := exec_uncorrectableEccError memory pf addr t s
    refine ⟨fun _ => rfl, ?_, ?_, ?_, ?_, ?_, ?_, ?_, ?_, ?_, ?_⟩
    · intro h
      exact congrArg (fun w : State => Host.Outcome.next w.parkDue) (State.quarantine_of_quarantined h 1)
    · intro hm hr
      exact huecc.trans (congrArg (fun w : State => Host.Outcome.next w.parkDue) ((if_pos hm).trans (if_neg hr)))
    · intro hm hr
      exact huecc.trans (congrArg (fun w : State => Host.Outcome.next w.parkDue) ((if_pos hm).trans (if_pos hr)))
    · intro hm
      exact huecc.trans (congrArg (fun w : State => Host.Outcome.next w.parkDue) ((if_neg (by omega)).trans (if_pos hm)))
    · intro h1 h3 h4
      exact huecc.trans (congrArg (fun w : State => Host.Outcome.next w.parkDue) ((if_neg (by omega)).trans (if_neg h1)))
    · intro hm
      rw [exec_correctableEccError, if_pos hm]
    · intro h3 h4
      rw [exec_correctableEccError, if_neg (by omega)]
    · intro h
      exact congrArg Host.Outcome.next (if_pos (List.isEmpty_iff.mpr h))
    · intro p h hr hb
      refine (exec_spareRestartComplete t s).trans (congrArg Host.Outcome.next ((if_neg ?_).trans
        ((State.restartDone_of_bad h hb).trans (State.copiesEnd_of_none hr))))
      rw [show (s.advance t).mar.copying = [p] from h]
      exact Bool.false_ne_true
    · intro p d h hb hd w fin
      have hrun : exec (.spareRestartComplete t) s = .next ((a.imageCopied p).copiesEnd [p]) := by
        refine (exec_spareRestartComplete t s).trans (congrArg Host.Outcome.next ((if_neg ?_).trans (State.restartDone_of_good h hb)))
        rw [show (s.advance t).mar.copying = [p] from h]
        exact Bool.false_ne_true
      exact ⟨fun hn => hrun.trans (congrArg (fun w : State => Host.Outcome.next (w.copiesEnd [p])) (State.imageCopied_without_snapshot hd hn)),
        fun x hx => hrun.trans (congrArg (fun w : State => Host.Outcome.next (w.copiesEnd [p])) (State.imageCopied_with_snapshot hd hx))⟩
  · intro s cl t inst task v a b ns c z g
    refine ⟨?_, ?_, ?_, ?_, ?_, rfl⟩
    · intro h
      refine congrArg Host.Outcome.next (if_pos ?_)
      rw [Bool.or_eq_true, Bool.not_eq_true', decide_eq_true_iff]
      exact h
    · intro ha hp hn
      exact (exec_decisionPeriod_of_running cl ha hp).trans (congrArg (fun w : State => Host.Outcome.next w.periodBegun)
        (if_neg (Bool.eq_false_iff.mp hn)))
    · intro ha hp hy d
      exact (exec_decisionPeriod_of_running cl ha hp).trans (congrArg (fun w : State => Host.Outcome.next w.periodBegun) (if_pos hy))
    · intro h
      subst h
      exact ⟨congrArg Host.Outcome.next (s.writeBound_zero 0 v), congrArg Host.Outcome.next (s.writeBound_zero 1 v),
        congrArg Host.Outcome.next (s.writeBound_zero 2 v)⟩
    · intro h
      have hguard := (exec_boundWrite inst 1 v s).trans (congrArg Host.Outcome.next (State.writeBound_guard v h))
      refine ⟨congrArg Host.Outcome.next (State.writeBound_mask v h), ?_, ?_, ?_⟩
      · intro h1 h2
        rw [hguard, if_pos ⟨h1, h2⟩]
        rfl
      · intro hg
        have hout : ¬ (10 ≤ (F.MAR_IGUARD_GUARD inst).part v ∧ (F.MAR_IGUARD_GUARD inst).part v ≤ 40) := by omega
        rw [hguard, if_neg hout]
        rfl
      · intro q
        have hshare : exec (.boundWrite inst 0 v) s = .next ((q.boundLowers inst).boundTaken inst) :=
          congrArg Host.Outcome.next (State.writeBound_share v h)
        refine ⟨fun hd => ?_, fun d hd => ⟨fun hs => ?_, fun hs hlt => ?_⟩⟩
        · exact hshare.trans (congrArg (fun w : State => Host.Outcome.next (w.boundTaken inst)) (State.boundLowers_of_none (s := q) hd))
        · refine hshare.trans (congrArg (fun w : State => Host.Outcome.next (w.boundTaken inst)) ((State.boundLowers_of_some (s := q) hd).trans (if_neg ?_)))
          rintro ⟨h1, h2⟩
          exact hs.elim (fun hs => absurd h1 (by rw [hs]; decide)) (fun hs => Nat.not_le_of_lt h2 hs)
        · exact hshare.trans (congrArg (fun w : State => Host.Outcome.next (w.boundTaken inst))
            ((State.boundLowers_of_some (s := q) hd).trans (if_pos ⟨hs, hlt⟩)))

end Sys2Proof.Machine

/-!
PROOFS. Retransmission points, digests, subscription mirrors (R262, R270, R272, R274, R275).
-/
namespace Sys2Proof.Machine

/-! ## Retransmission points (R262, R270, R275) -/

theorem exec_retransmissionPoint (tpl t : Nat) (c : Bool) (s : State) : exec (.retransmissionPoint tpl t c) s =
    .next (if (s.advance t).publishing && (s.advance t).get (F.PUB_GSTAT_STATE tpl) == 1 then (s.advance t).pointDue tpl c else s.advance t) := rfl

/-- The next point of a template, `iv` µs on. -/
def State.pointMoved (s : State) (tpl n at_ iv : Nat) : State :=
  s.setGoose tpl { s.goose tpl with sqNum := nextSq (s.goose tpl).sqNum, point := some (n + 1, at_ + iv * 1000, iv), deferred := false }

theorem State.servePoint_of_some {s : State} {tpl n at_ iv : Nat} (h : (s.goose tpl).point = some (n, at_, iv)) :
    let next := Nat.min (2 * iv) ((s.curve tpl).2 * 1000)
    s.servePoint tpl = ((s.pointMoved tpl n at_ next).goosePut tpl at_ (talOf (s.get (F.PUB_GTAL_TALMIN tpl)) (next * 1000))).1 := by
  unfold State.servePoint
  dsimp only
  rw [h]
  rfl

theorem State.pointDue_of_none {s : State} {tpl : Nat} (c : Bool) (h : (s.goose tpl).point = none) : s.pointDue tpl c = s := by
  unfold State.pointDue
  rw [h]

theorem State.pointDue_of_some {s : State} {tpl n at_ iv : Nat} (c : Bool) (h : (s.goose tpl).point = some (n, at_, iv)) :
    s.pointDue tpl c = if s.tbNs s.ttbTb < at_ then s
      else if s.pointDeferred tpl at_ || (c && (s.taskOf (s.get (F.PUB_GCFG_OWNER tpl))).isSome) then
        s.setGoose tpl { s.goose tpl with deferred := true }
      else s.servePoint tpl := by
  unfold State.pointDue
  rw [h]

theorem State.pointDeferred_iff (s : State) (m at_ : Nat) : s.pointDeferred m at_ = true ↔
    s.twinned m = true ∧ ∃ r, s.taskOf (s.get (F.PUB_GCFG_OWNER m)) = some r ∧ r.l.dep ≤ at_ := by
  unfold State.pointDeferred
  rw [Bool.and_eq_true]
  refine and_congr_right (fun _ => ?_)
  cases s.taskOf (s.get (F.PUB_GCFG_OWNER m)) <;> simp

/-! ## Digests (R272) -/

theorem exec_digestSend (cyc t : Nat) (s : State) : exec (.digestSend cyc t) s = execDigestSend cyc t s := rfl

theorem exec_digestFrame (tw : Nat) (ph : PlHdr) (cyc : Nat) (dg : BitVec 64) (t : Nat) (s : State) : exec (.digestFrame tw ph cyc dg t) s =
    .next ((s.advance t).plReceive tw 0x14 ph (fun s => if s.twinMode && s.heldPos.isSome then
      (s.setPub { s.pub with digPeer := keepLast 256 (s.pub.digPeer ++ [(cyc, dg)]) }).digestCompare cyc else s)) := rfl

theorem exec_digestTimeout (cyc : Nat) (s : State) : exec (.digestTimeout cyc) s = .next (if s.pub.digOwn.any (fun e => e.1 == cyc) then
    (s.count F.PUB_TWCNT_DIGMISS).setPub { s.pub with digOwn := s.pub.digOwn.filter (fun e => e.1 != cyc) } else s) := rfl

/-- A pair-link frame that is not good is dropped. -/
theorem State.plReceive_of_bad {s : State} {ph : PlHdr} (tw type : Nat) (act : State → State)
    (h : s.redundant = false ∨ ph.crcOk = false ∨ ph.ver ≠ 1) : s.plReceive tw type ph act = s := by
  refine if_pos ?_
  rw [Bool.or_eq_true, Bool.or_eq_true, Bool.not_eq_true', Bool.not_eq_true', bne_iff_ne, or_assoc]
  exact h

/-- What a good frame does on arrival: the first copy is acted on. -/
def State.plFirst (s : State) (tw type : Nat) (ph : PlHdr) (act : State → State) : State :=
  let s := s.plHeard tw
  let live := s.tok.seen.filter (fun e => decide (s.since e.2.2.2 < s.leaseNs / 2))
  if live.any (fun e => e.1 == ph.serial && e.2.1 == type && e.2.2.1 == ph.seq.toNat) then s.setTok { s.tok with seen := live }
  else act (s.setTok { s.tok with seen := live ++ [(ph.serial, type, ph.seq.toNat, s.now)] })

theorem State.plReceive_of_good {s : State} {ph : PlHdr} (tw type : Nat) (act : State → State)
    (hr : s.redundant = true) (hc : ph.crcOk = true) (hv : ph.ver = 1) :
    s.plReceive tw type ph act = s.reportRed (fun s => s.plFirst tw type ph act) :=
  if_neg (by rw [hr, hc, hv]; decide)

theorem any_key_iff {β : Type} (l : List (Nat × β)) (k : Nat) : l.any (fun e => e.1 == k) = true ↔ ∃ d, (k, d) ∈ l := by
  rw [List.any_eq_true]
  constructor
  · rintro ⟨⟨n, d⟩, hm, he⟩
    exact ⟨d, by rwa [← beq_iff_eq.mp he]⟩
  · rintro ⟨d, hm⟩
    exact ⟨_, hm, beq_self_eq_true k⟩

/-! ## Subscription mirrors (R274) -/

theorem exec_subscriptionMirror {h : Hdr} {s : State} (q kind sb : Nat) (stamp : Word) (body : Bytes) (hi : s.inTurn 0xA h = true) :
    exec (.subscriptionMirror h q kind sb stamp body) s =
      .next (if body = [] ∨ 2036 < body.length then (s.took 0xA h).malformed 0xA 0x0001
        else if h.src ≠ 0 ∨ 31 < q then s.took 0xA h
        else if (s.took 0xA h).qOwner q ≠ h.tgt then (s.took 0xA h).count (F.DMX_QCNT_REFUSED q)
        else (s.took 0xA h).dmaReceive q (mirrorHeader q kind sb stamp body.length ++ body) 0x1F stamp) :=
  congrArg Host.Outcome.next (State.receive_inTurn _ hi)

/-- Settles O44. -/
theorem publicationsAndDigests : Obligations.PublicationsAndDigests := by
  unfold Obligations.PublicationsAndDigests
  intro s tpl tw cyc t q kind sb h ph dg stamp body a
  refine ⟨?_, ?_, fun m at_ => a.pointDeferred_iff m at_, ?_, ?_, ?_, ?_, ?_, ?_, ?_⟩
  · intro n at_ iv hpub hst hp owner next z
    have hrun : ∀ c, exec (.retransmissionPoint tpl t c) s = .next (a.pointDue tpl c) := fun c =>
      (exec_retransmissionPoint tpl t c s).trans (congrArg Host.Outcome.next (if_pos (by
        rw [Bool.and_eq_true, beq_iff_eq]
        exact ⟨hpub, hst⟩)))
    have hserve : a.servePoint tpl = (z.goosePut tpl at_ (talOf (a.get (F.PUB_GTAL_TALMIN tpl)) (next * 1000))).1 := State.servePoint_of_some hp
    refine ⟨fun hle hd => ⟨?_, fun hn => ?_, fun hs => ?_⟩, fun hle hd => ⟨?_, ?_⟩, fun hlt => ⟨?_, ?_⟩⟩
    · rw [hrun, State.pointDue_of_some false hp, if_neg (Nat.not_lt_of_le hle), hd, ← hserve]
      rfl
    · rw [hrun, State.pointDue_of_some true hp, if_neg (Nat.not_lt_of_le hle), hd, show a.taskOf (a.get (F.PUB_GCFG_OWNER tpl)) = none from hn, ← hserve]
      rfl
    · rw [hrun, State.pointDue_of_some true hp, if_neg (Nat.not_lt_of_le hle)]
      exact congrArg Host.Outcome.next (if_pos (by rw [show (a.taskOf (a.get (F.PUB_GCFG_OWNER tpl))).isSome = true from hs, Bool.and_true, Bool.or_true]))
    · rw [hrun, State.pointDue_of_some false hp, if_neg (Nat.not_lt_of_le hle), hd]
      rfl
    · rw [hrun, State.pointDue_of_some true hp, if_neg (Nat.not_lt_of_le hle), hd]
      rfl
    · rw [hrun, State.pointDue_of_some false hp, if_pos hlt]
    · rw [hrun, State.pointDue_of_some true hp, if_pos hlt]
  · intro hno
    have hrun : ∀ c, exec (.retransmissionPoint tpl t c) s = .next a := fun c => by
      refine (exec_retransmissionPoint tpl t c s).trans (congrArg Host.Outcome.next ?_)
      split
      · next hc =>
        obtain ⟨hpub, hst⟩ := Bool.and_eq_true_iff.mp hc
        obtain h | h | h := hno
        · exact absurd hpub (by rw [show (s.advance t).publishing = false from h]; decide)
        · exact absurd (beq_iff_eq.mp hst) h
        · exact State.pointDue_of_none c h
      · rfl
    exact ⟨hrun false, hrun true⟩
  · intro hd d
    exact (exec_digestSend cyc t s).trans (congrArg Host.Outcome.next (if_pos hd))
  · intro hd
    exact (exec_digestSend cyc t s).trans (congrArg Host.Outcome.next (if_neg (Bool.eq_false_iff.mp hd)))
  · intro hb
    exact (exec_digestFrame tw ph cyc dg t s).trans (congrArg Host.Outcome.next (State.plReceive_of_bad tw 0x14 _ hb))
  · intro hr hc hv _ _
    exact (exec_digestFrame tw ph cyc dg t s).trans (congrArg Host.Outcome.next (State.plReceive_of_good tw 0x14 _ hr hc hv))
  · intro hm
    exact (exec_digestTimeout cyc s).trans (congrArg Host.Outcome.next (if_pos ((any_key_iff _ cyc).mpr hm)))
  · intro hm
    exact (exec_digestTimeout cyc s).trans (congrArg Host.Outcome.next (if_neg (fun hc => by
      obtain ⟨d, hd⟩ := (any_key_iff _ cyc).mp hc
      exact hm d hd)))
  · intro hi m
    have hrun := exec_subscriptionMirror q kind sb stamp body hi
    have hfits : body ≠ [] → body.length ≤ 2036 → ¬ (body = [] ∨ 2036 < body.length) := fun hn hl hc =>
      hc.elim hn (fun hc => Nat.not_le_of_lt hc hl)
    refine ⟨fun hb => hrun.trans (congrArg Host.Outcome.next (if_pos hb)), fun hn hl hsrc hq => ?_, fun hn hl hsrc => ?_⟩
    · rw [if_neg (hfits hn hl), if_neg (by omega)] at hrun
      exact ⟨fun ho => hrun.trans (congrArg Host.Outcome.next (if_pos ho)), fun ho => hrun.trans (congrArg Host.Outcome.next (if_neg (fun hc => hc ho)))⟩
    · rw [if_neg (hfits hn hl), if_pos hsrc] at hrun
      exact hrun

end Sys2Proof.Machine

/-!
PROOFS. The states of a recorder, and history requests (R282 to R284, R287, R288, R293, R294, R300, R302).
-/
namespace Sys2Proof.Machine

/-! ## What counting, reporting and sending leave of the recorders -/

theorem State.SameButRecords.acq {s t : State} (h : s.SameButRecords t) : t.acq = s.acq := by
  rw [h]
  rfl

theorem State.SameButRecords.now {s t : State} (h : s.SameButRecords t) : t.now = s.now := by
  rw [h]
  rfl

theorem State.count_acq (s : State) (f : Fld) : (s.count f).acq = s.acq := State.SameButRecords.acq (s.sameButRecords_countN f 1)

theorem State.raiseI_sameButRecords (s : State) (code i arg : Nat) : s.SameButRecords (s.raiseI code i arg) :=
  State.SameButLog.sameButRecords (s.sameButLog_raiseOn _ _ _ _)

theorem State.send_acq (s : State) (m : Msg) : (s.send m).acq = s.acq := by
  rw [State.send_eq_setLink]
  rfl

/-- A record that is not the default reads back, whatever the table. -/
theorem State.recd_setRecd {s : State} {r : Nat} {v : RecS} (h : v ≠ RecS.init) : (s.setRecd r v).recd r = v := by
  have hput : Sp.put RecS.init s.acq.recs r v = Sp.insert s.acq.recs r v := if_neg h
  have hget := Sp.get_insert RecS.init r v r s.acq.recs
  rw [if_pos rfl] at hget
  rw [State.recd, State.setRecd, State.setAcq_acq, hput, hget]

/-! ## Arming and disarming (R282, R287) -/

theorem exec_acqArm (r : Nat) (s : State) : exec (.acqArm r) s =
    .next (if s.flag (F.ACQ_RCFG_VALID r) && s.recState r == 0 then s.recTo r 1 else s) := rfl

/-- A recorder that a Park stopped no more re-arms at the wake. -/
def State.noRearm (s : State) (r : Nat) : State := s.setRecd r { s.recd r with rearm := false }

theorem State.recDisarm_of_armed {s : State} {r : Nat} (h : s.recState r = 1 ∨ s.recState r = 2) :
    s.recDisarm r = (s.noRearm r).recTo r 0 := if_pos h

theorem State.recDisarm_of_post {s : State} {r : Nat} (h : s.recState r = 3) : s.recDisarm r = (s.noRearm r).truncate r true :=
  (if_neg (show ¬ (s.recState r = 1 ∨ s.recState r = 2) by omega)).trans (if_pos h)

theorem State.recDisarm_of_idle {s : State} {r : Nat} (h : s.recState r = 0) : s.recDisarm r = s.noRearm r :=
  (if_neg (show ¬ (s.recState r = 1 ∨ s.recState r = 2) by omega)).trans
    ((if_neg (show ¬ s.recState r = 3 by omega)).trans (if_neg (show ¬ s.recState r = 4 by omega)))

theorem State.recDisarm_of_held {s : State} {r : Nat} {c : Capture} (h : s.recState r = 4) (hc : (s.recd r).cap = some c) :
    s.recDisarm r = (s.noRearm r).setRecd r { (s.noRearm r).recd r with cap := some { c with toIdle := true } } := by
  have hcap : ((s.noRearm r).recd r).cap = some c := by
    have hne : { s.recd r with rearm := false } ≠ RecS.init := fun h => by
      have hnone : (s.recd r).cap = none := congrArg RecS.cap h
      rw [hc] at hnone
      cases hnone
    rw [State.noRearm, State.recd_setRecd hne]
    exact hc
  refine (if_neg (show ¬ (s.recState r = 1 ∨ s.recState r = 2) by omega)).trans
    ((if_neg (show ¬ s.recState r = 3 by omega)).trans ((if_pos h).trans ?_))
  change (match ((s.noRearm r).recd r).cap with
    | none => s.noRearm r
    | some c => (s.noRearm r).setRecd r { (s.noRearm r).recd r with cap := some { c with toIdle := true } }) = _
  rw [hcap]

/-! ## Triggers (R282, R283, R300) -/

theorem State.takeReady_ready {s : State} {r : Nat} (h : s.recState r = 1) (hp : s.prefilled r = true) :
    s.takeReady r = s.put (F.ACQ_RSTAT_STATE r) 2 := if_pos ⟨h, hp⟩

theorem State.takeReady_other {s : State} {r : Nat} (h : s.recState r ≠ 1 ∨ s.prefilled r = false) : s.takeReady r = s := by
  refine if_neg ?_
  rintro ⟨h1, hp⟩
  rcases h with h | h
  · exact h h1
  · rw [h] at hp
    cases hp

/-- A field other than a default's reads the same after another takes a value that is none. -/
theorem State.get_put_of_ne_reset {s : State} {f g : Fld} {v : Nat} (hv : v % 2 ^ f.width ≠ f.reset) (hk : g.key ≠ f.key) :
    (s.put f v).get g = s.get g := by
  have hput : Sp.put f.reset s.regs f.key (v % 2 ^ f.width) = Sp.insert s.regs f.key (v % 2 ^ f.width) := if_neg hv
  have hget := Sp.get_insert g.reset f.key (v % 2 ^ f.width) g.key s.regs
  rw [if_neg hk] at hget
  rw [State.get, State.put, State.setRegs_regs, hput, hget]
  rfl

theorem State.get_put_same_of_ne_reset {s : State} {f : Fld} {v : Nat} (hv : v % 2 ^ f.width ≠ f.reset) :
    (s.put f v).get f = v % 2 ^ f.width := by
  have hput : Sp.put f.reset s.regs f.key (v % 2 ^ f.width) = Sp.insert s.regs f.key (v % 2 ^ f.width) := if_neg hv
  have hget := Sp.get_insert f.reset f.key (v % 2 ^ f.width) f.key s.regs
  rw [if_pos rfl] at hget
  rw [State.get, State.put, State.setRegs_regs, hput, hget]

theorem State.takeReady_cases (s : State) (r : Nat) : s.takeReady r = s ∨ s.takeReady r = s.put (F.ACQ_RSTAT_STATE r) 2 := by
  unfold State.takeReady
  split
  · exact .inr rfl
  · exact .inl rfl

theorem State.get_cross_takeReady (s : State) (r : Nat) : (s.takeReady r).get (F.ACQ_RXTRIG_CROSS r) = s.get (F.ACQ_RXTRIG_CROSS r) := by
  obtain h | h := s.takeReady_cases r <;> rw [h]
  exact State.get_put_of_ne_reset (by decide : 2 % 2 ^ 3 ≠ 0) (by simp only [Fld.key, F.ACQ_RXTRIG_CROSS, F.ACQ_RSTAT_STATE]; omega)

theorem State.takeReady_of_idle {s : State} {r : Nat} (h : (s.takeReady r).recState r = 0) : s.takeReady r = s := by
  obtain hs | hs := s.takeReady_cases r
  · exact hs
  · rw [hs, State.recState, State.get_put_same_of_ne_reset (by decide : 2 % 2 ^ 3 ≠ 0)] at h
    cases h

/-- The trigger of the manager at the present time of the recorder's base. -/
def State.mgrTrig (s : State) (r : Nat) : Trig := { code := 2, detail := 0, t := s.recNow r, tidx := 0, frac := 0 }

theorem State.trigger_of_unused {s : State} {r : Nat} {g : Trig} (h : (s.trigOne r g).2 = false) : s.trigger r g = (s.trigOne r g).1 :=
  if_neg (by rw [h]; exact Bool.false_ne_true)

theorem State.trigger_of_alone {s : State} {r : Nat} {g : Trig} (h : (s.trigOne r g).2 = true) (hx : s.get (F.ACQ_RXTRIG_CROSS r) = 0) :
    s.trigger r g = (s.trigOne r g).1 := by
  refine (if_pos h).trans ?_
  rw [hx, maskBits_zero]
  rfl

/-- A trigger in PREFILL is counted, and reported at most once a second. -/
def State.trigEarly (p : State) (r : Nat) : State :=
  let late := match (p.recd r).ignAt with
    | none => true
    | some a => decide (a + 1000000000 ≤ p.now)
  if late then (p.raiseI 0x0F02 (p.get (F.ACQ_RCFG_OWNER r)) r).setRecd r { p.recd r with ignAt := some p.now } else p

/-- A trigger of a recorder in POST or HELD with capture `c`. -/
def State.trigBusy (w : State) (r : Nat) (g : Trig) (c : Capture) : State × Bool :=
  if c.startedAt = w.now then
    if w.recState r = 3 ∧ c.takes g then
      (w.startCapture r (w.newCapture r g.code g.detail g.t g.tidx g.frac (g.t + (w.get (F.ACQ_RTIME_POST r) * 1000000 : Nat)) false), true)
    else (w, false)
  else
    let h := w.count (F.ACQ_RCNT_HOLDTRG r)
    if w.recState r = 3 then (h, false)
    else ((h.setRecd r { h.recd r with cap := some { c with heldTrig := c.heldTrig + 1 } }).tryRearm r, false)

theorem State.trigOne_of_invalid {s : State} {r : Nat} {g : Trig} (h : s.flag (F.ACQ_RCFG_VALID r) = false) : s.trigOne r g = (s, false) :=
  if_pos (by rw [h]; rfl)

section
variable {s : State} {r : Nat} {g : Trig} (hv : s.flag (F.ACQ_RCFG_VALID r) = true) (hg : g.code = 2)

include hv hg in
/-- The manager's trigger of a valid recorder is never masked by SRCEN. -/
theorem State.trigOne_unmasked : ¬ (!s.flag (F.ACQ_RCFG_VALID r) || (g.code != 2 && !bit (s.get (F.ACQ_RXTRIG_SRCEN r)) (srcBit g.code))) = true := by
  rw [hv, hg]
  exact Bool.false_ne_true

include hv hg in
theorem State.trigOne_of_prefill (h : (s.takeReady r).recState r = 1) :
    s.trigOne r g = (((s.takeReady r).count (F.ACQ_RCNT_PREIGN r)).trigEarly r, false) :=
  (if_neg (State.trigOne_unmasked hv hg)).trans (if_pos h)

include hv hg in
theorem State.trigOne_of_ready (h : (s.takeReady r).recState r = 2) :
    s.trigOne r g = ((s.takeReady r).startCapture r ((s.takeReady r).newCapture r g.code g.detail g.t g.tidx g.frac
      (g.t + ((s.takeReady r).get (F.ACQ_RTIME_POST r) * 1000000 : Nat)) false), true) :=
  (if_neg (State.trigOne_unmasked hv hg)).trans
    ((if_neg (show ¬ (s.takeReady r).recState r = 1 by omega)).trans (if_pos h))

include hv hg in
theorem State.trigOne_of_idle (h : (s.takeReady r).recState r = 0) : s.trigOne r g = (s.takeReady r, false) :=
  (if_neg (State.trigOne_unmasked hv hg)).trans ((if_neg (show ¬ (s.takeReady r).recState r = 1 by omega)).trans
    ((if_neg (show ¬ (s.takeReady r).recState r = 2 by omega)).trans
      (if_neg (show ¬ ((s.takeReady r).recState r = 3 ∨ (s.takeReady r).recState r = 4) by omega))))

include hv hg in
theorem State.trigOne_of_busy {c : Capture} (h : (s.takeReady r).recState r = 3 ∨ (s.takeReady r).recState r = 4)
    (hc : ((s.takeReady r).recd r).cap = some c) : s.trigOne r g = (s.takeReady r).trigBusy r g c := by
  refine (if_neg (State.trigOne_unmasked hv hg)).trans ((if_neg (show ¬ (s.takeReady r).recState r = 1 by omega)).trans
    ((if_neg (show ¬ (s.takeReady r).recState r = 2 by omega)).trans ((if_pos h).trans ?_)))
  dsimp only
  rw [hc]
  rfl

end

theorem State.trigEarly_late {p : State} {r : Nat} (h : ∀ x, (p.recd r).ignAt = some x → x + 1000000000 ≤ p.now) :
    let e := p.raiseI 0x0F02 (p.get (F.ACQ_RCFG_OWNER r)) r
    p.trigEarly r = e.setRecd r { e.recd r with ignAt := some e.now } := by
  intro e
  have he : p.SameButRecords e := p.raiseI_sameButRecords _ _ _
  rw [State.recd, he.acq, he.now]
  refine if_pos ?_
  cases hi : (p.recd r).ignAt with
  | none => rfl
  | some x => exact decide_eq_true (h x hi)

theorem State.trigEarly_soon {p : State} {r x : Nat} (hi : (p.recd r).ignAt = some x) (h : p.now < x + 1000000000) : p.trigEarly r = p := by
  refine if_neg ?_
  rw [hi]
  exact fun hd => Nat.not_le_of_lt h (of_decide_eq_true hd)

section
variable {w : State} {r : Nat} {g : Trig} {c : Capture}

theorem State.trigBusy_post (h : w.recState r = 3) (hn : c.startedAt ≠ w.now) :
    w.trigBusy r g c = (w.count (F.ACQ_RCNT_HOLDTRG r), false) := (if_neg hn).trans (if_pos h)

theorem State.trigBusy_held (h : w.recState r = 4) (hn : c.startedAt ≠ w.now) :
    let n := w.count (F.ACQ_RCNT_HOLDTRG r)
    w.trigBusy r g c = ((n.setRecd r { n.recd r with cap := some { c with heldTrig := c.heldTrig + 1 } }).tryRearm r, false) :=
  (if_neg hn).trans (if_neg (show ¬ w.recState r = 3 by omega))

theorem Capture.takes_of_first (h : c.cause ≤ 2) (hg : g.code = 2) : c.takes g = false := by
  unfold Capture.takes
  rw [hg, decide_eq_false (show ¬ 2 < c.cause by omega)]
  exact Bool.and_false _

theorem State.trigBusy_now (h : w.recState r = 4 ∨ (w.recState r = 3 ∧ c.cause ≤ 2)) (hg : g.code = 2) (hn : c.startedAt = w.now) :
    w.trigBusy r g c = (w, false) := by
  refine (if_pos hn).trans (if_neg ?_)
  rintro ⟨h3, ht⟩
  rcases h with h | ⟨-, h⟩
  · omega
  · rw [Capture.takes_of_first h hg] at ht
    cases ht

end

/-! ## A task's trigger (R283) -/

theorem exec_lclRectrig (pf mask t : Nat) (s : State) : exec (.lclRectrig pf mask t) s =
    .next (if ((s.advance t).pf pf).cur.isSome then ((s.advance t).coreActs pf).rectrig pf mask else s.advance t) := rfl

theorem State.rectrig_one {s : State} {pf r : Nat} {x : Running} (h : (s.pf pf).cur = some x) (hr : r < 16) :
    s.rectrig pf (2 ^ r) = if s.get (F.ACQ_RCFG_OWNER r) = x.l.inst then s.trigNow r 1 0 else s.count (F.ACQ_RCNT2_FOREIGN r) := by
  unfold State.rectrig
  rw [h]
  dsimp only
  rw [maskBits_two_pow hr]
  rfl

/-! ## Release, the end of the window and of the hold-off (R284) -/

theorem State.recRelease_held {s : State} {r : Nat} {c : Capture} (h : s.recState r = 4) (hc : (s.recd r).cap = some c) :
    s.recRelease r = (s.setRecd r { s.recd r with cap := some { c with done := true } }).tryRearm r := by
  unfold State.recRelease
  rw [hc]
  exact if_pos h

theorem State.recRelease_other {s : State} {r : Nat} (h : s.recState r ≠ 4 ∨ (s.recd r).cap = none) : s.recRelease r = s := by
  unfold State.recRelease
  cases hc : (s.recd r).cap with
  | none => rfl
  | some c => exact if_neg (h.resolve_right (by rw [hc]; exact Option.some_ne_none c))

/-- The end of a window that is over. -/
def State.windowEnd (s : State) (r : Nat) : State := match (s.recd r).cap with
  | none => s
  | some c => if s.recState r = 3 ∧ s.windowOver r c then s.enterHeld r else s

theorem State.windowEnd_of_some {s : State} {r : Nat} {c : Capture} (hc : (s.recd r).cap = some c) :
    s.windowEnd r = if s.recState r = 3 ∧ s.windowOver r c then s.enterHeld r else s := by
  unfold State.windowEnd
  rw [hc]

theorem State.windowEnd_other {s : State} {r : Nat} (h : s.recState r ≠ 3 ∨ (s.recd r).cap = none) : s.windowEnd r = s := by
  unfold State.windowEnd
  cases hc : (s.recd r).cap with
  | none => rfl
  | some c => exact if_neg (fun h3 => (h.resolve_right (by rw [hc]; exact Option.some_ne_none c)) h3.1)

theorem exec_holdOffEnd (r t : Nat) (s : State) : exec (.holdOffEnd r t) s = .next ((s.advance t).tryRearm r) := rfl

/-- A held recorder whose hold-off is over, or not. -/
def State.rearmHeld (s : State) (r : Nat) (c : Capture) (past : Bool) : State :=
  let v := s.putB (F.ACQ_RSTAT_HOLDOFF r) (!past)
  if past && c.done then
    let v := v.takeWaiting r
    v.recTo r (if c.toIdle || !v.flag (F.ACQ_RCFG_VALID r) then 0 else 1)
  else v

theorem State.tryRearm_held {s : State} {r : Nat} {c : Capture} (h : s.recState r = 4) (hc : (s.recd r).cap = some c) :
    s.tryRearm r = s.rearmHeld r c (s.heldOver r c) := by
  unfold State.tryRearm
  rw [hc]
  exact if_pos h

theorem State.tryRearm_other {s : State} {r : Nat} (h : s.recState r ≠ 4 ∨ (s.recd r).cap = none) : s.tryRearm r = s := by
  unfold State.tryRearm
  cases hc : (s.recd r).cap with
  | none => rfl
  | some c => exact if_neg (h.resolve_right (by rw [hc]; exact Option.some_ne_none c))

theorem State.rearmHeld_done {s : State} {r : Nat} {c : Capture} (hd : c.done = true) :
    let v := (s.putB (F.ACQ_RSTAT_HOLDOFF r) false).takeWaiting r
    s.rearmHeld r c true = v.recTo r (if c.toIdle || !v.flag (F.ACQ_RCFG_VALID r) then 0 else 1) :=
  if_pos (by rw [hd]; rfl)

theorem State.rearmHeld_kept {s : State} {r : Nat} {c : Capture} (past : Bool) (h : past = false ∨ c.done = false) :
    s.rearmHeld r c past = s.putB (F.ACQ_RSTAT_HOLDOFF r) (!past) := by
  refine if_neg ?_
  rcases h with h | h <;> rw [h]
  · exact Bool.false_ne_true
  · rw [Bool.and_false]
    exact Bool.false_ne_true

/-! ## The end of an export (R284, R288) -/

theorem exec_exportComplete (r : Nat) (s : State) : exec (.exportComplete r) s = .next (if s.exportWaits r then s else s.exportDone r) := rfl

/-- The exports that a B reset left to do, without those of recorder `r` that are queued. -/
def State.noOldExport (s : State) (r : Nat) : State := s.setAcq { s.acq with oldExp := s.acq.oldExp.filter (fun x => x.rcd != r || !x.queued) }

theorem State.exportDone_held {s : State} {r : Nat} {c : Capture} (h : s.recState r = 4) (hc : (s.recd r).cap = some c) :
    s.exportDone r = if c.queued then
        ((((s.noOldExport r).put (F.ACQ_RSTAT_EXPORT r) 0).setRecd r { (s.noOldExport r).recd r with cap := some { c with done := true } }).tryRearm r)
      else s.noOldExport r := by
  have hc' : ((s.noOldExport r).recd r).cap = some c := hc
  unfold State.exportDone
  change (match ((s.noOldExport r).recd r).cap with
    | none => _
    | some c => _) = _
  rw [hc']
  exact if_neg (fun hn => hn h)

theorem State.exportDone_other {s : State} {r : Nat} (h : (s.recd r).cap = none ∨ s.recState r ≠ 4) :
    s.exportDone r = (s.noOldExport r).put (F.ACQ_RSTAT_EXPORT r) 0 := by
  unfold State.exportDone
  dsimp only
  cases hc : ((s.noOldExport r).recd r).cap with
  | none =>
    have hc' : ((s.setAcq { s.acq with oldExp := s.acq.oldExp.filter (fun x => x.rcd != r || !x.queued) }).recd r).cap = none := hc
    rw [hc']
    rfl
  | some c =>
    have hc' : ((s.setAcq { s.acq with oldExp := s.acq.oldExp.filter (fun x => x.rcd != r || !x.queued) }).recd r).cap = some c := hc
    rw [hc']
    refine if_pos (h.resolve_left (fun hn => ?_))
    have hs : (s.recd r).cap = some c := hc
    rw [hn] at hs
    cases hs

/-! ## History requests (R293, R294) -/

/-- What the interval of a request asks of a source: numbers in range, and a time span that overlaps. -/
def State.asked (s : State) (src tb : Nat) (t0 tLast : Int) : Prop :=
  let d : Int := (s.tbNs (s.get F.ACQ_HREQ_TB) : Int) - s.tbNs tb
  s.get F.ACQ_HSRC_FIRST ≤ src ∧ src ≤ s.get F.ACQ_HSRC_LAST ∧ s.reqFrom ≤ tLast + d ∧
    t0 + d < s.reqFrom + (s.get F.ACQ_HREQ_LEN * 1000000 : Nat)

/-- The same as the model tests it. -/
def State.wanted (s : State) (src tb : Nat) (t0 tLast : Int) : Bool :=
  let d : Int := (s.tbNs (s.get F.ACQ_HREQ_TB) : Int) - s.tbNs tb
  decide (s.get F.ACQ_HSRC_FIRST ≤ src) && decide (src ≤ s.get F.ACQ_HSRC_LAST) && decide (s.reqFrom ≤ tLast + d) &&
    decide (t0 + d < s.reqFrom + (s.get F.ACQ_HREQ_LEN * 1000000 : Nat))

theorem State.wanted_iff (s : State) (src tb : Nat) (t0 tLast : Int) : s.wanted src tb t0 tLast = true ↔ s.asked src tb t0 tLast := by
  unfold State.wanted State.asked
  simp only [Bool.and_eq_true, decide_eq_true_iff, and_assoc]

/-- The blocks of the history that overlap the interval asked for. -/
def State.historyHits (s : State) : List RBlk := s.acq.history.filter (fun x => x.kind != 4 && s.wanted x.source x.tb x.t0 x.tLast)

/-- The sources whose block in the making overlaps the interval asked for. -/
def State.historyMaking (s : State) : List (Nat × List RecSample) := s.acq.openHist.filter (fun e => match e.2 with
  | [] => false
  | f :: rest => s.wanted e.1 (if e.1 < 4096 then s.get (F.FCH_FG_CTRL_TB (s.get (F.FCH_LCFG_FG e.1))) else s.ttbTb) f.time
      ((f :: rest).getLastD f).time)

theorem State.historyReq_free {s : State} (h : s.flag F.ACQ_HREQ_BUSY = false) :
    s.historyReq = (s.put F.ACQ_HREQ_BUSY 1).setAcq { s.acq with
      req := some ((s.historyHits.flatMap (s.put F.ACQ_HREQ_BUSY 1).withTimes).eraseDups ++
        s.historyMaking.map (fun e => (e.1, Sp.get 0 s.acq.blockNo e.1))) } :=
  if_neg (Bool.eq_false_iff.mp h)

theorem State.mem_historyHits (s : State) (x : RBlk) :
    x ∈ s.historyHits ↔ x ∈ s.acq.history ∧ x.kind ≠ 4 ∧ s.asked x.source x.tb x.t0 x.tLast := by
  unfold State.historyHits
  rw [List.mem_filter, Bool.and_eq_true, bne_iff_ne, State.wanted_iff]

theorem State.mem_withTimes_self (s : State) (x : RBlk) : (x.source, x.num) ∈ s.withTimes x :=
  List.mem_append_right _ (List.mem_singleton.mpr rfl)

theorem State.of_mem_withTimes {s : State} {x : RBlk} {k : Nat × Nat} (h : k ∈ s.withTimes x) :
    k = (x.source, x.num) ∨ ∃ y ∈ s.acq.history, k = (y.source, y.num) ∧ y.kind = 4 := by
  obtain h | h := List.mem_append.mp h
  · obtain ⟨y, hy, rfl⟩ := List.mem_map.mp h
    obtain ⟨hy, hk⟩ := List.mem_filter.mp hy
    simp only [Bool.and_eq_true, beq_iff_eq] at hk
    exact .inr ⟨y, hy, rfl, hk.1.1.1.1.1⟩
  · exact .inl (List.mem_singleton.mp h)

theorem State.of_mem_historyMaking {s : State} {e : Nat × List RecSample} (h : e ∈ s.historyMaking) : e ∈ s.acq.openHist ∧ e.2 ≠ [] := by
  obtain ⟨he, hm⟩ := List.mem_filter.mp h
  refine ⟨he, fun hn => ?_⟩
  rw [hn] at hm
  cases hm

/-- Send the block that a noted pair names, or count it as overwritten: the state, the number sent and the number of the others. -/
def historySend (a : State × Nat × Nat) (k : Nat × Nat) : State × Nat × Nat := match a.1.histBlock k with
  | none => (a.1.count F.ACQ_CNT_OVERWR, a.2.1, a.2.2 + 1)
  | some b => (a.1.send (stMsg 0xB 0x0002 (b.bytes 0x10 (ofBool (b.kind == 1) + 8 * ofBool b.bad) 0 b.num)), a.2.1 + 1, a.2.2)

/-- The end message of a request, which is over. -/
def historyEnd (r : State × Nat × Nat) : State :=
  let u := r.1.send (stMsg 0xB 0x0004 (leBytes 4 r.2.1 ++ leBytes 4 r.2.2))
  (u.put F.ACQ_HREQ_BUSY 0).setAcq { u.acq with req := none }

theorem exec_historyRequestComplete (s : State) : exec .historyRequestComplete s =
    .next (match s.acq.req with
      | none => s
      | some l => historyEnd ((s.reqBlocks l).foldl historySend (s, 0, 0))) := rfl

theorem exec_historyRequestComplete_of_some {s : State} {l : List (Nat × Nat)} (h : s.acq.req = some l) :
    exec .historyRequestComplete s = .next (historyEnd ((s.reqBlocks l).foldl historySend (s, 0, 0))) := by
  rw [exec_historyRequestComplete, h]

theorem exec_historyRequestComplete_of_none {s : State} (h : s.acq.req = none) : exec .historyRequestComplete s = .next s := by
  rw [exec_historyRequestComplete, h]

theorem historySend_of_none {a : State × Nat × Nat} {k : Nat × Nat} (h : a.1.histBlock k = none) :
    historySend a k = (a.1.count F.ACQ_CNT_OVERWR, a.2.1, a.2.2 + 1) := by
  unfold historySend
  rw [h]

theorem historySend_of_some {a : State × Nat × Nat} {k : Nat × Nat} {b : RBlk} (h : a.1.histBlock k = some b) : historySend a k =
    (a.1.send (stMsg 0xB 0x0002 (b.bytes 0x10 (ofBool (b.kind == 1) + 8 * ofBool b.bad) 0 b.num)), a.2.1 + 1, a.2.2) := by
  unfold historySend
  rw [h]

/-- Sending and counting leave the history, and count each noted pair once. -/
theorem foldl_historySend (l : List (Nat × Nat)) (s : State) (i j : Nat) : ∃ w : State, w.acq = s.acq ∧
    l.foldl historySend (s, i, j) =
      (w, i + (l.length - (l.filter (fun k => (s.histBlock k).isNone)).length), j + (l.filter (fun k => (s.histBlock k).isNone)).length) := by
  induction l generalizing s i j with
  | nil => exact ⟨s, rfl, rfl⟩
  | cons k l ih =>
    have hle := List.length_filter_le (fun k => (s.histBlock k).isNone) l
    cases hb : s.histBlock k with
    | none =>
      obtain ⟨w, hw, hf⟩ := ih (s.count F.ACQ_CNT_OVERWR) i (j + 1)
      refine ⟨w, hw.trans (s.count_acq _), ?_⟩
      have hsame : ∀ k, (s.count F.ACQ_CNT_OVERWR).histBlock k = s.histBlock k := fun k => by
        rw [State.histBlock, State.count_acq]
        rfl
      simp only [hsame] at hf
      rw [List.foldl_cons, historySend_of_none hb, List.filter_cons_of_pos (by rw [hb]; rfl), hf, List.length_cons, List.length_cons]
      exact congrArg (fun p => (w, p)) (Prod.ext (by dsimp only; omega) (by dsimp only; omega))
    | some b =>
      let m := stMsg 0xB 0x0002 (b.bytes 0x10 (ofBool (b.kind == 1) + 8 * ofBool b.bad) 0 b.num)
      obtain ⟨w, hw, hf⟩ := ih (s.send m) (i + 1) j
      refine ⟨w, hw.trans (s.send_acq _), ?_⟩
      have hsame : ∀ k, (s.send m).histBlock k = s.histBlock k := fun k => by
        rw [State.histBlock, State.send_acq]
        rfl
      simp only [hsame] at hf
      rw [List.foldl_cons, historySend_of_some hb, List.filter_cons_of_neg (by rw [hb]; exact Bool.false_ne_true), hf, List.length_cons]
      exact congrArg (fun p => (w, p)) (Prod.ext (by dsimp only; omega) rfl)

theorem State.reqBlocks_kept {s : State} {b : RBlk} (h : s.acq.history = [b]) : s.reqBlocks [(b.source, b.num)] = [(b.source, b.num)] := by
  have hb : s.histBlock (b.source, b.num) = some b := by
    rw [State.histBlock, h]
    simp
  have hw : s.withTimes b = [(b.source, b.num)] := by
    have hk : (b.kind == 4 && b.kind == 1) = false := by
      cases h4 : b.kind == 4 with
      | false => rfl
      | true => rw [eq_of_beq h4]; rfl
    rw [State.withTimes, h, List.filter_cons_of_neg (by simp [hk])]
    rfl
  unfold State.reqBlocks
  rw [List.flatMap_singleton, hb]
  dsimp only
  rw [hw]
  split
  · rfl
  · rw [List.filter_cons_of_pos (by simp)]
    rfl

theorem State.reqBlocks_gone {s : State} {k : Nat × Nat} (h : s.acq.history = []) (hk : k.2 ≠ Sp.get 0 s.acq.blockNo k.1) :
    s.histBlock k = none ∧ s.reqBlocks [k] = [k] := by
  have hb : s.histBlock k = none := by
    rw [State.histBlock, h]
    rfl
  refine ⟨hb, ?_⟩
  unfold State.reqBlocks
  rw [List.flatMap_singleton, hb]
  dsimp only
  rw [if_neg hk]
  rfl

/-- Settles O45. -/
theorem recordersAndHistory : Obligations.RecordersAndHistory := by
  unfold Obligations.RecordersAndHistory
  refine ⟨fun s r pf mask t => ?_, fun s => ?_⟩
  · refine ⟨fun hv h0 => ?_, fun h => ?_, fun h => ?_, fun h => ?_, fun c h hc => ?_, fun h => ?_, State.takeReady_ready,
      State.takeReady_other, rfl, fun hv => ⟨fun h2 hx => ?_, fun h1 => ?_, fun c hc => ?_, fun h0 => ?_⟩, fun hv => ?_, fun c h hc => ?_,
      fun h => ?_, fun x hx hb hm hr => ⟨fun ho => ?_, fun ho => ?_⟩, fun h => ?_, fun c hc h3 => ⟨fun he => ?_, fun hw => ?_, fun hw => ?_⟩,
      fun h => ?_, fun c hc h4 => ⟨fun hp hd => ⟨fun hi hv => ?_, fun hi => ?_⟩, fun hp hd => ?_, fun hp => ?_, ?_⟩, fun h => ?_, fun h => ?_,
      fun hw => ⟨fun c hc h4 => ⟨fun hq => ?_, fun hq => ?_⟩, fun h => ?_⟩⟩
    -- ACQ_ARM and ACQ_DISARM
    · rw [exec_acqArm, hv, h0]
      rfl
    · refine (exec_acqArm r s).trans (congrArg Host.Outcome.next (if_neg ?_))
      rw [Bool.and_eq_true, beq_iff_eq]
      rintro ⟨hv, h0⟩
      rcases h with h | h
      · exact h h0
      · rw [h] at hv
        cases hv
    · exact congrArg Host.Outcome.next (State.recDisarm_of_armed h)
    · exact congrArg Host.Outcome.next (State.recDisarm_of_post h)
    · exact congrArg Host.Outcome.next (State.recDisarm_of_held h hc)
    · exact congrArg Host.Outcome.next (State.recDisarm_of_idle h)
    -- ACQ_TRIG
    · have hone := State.trigOne_of_ready (g := (s.advance t).mgrTrig r) hv rfl h2
      have hcross := ((s.advance t).get_cross_takeReady r).symm.trans hx
      refine ⟨_, congrArg Host.Outcome.next ((State.trigger_of_alone (congrArg Prod.snd hone) hcross).trans (congrArg Prod.fst hone)), rfl, rfl, rfl,
        rfl, ?_, rfl, rfl⟩
      obtain hw | hw := (s.advance t).takeReady_cases r <;> rw [hw] <;> rfl
    · have hone := State.trigOne_of_prefill (g := (s.advance t).mgrTrig r) hv rfl h1
      have hrun : exec (.acqTrig r t) s = .next ((((s.advance t).takeReady r).count (F.ACQ_RCNT_PREIGN r)).trigEarly r) :=
        congrArg Host.Outcome.next ((State.trigger_of_unused (congrArg Prod.snd hone)).trans (congrArg Prod.fst hone))
      exact ⟨fun hl => hrun.trans (congrArg Host.Outcome.next (State.trigEarly_late hl)),
        fun x hi hs => hrun.trans (congrArg Host.Outcome.next (State.trigEarly_soon hi hs))⟩
    · have hrun : ∀ (h : ((s.advance t).takeReady r).recState r = 3 ∨ ((s.advance t).takeReady r).recState r = 4) {v : State},
          ((s.advance t).takeReady r).trigBusy r ((s.advance t).mgrTrig r) c = (v, false) → exec (.acqTrig r t) s = .next v := fun h v hb => by
        have hone := (State.trigOne_of_busy (g := (s.advance t).mgrTrig r) hv rfl h hc).trans hb
        exact congrArg Host.Outcome.next ((State.trigger_of_unused (congrArg Prod.snd hone)).trans (congrArg Prod.fst hone))
      exact ⟨fun h hn => hrun (.inl h) (State.trigBusy_post h hn), fun h hn => hrun (.inr h) (State.trigBusy_held h hn),
        fun h hn => hrun (h.symm.imp And.left id) (State.trigBusy_now h rfl hn)⟩
    · have hone := State.trigOne_of_idle (g := (s.advance t).mgrTrig r) hv rfl h0
      exact congrArg Host.Outcome.next ((State.trigger_of_unused (congrArg Prod.snd hone)).trans
        ((congrArg Prod.fst hone).trans (State.takeReady_of_idle h0)))
    · have hone := State.trigOne_of_invalid (g := (s.advance t).mgrTrig r) hv
      exact congrArg Host.Outcome.next ((State.trigger_of_unused (congrArg Prod.snd hone)).trans (congrArg Prod.fst hone))
    -- ACQ_RELEASE
    · exact congrArg Host.Outcome.next (State.recRelease_held h hc)
    · exact congrArg Host.Outcome.next (State.recRelease_other h)
    -- LCL_RECTRIG
    · rw [exec_lclRectrig, if_pos (by rw [hx]; rfl), hm]
      exact congrArg Host.Outcome.next ((State.rectrig_one hb hr).trans (if_neg ho))
    · rw [exec_lclRectrig, if_pos (by rw [hx]; rfl), hm]
      exact congrArg Host.Outcome.next ((State.rectrig_one hb hr).trans (if_pos ho))
    · rw [exec_lclRectrig, h]
      rfl
    -- CAPTURE_WINDOW_END
    · exact Bool.or_eq_true_iff.mpr (.inl (decide_eq_true he))
    · exact congrArg Host.Outcome.next ((State.windowEnd_of_some hc).trans (if_pos ⟨h3, hw⟩))
    · exact congrArg Host.Outcome.next ((State.windowEnd_of_some hc).trans (if_neg (fun h => Bool.false_ne_true (hw.symm.trans h.2))))
    · exact congrArg Host.Outcome.next (State.windowEnd_other h)
    -- HOLD_OFF_END
    · rw [exec_holdOffEnd, State.tryRearm_held h4 hc, hp, State.rearmHeld_done hd, hi, hv]
      rfl
    · rw [exec_holdOffEnd, State.tryRearm_held h4 hc, hp, State.rearmHeld_done hd]
      refine congrArg (fun n => Host.Outcome.next (State.recTo _ r n)) (if_pos ?_)
      rw [Bool.or_eq_true, Bool.not_eq_true']
      exact hi
    · rw [exec_holdOffEnd, State.tryRearm_held h4 hc, hp, State.rearmHeld_kept _ (.inr hd)]
      rfl
    · rw [exec_holdOffEnd, State.tryRearm_held h4 hc, hp, State.rearmHeld_kept _ (.inl rfl)]
      rfl
    · unfold State.heldOver
      rw [Bool.and_eq_true, decide_eq_true_iff, decide_eq_true_iff]
    · exact congrArg Host.Outcome.next (State.tryRearm_other h)
    -- EXPORT_COMPLETE
    · rw [exec_exportComplete, if_pos h]
    · rw [exec_exportComplete, hw, State.exportDone_held h4 hc]
      exact congrArg Host.Outcome.next (if_pos hq)
    · rw [exec_exportComplete, hw, State.exportDone_held h4 hc, hq]
      rfl
    · rw [exec_exportComplete, hw, State.exportDone_other h]
      rfl
  · refine ⟨fun h => congrArg Host.Outcome.next (if_pos h), fun h => ?_, exec_historyRequestComplete_of_none, fun l hl => ?_, fun b hl hb => ?_,
      fun k hl hh hk => ?_⟩
    · refine ⟨_, congrArg Host.Outcome.next (State.historyReq_free h), fun x hx h4 ha => ?_, fun k hk => ?_⟩
      · exact List.mem_append_left _ (List.mem_eraseDups.mpr (List.mem_flatMap.mpr
          ⟨x, (s.mem_historyHits x).mpr ⟨hx, h4, ha⟩, State.mem_withTimes_self _ x⟩))
      · obtain hk | hk := List.mem_append.mp hk
        · obtain ⟨x, hx, hk⟩ := List.mem_flatMap.mp (List.mem_eraseDups.mp hk)
          obtain ⟨hx, -, ha⟩ := (s.mem_historyHits x).mp hx
          obtain rfl | ⟨y, hy, rfl, h4⟩ := State.of_mem_withTimes hk
          · exact .inl ⟨x, hx, rfl, .inr ha⟩
          · exact .inl ⟨y, hy, rfl, .inl h4⟩
        · obtain ⟨e, he, rfl⟩ := List.mem_map.mp hk
          obtain ⟨he, hne⟩ := State.of_mem_historyMaking he
          exact .inr ⟨e, he, hne, rfl⟩
    · obtain ⟨w, hw, hf⟩ := foldl_historySend (s.reqBlocks l) s 0 0
      refine ⟨w, hw, ?_⟩
      rw [exec_historyRequestComplete_of_some hl, hf, Nat.zero_add, Nat.zero_add]
      rfl
    · have hfound : s.histBlock (b.source, b.num) = some b := by
        rw [State.histBlock, hb]
        simp
      rw [exec_historyRequestComplete_of_some hl, State.reqBlocks_kept hb, List.foldl_cons, historySend_of_some hfound]
      rfl
    · obtain ⟨hgone, hkeys⟩ := State.reqBlocks_gone hh hk
      rw [exec_historyRequestComplete_of_some hl, hkeys, List.foldl_cons, historySend_of_none hgone]
      rfl

end Sys2Proof.Machine

/-!
PROOFS. The analogue front end (R295, R304): a sound state whose registers exceed their widths.
-/
namespace Sys2Proof.Machine

/-- A conversion of channel 0 whose value is 0 µV. -/
def zeroConv : Conv := { raw := 0, dep := 0, range := 0, gain := 0, offset := 0, odrift := 0, gdrift := 0, skew := 0 }

/-- Recorder 15 in PREFILL, and 5 in the result of channel 0. -/
def prefilling : State :=
  (((State.reset.put (F.ACQ_RCFG_VALID 15) 1).put (F.ACQ_RSTAT_STATE 15) 1).put (F.ACQ_CH_KIND 15 8452) 2).putI (F.AFE_RES_VALUE 0) 5

/-- The recorder shows 8,453 channels, more than NCH can hold: channel 8,452 then has its ID where AFE_RES of channel 0 is. No recorder channel takes
channel 0 while AFE_RES holds 5, and that one does as soon as the conversion has put its 0 there. Soundness does not bound the value of a register by
its width. -/
def overlapped : State :=
  (prefilling.setRegs (Sp.put 1 prefilling.regs (F.ACQ_RCFG_NCH 15).key 8453)).setAcq { prefilling.acq with due := [0], conv := [(0, zeroConv)] }

theorem prefilling_sound : prefilling.Sound :=
  State.put_sound (State.put_sound (State.put_sound (State.put_sound resetIsSoundAndAtStageOne.1 _ _) _ _) _ _) _ _

theorem overlapped_sound : overlapped.Sound :=
  ⟨prefilling_sound.1, Sp.rising_put 1 (F.ACQ_RCFG_NCH 15).key 8453 prefilling_sound.2.1, prefilling_sound.2.2⟩

/-- The rings that a command leaves. -/
def ringsAfter (o : Out State) : Nat := match o with
  | .next s => s.acq.recs.length
  | _ => 0

theorem overlapped_takers : overlapped.recTakers 2 0 = [] := by decide +kernel

theorem overlapped_takes : ringsAfter (exec (.conversionComplete 0 0) overlapped) = 1 := by decide +kernel

/-- Refutes O46: the sample of the conversion goes to the recorder channel whose ID the result itself makes. -/
theorem not_frontEndAndCalibration : ¬ Obligations.FrontEndAndCalibration := by
  unfold Obligations.FrontEndAndCalibration
  intro h
  obtain ⟨-, hconv, -⟩ := h overlapped 0 0 0 ⟨0, 0, 0, false, 0⟩ []
  obtain ⟨hin, -⟩ := hconv (0, zeroConv) (by decide) rfl rfl overlapped_takers (by decide +kernel) overlapped_sound
  have hrings := overlapped_takes
  rw [hin (by decide) (by decide)] at hrings
  cases hrings

end Sys2Proof.Machine

/-!
PROOFS. Logic cycles and modes (R307, R311, R316, R317).
-/
namespace Sys2Proof.Machine

/-! ## The commit and the end without one (R307, R311) -/

/-- What the commit of cycle `c` of program `p` leaves. -/
def State.lgCommitted (s : State) (n : Nat) (p : Prog) (c : Nat × Nat × Nat) : State :=
  let r := Config.blockRun p s.lge.mem s.lge.image
  let mem := fitTo p.instLen r.1
  let out := fitTo 0x300 r.2
  let s := s.lgSems p
  let s := s.setLge { s.lge with mem := mem, out := out, cyc := none, skips := 0, step := false, retCommit := some (retainOf p mem) }
  let s := s.each (List.range 64) (fun s n => s.put (F.LGE_REPW n) (leAt out (0x200 + 4 * n) 4))
  let s := s.recVars p c.1 c.2.2
  let e := Nat.min (cdiv n 2400) 0xFFFF
  let s := ((s.put F.LGE_EXEC_LAST e).peak F.LGE_EXEC_PEAK e).put F.LGE_CYC_CYCLES (s.get F.LGE_CYC_CYCLES + 1)
  ((s.stageRetain).streamRetain (c.2.2 / Nat.max p.ratio 1) (retainOf p mem).bytes).lgCommand.freshOutputs

theorem exec_logicCommit_running {n t : Nat} {s : State} {p : Prog} {c : Nat × Nat × Nat} (hp : (s.advance t).lge.prog = some p)
    (hc : (s.advance t).lge.cyc = some c) (hh : (s.advance t).lge.paused = false) :
    exec (.logicCommit n t) s = .next ((s.advance t).lgCommitted n p c).parkDue := by
  change execLogicCommit n t s = _
  unfold execLogicCommit
  dsimp only
  rw [hp, hc]
  exact congrArg (fun w : State => Host.Outcome.next w.parkDue) (if_neg (by rw [hh]; exact Bool.false_ne_true))

theorem exec_logicCommit_idle {n t : Nat} {s : State}
    (h : (s.advance t).lge.cyc = none ∨ (s.advance t).lge.prog = none ∨ (s.advance t).lge.paused = true) :
    exec (.logicCommit n t) s = .next (s.advance t).parkDue := by
  change execLogicCommit n t s = _
  unfold execLogicCommit
  refine congrArg (fun w : State => Host.Outcome.next w.parkDue) ?_
  cases hc : (s.advance t).lge.cyc with
  | none => cases (s.advance t).lge.prog <;> rfl
  | some c =>
    cases hp : (s.advance t).lge.prog with
    | none => rfl
    | some p =>
      refine if_pos ((h.resolve_left ?_).resolve_left ?_)
      · rw [hc]
        exact Option.some_ne_none c
      · rw [hp]
        exact Option.some_ne_none p

theorem exec_logicCycleAbort_running {t : Nat} {s : State} {c : Nat × Nat × Nat} (hc : (s.advance t).lge.cyc = some c) :
    exec (.logicCycleAbort t) s = .next (State.parkDue (if !(s.advance t).lge.paused ∧ c.2.1 + 4 * (s.advance t).lgCycleNs ≤ (s.advance t).now then
      (s.advance t).lgAbandon else s.advance t)) := by
  change execLogicCycleAbort t s = _
  unfold execLogicCycleAbort
  dsimp only
  rw [hc]

theorem exec_logicCycleAbort_idle {t : Nat} {s : State} (h : (s.advance t).lge.cyc = none ∨ (s.advance t).lge.paused = true) :
    exec (.logicCycleAbort t) s = .next (s.advance t).parkDue := by
  cases hc : (s.advance t).lge.cyc with
  | none =>
    change execLogicCycleAbort t s = _
    unfold execLogicCycleAbort
    dsimp only
    rw [hc]
  | some c =>
    have hp := h.resolve_left (by rw [hc]; exact Option.some_ne_none c)
    rw [exec_logicCycleAbort_running hc, hp, if_neg (fun h => Bool.false_ne_true h.1)]

/-! ## The commands (R316, R317) -/

theorem exec_logicRun (s : State) : exec .logicRun s = .next (if s.lge.prog.isNone then s
    else if s.lge.cyc.isSome then s.setLge { s.lge with cmd := 1 } else s.lgTo 1) := rfl

theorem exec_logicStop (s : State) : exec .logicStop s = .next (if s.lge.cyc.isSome then
    (if s.lgMode = 2 then s.lgAbandon else s.setLge { s.lge with cmd := 2 }) else s.lgTo 0) := rfl

theorem exec_logicCold (s : State) : exec .logicCold s = .next (if s.lge.prog.isNone then s else s.setLge { s.lge with restart := 1 }) := rfl

theorem exec_logicWarm (s : State) : exec .logicWarm s = .next (if s.lge.prog.isNone then s else s.setLge { s.lge with restart := 2 }) := rfl

theorem exec_logicHold (s : State) : exec .logicHold s =
    .next (if s.mayHold then s.setLge { s.lge with hold := true } else s.count F.LGE_CNT_REFUSED) := rfl

theorem exec_logicContinue (s : State) : exec .logicContinue s = .next (if s.lgMode = 2 then
    (s.setLge { s.lge with paused := false, hold := false, step := false, fresh := true, since := 0 }).lgTo 1 else s) := rfl

theorem exec_logicStep (s : State) : exec .logicStep s =
    .next (if s.lgMode = 2 ∧ s.lge.paused then s.setLge { s.lge with paused := false, step := true } else s) := rfl

theorem exec_cyclePause (pc : Nat) (s : State) : exec (.cyclePause pc) s =
    .next (if s.lge.cyc.isSome && !s.lge.paused && (s.lge.hold || s.lge.step) then s.lgPause pc else s) := rfl

theorem exec_breakpointHit (n : Nat) (s : State) : exec (.breakpointHit n) s =
    .next (if s.lge.cyc.isSome && !s.lge.paused && s.flag (F.LGE_BP_EN n) && s.mayHold then
      (s.lgPause (s.get (F.LGE_BP_ADDR n))).put F.LGE_STATUS_BPHIT (n + 16) else s) := rfl

theorem State.mayHold_iff (s : State) : s.mayHold = true ↔ (∃ p, s.lge.prog = some p ∧ p.holdEn = true) ∧ s.twinMode = false := by
  unfold State.mayHold
  cases s.lge.prog with
  | none => simp
  | some p => simp

/-- Settles O47. -/
theorem logicCyclesAndModes : Obligations.LogicCyclesAndModes := by
  unfold Obligations.LogicCyclesAndModes
  intro s n t pc a
  refine ⟨fun h => exec_logicCommit_idle (h.imp id .inl), fun h => exec_logicCycleAbort_idle (.inl h),
    fun h => ⟨exec_logicCommit_idle (.inr (.inr h)), exec_logicCycleAbort_idle (.inr h)⟩, fun c hc hp => ⟨fun hn => ?_, fun hn => ?_⟩,
    fun p c hp hc hh => exec_logicCommit_running hp hc hh, fun h => ⟨?_, ?_, ?_⟩, fun h => ?_, fun h => ?_, fun h hm => ?_, fun h hm => ?_,
    s.mayHold_iff, fun h => ?_, fun h => ?_, fun h => ⟨?_, fun hp => ?_⟩, fun h => ?_, fun h => ?_, ⟨fun hc hp hh => ?_, fun hc hp he hm => ?_⟩,
    fun h => ?_, fun h => ?_, fun h => if_pos h, fun h => if_neg h⟩
  · rw [exec_logicCycleAbort_running hc, if_pos ⟨by rw [hp]; rfl, hn⟩]
  · rw [exec_logicCycleAbort_running hc, if_neg (fun h => Nat.not_le_of_lt hn h.2)]
  · rw [exec_logicRun, h]
    rfl
  · rw [exec_logicCold, h]
    rfl
  · rw [exec_logicWarm, h]
    rfl
  · have hsome : ¬ s.lge.prog.isNone = true := by rw [Option.isNone_iff_eq_none]; exact Option.isSome_iff_ne_none.mp h
    rw [exec_logicCold, exec_logicWarm, exec_logicRun, if_neg hsome, if_neg hsome, if_neg hsome]
    refine ⟨rfl, rfl, fun hc => ?_, fun hc => ?_⟩
    · rw [hc]
      rfl
    · rw [if_pos hc]
  · rw [exec_logicStop, h]
    rfl
  · rw [exec_logicStop, if_pos h, if_neg hm]
  · rw [exec_logicStop, if_pos h, if_pos hm]
  · rw [exec_logicHold, if_pos h]
  · rw [exec_logicHold, h]
    rfl
  · rw [exec_logicContinue, if_pos h]
  · rw [exec_logicStep, if_pos ⟨h, hp⟩]
  · rw [exec_logicContinue, if_neg h]
  · rw [exec_logicStep, if_neg (fun hs => h.elim (fun hm => hm hs.1) (fun hp => Bool.false_ne_true (hp.symm.trans hs.2)))]
  · rw [exec_cyclePause, if_pos (by rw [hc, hp, Bool.true_and, Bool.not_false, Bool.true_and, Bool.or_eq_true]; exact hh)]
    rfl
  · rw [exec_breakpointHit, if_pos (by rw [hc, hp, he, hm]; rfl)]
    rfl
  · rw [exec_breakpointHit, if_neg ?_]
    rcases h with h | h | h | h <;> simp [h]
  · rw [exec_cyclePause, if_neg ?_]
    rcases h with h | h | ⟨hh, hs⟩
    · simp [h]
    · simp [h]
    · simp [hh, hs]

end Sys2Proof.Machine

/-!
PROOFS. Replies of halts (R322, R324, R326, R328).
-/
namespace Sys2Proof.Machine

/-- A frame is a reply of a valid halt with a right CRC. -/
def State.goodReply (s : State) (b : Bytes) : Bool :=
  decide (60 ≤ b.length) && beAt b 0 1 == 1 && beAt b 1 1 == 2 && decide (beAt b 2 1 < 64) && s.flag (F.HLX_HCFG_VALID (beAt b 2 1)) &&
    beAt b 56 4 == (crc32 (b.take 56)).toNat

theorem State.goodReply_iff (s : State) (b : Bytes) : s.goodReply b = true ↔
    60 ≤ b.length ∧ beAt b 0 1 = 1 ∧ beAt b 1 1 = 2 ∧ beAt b 2 1 < 64 ∧ s.flag (F.HLX_HCFG_VALID (beAt b 2 1)) = true ∧
      beAt b 56 4 = (crc32 (b.take 56)).toNat := by
  unfold State.goodReply
  simp only [Bool.and_eq_true, decide_eq_true_iff, beq_iff_eq, and_assoc]

theorem State.windowOpen_iff (s : State) : s.windowOpen = true ↔ ∃ c, s.hlx.open_ = some c ∧ s.now ≤ c := by
  unfold State.windowOpen
  cases s.hlx.open_ <;> simp

section
variable {s : State} {p t : Nat} {b : Bytes}

theorem State.haltReply_of_idle (h : s.active = false ∨ s.parked = true) : s.haltReply p b t = s :=
  if_pos (by rw [Bool.or_eq_true, Bool.not_eq_true']; exact h)

variable (ha : s.active = true) (hp : s.parked = false)

include ha hp in
theorem State.haltReply_of_working : s.haltReply p b t = if !s.goodReply b then s.count F.HLX_CNT_BADREP
    else if !s.windowOpen || beAt b 4 2 != s.get F.HLX_SEQ then s.count (F.HLX_HCNT_LATE (beAt b 2 1))
    else s.haltValid (beAt b 2 1) p b t :=
  if_neg (by rw [ha, hp]; exact Bool.false_ne_true)

include ha hp in
theorem State.haltReply_of_bad (h : ¬ s.goodReply b = true) : s.haltReply p b t = s.count F.HLX_CNT_BADREP :=
  (State.haltReply_of_working ha hp).trans (if_pos (by rw [Bool.not_eq_true']; exact Bool.eq_false_iff.mpr h))

include ha hp in
theorem State.haltReply_of_late (h : s.goodReply b = true) (hl : s.windowOpen = false ∨ beAt b 4 2 ≠ s.get F.HLX_SEQ) :
    s.haltReply p b t = s.count (F.HLX_HCNT_LATE (beAt b 2 1)) := by
  refine (State.haltReply_of_working ha hp).trans ((if_neg ?_).trans (if_pos ?_))
  · rw [h]
    exact Bool.false_ne_true
  · rw [Bool.or_eq_true, Bool.not_eq_true', bne_iff_ne]
    exact hl

include ha hp in
theorem State.haltReply_of_good (h : s.goodReply b = true) (ho : s.windowOpen = true) (hs : beAt b 4 2 = s.get F.HLX_SEQ) :
    s.haltReply p b t = s.haltValid (beAt b 2 1) p b t := by
  refine (State.haltReply_of_working ha hp).trans ((if_neg ?_).trans (if_neg ?_))
  · rw [h]
    exact Bool.false_ne_true
  · rw [Bool.or_eq_true, Bool.not_eq_true', bne_iff_ne]
    exact fun hl => hl.elim (fun hc => Bool.false_ne_true (hc.symm.trans ho)) (fun hn => hn hs)

end

/-- Settles O48. -/
theorem haltRepliesAreChecked : Obligations.HaltRepliesAreChecked := by
  unfold Obligations.HaltRepliesAreChecked
  intro s p t b a h good
  have hgood : a.goodReply b = true ↔ good := a.goodReply_iff b
  refine ⟨fun h => congrArg Host.Outcome.next (State.haltReply_of_idle h), fun ha hp => ⟨fun hb => ?_, fun hg hl => ?_, fun hg ho hs => ?_⟩,
    a.windowOpen_iff, fun hn => ?_, fun c hc => ⟨fun hl => ?_, fun hl => ?_⟩⟩
  · exact congrArg Host.Outcome.next (State.haltReply_of_bad ha hp (fun hb' => hb (hgood.mp hb')))
  · exact congrArg Host.Outcome.next (State.haltReply_of_late ha hp (hgood.mpr hg) hl)
  · exact congrArg Host.Outcome.next (State.haltReply_of_good ha hp (hgood.mpr hg) ho hs)
  · exact congrArg Host.Outcome.next (State.windowDue_of_none hn _)
  · exact congrArg Host.Outcome.next ((State.windowDue_of_some hc _).trans (if_pos hl))
  · exact congrArg Host.Outcome.next ((State.windowDue_of_some hc _).trans (if_neg (Nat.not_le_of_lt hl)))

end Sys2Proof.Machine

/-!
PROOFS. START, RESET and RESTART of an instance (R246, R336, R337, R339, R357).
-/
namespace Sys2Proof.Machine

theorem exec_instanceStart (i : Nat) (s : State) : exec (.instanceStart i) s = .next (if s.instState i = 1 ∨ s.instState i = 4 then
    (if (s.placeAgain i).2 then (s.placeAgain i).1.startCold i else (s.placeAgain i).1) else s.count F.INS_CNT_BADCMD) := rfl

theorem exec_instanceReset (i t : Nat) (s : State) : exec (.instanceReset i t) s = .next ((s.advance t).resetCmd i 1).parkDue := rfl

theorem exec_instanceRestart (i t : Nat) (s : State) : exec (.instanceRestart i t) s = .next ((s.advance t).resetCmd i 2).parkDue := rfl

/-- The end of a reset of an instance: cold again where it has a place, DECLARED where it has none. -/
def State.startedAgain (s : State) (i : Nat) : State :=
  if (s.placeAgain i).2 then (s.placeAgain i).1.startCold i else (s.placeAgain i).1.instTo i 1

theorem exec_instanceResetComplete (i : Nat) (s : State) : exec (.instanceResetComplete i) s =
    .next (if s.instState i = 3 ∧ s.drained i then
      (if (s.inst i).goal = 2 then (s.renewInst i).startedAgain i else (s.renewInst i).instTo i (s.inst i).goal) else s) := rfl

theorem State.resetCmd_of_listed {s : State} {i : Nat} (h : s.instState i = 2 ∨ s.instState i = 4 ∨ s.instState i = 5) (goal : Nat) :
    s.resetCmd i goal = s.resetInst i goal := if_pos h

theorem State.resetCmd_of_unlisted {s : State} {i : Nat} (h2 : s.instState i ≠ 2) (h4 : s.instState i ≠ 4) (h5 : s.instState i ≠ 5) (goal : Nat) :
    s.resetCmd i goal = s.count F.INS_CNT_BADCMD := if_neg (fun h => h.elim h2 (fun h => h.elim h4 h5))

/-! ## The place of an instance (R246, R357) -/

theorem State.placeAgain_of_undeclared {s : State} {i : Nat} (h : s.decl i = none) : s.placeAgain i = (s, false) := by
  unfold State.placeAgain
  rw [h]

section
variable {s : State} {i : Nat} {d : InstDecl} (hd : s.decl i = some d)

include hd in
theorem State.placeAgain_of_active (h : s.roleOf (s.placeOf i) = 0) : s.placeAgain i = (s, true) := by
  unfold State.placeAgain
  rw [hd]
  exact if_pos h

include hd in
theorem State.placeAgain_of_stranded (h : s.roleOf (s.placeOf i) ≠ 0) (hs : (s.inst i).stranded = true) : s.placeAgain i = (s, false) := by
  unfold State.placeAgain
  rw [hd]
  exact (if_neg h).trans (if_pos hs)

include hd in
theorem State.placeAgain_of_full (h : s.roleOf (s.placeOf i) ≠ 0) (hs : (s.inst i).stranded = false)
    (hf : s.findPlace (s.places.filter (fun p => p.inst != i)) d (s.shareNow d).1 = none) : s.placeAgain i = (s, false) := by
  unfold State.placeAgain
  rw [hd]
  refine (if_neg h).trans ((if_neg (Bool.eq_false_iff.mp hs)).trans ?_)
  dsimp only
  rw [hf]

end

/-- The state that is entered shows, whatever its event does to the log. -/
theorem State.instState_instTo {s : State} (hs : s.Sound) {i st : Nat} (h : st < 8) : (s.instTo i st).instState i = st := by
  unfold State.instTo
  split
  · assumption
  · rw [State.instState, State.raiseI,
      State.regsBut_raiseOn (State.put_sound hs (F.INS_ISTAT_STATE i) st) _ _ _ _ (F.INS_ISTAT_STATE i) (by
        intro g hg
        rw [List.mem_singleton.mp hg]
        simp only [Fld.key, F.INS_ISTAT_STATE, F.XNG_REFUSED_EVLOST]
        omega),
      State.get_put_same hs.rising]
    exact Nat.mod_eq_of_lt h

/-- Settles O49. -/
theorem instancesStartAndReset : Obligations.InstancesStartAndReset := by
  unfold Obligations.InstancesStartAndReset
  refine ⟨fun s i t => ⟨fun h => ⟨fun hp => ?_, fun hp => ?_⟩, fun h => ⟨?_, ?_⟩, fun h3 hd => ⟨fun hg => ?_, fun hg hp => ?_, fun hg hp => ?_⟩,
    State.placeAgain_of_undeclared, fun d hd => ⟨State.placeAgain_of_active hd, State.placeAgain_of_stranded hd, State.placeAgain_of_full hd⟩,
    fun st hst _ _ hs => State.instState_instTo hs hst, fun h => ?_⟩, fun s i => ⟨fun h1 h4 => ?_, fun t h2 h4 h5 => ⟨?_, ?_⟩⟩⟩
  · rw [exec_instanceStart, if_pos h, if_pos hp]
  · rw [exec_instanceStart, if_pos h, if_neg (Bool.eq_false_iff.mp hp)]
  · rw [exec_instanceReset, State.resetCmd_of_listed h]
  · rw [exec_instanceRestart, State.resetCmd_of_listed h]
  · rw [exec_instanceResetComplete, if_pos ⟨h3, hd⟩, if_neg hg]
  · rw [exec_instanceResetComplete, if_pos ⟨h3, hd⟩, if_pos hg, State.startedAgain, if_pos hp]
  · rw [exec_instanceResetComplete, if_pos ⟨h3, hd⟩, if_pos hg, State.startedAgain, if_neg (Bool.eq_false_iff.mp hp)]
  · rw [exec_instanceResetComplete, if_neg]
    exact fun hc => h.elim (fun h3 => h3 hc.1) (fun hd => Bool.false_ne_true (hd.symm.trans hc.2))
  · rw [exec_instanceStart, if_neg (fun h => h.elim h1 h4)]
  · rw [exec_instanceReset, State.resetCmd_of_unlisted h2 h4 h5]
  · rw [exec_instanceRestart, State.resetCmd_of_unlisted h2 h4 h5]

end Sys2Proof.Machine

/-!
PROOFS. Quotas, heaps, the ownership of queues; mailboxes (R334, R338, R340, R341, R345).
-/
namespace Sys2Proof.Machine

/-! ## Quotas (R338) -/

theorem exec_quotaWrite_pool (i : Nat) (v : Word) (s : State) : exec (.quotaWrite i 0 v) s =
    .next (if s.quotaOk i 1 ((F.INS_QUOTA_DRAM i).part v) && s.quotaOk i 2 ((F.INS_QUOTA_QUEUES i).part v) &&
        s.quotaOk i 3 ((F.INS_QUOTA_SEMS i).part v) then
      (((s.put (F.INS_QUOTA_DRAM i) ((F.INS_QUOTA_DRAM i).part v)).put (F.INS_QUOTA_QUEUES i) ((F.INS_QUOTA_QUEUES i).part v)).put
        (F.INS_QUOTA_SEMS i) ((F.INS_QUOTA_SEMS i).part v)).showUse i
    else s.count F.INS_CNT_QREFUSE) := rfl

theorem exec_quotaWrite_depth (i : Nat) (v : Word) (s : State) : exec (.quotaWrite i 1 v) s =
    .next (if 1 ≤ (F.INS_QUOTA2_MBDEPTH i).part v ∧ (F.INS_QUOTA2_MBDEPTH i).part v ≤ 16 then
      (s.put (F.INS_QUOTA2_MBDEPTH i) ((F.INS_QUOTA2_MBDEPTH i).part v)).showUse i
    else s.count F.INS_CNT_QREFUSE) := rfl

/-! ## The heap (R334) -/

/-- A heap size that waits. -/
def State.heapWaits (s : State) (i n : Nat) : State := s.setInst i { s.inst i with heapWait := some n }

theorem State.heapWait_heapWaits (s : State) (i n : Nat) : ((s.heapWaits i n).inst i).heapWait = some n := by
  have hne : { s.inst i with heapWait := some n } ≠ InstS.init := fun h => Option.some_ne_none n (congrArg InstS.heapWait h)
  have hput : Sp.put InstS.init s.ins.insts i { s.inst i with heapWait := some n } = Sp.insert s.ins.insts i { s.inst i with heapWait := some n } :=
    if_neg hne
  have hget := Sp.get_insert InstS.init i { s.inst i with heapWait := some n } i s.ins.insts
  rw [if_pos rfl] at hget
  have hinst : (s.heapWaits i n).inst i = { s.inst i with heapWait := some n } := by
    rw [State.heapWaits, State.setInst, hput]
    exact hget
  rw [hinst]

theorem exec_heapSizeWrite (i n : Nat) (s : State) : exec (.heapSizeWrite i n) s =
    .next (if s.get (F.INS_HEAP_SIZE i) < n ∧ s.get (F.INS_QUOTA_DRAM i) < s.dramUse i n then s else (s.heapWaits i n).heapTry i) := rfl

theorem State.heapTry_heapWaits (s : State) (i n : Nat) : (s.heapWaits i n).heapTry i =
    if (s.queuesOf i).any (fun c => s.chState c == 1) then s.heapWaits i n
    else ((s.heapWaits i n).setInst i { (s.heapWaits i n).inst i with heapWait := none }).applyHeap i n := by
  unfold State.heapTry
  rw [State.heapWait_heapWaits]
  rfl

/-! ## Queues (R345) -/

theorem exec_queueOwnerWrite (q n : Nat) (s : State) : exec (.queueOwnerWrite q n) s =
    .next (if (s.qOwner q = 0 ∨ s.instState (s.qOwner q) = 1) ∧ s.chState q = 0 ∧
        (n = 0 ∨ n = s.qOwner q ∨ (s.queuesOf n).length < s.get (F.INS_QUOTA_QUEUES n)) then
      (((s.put (F.INS_QOWN_OWNER q) n).givePrio q).showUse (s.qOwner q)).showUse n
    else s) := rfl

/-- Settles O50. -/
theorem quotasHeapsAndQueues : Obligations.QuotasHeapsAndQueues := by
  unfold Obligations.QuotasHeapsAndQueues
  intro s i q n v d k m x
  refine ⟨fun hd hk hm => ?_, fun h => ?_, fun h1 h16 => ?_, fun h => ?_, fun hg hq => ?_, fun h => ⟨fun hc => ?_, fun hc => ?_⟩,
    fun ho hc hn => ?_, fun h => ?_⟩
  · rw [exec_quotaWrite_pool, hd, hk, hm]
    rfl
  · rw [exec_quotaWrite_pool, if_neg ?_]
    rw [Bool.and_eq_true, Bool.and_eq_true]
    rintro ⟨⟨hd, hk⟩, hm⟩
    rcases h with h | h | h
    · exact Bool.false_ne_true (h.symm.trans hd)
    · exact Bool.false_ne_true (h.symm.trans hk)
    · exact Bool.false_ne_true (h.symm.trans hm)
  · rw [exec_quotaWrite_depth, if_pos ⟨h1, h16⟩]
  · rw [exec_quotaWrite_depth, if_neg (show ¬ (1 ≤ x ∧ x ≤ 16) by omega)]
  · rw [exec_heapSizeWrite, if_pos ⟨hg, hq⟩]
  · obtain ⟨c, hmem, h1⟩ := hc
    rw [exec_heapSizeWrite, if_neg (by omega), State.heapTry_heapWaits, if_pos (List.any_eq_true (p := fun c => s.chState c == 1).mpr ⟨c, hmem, beq_iff_eq.mpr h1⟩)]
    rfl
  · rw [exec_heapSizeWrite, if_neg (by omega), State.heapTry_heapWaits, if_neg ?_]
    · rfl
    · rw [List.any_eq_true]
      rintro ⟨c, hmem, h1⟩
      exact hc c hmem (beq_iff_eq.mp h1)
  · rw [exec_queueOwnerWrite, if_pos ⟨ho, hc, hn⟩]
  · rw [exec_queueOwnerWrite, if_neg (by omega)]

/-! ## Mailboxes (R340, R341) -/

/-- A message for an instance that has been taken. -/
def State.mbEnter (s : State) (h : Hdr) (op : Nat) (b : Bytes) : State :=
  if h.src ≠ 0 ∨ s.mbClosed h.tgt = true ∨ s.get (F.INS_QUOTA2_MBDEPTH h.tgt) ≤ (s.inst h.tgt).inbox.length then s.mbRefuse h
  else ((s.setInst h.tgt { s.inst h.tgt with inbox := (s.inst h.tgt).inbox ++ [{ op := op, data := b }], door := true }).showUse h.tgt).showMail h.tgt

theorem exec_mailboxToInstance_inTurn {h : Hdr} {s : State} (op : Nat) (b : Bytes) (hi : s.inTurn 7 h = true) :
    exec (.mailboxToInstance h op b) s = .next ((s.took 7 h).mbEnter h op b) :=
  congrArg Host.Outcome.next (State.receive_inTurn (fun s => s.mbEnter h op b) hi)

/-- A doorbell that has been taken. -/
def State.mbRing (s : State) (h : Hdr) : State :=
  if h.src ≠ 0 ∨ s.mbClosed h.tgt = true then s.mbRefuse h else (s.setInst h.tgt { s.inst h.tgt with door := true }).showMail h.tgt

theorem exec_mailboxDoorbell_inTurn {h : Hdr} {s : State} (hi : s.inTurn 7 h = true) :
    exec (.mailboxDoorbell h) s = .next ((s.took 7 h).mbRing h) :=
  congrArg Host.Outcome.next (State.receive_inTurn (fun s => s.mbRing h) hi)

theorem exec_mailboxPop_of_none {pf : Nat} {s : State} (h : (s.pf pf).cur = none) : exec (.mailboxPop pf) s = .next s := by
  change execMailboxPop pf s = _
  unfold execMailboxPop
  rw [h]

theorem exec_mailboxPop_of_some {pf : Nat} {s : State} {r : Running} (h : (s.pf pf).cur = some r) :
    exec (.mailboxPop pf) s = .next ((s.coreActs pf).mbPop r.l.inst) := by
  change execMailboxPop pf s = _
  unfold execMailboxPop
  rw [h]

theorem State.coreActs_ins (s : State) (p : Nat) : (s.coreActs p).ins = s.ins := by
  unfold State.coreActs
  split <;> rfl

/-- The staging area that a push leaves in the local page. -/
def State.mbStaged (s : State) (pf : Nat) (b : Bytes) : State :=
  (s.coreActs pf).each (List.range 16) (fun s k => s.put (F.LCL_MB_OUT pf k) (leAt b (4 * k) 4))

theorem exec_mailboxPush_of_none {pf t : Nat} {s : State} (op n : Nat) (b : Bytes) (h : ((s.advance t).pf pf).cur = none) :
    exec (.mailboxPush pf op n b t) s = .next (s.advance t) := by
  change execMailboxPush pf op n b t s = _
  unfold execMailboxPush
  dsimp only
  rw [h]

theorem exec_mailboxPush_of_some {pf t : Nat} {s : State} {r : Running} (op n : Nat) (b : Bytes) (h : ((s.advance t).pf pf).cur = some r) :
    exec (.mailboxPush pf op n b t) s = .next (if 1 ≤ op ∧ op ≤ 0xFE ∧ 1 ≤ n ∧ n ≤ 64 then
      ((s.advance t).mbStaged pf b).mbPush r.l.inst op ((b ++ zeros 64).take n) else (s.advance t).mbStaged pf b) := by
  change execMailboxPush pf op n b t s = _
  unfold execMailboxPush
  dsimp only
  rw [h]
  rfl

/-- Settles O51. -/
theorem mailboxesKeepOrder : Obligations.MailboxesKeepOrder := by
  unfold Obligations.MailboxesKeepOrder
  refine ⟨fun s h op n pf t b => ⟨fun hi => ⟨fun h0 hc hl => ?_, fun hr => ?_, fun h0 hc => ?_, fun hr => ?_⟩, exec_mailboxPop_of_none, fun r hr => ?_,
    exec_mailboxPush_of_none op n b⟩, fun s op n pf t b r hr => ⟨fun hw => ?_, fun h1 h2 h3 h4 => ⟨fun hl => ?_, fun hl => ?_⟩⟩⟩
  · rw [exec_mailboxToInstance_inTurn op b hi, State.mbEnter, if_neg ?_]
    rintro (hs | hm | hd)
    · exact hs h0
    · exact Bool.false_ne_true (hc.symm.trans hm)
    · omega
  · rw [exec_mailboxToInstance_inTurn op b hi, State.mbEnter, if_pos hr]
  · rw [exec_mailboxDoorbell_inTurn hi, State.mbRing, if_neg ?_]
    rintro (hs | hm)
    · exact hs h0
    · exact Bool.false_ne_true (hc.symm.trans hm)
  · rw [exec_mailboxDoorbell_inTurn hi, State.mbRing, if_pos hr]
  · have hins : ((s.coreActs pf).inst r.l.inst).inbox = (s.inst r.l.inst).inbox := by rw [State.inst, State.coreActs_ins, ← State.inst]
    rw [exec_mailboxPop_of_some hr, State.mbPop, hins]
    rfl
  · rw [exec_mailboxPush_of_some op n b hr, if_neg (by omega)]
    rfl
  · rw [exec_mailboxPush_of_some op n b hr, if_pos ⟨h1, h2, h3, h4⟩]
    exact congrArg Host.Outcome.next (if_neg (Nat.not_le_of_lt hl))
  · rw [exec_mailboxPush_of_some op n b hr, if_pos ⟨h1, h2, h3, h4⟩]
    exact congrArg Host.Outcome.next (if_pos hl)

end Sys2Proof.Machine

/-!
PROOFS. Channels, queues, errors (R348 to R351).
-/
namespace Sys2Proof.Machine

/-! ## START, push and doorbell (R348 to R350) -/

/-- A channel whose registers are taken up. -/
def State.regsTaken (s : State) (c : Nat) : State :=
  let u := s.noteSubmit c (s.regDesc c).count
  (u.setChan c { u.chan c with tail := none }).chRun chFuel c .regs

theorem exec_channelStart (c : Nat) (s : State) : exec (.channelStart c) s =
    .next (if s.chState c = 0 then (if s.qOwner c = 0 then s.count (F.DMX_QCNT_REFUSED c) else s.regsTaken c) else s) := rfl

/-- A push that the queue takes. -/
def State.pushed (s : State) (c : Nat) (d : Word) : State :=
  ((s.noteAt c (32 * d.toNat)).setChan c { s.chan c with subs := (s.chan c).subs ++ [d] }).put (F.DMX_QSTAT_DEPTH c) ((s.chan c).subs.length + 1)

/-- A push at a fenced queue. -/
def State.pushFenced (s : State) (c : Nat) (d : Word) : State :=
  let r := s.tagAt c (32 * d.toNat)
  (r.1.count (F.DMX_QCNT_REFUSED c)).record c 3 false 0 0 0 r.2

theorem exec_queuePush (c : Nat) (d : Word) (s : State) : exec (.queuePush c d) s =
    .next (if s.qOwner c = 0 then s.count (F.DMX_QCNT_REFUSED c)
      else if s.flag (F.DMX_QSTAT_FENCED c) then s.pushFenced c d
      else if 16 ≤ (s.chan c).subs.length then s.count (F.DMX_QCNT_REFUSED c)
      else if (s.pushed c d).chState c = 0 then (s.pushed c d).chRun chFuel c .next else s.pushed c d) := rfl

theorem exec_channelDoorbell (c : Nat) (s : State) : exec (.channelDoorbell c) s =
    .next (if s.chState c = 0 ∧ s.flag (F.DMX_CHSTAT_CHIDLE c) = true then
      (if bit (s.linkWord c) 0 then s else
        (s.noteAt c (s.linkWord c % 2 ^ 40 / 32 * 32)).chRun chFuel c (.at_ (s.linkWord c % 2 ^ 40 / 32 * 32)))
      else s) := rfl

/-! ## RESUME and ABORT (R351) -/

/-- A halted channel goes on. -/
def State.resumed (s : State) (c : Nat) : State :=
  let u := (s.put (F.DMX_CHSTAT_STATE c) 1).setChan c { s.chan c with busErr := false, since := some s.ins.order }
  u.setIns { u.ins with order := u.ins.order + 1 }

/-- The frame of a transmit descriptor goes to its port again. -/
def State.sentOn (v : State) (c : Nat) (d : Desc) : State :=
  let r := v.dmaRead (v.qOwner c) d.src d.count
  r.1.dmaTransmit c d ((r.1.chan c).head ++ r.2)

theorem exec_channelResume (c : Nat) (s : State) : exec (.channelResume c) s =
    .next (if s.flag (F.DMX_CHSTAT_ERR c) then s.count (F.DMX_QCNT_REFUSED c)
      else if s.chState c = 2 then (if (s.regDesc c).op = 1 then (s.resumed c).sentOn c (s.regDesc c) else s.resumed c)
      else s) := rfl

/-- Bytes that a running descriptor may have moved at most. -/
def State.mostMoved (s : State) (c : Nat) : Nat := if (s.regDesc c).op = 0 then (s.regDesc c).count else match (s.chan c).rx with
  | none => 0
  | some r => Nat.min (s.regDesc c).count (r.1.length - (s.chan c).moved)

/-- A running descriptor is cut after `n` bytes. -/
def State.cutAfter (s : State) (c n : Nat) : State :=
  let w := s.moveBytes c n
  w.afterDesc c (w.cutDesc c 4, .next)

theorem exec_channelAbort (c : Nat) (s : State) : exec (.channelAbort c) s =
    .next (if s.flag (F.DMX_CHSTAT_ERR c) then s.count (F.DMX_QCNT_REFUSED c)
      else if s.chState c = 2 then ((s.cutDesc c 2).dropGrant c).chRun chFuel c .next
      else if s.chState c = 1 then s.draw.1.cutAfter c (Config.abortedAt s.draw.2 % (s.mostMoved c + 1))
      else s) := rfl

section
variable {s : State} {c : Nat}

theorem exec_channelAbort_running (he : s.flag (F.DMX_CHSTAT_ERR c) = false) (h : s.chState c = 1) :
    exec (.channelAbort c) s = .next (s.draw.1.cutAfter c (Config.abortedAt s.draw.2 % (s.mostMoved c + 1))) := by
  rw [exec_channelAbort, if_neg (Bool.eq_false_iff.mp he), if_neg (by omega), if_pos h]

theorem State.mostMoved_of_copy (h : (s.regDesc c).op = 0) : s.mostMoved c = (s.regDesc c).count := if_pos h

theorem State.mostMoved_of_frame {b : Bytes} {p : Nat} {st : Word} (h : (s.regDesc c).op ≠ 0) (hr : (s.chan c).rx = some (b, p, st)) :
    s.mostMoved c = Nat.min (s.regDesc c).count (b.length - (s.chan c).moved) := by
  unfold State.mostMoved
  rw [if_neg h, hr]

theorem State.mostMoved_of_none (h : (s.regDesc c).op ≠ 0) (hr : (s.chan c).rx = none) : s.mostMoved c = 0 := by
  unfold State.mostMoved
  rw [if_neg h, hr]

end

/-! ## Bus errors (R351) -/

/-- The state `u` of a channel that a bus error halts: the channel shows the error and drops its grant. -/
def State.busHalted (u : State) (c addr : Nat) (w : Bool) : State :=
  let v := ((u.put (F.DMX_CHSTAT_STATE c) 2).put (F.DMX_CHSTAT_ERR c) 1).putB (F.DMX_CHSTAT_ERRDIR c) w
  let x := (v.put (F.DMX_CHERRA_LO c) addr).put (F.DMX_CHERRA_HI c) (addr / 2 ^ 32)
  let y := x.setChan c { x.chan c with busErr := true }
  ((y.raiseI 0x1201 (y.qOwner c) c).count (F.DMX_QCNT2_ERRS c)).dropGrant c

theorem State.chan_put (s : State) (f : Fld) (v c : Nat) : (s.put f v).chan c = s.chan c := rfl

/-- The same where the channel's record is read before the high half of the address is put. -/
theorem State.busHalted_eq (u : State) (c addr : Nat) (w : Bool) : u.busHalted c addr w =
    let v := ((u.put (F.DMX_CHSTAT_STATE c) 2).put (F.DMX_CHSTAT_ERR c) 1)
    let x := (v.putB (F.DMX_CHSTAT_ERRDIR c) w).put (F.DMX_CHERRA_LO c) addr
    let y := (x.put (F.DMX_CHERRA_HI c) (addr / 2 ^ 32)).setChan c { x.chan c with busErr := true }
    ((y.raiseI 0x1201 (y.qOwner c) c).count (F.DMX_QCNT2_ERRS c)).dropGrant c := by
  unfold State.busHalted
  dsimp only
  rw [State.chan_put _ (F.DMX_CHERRA_HI c)]

theorem exec_busError_idle {c : Nat} {s : State} (addr : Nat) (w : Bool) (n : Nat) (h : s.chState c ≠ 1) :
    exec (.busError c addr w n) s = .next s := congrArg Host.Outcome.next (if_neg h)

theorem exec_busError_halts {c : Nat} {s : State} (addr : Nat) (w : Bool) (n : Nat) (h : s.chState c = 1) (ho : (s.regDesc c).op ≠ 1) :
    exec (.busError c addr w n) s = .next ((s.moveBytes c (Nat.min n (s.regDesc c).count)).busHalted c addr w) := by
  change execBusError c addr w n s = _
  unfold execBusError
  rw [if_pos h]
  dsimp only
  rw [if_neg ho, State.busHalted_eq]

/-! ## The end of a descriptor (R347, R349) -/

/-- The record of a descriptor that has ended, and where the channel goes. -/
def State.descEnded (u : State) (c status : Nat) (lost : Bool) (port bytes : Nat) (stamp tag : Word) : State :=
  let v := u.record c status lost port bytes stamp tag
  v.afterDesc c (v.follow c)

/-- The end of a receive descriptor, once it has its frame. -/
def State.endReceive (s : State) (c : Nat) : State := match (s.chan c).rx with
  | none => s
  | some (b, p, st) => (s.moveBytes c (Nat.min (s.regDesc c).count (b.length - (s.chan c).moved))).descEnded c
      (if (s.chan c).moved + (s.regDesc c).count < b.length then 5 else 0) false p b.length st (s.regDesc c).tag

theorem exec_descriptorComplete (c : Nat) (s : State) :
    exec (.descriptorComplete c) s = .next ((s.endDesc c).heapTry (s.qOwner c)) := rfl

theorem State.endDesc_eq (s : State) (c : Nat) : s.endDesc c =
    if s.chState c ≠ 1 then s
    else if !s.descOk c (s.regDesc c) ∧ (s.chan c).moved = 0 then s.chRun chFuel c .regs
    else if (s.regDesc c).op = 1 then
      (if s.txWaits c ((s.regDesc c).dst % 32) then s
      else (s.moveBytes c (s.regDesc c).count).descEnded c 0 ((s.moveBytes c (s.regDesc c).count).chan c).stampLost ((s.regDesc c).dst % 32)
        ((s.moveBytes c (s.regDesc c).count).chan c).moved 0 (s.regDesc c).tag)
    else if (s.regDesc c).op = 2 then s.endReceive c
    else (s.moveBytes c (s.regDesc c).count).descEnded c 0 false 0 ((s.moveBytes c (s.regDesc c).count).chan c).moved 0 (s.regDesc c).tag := rfl

section
variable {s : State} {c : Nat}

theorem State.endDesc_of_idle (h : s.chState c ≠ 1) : s.endDesc c = s := by
  rw [State.endDesc_eq, if_pos h]

theorem State.endDesc_of_refused (h : s.chState c = 1) (hk : s.descOk c (s.regDesc c) = false) (hm : (s.chan c).moved = 0) :
    s.endDesc c = s.chRun chFuel c .regs := by
  rw [State.endDesc_eq, if_neg (not_not_intro h), if_pos ⟨by rw [hk]; rfl, hm⟩]

variable (h : s.chState c = 1) (hk : s.descOk c (s.regDesc c) = true)

include h hk in
theorem State.endDesc_of_good : s.endDesc c = if (s.regDesc c).op = 1 then
      (if s.txWaits c ((s.regDesc c).dst % 32) then s
      else (s.moveBytes c (s.regDesc c).count).descEnded c 0 ((s.moveBytes c (s.regDesc c).count).chan c).stampLost ((s.regDesc c).dst % 32)
        ((s.moveBytes c (s.regDesc c).count).chan c).moved 0 (s.regDesc c).tag)
    else if (s.regDesc c).op = 2 then s.endReceive c
    else (s.moveBytes c (s.regDesc c).count).descEnded c 0 false 0 ((s.moveBytes c (s.regDesc c).count).chan c).moved 0 (s.regDesc c).tag := by
  rw [State.endDesc_eq, if_neg (not_not_intro h), if_neg]
  rintro ⟨hn, -⟩
  rw [hk] at hn
  cases hn

include h hk in
theorem State.endDesc_of_waiting (ho : (s.regDesc c).op = 1) (hw : s.txWaits c ((s.regDesc c).dst % 32) = true) : s.endDesc c = s := by
  rw [State.endDesc_of_good h hk, if_pos ho, if_pos hw]

include h hk in
theorem State.endDesc_of_sent (ho : (s.regDesc c).op = 1) (hw : s.txWaits c ((s.regDesc c).dst % 32) = false) : s.endDesc c =
    (s.moveBytes c (s.regDesc c).count).descEnded c 0 ((s.moveBytes c (s.regDesc c).count).chan c).stampLost ((s.regDesc c).dst % 32)
      ((s.moveBytes c (s.regDesc c).count).chan c).moved 0 (s.regDesc c).tag := by
  rw [State.endDesc_of_good h hk, if_pos ho, if_neg (Bool.eq_false_iff.mp hw)]

include h hk in
theorem State.endDesc_of_receive (ho : (s.regDesc c).op = 2) : s.endDesc c = s.endReceive c := by
  rw [State.endDesc_of_good h hk, if_neg (by omega), if_pos ho]

include h hk in
theorem State.endDesc_of_copy (ho : (s.regDesc c).op = 0) : s.endDesc c =
    (s.moveBytes c (s.regDesc c).count).descEnded c 0 false 0 ((s.moveBytes c (s.regDesc c).count).chan c).moved 0 (s.regDesc c).tag := by
  rw [State.endDesc_of_good h hk, if_neg (by omega), if_neg (by omega)]

end

theorem State.endReceive_of_none {s : State} {c : Nat} (h : (s.chan c).rx = none) : s.endReceive c = s := by
  unfold State.endReceive
  rw [h]

theorem State.endReceive_of_some {s : State} {c : Nat} {b : Bytes} {p : Nat} {st : Word} (h : (s.chan c).rx = some (b, p, st)) :
    s.endReceive c = (s.moveBytes c (Nat.min (s.regDesc c).count (b.length - (s.chan c).moved))).descEnded c
      (if (s.chan c).moved + (s.regDesc c).count < b.length then 5 else 0) false p b.length st (s.regDesc c).tag := by
  unfold State.endReceive
  rw [h]

/-- Settles O53. -/
theorem channelsTakeUpWork : Obligations.ChannelsTakeUpWork := by
  unfold Obligations.ChannelsTakeUpWork
  intro s c addr n d w
  have hend : ∀ {v : State}, s.endDesc c = v → exec (.descriptorComplete c) s = .next (v.heapTry (s.qOwner c)) := fun h => by
    rw [exec_descriptorComplete, h]
  refine ⟨fun h0 ho => ?_, fun h0 => ?_, fun h0 ho => ?_, fun h => ?_, fun ho hf => ?_, fun ho hf hl => ⟨fun h0 => ?_, fun h0 => ?_⟩,
    ⟨fun h0 hi hb => ?_, fun h => ?_⟩, fun he => ⟨?_, ?_⟩, fun he h2 => ⟨?_, fun ho => ?_, fun ho => ?_⟩,
    fun he h1 => ⟨fun ho => ?_, fun b p st ho hr => ?_, fun ho hr => ?_⟩, fun he h1 h2 => ⟨?_, ?_⟩, rfl, fun h1 => ⟨?_, ?_⟩, fun h1 ho => ?_,
    fun h1 ho hk => hend (State.endDesc_of_copy h1 hk ho), fun h1 hk => ⟨fun ho hw => hend (State.endDesc_of_waiting h1 hk ho hw),
      fun ho hw => hend (State.endDesc_of_sent h1 hk ho hw), fun ho hr => ?_, fun b p st ho hr => ?_⟩,
    fun h1 hk hm => hend (State.endDesc_of_refused h1 hk hm)⟩
  · rw [exec_channelStart, if_pos h0, if_pos ho]
  · rw [exec_channelStart, if_neg h0]
  · rw [exec_channelStart, if_pos h0, if_neg ho]
    rfl
  · rw [exec_queuePush]
    rcases h with ho | ⟨hf, hl⟩
    · rw [if_pos ho]
    · by_cases ho : s.qOwner c = 0
      · rw [if_pos ho]
      · rw [if_neg ho, if_neg (Bool.eq_false_iff.mp hf), if_pos hl]
  · rw [exec_queuePush, if_neg ho, if_pos hf]
    rfl
  · rw [exec_queuePush, if_neg ho, if_neg (Bool.eq_false_iff.mp hf), if_neg (Nat.not_le_of_lt hl)]
    exact congrArg Host.Outcome.next (if_neg h0)
  · rw [exec_queuePush, if_neg ho, if_neg (Bool.eq_false_iff.mp hf), if_neg (Nat.not_le_of_lt hl)]
    exact congrArg Host.Outcome.next (if_pos h0)
  · rw [exec_channelDoorbell, if_pos ⟨h0, hi⟩, if_neg (Bool.eq_false_iff.mp hb)]
  · rw [exec_channelDoorbell]
    by_cases hc : s.chState c = 0 ∧ s.flag (F.DMX_CHSTAT_CHIDLE c) = true
    · rw [if_pos hc, if_pos]
      exact (h.resolve_left (not_not_intro hc.1)).resolve_left (by rw [hc.2]; decide)
    · rw [if_neg hc]
  · rw [exec_channelResume, if_pos he]
  · rw [exec_channelAbort, if_pos he]
  · rw [exec_channelAbort, if_neg (Bool.eq_false_iff.mp he), if_pos h2]
  · rw [exec_channelResume, if_neg (Bool.eq_false_iff.mp he), if_pos h2, if_neg ho]
    rfl
  · rw [exec_channelResume, if_neg (Bool.eq_false_iff.mp he), if_pos h2, if_pos ho]
    rfl
  · rw [exec_channelAbort_running he h1, State.mostMoved_of_copy ho]
    rfl
  · rw [exec_channelAbort_running he h1, State.mostMoved_of_frame ho hr]
    rfl
  · rw [exec_channelAbort_running he h1, State.mostMoved_of_none ho hr, Nat.zero_add, Nat.mod_one]
    rfl
  · rw [exec_channelAbort, if_neg (Bool.eq_false_iff.mp he), if_neg h2, if_neg h1]
  · rw [exec_channelResume, if_neg (Bool.eq_false_iff.mp he), if_neg h2]
  · exact hend (State.endDesc_of_idle h1)
  · exact exec_busError_idle addr w n h1
  · exact exec_busError_halts addr w n h1 ho
  · exact hend ((State.endDesc_of_receive h1 hk ho).trans (State.endReceive_of_none hr))
  · exact hend ((State.endDesc_of_receive h1 hk ho).trans (State.endReceive_of_some hr))

end Sys2Proof.Machine

/-!
PROOFS. The vault's requests: their statuses, the key slots, and what keys serve (R366 to R378).
-/
namespace Sys2Proof.Machine

/-! ## Every request passes the same tests (R369, R371, R378) -/

section
variable {s : State} {h : Hdr} (op : Nat) (act : State → State)

theorem State.vltTake_manager (hi : s.inTurn 0xD h = true) (h0 : h.src = 0) : s.vltTake op h act = act (s.took 0xD h) :=
  (State.receive_inTurn _ hi).trans (if_neg (not_not_intro h0))

theorem State.vltTake_foreign (hi : s.inTurn 0xD h = true) (h0 : h.src ≠ 0) : s.vltTake op h act =
    (((s.took 0xD h).count F.VLT_CNT2_REFUSED).put F.VLT_LAST_OP op).put F.VLT_LAST_STATUS 0 :=
  (State.receive_inTurn _ hi).trans (if_pos h0)

theorem State.vltServe_badLength : s.vltServe op h false act = s.vltReply op h 0x02 [] := rfl

theorem State.vltServe_testing (ht : s.flag F.VLT_STATUS_TESTING = true) : s.vltServe op h true act = s.vltReply op h 0x0B [] :=
  if_pos ht

theorem State.vltServe_failed (ht : s.flag F.VLT_STATUS_TESTING = false)
    (hf : s.flag F.VLT_STATUS_FAIL = true ∨ s.flag F.VLT_STATUS_ROOT = false) : s.vltServe op h true act = s.vltReply op h 0x0D [] :=
  (if_neg (Bool.eq_false_iff.mp ht)).trans (if_pos (by rw [Bool.or_eq_true, Bool.not_eq_true']; exact hf))

/-- A vault that serves: no self-test in progress, not failed, with a root. -/
def State.vaultServes (s : State) : Prop :=
  s.flag F.VLT_STATUS_TESTING = false ∧ s.flag F.VLT_STATUS_FAIL = false ∧ s.flag F.VLT_STATUS_ROOT = true

theorem State.vltServe_done (hv : s.vaultServes) : s.vltServe op h true act = act s := by
  obtain ⟨ht, hf, hr⟩ := hv
  exact (if_neg (Bool.eq_false_iff.mp ht)).trans (if_neg (by rw [hf, hr]; exact Bool.false_ne_true))

/-- A request in its turn, of the manager, at a vault that serves. -/
theorem State.vltRequest_done {ok : Bool} (hi : s.inTurn 0xD h = true) (h0 : h.src = 0) (hv : (s.took 0xD h).vaultServes) (hok : ok = true) :
    s.vltRequest op h ok act = act (s.took 0xD h) := by
  rw [hok]
  exact (State.vltTake_manager op _ hi h0).trans (State.vltServe_done op act hv)

end

/-- Settles O56. -/
theorem vaultRequestsAreAnswered : Obligations.VaultRequestsAreAnswered := by
  unfold Obligations.VaultRequestsAreAnswered
  intro s op h ok act hi a
  have htake : h.src = 0 → s.vltRequest op h ok act = a.vltServe op h ok act := State.vltTake_manager op _ hi
  refine ⟨State.vltTake_foreign op _ hi, fun h0 hk => ?_, fun h0 hk ht => ?_, fun h0 hk ht hf => ?_, fun h0 hk ht hf hr => ?_, fun h0 st res => ?_⟩
  · rw [htake h0, hk]
    exact State.vltServe_badLength op act
  · rw [htake h0, hk]
    exact State.vltServe_testing op act ht
  · rw [htake h0, hk]
    exact State.vltServe_failed op act ht hf
  · rw [htake h0, hk]
    exact State.vltServe_done op act ⟨ht, hf, hr⟩
  · rw [State.vltReply, replyMsg, h0]

/-! ## A request for a new candidate (R372, R379) -/

theorem State.vltCand_served {s : State} {h : Hdr} {slot : Nat} {ok : Bool} (op : Nat) (act : State → State) (hi : s.inTurn 0xD h = true)
    (h0 : h.src = 0) (hs : slot < 256) (hv : (s.took 0xD h).vaultServes) :
    s.vltCand op h slot ok act = if ok then act ((s.took 0xD h).setCand slot none) else ((s.took 0xD h).setCand slot none).vltReply op h 0x02 [] := by
  have hv' : ((s.took 0xD h).setCand slot none).vaultServes := hv
  refine (State.vltTake_manager op _ hi h0).trans ?_
  rw [if_pos hs, decide_eq_true hs, Bool.true_and]
  cases ok with
  | false => exact State.vltServe_badLength op act
  | true => exact State.vltServe_done op act hv'

/-- An import that passes the tests of its form. -/
def State.vltImport (s : State) (h : Hdr) (slot w use alg : Nat) (att : Bool) (kcv wr : Bytes) : State :=
  let st := keyStatus (s.akey w) useWrap false [0]
  if st ≠ 0 then s.vltReply 0x0002 h st []
  else if attrStatus use alg ≠ 0 then s.vltReply 0x0002 h (attrStatus use alg) []
  else match Config.kwUnwrap (s.keyBytes w) wr with
    | none => s.vltReply 0x0002 h 0x06 []
    | some k =>
      let key := beBytes 32 k.toNat
      if kcvOf key ≠ kcv then ((s.count F.VLT_CNT_KCVERR).raise 0x1403 slot).vltReply 0x0002 h 0x07 []
      else (s.setCand slot (some { key := key, alg := alg, use := use, att := att, kcv := kcv })).vltReply 0x0002 h 0x00 []

section
variable {s : State} {h : Hdr} {slot w use alg : Nat} {att : Bool} {kcv wr : Bytes}

theorem exec_importKey (s : State) (h : Hdr) (slot w use alg : Nat) (att : Bool) (kcv wr : Bytes) :
    exec (.importKey h slot w use alg att kcv wr) s = .next (s.vltCand 0x0002 h slot (decide (w < 256) && kcv.length == 3 && wr.length == 40)
      (fun s => s.vltImport h slot w use alg att kcv wr)) := rfl

theorem State.vltImport_noKey (hk : keyStatus (s.akey w) useWrap false [0] ≠ 0) :
    s.vltImport h slot w use alg att kcv wr = s.vltReply 2 h (keyStatus (s.akey w) useWrap false [0]) [] := if_pos hk

variable (hk : keyStatus (s.akey w) useWrap false [0] = 0)

include hk in
theorem State.vltImport_badAttr (ha : attrStatus use alg ≠ 0) :
    s.vltImport h slot w use alg att kcv wr = s.vltReply 2 h (attrStatus use alg) [] := (if_neg (not_not_intro hk)).trans (if_pos ha)

variable (ha : attrStatus use alg = 0)

include hk ha in
theorem State.vltImport_spoiled (hu : Config.kwUnwrap (s.keyBytes w) wr = none) :
    s.vltImport h slot w use alg att kcv wr = s.vltReply 2 h 0x06 [] := by
  refine (if_neg (not_not_intro hk)).trans ((if_neg (not_not_intro ha)).trans ?_)
  rw [hu]

include hk ha in
theorem State.vltImport_unwrapped {k : BitVec 256} (hu : Config.kwUnwrap (s.keyBytes w) wr = some k) :
    s.vltImport h slot w use alg att kcv wr = if kcvOf (beBytes 32 k.toNat) ≠ kcv then
        ((s.count F.VLT_CNT_KCVERR).raise 0x1403 slot).vltReply 0x0002 h 0x07 []
      else (s.setCand slot (some { key := beBytes 32 k.toNat, alg := alg, use := use, att := att, kcv := kcv })).vltReply 0x0002 h 0x00 [] := by
  refine (if_neg (not_not_intro hk)).trans ((if_neg (not_not_intro ha)).trans ?_)
  rw [hu]

end

/-- A derivation that passes the tests of its form. -/
def State.vltDerive (s : State) (h : Hdr) (w slot use alg : Nat) (att : Bool) (salt info : Bytes) : State :=
  let st := keyStatus (s.akey w) useDerive false [0, 1]
  if st ≠ 0 then s.vltReply 0x0006 h st []
  else if w = slot then s.vltReply 0x0006 h 0x04 []
  else if attrStatus use alg ≠ 0 then s.vltReply 0x0006 h (attrStatus use alg) []
  else
    let key := hkdf (s.keyBytes w) salt info
    (s.setCand slot (some { key := key, alg := alg, use := use, att := att, kcv := kcvOf key })).vltReply 0x0006 h 0x00 (kcvOf key)

theorem exec_derive (s : State) (h : Hdr) (w slot use alg : Nat) (att : Bool) (salt info : Bytes) :
    exec (.derive h w slot use alg att salt info) s = .next (s.vltCand 0x0006 h slot
      (decide (w < 256) && decide (salt.length ≤ 64) && decide (1 ≤ info.length) && decide (info.length ≤ 128))
      (fun s => s.vltDerive h w slot use alg att salt info)) := rfl

/-! ## Commit, erase, key information (R373, R374, R370) -/

/-- A commit at a vault that serves. -/
def State.vltCommit (s : State) (h : Hdr) (slot : Nat) : State := match (s.kslot slot).cand with
  | none => s.vltReply 0x0003 h 0x08 []
  | some c => if s.imageKey slot then s.vltReply 0x0003 h 0x09 []
    else ((s.setKslot slot { s.kslot slot with active := some c, cand := none, commits := (s.kslot slot).commits + 1 }).raise 0x1402 slot).vltReply
      0x0003 h 0x00 []

theorem State.vltCommit_of_none {s : State} {h : Hdr} {slot : Nat} (hc : (s.kslot slot).cand = none) :
    s.vltCommit h slot = s.vltReply 3 h 0x08 [] := by
  unfold State.vltCommit
  rw [hc]

theorem State.vltCommit_of_some {s : State} {h : Hdr} {slot : Nat} {c : Key} (hc : (s.kslot slot).cand = some c) :
    s.vltCommit h slot = if s.imageKey slot then s.vltReply 3 h 0x09 []
      else ((s.setKslot slot { s.kslot slot with active := some c, cand := none, commits := (s.kslot slot).commits + 1 }).raise 0x1402 slot).vltReply
        3 h 0 [] := by
  unfold State.vltCommit
  rw [hc]

theorem exec_vaultCommit (s : State) (h : Hdr) (slot : Nat) :
    exec (.vaultCommit h slot) s = .next (s.vltRequest 0x0003 h (decide (slot < 256)) (fun s => s.vltCommit h slot)) := rfl

theorem exec_vaultCancel (s : State) (h : Hdr) (slot : Nat) : exec (.vaultCancel h slot) s =
    .next (s.vltRequest 0x0004 h (decide (slot < 256)) (fun s => (s.setCand slot none).vltReply 0x0004 h 0x00 [])) := rfl

theorem exec_erase (s : State) (h : Hdr) (slot : Nat) : exec (.erase h slot) s =
    .next (s.vltRequest 0x0005 h (decide (slot < 256)) (fun s =>
      if s.imageKey slot || s.templateKey slot || s.lastWrap slot then s.vltReply 0x0005 h 0x09 []
      else (s.setKslot slot { s.kslot slot with active := none, cand := none }).vltReply 0x0005 h 0x00 [])) := rfl

/-- The KCV of a half, zeros for none. -/
def shownKcv (k : Option Key) : Bytes := match k with
  | none => zeros 3
  | some x => x.kcv

theorem shownKcv_eq (k : Option Key) : shownKcv k = (k.map (fun x => x.kcv)).getD [0, 0, 0] := by
  cases k <;> rfl

/-- ALG, USE and ATTEST of a half, zeros for none. -/
def shownAttrs (k : Option Key) : Bytes := match k with
  | none => [0, 0, 0]
  | some x => [BitVec.ofNat 8 x.alg, BitVec.ofNat 8 x.use, BitVec.ofNat 8 (ofBool x.att)]

theorem exec_keyinfo (s : State) (h : Hdr) (slot : Nat) : exec (.keyinfo h slot) s =
    .next (s.vltRequest 0x0001 h (decide (slot < 256)) (fun s => s.vltReply 0x0001 h 0 (shownAttrs (s.kslot slot).active ++
      [BitVec.ofNat 8 (ofBool (s.kslot slot).active.isSome), BitVec.ofNat 8 (ofBool (s.kslot slot).cand.isSome)] ++
      shownKcv (s.kslot slot).active ++ shownKcv (s.kslot slot).cand ++ leBytes 4 (s.kslot slot).commits))) := rfl

/-- Settles O57. -/
theorem keySlotsChangeByCommit : Obligations.KeySlotsChangeByCommit := by
  unfold Obligations.KeySlotsChangeByCommit
  intro s h slot w use alg att kcv wr salt info hi h0 a ht hf hr hs hw b
  have hv : a.vaultServes := ⟨ht, hf, hr⟩
  have hserve : ∀ op (act : State → State), s.vltRequest op h (decide (slot < 256)) act = act a := fun op act =>
    State.vltRequest_done op act hi h0 hv (decide_eq_true hs)
  have hcand : ∀ op ok (act : State → State), s.vltCand op h slot ok act = if ok then act b else b.vltReply op h 0x02 [] := fun op ok act =>
    State.vltCand_served op act hi h0 hs hv
  have himport : kcv.length = 3 → wr.length = 40 →
      exec (.importKey h slot w use alg att kcv wr) s = .next (b.vltImport h slot w use alg att kcv wr) := fun hk hl => by
    rw [exec_importKey, hcand, decide_eq_true hw, hk, hl]
    rfl
  have hderive : salt.length ≤ 64 → 1 ≤ info.length → info.length ≤ 128 →
      exec (.derive h w slot use alg att salt info) s = .next (b.vltDerive h w slot use alg att salt info) := fun h1 h2 h3 => by
    rw [exec_derive, hcand, decide_eq_true hw, decide_eq_true h1, decide_eq_true h2, decide_eq_true h3]
    rfl
  refine ⟨fun hk hl => ⟨fun hn => ?_, fun hn ha hu => ?_, fun hn ha => ?_, fun k hn ha hu => ⟨fun hc => ?_, fun hc => ?_⟩⟩, fun hl => ?_,
    fun h1 h2 h3 hn hne ha => ?_, fun h1 h2 h3 => ⟨fun hn => ?_, fun hn he => ?_, fun hn hne ha => ?_⟩, fun hl => ?_, fun hc => ?_,
    fun c hc => ⟨fun him => ?_, fun him => ?_⟩, ?_, fun hu => ?_, fun hu => ?_, ?_, ?_⟩
  -- IMPORT
  · rw [himport hk hl, State.vltImport_noKey hn]
  · rw [himport hk hl, State.vltImport_spoiled hn ha hu]
  · rw [himport hk hl, State.vltImport_badAttr hn ha]
  · rw [himport hk hl, State.vltImport_unwrapped hn ha hu, if_neg (not_not_intro hc)]
  · rw [himport hk hl, State.vltImport_unwrapped hn ha hu, if_pos hc]
  · rw [exec_importKey, hcand, if_neg]
    simp only [Bool.and_eq_true, beq_iff_eq]
    rintro ⟨⟨-, hk⟩, hr⟩
    exact hl.elim (fun h => h hk) (fun h => h hr)
  -- DERIVE
  · rw [hderive h1 h2 h3]
    exact congrArg Host.Outcome.next ((if_neg (not_not_intro hn)).trans ((if_neg hne).trans (if_neg (not_not_intro ha))))
  · rw [hderive h1 h2 h3]
    exact congrArg Host.Outcome.next (if_pos hn)
  · rw [hderive h1 h2 h3]
    exact congrArg Host.Outcome.next ((if_neg (not_not_intro hn)).trans (if_pos he))
  · rw [hderive h1 h2 h3]
    exact congrArg Host.Outcome.next ((if_neg (not_not_intro hn)).trans ((if_neg hne).trans (if_pos ha)))
  · rw [exec_derive, hcand, if_neg]
    simp only [Bool.and_eq_true, decide_eq_true_iff]
    rintro ⟨⟨⟨-, h1⟩, h2⟩, h3⟩
    rcases hl with hl | rfl | hl
    · omega
    · exact absurd h2 (by decide)
    · omega
  -- COMMIT, CANCEL, ERASE
  · rw [exec_vaultCommit, hserve, State.vltCommit_of_none hc]
  · rw [exec_vaultCommit, hserve, State.vltCommit_of_some hc, if_pos him]
  · rw [exec_vaultCommit, hserve, State.vltCommit_of_some hc, if_neg (Bool.eq_false_iff.mp him)]
  · rw [exec_vaultCancel, hserve]
  · rw [exec_erase, hserve, if_pos hu]
  · rw [exec_erase, hserve, if_neg (Bool.eq_false_iff.mp hu)]
  -- KEYINFO and SELFTEST
  · rw [exec_keyinfo, hserve, shownKcv_eq, shownKcv_eq]
    rfl
  · exact congrArg Host.Outcome.next (State.vltRequest_done _ _ hi h0 hv rfl)

end Sys2Proof.Machine

/-!
PROOFS. What keys serve: MAC, VERIFY, ENCRYPT, DECRYPT, ATTEST; anchors; the end of a self-test (R367, R370, R375, R377, R378).
-/
namespace Sys2Proof.Machine

/-! ## The use of a key (R367) -/

theorem keyStatus_served {k : Key} {use : Nat} {att : Bool} {algs : List Nat} (hu : k.use = use) (ha : k.att = att) (hl : k.alg ∈ algs) :
    keyStatus (some k) use att algs = 0 :=
  (if_neg (by rw [hu, ha]; exact fun h => h.elim (fun h => h rfl) (fun h => h rfl))).trans
    (if_neg (by rw [List.contains_iff_mem.mpr hl]; exact Bool.false_ne_true))

theorem alg_mem_both {n : Nat} (h : n ≤ 1) : n ∈ [0, 1] := by
  obtain rfl | rfl := Nat.le_one_iff_eq_zero_or_eq_one.mp h <;> decide

theorem State.keyBytes_of_key {s : State} {i : Nat} {k : Key} (h : s.akey i = some k) : s.keyBytes i = k.key := by
  unfold State.keyBytes
  rw [h]

/-! ## MAC and VERIFY (R370) -/

/-- A MAC request at a vault that serves. -/
def State.vltMac (s : State) (h : Hdr) (slot : Nat) (iv d : Bytes) : State :=
  let st := keyStatus (s.akey slot) useEncrypt false [0, 1]
  match s.akey slot with
  | none => s.vltReply 0x0007 h st []
  | some k => if st ≠ 0 then s.vltReply 0x0007 h st [] else s.vltReply 0x0007 h 0x00 (macOf k iv d)

theorem exec_mac (s : State) (h : Hdr) (slot : Nat) (iv d : Bytes) : exec (.mac h slot iv d) s = .next (s.vltRequest 0x0007 h
    (decide (slot < 256) && iv.length == 12 && decide (1 ≤ d.length) && decide (d.length ≤ 1984)) (fun s => s.vltMac h slot iv d)) := rfl

/-- A VERIFY request at a vault that serves. -/
def State.vltVerify (s : State) (h : Hdr) (slot : Nat) (iv dt : Bytes) : State :=
  let st := keyStatus (s.akey slot) useDecrypt false [0, 1]
  match s.akey slot with
  | none => s.vltReply 0x0008 h st []
  | some k =>
    let n := if k.alg = 1 then 32 else 16
    let d := dt.take (dt.length - n)
    if st ≠ 0 then s.vltReply 0x0008 h st []
    else if d.length = 0 ∨ 1984 < d.length then s.vltReply 0x0008 h 0x02 []
    else if macOf k iv d = dt.drop (dt.length - n) then s.vltReply 0x0008 h 0x00 []
    else s.vltReply 0x0008 h 0x0A []

theorem exec_verify (s : State) (h : Hdr) (slot : Nat) (iv dt : Bytes) : exec (.verify h slot iv dt) s = .next (s.vltRequest 0x0008 h
    (decide (slot < 256) && iv.length == 12) (fun s => s.vltVerify h slot iv dt)) := rfl

section
variable {s : State} {h : Hdr} {slot : Nat} {iv d tag : Bytes} {k : Key}

theorem State.vltMac_refused (hs : keyStatus (s.akey slot) useEncrypt false [0, 1] ≠ 0) :
    s.vltMac h slot iv d = s.vltReply 7 h (keyStatus (s.akey slot) useEncrypt false [0, 1]) [] := by
  unfold State.vltMac
  cases hk : s.akey slot with
  | none => rfl
  | some k => exact if_pos (by rw [← hk]; exact hs)

theorem State.vltMac_served (hk : s.akey slot = some k) (hs : keyStatus (some k) useEncrypt false [0, 1] = 0) :
    s.vltMac h slot iv d = s.vltReply 7 h 0 (macOf k iv d) := by
  unfold State.vltMac
  rw [hk]
  exact if_neg (not_not_intro hs)

theorem State.vltVerify_refused (hs : keyStatus (s.akey slot) useDecrypt false [0, 1] ≠ 0) :
    s.vltVerify h slot iv d = s.vltReply 8 h (keyStatus (s.akey slot) useDecrypt false [0, 1]) [] := by
  unfold State.vltVerify
  cases hk : s.akey slot with
  | none => rfl
  | some k => exact if_pos (by rw [← hk]; exact hs)

theorem State.vltVerify_served (hk : s.akey slot = some k) (hs : keyStatus (some k) useDecrypt false [0, 1] = 0) (h1 : 1 ≤ d.length)
    (h2 : d.length ≤ 1984) (ht : tag.length = if k.alg = 1 then 32 else 16) : s.vltVerify h slot iv (d ++ tag) =
      if macOf k iv d = tag then s.vltReply 8 h 0 [] else s.vltReply 8 h 0x0A [] := by
  have hn : (d ++ tag).length - (if k.alg = 1 then 32 else 16) = d.length := by rw [List.length_append, ← ht, Nat.add_sub_cancel]
  unfold State.vltVerify
  rw [hk]
  dsimp only
  rw [hn, List.take_left, List.drop_left, if_neg (not_not_intro hs), if_neg (by omega)]

end

/-! ## ENCRYPT and DECRYPT (R370, R377) -/

/-- An ENCRYPT request at a vault that serves. -/
def State.vltEncrypt (s : State) (h : Hdr) (slot : Nat) (aad d : Bytes) : State :=
  let st := keyStatus (s.akey slot) useEncrypt false [0]
  if st ≠ 0 then s.vltReply 0x0009 h st []
  else
    let k := s.kslot slot
    let iv := encryptIv slot k.inv
    let c := gcmCrypt (s.keyBytes slot) iv d
    (s.setKslot slot { k with inv := (k.inv + 1) % 2 ^ 64 }).vltReply 0x0009 h 0x00 (iv ++ c ++ gcmTag (s.keyBytes slot) iv aad c)

theorem exec_encrypt (s : State) (h : Hdr) (slot : Nat) (aad d : Bytes) : exec (.encrypt h slot aad d) s = .next (s.vltRequest 0x0009 h
    (decide (slot < 256) && decide (aad.length + d.length ≤ 1900)) (fun s => s.vltEncrypt h slot aad d)) := rfl

/-- A DECRYPT request at a vault that serves. -/
def State.vltDecrypt (s : State) (h : Hdr) (slot : Nat) (iv aad d tag : Bytes) : State :=
  let st := keyStatus (s.akey slot) useDecrypt false [0]
  if st ≠ 0 then s.vltReply 0x000A h st []
  else if gcmTag (s.keyBytes slot) iv aad d = tag then s.vltReply 0x000A h 0x00 (gcmCrypt (s.keyBytes slot) iv d)
  else s.vltReply 0x000A h 0x0A []

theorem exec_decrypt (s : State) (h : Hdr) (slot : Nat) (iv aad d tag : Bytes) : exec (.decrypt h slot iv aad d tag) s =
    .next (s.vltRequest 0x000A h (decide (slot < 256) && iv.length == 12 && tag.length == 16 && decide (18 + aad.length + d.length + 16 ≤ 2048))
      (fun s => s.vltDecrypt h slot iv aad d tag)) := rfl

theorem beBytes_injective {n x y : Nat} (hx : x < 256 ^ n) (hy : y < 256 ^ n) (h : beBytes n x = beBytes n y) : x = y := by
  have hnum := congrArg leNat (List.reverse_injective h)
  rwa [leNat_leBytes, leNat_leBytes, Nat.mod_eq_of_lt hx, Nat.mod_eq_of_lt hy] at hnum

/-- Two invocations of two slots never share an IV. -/
theorem encryptIv_injective {i j x y : Nat} (hi : i < 256) (hj : j < 256) (hx : x < 2 ^ 64) (hy : y < 2 ^ 64)
    (h : encryptIv i x = encryptIv j y) : i = j ∧ x = y := by
  obtain ⟨hslot, hinv⟩ := List.append_inj h rfl
  have hnum := congrArg BitVec.toNat (List.cons.inj hslot).1
  rw [BitVec.toNat_ofNat, BitVec.toNat_ofNat, Nat.mod_eq_of_lt hi, Nat.mod_eq_of_lt hj] at hnum
  exact ⟨hnum, beBytes_injective hx hy hinv⟩

/-! ## ATTEST and ANCHOR (R375) -/

theorem exec_attest (s : State) (h : Hdr) (slot : Nat) (nonce : Bytes) : exec (.attest h slot nonce) s = .next (s.vltRequest 0x000C h
    (decide (slot < 256) && nonce.length == 16) (fun s => if keyStatus (s.akey slot) useEncrypt true [1] ≠ 0 then
        s.vltReply 0x000C h (keyStatus (s.akey slot) useEncrypt true [1]) []
      else s.vltReply 0x000C h 0x00 (s.attestBody nonce ++ hmac256 (s.keyBytes slot) (s.attestBody nonce)))) := rfl

/-- An anchor that is written. -/
def State.anchorWritten (s : State) (h : Hdr) (idx : Nat) (key : Bytes) : State :=
  (s.setVlt { s.vlt with anchors := Sp.put [] s.vlt.anchors idx key }).vltReply 0x000B h 0x00 []

/-- An ANCHOR request at a vault that serves. -/
def State.vltAnchor (s : State) (h : Hdr) (idx : Nat) (key sig : Bytes) : State := match s.anchor idx with
  | none => s.anchorWritten h idx key
  | some old =>
    if sig = [] then s.vltReply 0x000B h 0x0C []
    else if Config.ecdsaOk old (sha256 ([BitVec.ofNat 8 idx] ++ key)) sig then s.anchorWritten h idx key
    else s.vltReply 0x000B h 0x0A []

theorem exec_anchor (s : State) (h : Hdr) (idx : Nat) (key sig : Bytes) : exec (.anchor h idx key sig) s = .next (s.vltRequest 0x000B h
    (decide (idx < 16) && key.length == 64 && (sig.length == 0 || sig.length == 64)) (fun s => s.vltAnchor h idx key sig)) := rfl

theorem State.vltAnchor_of_none {s : State} {h : Hdr} {idx : Nat} {key sig : Bytes} (ha : s.anchor idx = none) :
    s.vltAnchor h idx key sig = s.anchorWritten h idx key := by
  unfold State.vltAnchor
  rw [ha]

theorem State.vltAnchor_of_some {s : State} {h : Hdr} {idx : Nat} {key sig old : Bytes} (ha : s.anchor idx = some old) :
    s.vltAnchor h idx key sig = if sig = [] then s.vltReply 0x000B h 0x0C []
      else if Config.ecdsaOk old (sha256 ([BitVec.ofNat 8 idx] ++ key)) sig then s.anchorWritten h idx key
      else s.vltReply 0x000B h 0x0A [] := by
  unfold State.vltAnchor
  rw [ha]

/-! ## The end of a self-test (R378) -/

/-- The reply to SELFTEST. -/
def selftestReply (tag : Word) (first : Nat) : Msg :=
  { cls := 0xD, last := true, reply := true, err := false, src := 0x40, tgt := 0, op := 0x000D, tag := tag,
    payload := [0, 0, 0, 0, BitVec.ofNat 8 first] }

/-- The vault is tested no more. -/
def State.tested (s : State) : State := (s.put F.VLT_STATUS_TESTING 0).setVlt { s.vlt with testing := none }

theorem exec_selftestComplete_idle {s : State} (n : Nat) (bad : List Nat) (h : s.vlt.testing = none) :
    exec (.selftestComplete n bad) s = .next s := by
  change execSelftestComplete n bad s = _
  unfold execSelftestComplete
  rw [h]

theorem exec_selftestComplete_testing {s : State} {tag : Word} (n : Nat) (bad : List Nat) (h : s.vlt.testing = some tag) :
    exec (.selftestComplete n bad) s = .next (((if 2 ≤ n ∧ n ≤ 9 then s.tested.vltStopping n else s.tested).emptyDamaged bad).send
      (selftestReply tag (firstFailing n bad))) := by
  change execSelftestComplete n bad s = _
  unfold execSelftestComplete
  rw [h]
  rfl

/-- Settles O58. -/
theorem keysServeTheirUse : Obligations.KeysServeTheirUse := by
  unfold Obligations.KeysServeTheirUse
  intro s h slot idx n iv d tag aad sig key nonce k bad hi h0 a ht hf hr hs hiv
  have hv : a.vaultServes := ⟨ht, hf, hr⟩
  have hserve : ∀ op ok (act : State → State), ok = true → s.vltRequest op h ok act = act a := fun op ok act =>
    State.vltRequest_done op act hi h0 hv
  have hmac : 1 ≤ d.length → d.length ≤ 1984 → exec (.mac h slot iv d) s = .next (a.vltMac h slot iv d) := fun h1 h2 => by
    rw [exec_mac, hserve]
    rw [decide_eq_true hs, hiv, decide_eq_true h1, decide_eq_true h2]
    rfl
  have hverify : ∀ x, exec (.verify h slot iv x) s = .next (a.vltVerify h slot iv x) := fun x => by
    rw [exec_verify, hserve]
    rw [decide_eq_true hs, hiv]
    rfl
  have hencrypt : aad.length + d.length ≤ 1900 → exec (.encrypt h slot aad d) s = .next (a.vltEncrypt h slot aad d) := fun hl => by
    rw [exec_encrypt, hserve]
    rw [decide_eq_true hs, decide_eq_true hl]
    rfl
  have hdecrypt : tag.length = 16 → aad.length + d.length ≤ 2014 →
      exec (.decrypt h slot iv aad d tag) s = .next (a.vltDecrypt h slot iv aad d tag) := fun htag hl => by
    rw [exec_decrypt, hserve]
    rw [decide_eq_true hs, hiv, htag, decide_eq_true (show 18 + aad.length + d.length + 16 ≤ 2048 by omega)]
    rfl
  refine ⟨fun hk hu ha hl h1 h2 => ?_, fun hst h1 h2 => ?_, fun hst => ?_, fun hst hl => ?_, fun hst htag hl => ?_, fun hst hn => ?_,
    fun hk hu ha hl h1 h2 htag => ⟨fun hm => ?_, fun hm => ?_⟩, fun hk hu ha hl hlen => ?_, fun i j x y => encryptIv_injective,
    fun hk hu ha hl htag hlen => ⟨fun hg => ?_, fun hg => ?_⟩, fun hk hu ha hl hn => ?_,
    fun hidx hkey hsig => ?_, exec_selftestComplete_idle n bad, fun g hg => ⟨fun hn => ⟨?_, fun hb => ?_⟩, fun h2 h9 => ?_⟩⟩
  -- refused and served
  · rw [hmac h1 h2, State.vltMac_served hk (keyStatus_served hu ha (alg_mem_both hl))]
  · rw [hmac h1 h2, State.vltMac_refused hst]
  · rw [hverify, State.vltVerify_refused hst]
  · rw [hencrypt hl]
    exact congrArg Host.Outcome.next (if_pos hst)
  · rw [hdecrypt htag hl]
    exact congrArg Host.Outcome.next (if_pos hst)
  · rw [exec_attest, hserve _ _ _ (by rw [decide_eq_true hs, hn]; rfl), if_pos hst]
  · rw [hverify, State.vltVerify_served hk (keyStatus_served hu ha (alg_mem_both hl)) h1 h2 htag, if_pos hm]
  · rw [hverify, State.vltVerify_served hk (keyStatus_served hu ha (alg_mem_both hl)) h1 h2 htag, if_neg hm]
  · have hst : keyStatus (a.akey slot) useEncrypt false [0] = 0 := by
      rw [hk, keyStatus_served hu ha (by rw [hl]; decide)]
    rw [hencrypt hlen, ← State.keyBytes_of_key hk]
    exact congrArg Host.Outcome.next (if_neg (not_not_intro hst))
  · have hst : keyStatus (a.akey slot) useDecrypt false [0] = 0 := by
      rw [hk, keyStatus_served hu ha (by rw [hl]; decide)]
    rw [hdecrypt htag hlen, ← State.keyBytes_of_key hk]
    rw [← State.keyBytes_of_key hk] at hg
    exact congrArg Host.Outcome.next ((if_neg (not_not_intro hst)).trans (if_pos hg))
  · have hst : keyStatus (a.akey slot) useDecrypt false [0] = 0 := by
      rw [hk, keyStatus_served hu ha (by rw [hl]; decide)]
    rw [hdecrypt htag hlen]
    rw [← State.keyBytes_of_key hk] at hg
    exact congrArg Host.Outcome.next ((if_neg (not_not_intro hst)).trans (if_neg hg))
  · have hst : keyStatus (a.akey slot) useEncrypt true [1] = 0 := by
      rw [hk, keyStatus_served hu ha (by rw [hl]; decide)]
    rw [exec_attest, hserve _ _ _ (by rw [decide_eq_true hs, hn]; rfl), if_neg (not_not_intro hst), State.keyBytes_of_key hk]
  -- the anchor
  · have hok : (decide (idx < 16) && key.length == 64 && (sig.length == 0 || sig.length == 64)) = true := by
      rw [decide_eq_true hidx, hkey]
      rcases hsig with hsig | hsig <;> rw [hsig] <;> rfl
    have hrun : exec (.anchor h idx key sig) s = .next (a.vltAnchor h idx key sig) := by rw [exec_anchor, hserve _ _ _ hok]
    rw [hrun]
    refine ⟨fun hn => ?_, fun old ho => ⟨fun he => ?_, fun hne hok => ?_, fun hne hok => ?_⟩⟩
    · rw [State.vltAnchor_of_none hn]
      rfl
    · rw [State.vltAnchor_of_some ho, if_pos he]
    · rw [State.vltAnchor_of_some ho, if_neg hne, if_pos hok]
      rfl
    · rw [State.vltAnchor_of_some ho, if_neg hne, if_neg (Bool.eq_false_iff.mp hok)]
  -- the end of a self-test
  · rw [exec_selftestComplete_testing n [] hg, if_neg (by omega), firstFailing, if_neg (by omega), if_pos rfl]
    rfl
  · rw [exec_selftestComplete_testing n bad hg, if_neg (by omega), firstFailing, if_neg (by omega), if_neg hb]
    rfl
  · rw [exec_selftestComplete_testing n bad hg, if_pos ⟨h2, h9⟩, firstFailing, if_pos ⟨h2, h9⟩]
    rfl

end Sys2Proof.Machine

/-!
PROOFS. Renewal, expiry, take and release of a token (R382, R386 to R390, R398).
-/
namespace Sys2Proof.Machine

/-! ## The commands at the present time -/

theorem exec_catchupRenewal (t : Nat) (s : State) : exec (.catchupRenewal t) s =
    .next (if (s.advance t).redundant ∧ (s.advance t).tok.renewAt + (s.advance t).leaseNs / 4 ≤ (s.advance t).now then
      (s.advance t).reportRed (fun s => s.renew.count F.TOK_CNT2_CATCHUP) else s.advance t) := rfl

/-- The lease of position `p` is over: the token is lost, and no frame has been heard yet. -/
def State.leaseOver (s : State) (p : Nat) : State :=
  let s := (s.loseToken p).count F.TOK_CNT_EXPIRIES
  (s.put F.TOK_STATUS_HEARD 0).setTok { s.tok with heardAt := none }

theorem exec_leaseExpiry_held {t p e : Nat} {s : State} (hp : (s.advance t).heldPos = some p) (he : (s.advance t).tok.lease = some e) :
    exec (.leaseExpiry t) s =
      .next (if (s.advance t).now < e then s.advance t else (s.advance t).reportRed (fun s => s.leaseOver p)) := by
  change execLeaseExpiry t s = _
  unfold execLeaseExpiry
  dsimp only
  rw [hp, he]
  rfl

theorem exec_leaseExpiry_standby {t : Nat} {s : State} (hp : (s.advance t).heldPos = none) : exec (.leaseExpiry t) s = .next (s.advance t) := by
  change execLeaseExpiry t s = _
  unfold execLeaseExpiry
  dsimp only
  rw [hp]

theorem exec_tokenTake (pos t : Nat) (renewal : Bool) (s : State) : exec (.tokenTake pos t renewal) s =
    .next (if (s.advance t).mayTake pos && !renewal then (s.advance t).reportRed (fun s => s.takeToken pos) else s.advance t) := rfl

theorem exec_take (key pos t : Nat) (s : State) :
    exec (.take key pos t) s = .next (if key = 0x5A3C then (s.advance t).takeCmd pos else s.advance t) := rfl

theorem exec_release (key t : Nat) (s : State) :
    exec (.release key t) s = .next (if key = 0x5A3C then (s.advance t).releaseCmd else s.advance t) := rfl

/-! ## Who may take (R388, R390) -/

/-- A module that may take a position holds none, and has not heard the position's holder for LEASE + GUARD. -/
theorem State.mayTake_heard {s : State} {pos x : Nat} (h : s.mayTake pos = true) (hx : (s.pos pos).heardAt = some x) :
    s.heldPos = none ∧ s.takeNs ≤ s.now - x := by
  unfold State.mayTake at h
  rw [hx, Bool.and_eq_true, Bool.and_eq_true, Bool.and_eq_true] at h
  obtain ⟨⟨⟨-, hheld⟩, -⟩, htime⟩ := h
  exact ⟨Option.isNone_iff_eq_none.mp hheld, of_decide_eq_true htime⟩

theorem State.takeCmd_refused {s : State} {pos : Nat} (h : s.posOk pos = false ∨ s.heldPos.isSome = true ∨ s.recentRenewal pos = true) :
    s.takeCmd pos = s.count F.TOK_CNT4_CMDREF :=
  if_pos (by rw [Bool.or_eq_true, Bool.or_eq_true, Bool.not_eq_true', or_assoc]; exact h)

theorem State.takeCmd_done {s : State} {pos : Nat} (hk : s.posOk pos = true) (hp : s.heldPos = none) (hr : s.recentRenewal pos = false) :
    s.takeCmd pos = s.reportRed (fun s => s.takeToken pos) :=
  if_neg (by rw [hk, hp, hr]; exact Bool.false_ne_true)

theorem State.releaseCmd_of_none {s : State} (hp : s.heldPos = none) : s.releaseCmd = s.count F.TOK_CNT4_CMDREF := by
  unfold State.releaseCmd
  rw [hp]

theorem State.releaseCmd_of_held {s : State} {p : Nat} (hp : s.heldPos = some p) : s.releaseCmd = s.reportRed (fun s => s.loseToken p) := by
  unfold State.releaseCmd
  rw [hp]

/-- Settles O59. -/
theorem tokensAreTakenAndLost : Obligations.TokensAreTakenAndLost := by
  unfold Obligations.TokensAreTakenAndLost
  intro s key pos t a
  refine ⟨fun hr hd => ?_, fun h => ?_, fun p e hp he => ⟨fun hn => ?_, fun hn => ?_⟩, exec_leaseExpiry_standby, fun hm => ?_, fun renewal h => ?_,
    fun x => State.mayTake_heard, fun hk => ⟨?_, ?_⟩, fun h => ?_, fun hk hp hr => ?_, fun hp => ?_, fun p hp => ?_⟩
  · rw [exec_catchupRenewal, if_pos ⟨hr, hd⟩]
  · rw [exec_catchupRenewal, if_neg]
    rintro ⟨hr, hd⟩
    exact h.elim (fun h => Bool.false_ne_true (h.symm.trans hr)) (fun h => Nat.not_le_of_lt h hd)
  · rw [exec_leaseExpiry_held hp he, if_pos hn]
  · rw [exec_leaseExpiry_held hp he, if_neg (Nat.not_lt_of_le hn)]
    rfl
  · rw [exec_tokenTake, if_pos (by rw [hm]; rfl)]
  · rw [exec_tokenTake, if_neg]
    rw [Bool.and_eq_true, Bool.not_eq_true']
    rintro ⟨hm, hr⟩
    exact h.elim (fun h => Bool.false_ne_true (hr.symm.trans h)) (fun h => Bool.false_ne_true (h.symm.trans hm))
  · rw [exec_take, if_neg hk]
  · rw [exec_release, if_neg hk]
  · rw [exec_take, if_pos rfl, State.takeCmd_refused h]
  · rw [exec_take, if_pos rfl, State.takeCmd_done hk hp hr]
  · rw [exec_release, if_pos rfl, State.releaseCmd_of_none hp]
  · rw [exec_release, if_pos rfl, State.releaseCmd_of_held hp]

end Sys2Proof.Machine

/-!
PROOFS. Pair-link frames, links and peers, checkpoints and RETAIN (R383, R384, R387, R391 to R393, R399).
-/
namespace Sys2Proof.Machine

/-! ## Pair-link frames (R383, R387) -/

theorem exec_renewFrame (tw : Nat) (h : PlHdr) (pos rseq ts : Nat) (rel : List (Nat × Nat)) (t : Nat) (s : State) :
    exec (.renewFrame tw h pos rseq ts rel t) s = .next ((s.advance t).plReceive tw 0x10 h (fun w =>
      let w := w.setTok { w.tok with maxTake := Nat.max w.tok.maxTake ts }
      let w := (List.zip [0, 1] rel).foldl (fun s e => s.heardRelay e.1 e.2) w
      if 1 < pos then w
      else ((w.heardRenewal pos rseq w.now).plSendOn tw 0x11 ([BitVec.ofNat 8 pos, 0, 0, 0] ++ beBytes 4 rseq)).conflict pos ts h.serial)) := rfl

theorem exec_acknowledgeFrame (tw : Nat) (h : PlHdr) (pos rseq t : Nat) (s : State) : exec (.acknowledgeFrame tw h pos rseq t) s =
    .next ((s.advance t).plReceive tw 0x11 h (fun w => if w.heldPos = some pos then w.acknowledged pos rseq else w)) := rfl

theorem exec_checkpointFrame (tw : Nat) (h : PlHdr) (i dh pe off tot : Nat) (img : Bytes) (t : Nat) (s : State) :
    exec (.checkpointFrame tw h i dh pe off tot img t) s = .next ((s.advance t).plReceive tw 0x12 h (fun w =>
      if w.streamFrom h then w.checkpointPart h i dh pe off tot img else w)) := rfl

theorem exec_retainFrame (tw : Nat) (h : PlHdr) (cyc first : Nat) (img : Bytes) (t : Nat) (s : State) :
    exec (.retainFrame tw h cyc first img t) s = .next ((s.advance t).plReceive tw 0x13 h (fun w =>
      if w.streamFrom h then w.retainLines cyc first img else w)) := rfl

theorem State.acknowledged_of_sent {s : State} {pos rseq e : Nat} {x : Nat × Nat} (hl : s.tok.lease = some e) (hn : s.now < e)
    (hx : (s.pos pos).sent.find? (fun y => y.1 == rseq) = some x) : s.acknowledged pos rseq =
      if x.2 + 2 * s.linklatNs < s.now then s.count F.TOK_CNT2_LATEACK
      else s.setTok { s.tok with lease := some (Nat.max e (x.2 + s.leaseNs)) } := by
  unfold State.acknowledged
  rw [hl]
  refine (if_neg (Nat.not_le_of_lt hn)).trans ?_
  rw [hx]

/-! ## Links and peers (R384) -/

/-- A pair link has been silent for LEASE / 2. -/
theorem State.pairSilent_iff (s : State) (tw : Nat) : s.pairSilent tw = true ↔
    ∀ x, (s.port (16 + tw)).heard = some x → s.leaseNs / 2 ≤ s.now - x := by
  unfold State.pairSilent
  cases (s.port (16 + tw)).heard with
  | none => simp
  | some x =>
    rw [decide_eq_true_iff]
    exact ⟨fun h y hy => Option.some.inj hy ▸ h, fun h => h x rfl⟩

theorem exec_pairLinkDown (tw t : Nat) (s : State) : exec (.pairLinkDown tw t) s =
    .next (if !(s.advance t).flag (F.PRT_STATUS_LINK (16 + tw)) || (s.advance t).pairSilent tw then (s.advance t).pairDown tw else s.advance t) := rfl

theorem State.pairDown_of_up {s : State} {tw : Nat} (hr : s.redundant = true) (hl : bit (s.get F.TOK_STATUS_LINKS) tw = true) :
    s.pairDown tw = s.reportRed (fun s => ((s.putBit F.TOK_STATUS_LINKS tw false).raise 0x1603 tw).count F.TOK_CNT3_LINKDN) :=
  if_pos (by rw [hr, hl]; rfl)

theorem State.pairDown_of_down {s : State} {tw : Nat} (h : s.redundant = false ∨ bit (s.get F.TOK_STATUS_LINKS) tw = false) :
    s.pairDown tw = s := by
  refine if_neg ?_
  rw [Bool.and_eq_true]
  rintro ⟨hr, hl⟩
  exact h.elim (fun h => Bool.false_ne_true (h.symm.trans hr)) (fun h => Bool.false_ne_true (h.symm.trans hl))

/-- The peers that one silent position stands for. -/
def State.peersGone (s : State) (p : Nat) : List Nat := if s.twinMode then [p] else [0, 1]

theorem exec_peerLost (p t : Nat) (s : State) : exec (.peerLost p t) s =
    .next (if (s.advance t).redundant && bit ((s.advance t).get F.TOK_STATUS_PEERS) p &&
        decide (Sp.get 0 (s.advance t).tok.peerAt p + (s.advance t).takeNs ≤ (s.advance t).now + 1) then
      (s.advance t).reportRed (fun s => (s.each (s.peersGone p) (fun s p => s.putBit F.TOK_STATUS_PEERS p false)).raise 0x1604 0)
    else s.advance t) := rfl

theorem exec_peerLost_silent {p t : Nat} {s : State} (hr : (s.advance t).redundant = true)
    (hb : bit ((s.advance t).get F.TOK_STATUS_PEERS) p = true)
    (hs : Sp.get 0 (s.advance t).tok.peerAt p + (s.advance t).takeNs ≤ (s.advance t).now + 1) : exec (.peerLost p t) s =
      .next ((s.advance t).reportRed (fun w => (w.each (w.peersGone p) (fun s p => s.putBit F.TOK_STATUS_PEERS p false)).raise 0x1604 0)) := by
  rw [exec_peerLost, if_pos (by rw [hr, hb, decide_eq_true hs]; rfl)]

theorem State.reportRed_congr {s : State} {f g : State → State} (h : f s = g s) : s.reportRed f = s.reportRed g :=
  congrArg (fun w : State => w.reportRedOf s) h

/-! ## Checkpoints and the RETAIN mirror (R391, R392) -/

theorem State.due20_iff (s : State) (last : Option Nat) : s.due20 last = true ↔ ∀ x, last = some x → x + 20000000 ≤ s.now := by
  unfold State.due20
  cases last with
  | none => simp
  | some x => simp

theorem State.due20_of_soon {s : State} {last : Option Nat} (h : ∃ x, last = some x ∧ s.now < x + 20000000) : s.due20 last = false := by
  obtain ⟨x, hx, hn⟩ := h
  exact Bool.eq_false_iff.mpr (fun hd => Nat.not_le_of_lt hn ((s.due20_iff last).mp hd x hx))

/-- The holder streams the newest snapshots. -/
def State.streamed (s : State) : State :=
  let u := s.setTok { s.tok with period := (s.tok.period + 1) % 2 ^ 32, streamAt := some s.now }
  u.pInstances.foldl State.streamInst u

theorem exec_checkpointStream (t : Nat) (s : State) : exec (.checkpointStream t) s =
    .next (if (s.advance t).redundant && (s.advance t).heldPos.isSome && (s.advance t).due20 (s.advance t).tok.streamAt then
      (s.advance t).streamed else s.advance t) := rfl

/-- A standby writes what is staged. -/
def State.mirrorWritten (s : State) : State :=
  let s := s.stageMirror.setTok { s.tok with mirrorAt := some s.now }
  match s.lge.retStaged with
  | none => s
  | some b => s.writeNow (.retain b)

theorem exec_retainMirrorWrite (t : Nat) (s : State) : exec (.retainMirrorWrite t) s =
    .next (if (s.advance t).standby && (s.advance t).due20 (s.advance t).tok.mirrorAt then (s.advance t).mirrorWritten else s.advance t) := rfl

theorem State.mirrorWritten_of_mirror {s : State} {p : Prog} {b : RetImg} (hp : s.lge.prog = some p) (hs : s.standby = true)
    (hm : s.tok.mirror ≠ []) (hb : s.mirrorRetain = some b) :
    let u := s.setLge { s.lge with retStaged := some b, retPrior := none, retCommit := none }
    s.mirrorWritten = (u.setTok { u.tok with mirrorAt := some s.now }).writeNow (.retain b) := by
  intro u
  have hstage : s.stageMirror = u := by
    unfold State.stageMirror
    rw [hp]
    refine (if_neg ?_).trans (congrArg (fun x => s.setLge { s.lge with retStaged := x, retPrior := none, retCommit := none }) hb)
    rw [hs]
    exact fun h => h.elim (fun h => Bool.false_ne_true h) hm
  unfold State.mirrorWritten
  rw [hstage]
  rfl

theorem exec_redundancyStatus (t : Nat) (s : State) : exec (.redundancyStatus t) s =
    .next ((s.advance t).showSync.send (stMsg 0xF 0x0001 (s.advance t).showSync.redStatus)) := rfl

/-- Settles O60. -/
theorem pairLinkFramesAndPeers : Obligations.PairLinkFramesAndPeers := by
  unfold Obligations.PairLinkFramesAndPeers
  refine ⟨fun s tw pos rseq ts i dh pe off tot cyc first t h rel img => ⟨fun hb => ⟨?_, ?_, ?_, ?_⟩, fun hr hc hv => ⟨?_, ?_, ?_, ?_⟩,
    fun e x hl hn hx => ⟨fun hk => ?_, fun hk => ?_⟩⟩, fun s tw p t => ?_⟩
  · exact (exec_renewFrame tw h pos rseq ts rel t s).trans (congrArg Host.Outcome.next (State.plReceive_of_bad tw 0x10 _ hb))
  · exact (exec_acknowledgeFrame tw h pos rseq t s).trans (congrArg Host.Outcome.next (State.plReceive_of_bad tw 0x11 _ hb))
  · exact (exec_checkpointFrame tw h i dh pe off tot img t s).trans (congrArg Host.Outcome.next (State.plReceive_of_bad tw 0x12 _ hb))
  · exact (exec_retainFrame tw h cyc first img t s).trans (congrArg Host.Outcome.next (State.plReceive_of_bad tw 0x13 _ hb))
  · exact (exec_renewFrame tw h pos rseq ts rel t s).trans (congrArg Host.Outcome.next (State.plReceive_of_good tw 0x10 _ hr hc hv))
  · exact (exec_acknowledgeFrame tw h pos rseq t s).trans (congrArg Host.Outcome.next (State.plReceive_of_good tw 0x11 _ hr hc hv))
  · exact (exec_checkpointFrame tw h i dh pe off tot img t s).trans (congrArg Host.Outcome.next (State.plReceive_of_good tw 0x12 _ hr hc hv))
  · exact (exec_retainFrame tw h cyc first img t s).trans (congrArg Host.Outcome.next (State.plReceive_of_good tw 0x13 _ hr hc hv))
  · rw [State.acknowledged_of_sent hl hn hx, if_neg (Nat.not_lt_of_le hk)]
  · rw [State.acknowledged_of_sent hl hn hx, if_pos hk]
  · intro a silent
    have hsilent : a.pairSilent tw = true ↔ silent := a.pairSilent_iff tw
    refine ⟨fun hr hl hd => ?_, fun h => ?_, fun hr hw hb hs => ?_, fun hr hw hb hs => ?_, fun h => ?_, fun hr hh hd => ?_, fun h => ?_,
      fun q b hq hs hm hb hd => ?_, fun h => ?_, exec_redundancyStatus t s⟩
    · rw [exec_pairLinkDown, if_pos]
      · exact congrArg Host.Outcome.next (State.pairDown_of_up hr hl)
      · rw [Bool.or_eq_true, Bool.not_eq_true']
        exact hd.imp id hsilent.mpr
    · rw [exec_pairLinkDown]
      by_cases hup : a.redundant = false ∨ bit (a.get F.TOK_STATUS_LINKS) tw = false
      · rw [State.pairDown_of_down hup, ite_self]
      · obtain ⟨hlink, hns⟩ := (or_assoc.mpr h).resolve_left hup
        rw [if_neg]
        rw [Bool.or_eq_true, Bool.not_eq_true']
        exact fun hd => hd.elim (fun hl => Bool.false_ne_true (hl.symm.trans hlink)) (fun hp => hns (hsilent.mp hp))
    · rw [exec_peerLost_silent hr hb hs]
      refine congrArg Host.Outcome.next (State.reportRed_congr ?_)
      rw [State.peersGone, if_pos hw]
      rfl
    · rw [exec_peerLost_silent hr hb hs]
      refine congrArg Host.Outcome.next (State.reportRed_congr ?_)
      rw [State.peersGone, if_neg (Bool.eq_false_iff.mp hw)]
      rfl
    · rw [exec_peerLost, if_neg]
      rw [Bool.and_eq_true, Bool.and_eq_true, decide_eq_true_iff]
      rintro ⟨⟨hr, hb⟩, hs⟩
      rcases h with h | h | h
      · exact Bool.false_ne_true (h.symm.trans hr)
      · exact Bool.false_ne_true (h.symm.trans hb)
      · exact Nat.not_le_of_lt h hs
    · rw [exec_checkpointStream, if_pos (by rw [hr, hh, (a.due20_iff _).mpr hd]; rfl)]
      rfl
    · rw [exec_checkpointStream, if_neg]
      rw [Bool.and_eq_true, Bool.and_eq_true]
      rintro ⟨⟨hr, hh⟩, hd⟩
      rcases h with h | h | h
      · exact Bool.false_ne_true (h.symm.trans hr)
      · change a.heldPos.isSome = true at hh
        rw [h] at hh
        cases hh
      · exact Bool.false_ne_true ((State.due20_of_soon h).symm.trans hd)
    · rw [exec_retainMirrorWrite, if_pos (by rw [hs, (a.due20_iff _).mpr hd]; rfl)]
      exact congrArg Host.Outcome.next (State.mirrorWritten_of_mirror hq hs hm hb)
    · rw [exec_retainMirrorWrite, if_neg]
      rw [Bool.and_eq_true]
      rintro ⟨hs, hd⟩
      rcases h with h | h
      · exact Bool.false_ne_true (h.symm.trans hs)
      · exact Bool.false_ne_true ((State.due20_of_soon h).symm.trans hd)

end Sys2Proof.Machine
